-- ==== Sys2Proof/Word.lean ====
section
/-! DEFINITION. The byte type and the widths the model counts in. -/
namespace Sys2Proof

/-- One byte of a frame, a message, a string object or a memory. -/
abbrev Byte := BitVec 8

/-- A value reduced to `w` bits, as a counter of that width wraps. -/
abbrev wrap (w n : Nat) : Nat := n % 2 ^ w

/-- A value that stops at the top of `w` bits. -/
abbrev saturate (w n : Nat) : Nat := min n (2 ^ w - 1)

end Sys2Proof
end

