-- ==== Sys2Proof/Syntax.lean ====
section
/-! DEFINITION. The commands of the block: every row of the table of operations and events, with the operands that the
rules of its row name. Who sends a command is part of its operands: a path context (R60), a port, a pin, a hart. -/
namespace Sys2Proof

/-- The six path contexts of the object dictionary (R60). -/
inductive Ctx where
  | lampA | lampB | dma | debug | sdo | coath
deriving DecidableEq, Repr

/-- A frame as a port receives it, after MAC merge reassembly (R93, R114, R123, R175, R236): its bytes from the destination
address to the FCS, and what the receive MAC, the PCS, the write FIFO and the keystream meet while it arrives. -/
structure RxFrame where
  bytes : List Byte
  /-- P36_RX_ER was asserted (R118). -/
  rxEr : Bool := false
  /-- MAC merge fragments it came in. -/
  fragments : Nat := 0
  /-- 0 a frame, 1 a fragment-count error, 2 an unknown SMD, 3 a verify request, 4 a verify response (R114). -/
  merge : Nat := 0
  /-- FEC codewords corrected and not correctable while it arrived. -/
  fecCorrected : Nat := 0
  fecUncorrected : Nat := 0
  /-- Cells that wait in the port's write FIFO when its last cell arrives (R175). -/
  backlog : Nat := 0
  /-- Its keystream came too late for the fall-back FIFO (R236). -/
  late : Bool := false
deriving DecidableEq, Repr

/-- A message of a CAN or LIN bus (R389, R396, R414): format 0 classical, 1 FD, 2 XL, 3 LIN, and its identifier in the 29-bit
layout of the routing key. -/
structure BusMsg where
  fmt : Nat
  ext : Bool := false
  id : Nat
  vcid : Nat := 0
  sdt : Nat := 0
  sec : Bool := false
  acceptance : Nat := 0
  brs : Bool := false
  esi : Bool := false
  remote : Bool := false
  data : List Byte
deriving DecidableEq, Repr

/-- A message as it is heard on a bus, and how many ns ago its start-of-message bit began (R392). -/
structure BusHeard where
  msg : BusMsg
  age : Nat := 0
deriving DecidableEq, Repr

/-- What ends a LIN response: its checksum byte, and how many ns ago the start of the frame began (R392, R394). -/
structure LinEnd where
  check : Nat
  age : Nat := 0
deriving DecidableEq, Repr

/-- The 32 bytes of a flit as they are heard, and whether the flit is a replay whose predecessor failed as well (R366, R384). -/
structure FlitHeard where
  bytes : List Byte
  again : Bool := false
deriving DecidableEq, Repr

/-- What a write carries (R42, R56, R57): an aligned 8-byte store to the local window, a store there that is not aligned or not 8 bytes
wide, or the bytes of an SDO or Coath message. -/
inductive WriteData where
  | store (value : Nat)
  | misaligned
  | bytes (b : List Byte)
deriving DecidableEq, Repr

/-- What a start meets on the device: the die temperature in °C above −100 (R121), VBAT in mV (R474), persistent vault slots
whose record fails (R296), configuration slots whose header does not verify (R469), and whether the fuses disagree with the stored floor (R537). -/
structure StartEnv where
  dieTemp : Nat := 125
  vbat : Nat := 12000
  badSlots : List Nat := []
  badImages : List Nat := []
  floorBad : Bool := false
deriving DecidableEq, Repr

/-- What a wake source shows as it fires (R419, R425, R471, R479): a WAKE pin with its level, whether an edge has just brought it there,
and for how many µs the level has stood; the wake-up pattern on a CAN channel; a dominant level on a LIN channel for µs; the
resistance at PP_IN; rising edges of the pilot through +3.0 V within a window of µs, and for how many µs it has stood above. -/
inductive WakeSource where
  | pin (n : Nat) (level edge : Bool) (micros : Nat)
  | can (ch : Nat)
  | lin (l micros : Nat)
  | proximity (ohms : Nat)
  | pilot (edges window high : Nat)
deriving DecidableEq, Repr

/-- The commands the block takes, one constructor for each row of the table of operations and events. -/
inductive Instr where
  /-- GENERAL_WRITE (R44): A write through any path to an object that has no row of its own, checked in the order of R44 and applied or refused with an abort. -/
  | generalWrite (ctx : Ctx) (index sub : Nat) (data : WriteData) (sameCycle : Bool)
  /-- LONG_DATA_WRITE (R59): A write to Dev.LongData moves 8 bytes at the cursor, advances it, and writes the object whole when its last byte arrives. -/
  | longDataWrite (ctx : Ctx) (value : Nat)
  /-- LONG_DATA_READ (R59): A read of Dev.LongData returns 8 bytes at the cursor and advances it by 8. -/
  | longDataRead (ctx : Ctx)
  /-- COMMIT (R52): A write of 1 to Grp.Commit hands over at once, arms for a boundary or arms for a Kindle time, superseding any armed commit. -/
  | commit (ctx : Ctx) (index : Nat)
  /-- DISARM (R53): A write of 2 to Grp.Commit disarms an armed commit and sets the outcome to ABORTED. -/
  | disarm (ctx : Ctx) (index : Nat)
  /-- DISCARD (R53): A write of 3 to Grp.Commit copies active into pending and disarms any armed commit. -/
  | discard (ctx : Ctx) (index : Nat)
  /-- BOUNDARY_HANDOVER (R52): An owner armed for mode 1 hands pending over to active at its named boundary. -/
  | boundaryHandover (index : Nat)
  /-- KINDLE_FIRE (R97): The named domain clock reaches an armed Kindle time, every armed owner hands over within 1 µs and its Kindle event line pulses. -/
  | kindleFire (d : Nat)
  /-- EV_PULSE (R32): A write to Ev.Pulse pulses a line whose producer is a software producer. -/
  | evPulse (ctx : Ctx) (value : Nat)
  /-- EVENT_SIDEBAND_DELIVER (R369): An event pulse carried on the Chimney sideband reaches its consumer on the other die, merged with the previous pulse when under 2 link cycles apart. -/
  | eventSidebandDeliver (toWick : Bool) (input : Nat)
  /-- ECNT_CLEAR (R35): A write of 1 to Ecnt.Clear sets an event counter to 0. -/
  | ecntClear (ctx : Ctx) (n value : Nat)
  /-- IRQ_CLAIM (R36): A hart claims a pending interrupt source from the platform-level interrupt controller. -/
  | irqClaim (target : Nat)
  /-- IRQ_COMPLETE (R36): A hart completes a claimed interrupt, after which the source can take a new pulse. -/
  | irqComplete (target source : Nat)
  /-- SDO_INITIATE_DOWNLOAD (R66): An SDO initiate-download request on the management channel starts an expedited or segmented write, abandoning any running transfer. -/
  | sdoInitiateDownload (ch : Nat) (m : BusMsg)
  /-- SDO_INITIATE_UPLOAD (R66): An SDO initiate-upload request starts an expedited or segmented read, abandoning any running transfer. -/
  | sdoInitiateUpload (ch : Nat) (m : BusMsg)
  /-- SDO_DOWNLOAD_SEGMENT (R67): An SDO download segment delivers data of a segmented write, checked for toggle alternation. -/
  | sdoDownloadSegment (ch : Nat) (m : BusMsg)
  /-- SDO_UPLOAD_SEGMENT (R67): An SDO upload segment request returns the next data of a segmented read. -/
  | sdoUploadSegment (ch : Nat) (m : BusMsg)
  /-- SDO_BLOCK_REQUEST (R67): An SDO block upload or download request is answered with abort 0x05040001. -/
  | sdoBlockRequest (ch : Nat) (m : BusMsg)
  /-- SDO_SEGMENT_TIMEOUT (R68): A segmented transfer that receives no segment for 1 s is aborted with 0x05040000. -/
  | sdoSegmentTimeout
  /-- COATH_READ (R71): A Coath read request returns the object value or up to 1,440 bytes from an offset. -/
  | coathRead
  /-- COATH_WRITE (R71): A Coath write request writes an object value, or a piece at an offset. -/
  | coathWrite
  /-- COATH_COMMIT (R73): A Coath commit request writes the commit mode, domain and Kindle time and commits as one uninterruptible access. -/
  | coathCommit
  /-- COATH_BLOCK_READ (R71): A Coath block read returns rows times count slots of 8 bytes. -/
  | coathBlockRead
  /-- COATH_BLOCK_WRITE (R74): A Coath block write applies slots in order and stops at the first refused slot. -/
  | coathBlockWrite
  /-- TB_SNAPSHOT (R91): A write to Tb.Snapshot latches a domain clock or the local counter into the context's snapshot objects. -/
  | tbSnapshot (ctx : Ctx) (value : Nat)
  /-- FOLLOWER_ALIGN (R83): Every 1,024 ns the Wick follower counter is aligned to the master over the synchronisation pair. -/
  | followerAlign (ok : Bool) (error : Nat)
  /-- SYNC_ARRIVAL (R88): A matching Sync restarts the monitor and returns a domain in holdover or following to synchronised. -/
  | syncArrival (port domainNumber : Nat)
  /-- SYNC_MONITOR_EXPIRE (R86): The Sync monitor expires and the domain enters holdover or follows its standby. -/
  | syncMonitorExpire (d : Nat)
  /-- DOM_STEP (R84): A write to Dom.StepTime steps a domain clock, or its held value when disabled, and counts the step. -/
  | domStep (ctx : Ctx) (d value : Nat)
  /-- DOM_ENABLE (R90): A write of 1 to Dom.Enable enables a domain, resuming its clock in state 1 or 3. -/
  | domEnable (ctx : Ctx) (d : Nat)
  /-- DOM_DISABLE (R99): A write of 0 to Dom.Enable disables a domain, holds its clock, aborts its armed Kindles and stops its gate lists. -/
  | domDisable (ctx : Ctx) (d : Nat)
  /-- DOM_ROLE (R92): A write to Dom.Role of an enabled domain enters state 1 or state 3 at once. -/
  | domRole (ctx : Ctx) (d value : Nat)
  /-- DOM_STANDBY_WRITE (R87): A write to Dom.StandbyDomain of a domain in state 4 ends following and follows the new standby or enters holdover. -/
  | domStandbyWrite (ctx : Ctx) (d value : Nat)
  /-- DOM_SYNC_TIMEOUT_WRITE (R85): A write to Dom.SyncTimeout applies at once and may expire the monitor in the write cycle. -/
  | domSyncTimeoutWrite (ctx : Ctx) (d value : Nat)
  /-- CAPTURE (R96): A pulse at a capture unit records its time, overwriting an unread capture and counting it. -/
  | capture (k : Nat)
  /-- CAP_TIME_READ (R96): A read of Cap.Time returns the capture and marks it as read. -/
  | capTimeRead (ctx : Ctx) (k : Nat)
  /-- PORT_ENABLE (R110): A write of 1 to Port.Enable starts the link with the boundary settings applied. -/
  | portEnable (ctx : Ctx) (n : Nat)
  /-- PORT_DISABLE (R110): A write of 0 to Port.Enable takes the link down at once. -/
  | portDisable (ctx : Ctx) (n : Nat)
  /-- PORT_RESTART (R110): A write of 1 to Port.Restart restarts the link of an enabled port. -/
  | portRestart (ctx : Ctx) (n : Nat)
  /-- PORT_RESTART_FULL (R121): A write of 2 to Port.Restart discards the retained block and restarts with full training. -/
  | portRestartFull (ctx : Ctx) (n : Nat)
  /-- LINK_UP (R111): The PCS holds lock for 10 µs without fault, or a warm start succeeds, and the link is declared up. -/
  | linkUp (port speed : Nat)
  /-- LINK_DOWN (R111): A fault or loss of lock or clock persisting for Port.LinkDownHold declares the link down. -/
  | linkDown (port since cause : Nat)
  /-- WARM_LOCK_TIMEOUT (R121): Lock not reached within 800 µs on retained settings falls back to full training. -/
  | warmLockTimeout (port : Nat)
  /-- MERGE_VERIFY_TIMEOUT (R114): The MAC merge verify interval elapses and the verify procedure sends again or reaches its result. -/
  | mergeVerifyTimeout (port : Nat)
  /-- PAUSE_FRAME_RECEIVE (R113): A received PAUSE or priority flow control frame is honoured as Port.PauseMode selects and counted. -/
  | pauseFrameReceive (port : Nat) (pfc : Bool) (enables : Nat) (times : List Nat)
  /-- PLCA_BEACON (R116): A PLCA BEACON sent or received applies the boundary PLCA objects. -/
  | plcaBeacon (k : Nat)
  /-- PLCA_BEACON_TIMEOUT (R117): A follower seeing no BEACON for 4 × Plca.NodeCount opportunities falls back to CSMA/CD. -/
  | plcaBeaconTimeout (k opportunities : Nat)
  /-- PCNT_CLEAR (R124): A write of 1 to Pcnt.Clear clears every counter of the port in one cycle. -/
  | pcntClear (ctx : Ctx) (n value : Nat)
  /-- FRAME_RECEIVE (R17): A frame arrives at a port, is timestamped, deciphered and written to cells as it arrives. -/
  | frameReceive (port : Nat) (rx : RxFrame)
  /-- PARSE_PIPELINE_ENTRY (R128): A waiting record enters its parse pipeline and passes extraction, stream stages, search, connection stage, action resolution and admission. -/
  | parsePipelineEntry (pipe ecc : Nat)
  /-- BANK_FLIP (R152): After admission stops and the pipelines drain, the bank and profile pointers flip, inserts complete and admission resumes. -/
  | bankFlip (b : Nat)
  /-- CONN_SCAN (R146): The scanner visits a connection row and removes it when its idle time exceeds its timeout. -/
  | connScan (row : Nat)
  /-- CCNT_CLEAR (R156): A write of 1 to Ccnt.Clear clears every classifier counter of the port. -/
  | ccntClear (ctx : Ctx) (n value : Nat)
  /-- BUF_RECLAIM (R163): A write of 1 to Buf.Reclaim starts the background walk that returns lost cells. -/
  | bufReclaim (ctx : Ctx) (value : Nat)
  /-- RECLAIM_DONE (R163): The reclaim walk ends, lost cells are returned and Buf.ReclaimOutcome reads DONE. -/
  | reclaimDone
  /-- Q_FLUSH (R182): A write to Q.Flush snapshots the tails of the selected queues and starts removing their entries. -/
  | qFlush (ctx : Ctx) (port value : Nat)
  /-- FLUSH_DONE (R182): The walk of the last selected queue ends and Q.FlushOutcome reads DONE. -/
  | flushDone (port : Nat)
  /-- FDB_FORGET (R183): A write to Fdb.Forget removes the learned rows of one port or of all ports. -/
  | fdbForget (ctx : Ctx) (value : Nat)
  /-- RANK_FLOOR_RAISE (R176): At 4/8 a write FIFO holding 32 cells raises Buf.RankFloor by 1, at most once in 1,024 cycles. -/
  | rankFloorRaise
  /-- RANK_FLOOR_LOWER (R176): After 8,192 cycles with no write FIFO above 16 cells, Buf.RankFloor falls by 1. -/
  | rankFloorLower
  /-- STAGING_GRANT (R174): In Partition mode a partition grants a write slot to a staging-queue head frame by rank. -/
  | stagingGrant (part : Nat)
  /-- STAGING_TIMEOUT (R174): A frame waiting in staging longer than Buf.StagingWait of its rank is dropped. -/
  | stagingTimeout (port : Nat)
  /-- QCNT_CLEAR (R185): A write of 1 to Qcnt.Clear clears every queue counter of the port. -/
  | qcntClear (ctx : Ctx) (port value : Nat)
  /-- GATE_NOTICE (R101): The scheduler is notified of a gate opening 640 ns ahead and stages the eligible queue-head frame. -/
  | gateNotice (port : Nat)
  /-- GATE_ENTRY_START (R188): A gate-list row starts at its instant, sets the gate states and pulses the gate event line when flagged. -/
  | gateEntryStart (port : Nat)
  /-- HOLD_REQUEST (R195): At Sched.HoldAdvance before an operation-1 entry the MAC merge hold is requested. -/
  | holdRequest (port : Nat)
  /-- HOLD_RELEASE (R195): At Sched.ReleaseAdvance before an operation-2 entry the MAC merge hold is released. -/
  | holdRelease (port : Nat)
  /-- FRAME_TRANSMIT_START (R193): The scheduler selects an eligible fitting frame of an open gate and starts it on the wire. -/
  | frameTransmitStart (port ecc cell : Nat)
  /-- FRAME_TRANSMIT_END (R218): A frame's transmission ends, its grant and buffer are released and deferred frames may start. -/
  | frameTransmitEnd (port : Nat)
  /-- SR_RESET_TIMEOUT (R206): A recovery function's reset timer runs out, setting take-any and counting a reset. -/
  | srResetTimeout (row : Nat)
  /-- SCNT_CLEAR (R215): A write of 1 to Scnt.Clear clears every scheduling counter of the port. -/
  | scntClear (ctx : Ctx) (n value : Nat)
  /-- LOOKAHEAD_RESERVE (R224): A freed keystream buffer takes a candidate, reserves its packet number and issues its keystream blocks. -/
  | lookaheadReserve (port : Nat)
  /-- KEYSTREAM_BLOCK_RESULT (R237): A forward result passes the inverse check and is released, or is recomputed and its pair retired after a second failure. -/
  | keystreamBlockResult (unit port pair : Nat) (ok1 ok2 : Bool)
  /-- RX_VERDICT (R241): The ICV and FCS verdict of a received frame makes it eligible, removes it, or stomps a cut-through frame. -/
  | rxVerdict (port : Nat)
  /-- LC_CLEAR (R246): A write of 1 to Lc.Clear clears every cipher counter of the port. -/
  | lcClear (ctx : Ctx) (n value : Nat)
  /-- SC_OPEN (R248): Sc.Command 1 opens the lowest closed channel with its direction, SCI and ports. -/
  | scOpen (ctx : Ctx)
  /-- SC_CLOSE (R253): Sc.Command 2 closes a channel, deactivating and zeroising both slots at once. -/
  | scClose (ctx : Ctx)
  /-- SC_INSTALL (R259): Sc.Command 3 sends a wrapped SAK to the vault for unwrap into the target slot's pending copy. -/
  | scInstall (ctx : Ctx)
  /-- SC_RETIRE (R250): Sc.Command 4 retires the channel's non-current slot. -/
  | scRetire (ctx : Ctx)
  /-- SC_ACTIVATE (R258): Sc.Command 5 hands over the pending rows of one channel at once. -/
  | scActivate (ctx : Ctx)
  /-- INSTALL_DONE (R259): The vault's association unwrap ends and the install reports DONE or its failure code. -/
  | installDone
  /-- RX_OVERLAP_EXPIRE (R264): A superseded receive slot's overlap ends and it is retired. -/
  | rxOverlapExpire (row : Nat)
  /-- EXHAUST_HOLD_EXPIRE (R262): The exhaustion hold ends and protected frames of the channel are removed as they become candidates. -/
  | exhaustHoldExpire (c : Nat)
  /-- SA_EVENT_FIFO_READ (R266): A read of Sa.EventFifo returns the oldest association event and removes it. -/
  | saEventFifoRead (ctx : Ctx)
  /-- SCP_CLEAR (R269): A write of 1 to Scp.Clear clears every channel counter of the port. -/
  | scpClear (ctx : Ctx) (n value : Nat)
  /-- SLOW_PATH_DISPATCH (R273): The dispatcher gives the head slow-path frame a sequence tag and moves it into a chosen engine's inbox. -/
  | slowPathDispatch
  /-- SP_IN (R276): sp.in reads the next word of the current inbox packet, stalling while no packet is present. -/
  | spIn (e rd : Nat)
  /-- SP_LEFT (R276): sp.left returns the bytes of the current packet not yet read. -/
  | spLeft (e rd : Nat)
  /-- SP_DROP (R276): sp.drop discards the rest of the current inbox packet. -/
  | spDrop (e : Nat)
  /-- SP_OUT (R276): sp.out appends a word to the outbox packet, stalling while the outbox is full. -/
  | spOut (e rs1 : Nat)
  /-- SP_SEND (R276): sp.send closes the outbox packet and hands it to the collector. -/
  | spSend (e : Nat)
  /-- SP_RESOLVE (R276): sp.resolve resolves a sequence tag without output. -/
  | spResolve (e rs1 : Nat)
  /-- SP_CRC (R276): sp.crc advances a CRC-32C over four bytes. -/
  | spCrc (e rd rs1 rs2 : Nat)
  /-- SP_CSUM (R276): sp.csum forms a folded ones' complement sum. -/
  | spCsum (e rd rs1 rs2 : Nat)
  /-- SP_TIME (R276): sp.time reads the low 32 bits of the local counter. -/
  | spTime (e rd : Nat)
  /-- OUTBOX_COLLECT (R277): The collector takes an outbox packet into cells when buffer room allows, or discards it as a format error. -/
  | outboxCollect (e : Nat)
  /-- TAG_RELEASE (R281): A resolved tag whose earlier tags of its ingress port are released is released with its outputs to admission. -/
  | tagRelease (port : Nat)
  /-- REORDER_TIMEOUT (R282): A tag unresolved after Sp.ReorderTimeout is resolved as dropped. -/
  | reorderTimeout (tag : Nat)
  /-- ENGINE_FAULT (R284): An exception halts a Sconce engine faulted, discarding its inbox and resolving its tags. -/
  | engineFault (e cause pc : Nat)
  /-- SE_RUN (R288): A write of 1 to Se.Run starts an engine at Se.EntryPc. -/
  | seRun (ctx : Ctx) (e : Nat)
  /-- SE_STOP (R284): A write of 0 to Se.Run stops an engine at an instruction boundary and removes it from dispatch. -/
  | seStop (ctx : Ctx) (e : Nat)
  /-- RING_RECEIVE_WRITE (R290): A P37 queue frame is written as a record into its host receive ring when room allows, advancing Ring.Produce. -/
  | ringReceiveWrite (q : Nat)
  /-- TX_RING_PRODUCE (R290): A write to the transmit ring's Ring.Produce hands new records to P37 for classification. -/
  | txRingProduce (ctx : Ctx) (value : Nat)
  /-- VAULT_COMMAND_START (R302): The vault takes the next waiting dictionary command or install in the order of R302. -/
  | vaultCommandStart
  /-- VAULT_GENERATE (R298): GENERATE creates a key of the given class, algorithm and policy in the slot. -/
  | vaultGenerate (ctx : Ctx)
  /-- VAULT_IMPORT_CLEAR (R299): IMPORT_CLEAR loads a clear key from Vlt.KeyData into the slot. -/
  | vaultImportClear (ctx : Ctx)
  /-- VAULT_IMPORT_WRAPPED (R299): IMPORT_WRAPPED unwraps a key under the auxiliary wrapping key into the slot. -/
  | vaultImportWrapped (ctx : Ctx)
  /-- VAULT_EXPORT_WRAPPED (R299): EXPORT_WRAPPED places the slot's key wrapped under the auxiliary key in the output. -/
  | vaultExportWrapped (ctx : Ctx)
  /-- VAULT_NARROW_POLICY (R294): NARROW_POLICY ANDs the slot's policy with the written mask. -/
  | vaultNarrowPolicy (ctx : Ctx)
  /-- VAULT_DESTROY (R305): DESTROY zeroises a slot and unloads Cresset contexts loaded from it. -/
  | vaultDestroy (ctx : Ctx)
  /-- VAULT_SIGN (R306): SIGN signs a digest or Ed448 message with the slot's key. -/
  | vaultSign (ctx : Ctx)
  /-- VAULT_VERIFY (R306): VERIFY checks a signature against a public key and reports DONE or BAD_SIGNATURE. -/
  | vaultVerify (ctx : Ctx)
  /-- VAULT_ECDH (R306): ECDH derives a shared secret into the auxiliary slot. -/
  | vaultEcdh (ctx : Ctx)
  /-- VAULT_HKDF (R309): HKDF derives a key into the auxiliary slot with SHA-384. -/
  | vaultHkdf (ctx : Ctx)
  /-- VAULT_KDF_CTR (R309): KDF_CTR derives a key into the auxiliary slot in counter mode. -/
  | vaultKdfCtr (ctx : Ctx)
  /-- VAULT_RANDOM (R308): RANDOM places DRBG bytes in the output. -/
  | vaultRandom (ctx : Ctx)
  /-- VAULT_ATTEST (R311): ATTEST places a signed attestation statement for a generated-inside key in the output. -/
  | vaultAttest (ctx : Ctx)
  /-- VAULT_COMMAND_DONE (R303): A running vault command ends and its outcome and outputs are set. -/
  | vaultCommandDone
  /-- ENTROPY_FAILURE (R308): An entropy health test fails, stopping the DRBG and counting the failure. -/
  | entropyFailure
  /-- ENTROPY_RECOVER (R308): After 16 passing test windows the vault reseeds and serves random commands again. -/
  | entropyRecover
  /-- LIFE_CYCLE_TRANSITION (R313): A write to Vlt.Transition in Trim with a matching confirmation starts a one-way life-cycle transition. -/
  | lifeCycleTransition (ctx : Ctx) (value : Nat)
  /-- TRANSITION_COMPLETE (R314): The transition's erasure, fuse programming and done record finish and the new state is reported. -/
  | transitionComplete
  /-- LOCKSTEP_FAULT (R23): A lockstep pair's cores differ and the cluster or vault is taken out of service. -/
  | lockstepFault (unit : Nat)
  /-- CR_LOAD (R323): Cr.Command 1 loads a Cresset context from a vault slot. -/
  | crLoad (ctx : Ctx)
  /-- CR_UNLOAD (R324): Cr.Command 2 unloads a Cresset context. -/
  | crUnload (ctx : Ctx)
  /-- CRQ_PRODUCE (R326): A write to Crq.Produce makes new job descriptors available on a queue. -/
  | crqProduce (ctx : Ctx) (q value : Nat)
  /-- CRESSET_START_PULSE (R328): A start pulse releases a waiting head job or is kept in Crq.PendingStarts or lost. -/
  | cressetStartPulse (q : Nat)
  /-- CRESSET_JOB_START (R327): The scheduler starts a queue's head job when its cores are free, checking it and taking a nonce. -/
  | cressetJobStart
  /-- CRESSET_BLOCK_DONE (R321): A 4 KiB output block passes its check and is written, or is recomputed and the job faulted after a second failure. -/
  | cressetBlockDone (k : Nat) (ok1 ok2 : Bool)
  /-- CRESSET_JOB_DONE (R333): A job's result is written in ring order, Crq.Consume advances and the completion line pulses. -/
  | cressetJobDone (q : Nat)
  /-- DMA_START (R343): A write of 1 to Dma.Run starts the channel at Dma.ChainAddress. -/
  | dmaStart (ctx : Ctx) (c : Nat)
  /-- DMA_RESUME (R343): A write of 2 to Dma.Run resumes the channel at Dma.Position. -/
  | dmaResume (ctx : Ctx) (c : Nat)
  /-- DMA_STOP (R343): A write of 0 to Dma.Run stops the channel at the next descriptor boundary. -/
  | dmaStop (ctx : Ctx) (c : Nat)
  /-- DMA_START_PULSE (R343): A pulse on a channel's start line starts an idle channel, releases a waiting descriptor or sets a pending start. -/
  | dmaStartPulse (c : Nat)
  /-- DMA_DESCRIPTOR_DONE (R342): A descriptor's data and fence complete, its CRC is stored, and the channel pulses, continues or ends its chain. -/
  | dmaDescriptorDone (c : Nat)
  /-- MEMORY_READ (R351): An initiator read of external memory is checked, decrypted and tag-verified before release. -/
  | memoryRead (init addr len : Nat) (cached tamper : Bool)
  /-- MEMORY_WRITE (R352): An initiator write is checked and encrypted with a new tag, merging a partial write after reading the line. -/
  | memoryWrite (init addr : Nat) (data : List Byte) (cached tamper : Bool)
  /-- KEYID_PROGRAM (R357): Kid.Command 1 obtains and loads a KeyID's key. -/
  | keyidProgram (ctx : Ctx) (k : Nat)
  /-- KEYID_PROGRAM_DONE (R357): The key is delivered and the KeyID reads programmed. -/
  | keyidProgramDone
  /-- KEYID_CLOSE (R357): Kid.Command 2 refuses new accesses through the KeyID and starts write-back and drain. -/
  | keyidClose (ctx : Ctx) (k : Nat)
  /-- KEYID_CLOSE_DONE (R357): Write-back and drain end and the KeyID reads closed. -/
  | keyidCloseDone (k : Nat)
  /-- KEYID_RETIRE (R357): Kid.Command 3 zeroises a closed KeyID's key and frees it. -/
  | keyidRetire (ctx : Ctx) (k : Nat)
  /-- FLASH_ERASE (R353): A write to Xm.FlashErase starts the erase of a 64 KiB sector and its tag words. -/
  | flashErase (ctx : Ctx) (addr : Nat)
  /-- FLASH_ERASE_DONE (R353): A sector erase ends and its outcome is reported. -/
  | flashEraseDone
  /-- INIT_SWEEP_GRANULE (R354): The background sweep initialises the next uninitialised DRAM granule. -/
  | initSweepGranule
  /-- CHIMNEY_READ (R374): A Lantern read of a Wick target returns a retry and allocates a fetch entry, or is held. -/
  | chimneyRead (init addr size : Nat)
  /-- CHIMNEY_FETCH_DONE (R374): Data of a fetch entry or held read arrives from the Wick die. -/
  | chimneyFetchDone (held : Bool) (k : Nat)
  /-- FETCH_STALE (R374): A completed fetch entry unread for 4 µs is discarded. -/
  | fetchStale (k : Nat)
  /-- CHIMNEY_POSTED_WRITE (R373): A posted write across the link is cut into granule pieces and sent. -/
  | chimneyPostedWrite (init addr : Nat) (data : List Byte)
  /-- WRITE_ACK (R383): An acknowledgement returns, and a failure sets the pending-fault bit and writes a fault record. -/
  | writeAck (k : Nat)
  /-- FENCE (R382): A fence starts waiting for earlier posted writes to be acknowledged and reads to return. -/
  | fence (init : Nat) (writes reads : Bool)
  /-- FENCE_COMPLETE (R382): A fence completes, faulting when the hart's pending-fault bit is set. -/
  | fenceComplete (init : Nat)
  /-- LR (R378): An LR to the retention area takes or moves the semaphore and reads under hold. -/
  | lr (hart addr size : Nat)
  /-- SC (R378): An SC succeeds only with the semaphore and an untouched granule, and releases the semaphore. -/
  | sc (hart addr : Nat) (data : List Byte)
  /-- SEMAPHORE_TIMEOUT (R378): The semaphore is released 2 µs after it was taken. -/
  | semaphoreTimeout
  /-- WICK_BACKOFF (R380): After 8 link cycles of head-on holding the Wick half withdraws its outbound request. -/
  | wickBackoff
  /-- BACKOFF_REISSUE (R380): The Wick half reissues a withdrawn request 256 link cycles later. -/
  | backoffReissue
  /-- CBO_CLEAN (R385): cbo.clean writes a cache line back and keeps it valid. -/
  | cboClean (core addr : Nat)
  /-- CBO_FLUSH (R385): cbo.flush writes a cache line back and invalidates it. -/
  | cboFlush (core addr : Nat)
  /-- CBO_INVAL (R385): cbo.inval invalidates a cache line, or flushes it when CBIE is 0b01. -/
  | cboInval (core addr cbie : Nat)
  /-- FLIT_CRC_ERROR (R384): A flit failing its CRC is replayed from the retry buffer. -/
  | flitCrcError (f : FlitHeard)
  /-- CHIMNEY_LOCK_LOSS (R384): Eight consecutive replays or loss of lane lock start a link retrain. -/
  | chimneyLockLoss (lockLost : Bool)
  /-- RETRAIN_RESULT (R384): A retrain ends, resuming traffic or, after four failures, taking the link down. -/
  | retrainResult (ok : Bool)
  /-- CHM_RETRAIN (R386): A write of 1 to Chm.Retrain retrains a link that is down. -/
  | chmRetrain (ctx : Ctx) (value : Nat)
  /-- CHM_FAULT_CLEAR (R386): A write of 1 to Chm.FaultClear clears every fault record. -/
  | chmFaultClear (ctx : Ctx) (value : Nat)
  /-- CAN_MESSAGE_RECEIVE (R398): A valid CAN message is stamped, looked up in the routing table and routed to its destinations. -/
  | canMessageReceive (ch : Nat) (m : BusHeard)
  /-- LIN_RESPONSE_RECEIVE (R408): A LIN response received on a channel is routed with its source code. -/
  | linResponseReceive (l id : Nat) (data : List Byte) (e : LinEnd)
  /-- LIN_HEADER_RECEIVE (R408): A header received on a slave channel is answered with the data held by its entry. -/
  | linHeaderReceive (l id : Nat)
  /-- LIN_RESPONSE_TIMEOUT (R394): A master header gets no complete response and is counted. -/
  | linResponseTimeout (l : Nat)
  /-- CAN_ARBITRATION (R402): The channel offers its highest-priority queued message, discarding messages older than Can.TxMaxAge. -/
  | canArbitration (ch : Nat) (won : Bool)
  /-- CAN_TX_DONE (R402): A message is sent and acknowledged and its queue entry freed. -/
  | canTxDone (ch : Nat)
  /-- CAN_BUS_OFF (R393): The controller enters bus-off and counts it. -/
  | canBusOff (ch : Nat)
  /-- CAN_BUSOFF_RECOVERY (R393): After 128 occurrences of 11 recessive bits the channel recovers from bus-off. -/
  | canBusoffRecovery (ch : Nat)
  /-- CAN_RECOVER (R393): A write of 1 to Can.Recover starts bus-off recovery. -/
  | canRecover (ctx : Ctx) (ch value : Nat)
  /-- CAN_ENABLE (R393): A write to Can.Enable makes the channel integrate with its boundary settings or leave the bus. -/
  | canEnable (ctx : Ctx) (ch value : Nat)
  /-- CAN_CLEAR (R393): A write of 1 to Can.Clear clears every counter of the channel. -/
  | canClear (ctx : Ctx) (ch value : Nat)
  /-- LIN_CLEAR (R395): A write of 1 to Lin.Clear clears every counter of the channel. -/
  | linClear (ctx : Ctx) (l value : Nat)
  /-- LIN_SEND_WAKE (R395): A write of 1 to Lin.SendWake drives a 1 ms dominant wake-up signal. -/
  | linSendWake (ctx : Ctx) (l value : Nat)
  /-- CYCLIC_RELEASE (R406): A cyclic entry releases an instance from its held data at its period and offset, replacing an unsent one. -/
  | cyclicRelease (e : Nat)
  /-- CYC_DATA_WRITE (R407): A dictionary write to Cyc.Data passes claim arbitration and replaces the held data. -/
  | cycDataWrite (ctx : Ctx) (e : Nat) (data : List Byte)
  /-- ACF_UNPACK (R417): A frame at the inbound queue is matched to an unpack stream and its messages are routed. -/
  | acfUnpack
  /-- ACF_MAX_WAIT_EXPIRE (R416): Acf.MaxWait since a stream's first packed message closes and sends its frame. -/
  | acfMaxWaitExpire (stream : Nat)
  /-- ACF_CLEAR (R417): A write of 1 to Acf.Clear clears every counter of the stream. -/
  | acfClear (ctx : Ctx) (stream value : Nat)
  /-- GW_KEY_LOAD (R418): A write to Gw.KeySlot starts a load of a gateway key from the vault. -/
  | gwKeyLoad (ctx : Ctx) (k value : Nat)
  /-- CP_STATE_CHANGE (R423): Three periods or 3 ms of a steady level accept a new control-pilot state and pulse its event line. -/
  | cpStateChange (level : Int) (count : Nat)
  /-- PP_MEASURE (R424): Every 1 ms the proximity-pilot resistance is measured. -/
  | ppMeasure (ohms : Nat)
  /-- PROXIMITY_POLL (R425): Every 16 ms in Dormant and Ember the proximity line is sampled for a wake. -/
  | proximityPoll (ohms : Nat) (env : StartEnv)
  /-- INLET_TEMP_SAMPLE (R427): Every 10 ms an inlet temperature is converted and may trip, opening the load path. -/
  | inletTempSample (t : Nat) (ohms : Option Nat)
  /-- CP_S2_WRITE (R426): A claim-arbitrated write to Cp.S2 closes or opens the state-C switch. -/
  | cpS2Write (ctx : Ctx) (value : Nat)
  /-- CD_COMMAND (R429): A claim-arbitrated write to Cd.Command closes a driver or opens it under ramp-before-open. -/
  | cdCommand (ctx : Ctx) (k value : Nat)
  /-- RAMP_WAIT_EXPIRE (R429): Cd.RampWait passes without a low fresh sample and the driver is forced open. -/
  | rampWaitExpire (k : Nat)
  /-- CD_OVERCURRENT (R428): A driver's current exceeds 600 mA and it switches off within 10 µs, latching the fault. -/
  | cdOvercurrent (k current : Nat)
  /-- CD_OPEN_LOAD (R428): A closed driver carrying under 8 mA for 10 ms sets the open-load bit. -/
  | cdOpenLoad (k current micros : Nat)
  /-- CD_CLEAR_FAULT (R431): A write of 1 to Cd.ClearFault clears the overcurrent bit and leaves state 3. -/
  | cdClearFault (ctx : Ctx) (k value : Nat)
  /-- TOTALISER_SAMPLE (R435): A totaliser sample message adds energy to the import or export total, or marks a gap. -/
  | totaliserSample (ch : Nat) (m : BusHeard)
  /-- SESSION_OPEN (R438): Ms.SessionCommand 1 opens a session and writes its open record. -/
  | sessionOpen (ctx : Ctx)
  /-- COUNTERSIGN (R439): Ms.SessionCommand 2 computes deviation, writes a reading record and starts the contract signature. -/
  | countersign (ctx : Ctx)
  /-- COUNTERSIGN_DONE (R439): The countersignature is released after the record is read back, and its event line pulses. -/
  | countersignDone (fails : Nat)
  /-- SESSION_CLOSE (R438): Ms.SessionCommand 3 closes the session and writes its close record. -/
  | sessionClose (ctx : Ctx)
  /-- SEAL_CLOSE (R441): A write of 1 to Ms.Close in Trim with a matching confirmation starts seal closure. -/
  | sealClose (ctx : Ctx) (value : Nat)
  /-- SEAL_CLOSE_DONE (R441): The seal key and genesis record are made and the seal reads closed. -/
  | sealCloseDone
  /-- MS_ACKNOWLEDGE (R446): A write to Ms.Acknowledge marks records below it exported. -/
  | msAcknowledge (ctx : Ctx) (value : Nat)
  /-- MS_EXPORT (R448): A write to Ms.ExportSession starts building the OCMF string of a session. -/
  | msExport (ctx : Ctx) (value : Nat)
  /-- EXPORT_DONE (R448): The export string is built and Ms.ExportOutcome reports. -/
  | exportDone
  /-- VBAT_SAMPLE (R452): Every 10 µs VBAT is sampled and the mean compared with the supply thresholds. -/
  | vbatSample (mv : Nat)
  /-- OVERVOLTAGE_ENTRY (R453): VBAT above 42.5 V for 350 ms sends the device to Ember as for a crank entry. -/
  | overvoltageEntry
  /-- OVERVOLTAGE_RECOVERY (R453): VBAT below 40 V for 10 ms wakes the device to the mode it left. -/
  | overvoltageRecovery (env : StartEnv)
  /-- CRANK_ENTRY (R454): VBAT below 4.2 V for 20 µs saves the crank items and enters Ember within 1 ms. -/
  | crankEntry (items : Nat)
  /-- CRANK_RECOVERY (R454): VBAT above 5.0 V for 1 ms returns the device to the mode it left. -/
  | crankRecovery (env : StartEnv)
  /-- THROTTLE_STEP_DOWN (R474): VBAT below the next lower threshold for 200 µs steps the fabric down by one. -/
  | throttleStepDown
  /-- THROTTLE_STEP_UP (R474): VBAT above the next higher rising threshold for 5 ms steps the fabric up by one. -/
  | throttleStepUp
  /-- DROOP_DETECT (R476): A droop detector below the margin stretches the fabric cycle in progress. -/
  | droopDetect (levels : List Nat)
  /-- SUPPLY_FAULT (R516): A powered rail outside its window for 20 µs enters Snuffed or Ember as its rail decides. -/
  | supplyFault (rail : Nat)
  /-- VPRE_RETRY (R516): 10 ms after a VPRE fault the device attempts a wake. -/
  | vpreRetry (again : Bool) (env : StartEnv)
  /-- PWR_REQUEST_DORMANT (R459): Pwr.Request 0 checks and starts entry to Dormant. -/
  | pwrRequestDormant (ctx : Ctx) (pins : Nat)
  /-- PWR_REQUEST_EMBER (R459): Pwr.Request 1 checks and starts entry to Ember. -/
  | pwrRequestEmber (ctx : Ctx) (pins : Nat)
  /-- PWR_REQUEST_GLOW (R462): Pwr.Request 2 checks and starts entry to Glow. -/
  | pwrRequestGlow (ctx : Ctx)
  /-- PWR_REQUEST_FLAME (R458): Pwr.Request 3 checks and starts entry to Flame. -/
  | pwrRequestFlame (ctx : Ctx)
  /-- PWR_REQUEST_TRIM (R461): Pwr.Request 4 with confirmation checks and starts entry to Trim. -/
  | pwrRequestTrim (ctx : Ctx)
  /-- MODE_TRANSITION_DONE (R458): A mode transition completes and the mode event line pulses. -/
  | modeTransitionDone (env : StartEnv)
  /-- EMBER_LIMIT_EXPIRE (R458): Pwr.EmberLimit elapses in Ember without a wake and the device enters Dormant. -/
  | emberLimitExpire
  /-- WAKE_ALARM_EXPIRE (R471): Wk.AlarmAfter seconds after entry to Ember the alarm wakes the device. -/
  | wakeAlarmExpire (env : StartEnv)
  /-- WAKE_EVENT (R472): A wake source fires and the device wakes into its target mode through the milestones. -/
  | wakeEvent (sources : List WakeSource) (env : StartEnv)
  /-- CFG_SAVE (R466): A write of 1 to Cfg.Save erases the older slot and builds a new configuration image. -/
  | cfgSave (ctx : Ctx) (value : Nat)
  /-- CFG_SAVE_DONE (R466): The save's header is written and Cfg.Outcome reports. -/
  | cfgSaveDone
  /-- CFG_REMAINDER_APPLIED (R469): The streamed remainder of the configuration image is applied or fails its check. -/
  | cfgRemainderApplied (bad : List Nat)
  /-- START (R518): A start runs the power-on steps, completing interrupted operations and loading the configuration. -/
  | start (env : StartEnv)
  /-- HB_BEAT (R493): A write to Hb.Beat proves a cluster alive for the current period. -/
  | hbBeat (ctx : Ctx) (value : Nat) (mailbox pilotLine : Bool)
  /-- HEARTBEAT_TIMEOUT (R493): Three unmet periods and the grace declare a cluster lost and zero its claims. -/
  | heartbeatTimeout (c : Nat)
  /-- CG_CLAIM (R485): A write to Cg.Claim sets the writing claimant's claim on a group. -/
  | cgClaim (ctx : Ctx) (g value : Nat)
  /-- OUT_COMMAND (R484): A write to Out.Command drives a GO output when claim arbitration accepts it. -/
  | outCommand (ctx : Ctx) (o value : Nat)
  /-- HOLD_EXPIRE (R488): Cg.HoldTime ends in state 5 and the group takes its safe states. -/
  | holdExpire (g : Nat)
  /-- TWIN_FRAME_PERIODIC (R496): Every 250 µs a twin frame is sent on the claim link and the twin stream. -/
  | twinFramePeriodic
  /-- TWIN_FRAME_RECEIVE (R497): A twin frame received on either path updates the twin's claims and drives hand-over of shared groups. -/
  | twinFrameReceive (stream : Bool) (bytes : List Byte)
  /-- TWIN_TIMEOUT (R498): Three periods without a valid frame and the grace declare the twin lost. -/
  | twinTimeout
  /-- SNUFF_RESTART_EXPIRE (R512): Rst.SnuffRestart ms in Snuffed below the limit cause an automatic snuff reset. -/
  | snuffRestartExpire
  /-- SNUFF_COUNT_CLEAR (R512): 600 s without entering Snuffed clears Rst.SnuffAutoCount. -/
  | snuffCountClear
  /-- POWER_ON_RESET (R514): The always-on reset asserts and resets everything, losing retention. -/
  | powerOnReset
  /-- EXTERNAL_RESET (R514): RESET_N held low for 10 µs resets both dies except the always-on domain. -/
  | externalReset (micros : Nat)
  /-- DEBUG_RESET (R514): The JTAG system-reset instruction resets as an external reset does. -/
  | debugReset
  /-- RST_DEVICE (R523): Rst.Command 1 with confirmation asserts a command reset. -/
  | rstDevice (ctx : Ctx)
  /-- RST_SNUFF (R512): Rst.Command 2 with confirmation in Snuffed asserts a snuff reset. -/
  | rstSnuff (ctx : Ctx)
  /-- RST_RESTART_A (R517): Rst.Command 3 restarts Lamplighter A unless it owns an arbitrated group. -/
  | rstRestartA (ctx : Ctx)
  /-- RST_RESTART_B (R517): Rst.Command 4 restarts Lamplighter B unless it owns an arbitrated group. -/
  | rstRestartB (ctx : Ctx)
  /-- CLUSTER_RESTART_DONE (R517): A cluster restart ends and the cluster boots from the active image. -/
  | clusterRestartDone (c : Nat) (ok : Bool)
  /-- PILOT_WATCHDOG (R515): A missed 10 ms watchdog service restarts the Pilot core alone. -/
  | pilotWatchdog
  /-- ERROR_RECORD_WRITE (R506): The Pilot core takes a queued report, numbers it and writes it to the retention log. -/
  | errorRecordWrite
  /-- ERROR_LOG_COPY (R507): The Pilot core copies a retention-log record to the flash log. -/
  | errorLogCopy
  /-- ERR_ACKNOWLEDGE (R509): A write to Err.Acknowledge acknowledges records below the sequence. -/
  | errAcknowledge (ctx : Ctx) (value : Nat)
  /-- ERR_REPORT (R521): A write to Err.Report records 16 bytes as a class 14 report. -/
  | errReport (ctx : Ctx) (bytes : List Byte)
  /-- ECL_CLEAR (R522): A write of 1 to Ecl.Clear clears a class's loss counters. -/
  | eclClear (ctx : Ctx) (cls value : Nat)
  /-- TAPER_OPEN (R532): A Taper OPEN frame starts a transfer session into the prepared slot. -/
  | taperOpen (frame : List Byte)
  /-- TAPER_DATA (R533): A Taper DATA frame at the next contiguous offset is written, others discarded, with acknowledgements. -/
  | taperData (frame : List Byte)
  /-- TAPER_CLOSE (R534): A Taper CLOSE frame with all bytes received starts the image checks. -/
  | taperClose (frame : List Byte)
  /-- TAPER_CLOSE_VERDICT (R534): The image checks end and the slot becomes staged or invalid. -/
  | taperCloseVerdict
  /-- TAPER_ABORT (R533): A Taper ABORT frame ends the session and marks the slot invalid. -/
  | taperAbort (frame : List Byte)
  /-- TAPER_STATUS (R531): A Taper STATUS frame is answered with the session state and offset. -/
  | taperStatus (frame : List Byte)
  /-- TAPER_SESSION_TIMEOUT (R533): A session with no frame for 5 s ends as an ABORT does. -/
  | taperSessionTimeout
  /-- UPD_CONFIRM (R537): A write of 1 to Upd.Confirm confirms the trial image and may raise the anti-rollback floor. -/
  | updConfirm (ctx : Ctx) (value : Nat)
  /-- TRIAL_TIMEOUT (R538): Upd.TrialTime elapses unconfirmed and the device falls back to the previous image. -/
  | trialTimeout
  /-- UPD_PREPARE (R539): A write of 1 to Upd.Prepare erases the slot that is not active. -/
  | updPrepare (ctx : Ctx) (value : Nat)
  /-- PREPARE_DONE (R539): The slot erase ends and the slot reads prepared. -/
  | prepareDone
  /-- OWNER_KEY_WRITE (R530): A write to Upd.OwnerKey in Trim while all zero stores the owner key once. -/
  | ownerKeyWrite (ctx : Ctx) (bytes : List Byte)
  /-- PAUSE_TIME_EXPIRE (R113): The pause time that an honoured PAUSE or priority flow control frame set runs out and the port's held queues may transmit again. -/
  | pauseTimeExpire (port : Nat)
  /-- CAN_ERROR (R393): The controller detects an error on the bus, counts it in Can.Errors and updates the error counters and the error-active or error-passive state. -/
  | canError (ch : Nat) (transmitter severe : Bool)
  /-- HEARTBEAT_PATH_FAULT (R493): One heartbeat path, mailbox or pilot line, misses three periods in a row while the other path keeps the cluster alive, which sets its bit in Hb.PathFaults and raises an error report. -/
  | heartbeatPathFault (c : Nat) (pilotLine : Bool)
  /-- TWIN_PATH_FAULT (R498): The claim link or the twin stream alone misses its frames, which sets its bit in Hb.PathFaults while the twin stays alive. -/
  | twinPathFault (stream : Bool)
  /-- TAPER_ACK_TIMER (R533): 1 ms after the latest accepted DATA frame the stager sends an acknowledgement for fewer than 16 frames. -/
  | taperAckTimer
  /-- CP_PERIOD_MEASURE (R423): Each control-pilot PWM period is measured, which updates Cp.Duty and Cp.Frequency and sets or clears the frequency-fault and missing-diode bits of Cp.Status. -/
  | cpPeriodMeasure (oscillating : Bool) (frequency duty : Nat) (negative : Int)
  /-- PILOT_READ (R376): A Pilot core read of a Lantern target crosses the link and holds the Pilot core and the Wick port until its data arrives. -/
  | pilotRead (addr size : Nat)
deriving DecidableEq, Repr

end Sys2Proof
end

