-- ==== Sys2Proof/Decode.lean ====
section
/-! DEFINITION. Commands spelt by words. The table gives none of its rows any bits: a command arrives as a write, a message, a pin or an
event, and no word spells one. The words of the engines' packet extension, which the spec does lay out (R276), are read here too. -/
namespace Sys2Proof

/-- The command that a word of the table's bits spells: none, since no row has bits. -/
def decodeTableWord (_nbits _w : Nat) : Option Instr := none

/-- What engine `e` does for a word of opcode custom-0 or custom-1 at address `pc`, where its source registers hold `a` and `b` (R276): an
instruction of the extension, or else the illegal-instruction exception, whose mcause is 2 (log entry 161). Other opcodes belong to the
base instruction set. -/
def packetWord (e pc a b w : Nat) : Option Instr :=
  let rd := w / 2 ^ 7 % 2 ^ 5
  let rs1 := w / 2 ^ 15 % 2 ^ 5
  let rs2 := w / 2 ^ 20 % 2 ^ 5
  let illegal := Instr.engineFault e 2 pc
  let given := fun (unused : List Nat) (i : Instr) => if unused.all (· == 0) then i else illegal
  let funct7 := w / 2 ^ 25 % 2 ^ 7
  match w % 2 ^ 7, w / 2 ^ 12 % 2 ^ 3 with
  | 0x0B, 0 => some (given [funct7, rs1, rs2] (.spIn e rd))
  | 0x0B, 1 => some (given [funct7, rs1, rs2] (.spLeft e rd))
  | 0x0B, 2 => some (given [funct7, rd, rs1, rs2] (.spDrop e))
  | 0x0B, 3 => some (given [funct7, rd, rs2] (.spOut e a))
  | 0x0B, 4 => some (given [funct7, rd, rs1, rs2] (.spSend e))
  | 0x0B, 5 => some (given [funct7, rd, rs2] (.spResolve e a))
  | 0x0B, 6 => some (given [funct7] (.spCrc e rd a b))
  | 0x0B, 7 => some (given [funct7] (.spCsum e rd a b))
  | 0x2B, 0 => some (given [funct7, rs1, rs2] (.spTime e rd))
  | 0x2B, _ => some illegal
  | _, _ => none

end Sys2Proof
end

