-- ==== Sys2Proof/Machine/Bits.lean ====
section
/-! DEFINITION. Bit fields, signed values, byte order and the checks over bytes whose polynomial the spec names. -/
namespace Sys2Proof.Machine

/-- The field of `n` from bit `hi` down to bit `lo`. -/
def field (n hi lo : Nat) : Nat := n / 2 ^ lo % 2 ^ (hi + 1 - lo)

/-- One bit of `n`. -/
def bitOf (n b : Nat) : Bool := n / 2 ^ b % 2 == 1

/-- `n` with bit `b` set to `v`. -/
def setBit (n b : Nat) (v : Bool) : Nat :=
  (if bitOf n b then n - 2 ^ b else n) + (if v then 2 ^ b else 0)

/-- `n` with the field `hi` to `lo` replaced by `v`. -/
def setField (n hi lo v : Nat) : Nat :=
  n - field n hi lo * 2 ^ lo + v % 2 ^ (hi + 1 - lo) * 2 ^ lo

/-- Every bit set in `a` is set in `b`. -/
def subsetBits (a b : Nat) : Bool := a &&& b == a

/-- The signed value that `w` bits hold in two's complement. -/
def toSigned (w n : Nat) : Int :=
  if n % 2 ^ w < 2 ^ (w - 1) then (n % 2 ^ w : Nat) else (n % 2 ^ w : Nat) - (2 ^ w : Nat)

/-- The `w` bits that hold a signed value in two's complement. -/
def ofSigned (w : Nat) (i : Int) : Nat := (i % (2 ^ w : Nat)).toNat

/-- The truth of a flag as a number. -/
def flag (b : Bool) : Nat := if b then 1 else 0

/-- The numbers below `n` whose bits are set in a mask. -/
def bitsOf (n mask : Nat) : List Nat := (List.range n).filter (fun b => bitOf mask b)

/-- The mask with the bits of a list set. -/
def maskOf (l : List Nat) : Nat := l.foldl (fun m b => m ||| 2 ^ b) 0

/-- A value as `n` bytes, least significant first (R42). -/
def leBytes : Nat → Nat → List Byte
  | 0, _ => []
  | n + 1, v => BitVec.ofNat 8 v :: leBytes n (v / 256)

/-- The value of bytes, least significant first (R42). -/
def ofLe : List Byte → Nat
  | [] => 0
  | b :: bs => b.toNat + 256 * ofLe bs

/-- The value of bytes, most significant first. -/
def ofBe (l : List Byte) : Nat := ofLe l.reverse

/-- A value as `n` bytes, most significant first. -/
def beBytes (n v : Nat) : List Byte := (leBytes n v).reverse

/-- `n` bytes from an offset on. -/
def slice (l : List Byte) (off n : Nat) : List Byte := (l.drop off).take n

/-- The big-endian value of `n` bytes at an offset. -/
def beAt (l : List Byte) (off n : Nat) : Nat := ofBe (slice l off n)

/-- The bytes of a text. -/
def asciiBytes (s : String) : List Byte := s.toList.map (fun c => BitVec.ofNat 8 c.toNat)

/-- The first `n` bytes, with zeros after a shorter list. -/
def padTo (n : Nat) (l : List Byte) : List Byte := l.take n ++ List.replicate (n - l.length) 0

/-- `l` with the bytes from an offset on replaced by `d`. -/
def patch (l : List Byte) (off : Nat) (d : List Byte) : List Byte :=
  l.take off ++ d ++ l.drop (off + d.length)

/-- `k` shifts of a reflected cyclic redundancy check. -/
def crcShift (poly : Nat) : Nat → Nat → Nat
  | 0, c => c
  | k + 1, c => crcShift poly k (if c % 2 = 1 then (c / 2) ^^^ poly else c / 2)

/-- A reflected cyclic redundancy check advanced over bytes. -/
def crcStep (poly c : Nat) (bs : List Byte) : Nat :=
  bs.foldl (fun c b => crcShift poly 8 (c ^^^ b.toNat)) c

/-- CRC-32C advanced over bytes, without the initial and final inversion. -/
def crc32cStep (c : Nat) (bs : List Byte) : Nat := crcStep 0x82F63B78 c bs

/-- CRC-32C of bytes. -/
def crc32c (bs : List Byte) : Nat := crc32cStep 0xFFFFFFFF bs ^^^ 0xFFFFFFFF

/-- `k` shifts of the 16-bit check of the Chimney link (R367). -/
def crc16Shift : Nat → Nat → Nat
  | 0, c => c
  | k + 1, c => crc16Shift k (if bitOf c 15 then (c * 2 % 65536) ^^^ 0x1021 else c * 2 % 65536)

/-- CRC-16 of R367 over bytes. -/
def crc16 (bs : List Byte) : Nat := bs.foldl (fun c b => crc16Shift 8 (c ^^^ (b.toNat * 256))) 0xFFFF

/-- A record of 32 bytes passes the CRC in its last four (R314, R526). -/
def recordWhole (b : List Byte) : Bool := b.length = 32 && ofLe (b.drop 28) = crc32c (b.take 28)

end Sys2Proof.Machine
end

