-- ==== Sys2Proof/Config.lean ====
section
/-! DEFINITION. What one device fixes and what the spec leaves open: free values without a body, so that nothing can
be proved of them, and the cryptographic primitives that the spec takes from their standards by name (log entry 6). -/
namespace Sys2Proof

/-- A free value of `w` bits: the `n`-th value drawn where the spec states none (log entry 5). -/
opaque Config.free (w : Nat) (n : Nat) : BitVec w

/-- The AES block cipher under a key of 128 or 256 bits. -/
opaque Config.aes (keyBits key : Nat) (block : BitVec 128) : BitVec 128

/-- A hash function of FIPS 180-4 by its digest bits: 256, 384 or 512. -/
opaque Config.sha (bits : Nat) (msg : List Byte) : List Byte

/-- The order of the group of a curve, by algorithm code. -/
opaque Config.curveOrder (alg : Nat) : Nat

/-- The public key of a private key, by algorithm code. -/
opaque Config.publicKey (alg : Nat) (priv : List Byte) : List Byte

/-- Whether an encoded point is a valid point of a curve. -/
opaque Config.onCurve (alg : Nat) (point : List Byte) : Bool

/-- A signature over a digest or message, with the nonce drawn for it. -/
opaque Config.sign (alg : Nat) (priv msg nonce : List Byte) : List Byte

/-- Whether a signature over a digest or message is valid. -/
opaque Config.verify (alg : Nat) (pub msg sig : List Byte) : Bool

/-- The shared secret of a private key and a peer point. -/
opaque Config.shared (alg : Nat) (priv point : List Byte) : List Byte

/-- Whether an RSA signature is valid, by the codes of R306. -/
opaque Config.rsaVerify (code exponent : Nat) (modulus digest sig : List Byte) : Bool

/-- The AES key wrap of IETF RFC 5649. -/
opaque Config.wrap (kek plain : List Byte) : List Byte

/-- Its inverse; none when the integrity check fails. -/
opaque Config.unwrap (kek wrapped : List Byte) : Option (List Byte)

/-- The AES key wrap of IETF RFC 3394 undone; none when the integrity check fails. -/
opaque Config.unwrapSak (kek wrapped : List Byte) : Option (List Byte)

/-- The JSON text of an object with the given names and values, whose layout the spec leaves to the Open Charge Metering
Format (R448). -/
opaque Config.json (fields : List (List Byte × List Byte)) : List Byte

/-- A secret that a device's fuses hold, of a given purpose. -/
opaque Config.fusedSecret (purpose : Nat) : List Byte

end Sys2Proof
end

