-- ==== Sys2Proof/Machine/Regs.lean ====
section
/-! DEFINITION. Registers: the name of every object of the dictionary and of every internal register of the block,
with the value each holds after reset. An object's register carries the group of its index, the instance within the
group, the subindex, the row of a table window and a bank. Bank 0 is the value in force, bank 2 a copy that a unit
latched at its boundary or at the next start, banks 3 to 8 the copies of the six path contexts (R60). -/
namespace Sys2Proof.Machine

/-- The groups of object indices (R40), and after them the groups of internal registers that the chapters imply. -/
inductive Grp where
  | com | dev | pwr | wk | sup | cfg | tb | dom | rxDelay | txDelay | cap | chm
  | cf | port | pcnt | plca | sp | txRing | se | rxRing | buf | q | qcnt | sched
  | scnt | cls | clsPort | ccnt | rw | sc | lc | lcPort | sa | lcCnt | scp | vlt
  | vltG | crG | cr | crq | dma | gw | can | lin | acf | cyc | cp | tin
  | cd | tot | ms | msSeal | msStat | hb | tw | cg | cycGroup | outp | cys | xm
  | kid | rg | upd | err | ecl | rst | ev | evProducer | sb | evc | ecnt | irq
  | irqMerged | mm | conn | saRow | gcl | sid | sg | fm | sr | cxr | fv | fdb
  | iTime | iDom | iCap | iIrq | iPort | iBuf | iCls | iGcl | iStream | iChan | iSlot | iSlotG
  | iConn | iVlt | iCr | iDma | iXm | iChm | iSp | iSe | iRing | iCd | iCp | iCg
  | iHb | iTw | iPwr | iCan | iLin | iCyc | iFv | iAcf | iTot | iMs | iErr | iUpd
deriving DecidableEq, Repr

/-- The name of one register. -/
structure Reg where
  grp : Grp
  inst : Nat := 0
  sub : Nat := 0
  row : Nat := 0
  bank : Nat := 0
deriving DecidableEq, Repr

/-- The canonical order of the register file: by group, instance, subindex, row and bank. -/
def Reg.before (r q : Reg) : Bool :=
  r.grp.ctorIdx < q.grp.ctorIdx || (r.grp == q.grp && (r.inst < q.inst || (r.inst == q.inst && (r.sub < q.sub ||
    (r.sub == q.sub && (r.row < q.row || (r.row == q.row && r.bank < q.bank)))))))

/-- The same register in another bank. -/
abbrev Reg.inBank (r : Reg) (b : Nat) : Reg := { r with bank := b }
/-- The copy of a setting that its unit latched at its boundary or at the next start (R10). -/
abbrev Reg.latched (r : Reg) : Reg := { r with bank := 2 }

/-- An owner of pending and active copies (R50): the group of its index and the instance. -/
structure Owner where
  grp : Grp
  inst : Nat := 0
deriving DecidableEq, Repr


/-- `Grp.CommitWhen` of an owner (R50). -/
abbrev Reg.commitWhen (o : Owner) : Reg := ⟨o.grp, o.inst, 0xF8, 0, 0⟩
/-- `Grp.KindleTime` of an owner (R50). -/
abbrev Reg.kindleTime (o : Owner) : Reg := ⟨o.grp, o.inst, 0xF9, 0, 0⟩
/-- `Grp.KindleDomain` of an owner (R50). -/
abbrev Reg.kindleDomain (o : Owner) : Reg := ⟨o.grp, o.inst, 0xFA, 0, 0⟩
/-- `Grp.CommitOutcome` of an owner (R50). -/
abbrev Reg.commitOutcome (o : Owner) : Reg := ⟨o.grp, o.inst, 0xFC, 0, 0⟩
/-- `Grp.TakenLate` of an owner (R50). -/
abbrev Reg.takenLate (o : Owner) : Reg := ⟨o.grp, o.inst, 0xFD, 0, 0⟩
/-- `Grp.CommitCount` of an owner (R50). -/
abbrev Reg.commitCount (o : Owner) : Reg := ⟨o.grp, o.inst, 0xFE, 0, 0⟩
/-- `Grp.ActiveSince` of an owner (R50). -/
abbrev Reg.activeSince (o : Owner) : Reg := ⟨o.grp, o.inst, 0xFF, 0, 0⟩
/-- `Grp.RowSelect` of a table window in one path context (R62, R60). -/
abbrev Reg.rowSelect (g : Grp) (i : Nat) (ctx : Nat) : Reg := ⟨g, i, 0x01, 0, ctx⟩
/-- `Grp.View` of a table window in one path context (R62, R60). -/
abbrev Reg.view (g : Grp) (i : Nat) (ctx : Nat) : Reg := ⟨g, i, 0x03, 0, ctx⟩
/-- The board delays of a port at receive, 2230h (R93). -/
abbrev Reg.rxDelay (n : Nat) : Reg := ⟨.rxDelay, 0, n + 1, 0, 0⟩
/-- The board delays of a port at transmit, 2231h (R93). -/
abbrev Reg.txDelay (n : Nat) : Reg := ⟨.txDelay, 0, n + 1, 0, 0⟩

/-- `Dev.PartCode`, 2000h.01 (R3). -/
abbrev Reg.devPartCode : Reg := ⟨.dev, 0, 0x01, 0, 0⟩
/-- `Dev.Stepping`, 2000h.02 (R3). -/
abbrev Reg.devStepping : Reg := ⟨.dev, 0, 0x02, 0, 0⟩
/-- `Dev.UnitPresence`, 2000h.04 (R3). -/
abbrev Reg.devUnitPresence : Reg := ⟨.dev, 0, 0x04, 0, 0⟩
/-- `Ev.Producer`, 3201h.01–3204h.40 (R32). -/
abbrev Reg.evProducer (i k : Nat) : Reg := ⟨.evProducer, i, 0x01 + k, 0, 0⟩
/-- `Sb.ToWick`, 3208h.01–10 (R34). -/
abbrev Reg.sbToWick (k : Nat) : Reg := ⟨.sb, 0, 0x01 + k, 0, 0⟩
/-- `Sb.ToLantern`, 3208h.11–20 (R34). -/
abbrev Reg.sbToLantern (k : Nat) : Reg := ⟨.sb, 0, 0x11 + k, 0, 0⟩
/-- `Evc.DmaStart`, 3210h.01–20 (R34). -/
abbrev Reg.evcDmaStart (k : Nat) : Reg := ⟨.evc, 0, 0x01 + k, 0, 0⟩
/-- `Evc.CressetStart`, 3210h.21–28 (R34). -/
abbrev Reg.evcCressetStart (k : Nat) : Reg := ⟨.evc, 0, 0x21 + k, 0, 0⟩
/-- `Evc.Capture`, 3210h.31–40 (R34). -/
abbrev Reg.evcCapture (k : Nat) : Reg := ⟨.evc, 0, 0x31 + k, 0, 0⟩
/-- `Evc.PilotHook`, 3210h.41–48 (R34). -/
abbrev Reg.evcPilotHook (k : Nat) : Reg := ⟨.evc, 0, 0x41 + k, 0, 0⟩
/-- `Ecnt.Line`, 3220h+i.01 (R35). -/
abbrev Reg.ecntLine (i : Nat) : Reg := ⟨.ecnt, i, 0x01, 0, 0⟩
/-- `Ecnt.Count`, 3220h+i.02 (R35). -/
abbrev Reg.ecntCount (i : Nat) : Reg := ⟨.ecnt, i, 0x02, 0, 0⟩
/-- `Irq.Line`, 3240h.01–40 (R36). -/
abbrev Reg.irqLine (k : Nat) : Reg := ⟨.irq, 0, 0x01 + k, 0, 0⟩
/-- `Irq.Merged`, 3241h.01–40 (R36). -/
abbrev Reg.irqMerged (k : Nat) : Reg := ⟨.irqMerged, 0, 0x01 + k, 0, 0⟩
/-- `Com.DeviceType`, 1000h.00 (R41). -/
abbrev Reg.comDeviceType : Reg := ⟨.com, 0x1000, 0x00, 0, 0⟩
/-- `Com.ErrorRegister`, 1001h.00 (R41). -/
abbrev Reg.comErrorRegister : Reg := ⟨.com, 0x1001, 0x00, 0, 0⟩
/-- `Com.DeviceName`, 1008h.00 (R41). -/
abbrev Reg.comDeviceName : Reg := ⟨.com, 0x1008, 0x00, 0, 0⟩
/-- `Com.HardwareVersion`, 1009h.00 (R41). -/
abbrev Reg.comHardwareVersion : Reg := ⟨.com, 0x1009, 0x00, 0, 0⟩
/-- `Com.SoftwareVersion`, 100Ah.00 (R41). -/
abbrev Reg.comSoftwareVersion : Reg := ⟨.com, 0x100A, 0x00, 0, 0⟩
/-- `Com.IdentityCount`, 1018h.00 (R41). -/
abbrev Reg.comIdentityCount : Reg := ⟨.com, 0x1018, 0x00, 0, 0⟩
/-- `Com.VendorId`, 1018h.01 (R41). -/
abbrev Reg.comVendorId : Reg := ⟨.com, 0x1018, 0x01, 0, 0⟩
/-- `Com.ProductCode`, 1018h.02 (R41). -/
abbrev Reg.comProductCode : Reg := ⟨.com, 0x1018, 0x02, 0, 0⟩
/-- `Com.RevisionNumber`, 1018h.03 (R41). -/
abbrev Reg.comRevisionNumber : Reg := ⟨.com, 0x1018, 0x03, 0, 0⟩
/-- `Com.SerialNumber`, 1018h.04 (R41). -/
abbrev Reg.comSerialNumber : Reg := ⟨.com, 0x1018, 0x04, 0, 0⟩
/-- `Com.SdoServerCount`, 1200h.00 (R41). -/
abbrev Reg.comSdoServerCount : Reg := ⟨.com, 0x1200, 0x00, 0, 0⟩
/-- `Com.SdoRxCobId`, 1200h.01 (R41). -/
abbrev Reg.comSdoRxCobId : Reg := ⟨.com, 0x1200, 0x01, 0, 0⟩
/-- `Com.SdoTxCobId`, 1200h.02 (R41). -/
abbrev Reg.comSdoTxCobId : Reg := ⟨.com, 0x1200, 0x02, 0, 0⟩
/-- `Dev.ChangeCounter`, 2000h.0C (R65). -/
abbrev Reg.devChangeCounter : Reg := ⟨.dev, 0, 0x0C, 0, 0⟩
/-- `Dev.MgmtCanChannel`, 2000h.0E (R65). -/
abbrev Reg.devMgmtCanChannel : Reg := ⟨.dev, 0, 0x0E, 0, 0⟩
/-- `Dev.NodeId`, 2000h.0F (R65). -/
abbrev Reg.devNodeId : Reg := ⟨.dev, 0, 0x0F, 0, 0⟩
/-- `Dev.LongSelect`, 2000h.10 (R65). -/
abbrev Reg.devLongSelect : Reg := ⟨.dev, 0, 0x10, 0, 0⟩
/-- `Dev.LongData`, 2000h.11 (R65). -/
abbrev Reg.devLongData : Reg := ⟨.dev, 0, 0x11, 0, 0⟩
/-- `Dev.LastAbort`, 2000h.12 (R65). -/
abbrev Reg.devLastAbort : Reg := ⟨.dev, 0, 0x12, 0, 0⟩
/-- `Dev.MgmtIPv4`, 2000h.14 (R65). -/
abbrev Reg.devMgmtIPv4 : Reg := ⟨.dev, 0, 0x14, 0, 0⟩
/-- `Dev.MgmtIPv6`, 2000h.15 (R65). -/
abbrev Reg.devMgmtIPv6 : Reg := ⟨.dev, 0, 0x15, 0, 0⟩
/-- `Dev.CoathDiscards`, 2000h.16 (R65). -/
abbrev Reg.devCoathDiscards : Reg := ⟨.dev, 0, 0x16, 0, 0⟩
/-- `Tb.RefSource`, 2200h.01 (R91). -/
abbrev Reg.tbRefSource : Reg := ⟨.tb, 0, 0x01, 0, 0⟩
/-- `Tb.PllStatus`, 2200h.02 (R91). -/
abbrev Reg.tbPllStatus : Reg := ⟨.tb, 0, 0x02, 0, 0⟩
/-- `Tb.SnapTime`, 2200h.04 (R91). -/
abbrev Reg.tbSnapTime : Reg := ⟨.tb, 0, 0x04, 0, 0⟩
/-- `Tb.SnapQualifier`, 2200h.05 (R91). -/
abbrev Reg.tbSnapQualifier : Reg := ⟨.tb, 0, 0x05, 0, 0⟩
/-- `Tb.SnapState`, 2200h.06 (R91). -/
abbrev Reg.tbSnapState : Reg := ⟨.tb, 0, 0x06, 0, 0⟩
/-- `Tb.FollowerError`, 2200h.07 (R91). -/
abbrev Reg.tbFollowerError : Reg := ⟨.tb, 0, 0x07, 0, 0⟩
/-- `Tb.FollowerLosses`, 2200h.08 (R91). -/
abbrev Reg.tbFollowerLosses : Reg := ⟨.tb, 0, 0x08, 0, 0⟩
/-- `Dom.Enable`, 2210h+d.01 (R92). -/
abbrev Reg.domEnable (i : Nat) : Reg := ⟨.dom, i, 0x01, 0, 0⟩
/-- `Dom.Number`, 2210h+d.02 (R92). -/
abbrev Reg.domNumber (i : Nat) : Reg := ⟨.dom, i, 0x02, 0, 0⟩
/-- `Dom.Role`, 2210h+d.03 (R92). -/
abbrev Reg.domRole (i : Nat) : Reg := ⟨.dom, i, 0x03, 0, 0⟩
/-- `Dom.SlavePort`, 2210h+d.04 (R92). -/
abbrev Reg.domSlavePort (i : Nat) : Reg := ⟨.dom, i, 0x04, 0, 0⟩
/-- `Dom.RateWord`, 2210h+d.05 (R92). -/
abbrev Reg.domRateWord (i : Nat) : Reg := ⟨.dom, i, 0x05, 0, 0⟩
/-- `Dom.SyncTimeout`, 2210h+d.07 (R92). -/
abbrev Reg.domSyncTimeout (i : Nat) : Reg := ⟨.dom, i, 0x07, 0, 0⟩
/-- `Dom.State`, 2210h+d.08 (R92). -/
abbrev Reg.domState (i : Nat) : Reg := ⟨.dom, i, 0x08, 0, 0⟩
/-- `Dom.StandbyDomain`, 2210h+d.09 (R92). -/
abbrev Reg.domStandbyDomain (i : Nat) : Reg := ⟨.dom, i, 0x09, 0, 0⟩
/-- `Dom.StandbyOffset`, 2210h+d.0A (R92). -/
abbrev Reg.domStandbyOffset (i : Nat) : Reg := ⟨.dom, i, 0x0A, 0, 0⟩
/-- `Dom.SwitchCount`, 2210h+d.0B (R92). -/
abbrev Reg.domSwitchCount (i : Nat) : Reg := ⟨.dom, i, 0x0B, 0, 0⟩
/-- `Dom.StepCount`, 2210h+d.0C (R92). -/
abbrev Reg.domStepCount (i : Nat) : Reg := ⟨.dom, i, 0x0C, 0, 0⟩
/-- `Dom.KindleStepped`, 2210h+d.0D (R92). -/
abbrev Reg.domKindleStepped (i : Nat) : Reg := ⟨.dom, i, 0x0D, 0, 0⟩
/-- `Cap.Domain`, 2240h+k.01 (R96). -/
abbrev Reg.capDomain (i : Nat) : Reg := ⟨.cap, i, 0x01, 0, 0⟩
/-- `Cap.Time`, 2240h+k.02 (R96). -/
abbrev Reg.capTime (i : Nat) : Reg := ⟨.cap, i, 0x02, 0, 0⟩
/-- `Cap.Qualifier`, 2240h+k.03 (R96). -/
abbrev Reg.capQualifier (i : Nat) : Reg := ⟨.cap, i, 0x03, 0, 0⟩
/-- `Cap.Count`, 2240h+k.04 (R96). -/
abbrev Reg.capCount (i : Nat) : Reg := ⟨.cap, i, 0x04, 0, 0⟩
/-- `Cap.Overwritten`, 2240h+k.05 (R96). -/
abbrev Reg.capOverwritten (i : Nat) : Reg := ⟨.cap, i, 0x05, 0, 0⟩
/-- `Port.Enable`, 2400h+n.01 (R109). -/
abbrev Reg.portEnable (i : Nat) : Reg := ⟨.port, i, 0x01, 0, 0⟩
/-- `Port.Mode`, 2400h+n.02 (R109). -/
abbrev Reg.portMode (i : Nat) : Reg := ⟨.port, i, 0x02, 0, 0⟩
/-- `Port.Fec`, 2400h+n.03 (R109). -/
abbrev Reg.portFec (i : Nat) : Reg := ⟨.port, i, 0x03, 0, 0⟩
/-- `Port.LaneCfg`, 2400h+n.04 (R109). -/
abbrev Reg.portLaneCfg (i : Nat) : Reg := ⟨.port, i, 0x04, 0, 0⟩
/-- `Port.WarmEligible`, 2400h+n.05 (R109). -/
abbrev Reg.portWarmEligible (i : Nat) : Reg := ⟨.port, i, 0x05, 0, 0⟩
/-- `Port.MergeEnable`, 2400h+n.06 (R109). -/
abbrev Reg.portMergeEnable (i : Nat) : Reg := ⟨.port, i, 0x06, 0, 0⟩
/-- `Port.MergeVerify`, 2400h+n.07 (R109). -/
abbrev Reg.portMergeVerify (i : Nat) : Reg := ⟨.port, i, 0x07, 0, 0⟩
/-- `Port.VerifyTime`, 2400h+n.08 (R109). -/
abbrev Reg.portVerifyTime (i : Nat) : Reg := ⟨.port, i, 0x08, 0, 0⟩
/-- `Port.AddFragSize`, 2400h+n.09 (R109). -/
abbrev Reg.portAddFragSize (i : Nat) : Reg := ⟨.port, i, 0x09, 0, 0⟩
/-- `Port.Status`, 2400h+n.0A (R109). -/
abbrev Reg.portStatus (i : Nat) : Reg := ⟨.port, i, 0x0A, 0, 0⟩
/-- `Port.LinkDownHold`, 2400h+n.0C (R109). -/
abbrev Reg.portLinkDownHold (i : Nat) : Reg := ⟨.port, i, 0x0C, 0, 0⟩
/-- `Port.PauseMode`, 2400h+n.0D (R109). -/
abbrev Reg.portPauseMode (i : Nat) : Reg := ⟨.port, i, 0x0D, 0, 0⟩
/-- `Port.SnuffSignal`, 2400h+n.0E (R109). -/
abbrev Reg.portSnuffSignal (i : Nat) : Reg := ⟨.port, i, 0x0E, 0, 0⟩
/-- `Port.MaxFrame`, 2400h+n.0F (R109). -/
abbrev Reg.portMaxFrame (i : Nat) : Reg := ⟨.port, i, 0x0F, 0, 0⟩
/-- `Port.RmiiClockOut`, 2400h+n.10 (R109). -/
abbrev Reg.portRmiiClockOut (i : Nat) : Reg := ⟨.port, i, 0x10, 0, 0⟩
/-- `Plca.Enable`, 2490h+k.01 (R116). -/
abbrev Reg.plcaEnable (i : Nat) : Reg := ⟨.plca, i, 0x01, 0, 0⟩
/-- `Plca.NodeId`, 2490h+k.02 (R116). -/
abbrev Reg.plcaNodeId (i : Nat) : Reg := ⟨.plca, i, 0x02, 0, 0⟩
/-- `Plca.NodeCount`, 2490h+k.03 (R116). -/
abbrev Reg.plcaNodeCount (i : Nat) : Reg := ⟨.plca, i, 0x03, 0, 0⟩
/-- `Plca.ToTimer`, 2490h+k.04 (R116). -/
abbrev Reg.plcaToTimer (i : Nat) : Reg := ⟨.plca, i, 0x04, 0, 0⟩
/-- `Plca.MaxBurst`, 2490h+k.05 (R116). -/
abbrev Reg.plcaMaxBurst (i : Nat) : Reg := ⟨.plca, i, 0x05, 0, 0⟩
/-- `Plca.BurstTimer`, 2490h+k.06 (R116). -/
abbrev Reg.plcaBurstTimer (i : Nat) : Reg := ⟨.plca, i, 0x06, 0, 0⟩
/-- `Plca.Status`, 2490h+k.07 (R116). -/
abbrev Reg.plcaStatus (i : Nat) : Reg := ⟨.plca, i, 0x07, 0, 0⟩
/-- `Pcnt.RxFrames`, 2440h+n.01 (R123). -/
abbrev Reg.pcntRxFrames (i : Nat) : Reg := ⟨.pcnt, i, 0x01, 0, 0⟩
/-- `Pcnt.RxOctets`, 2440h+n.02 (R123). -/
abbrev Reg.pcntRxOctets (i : Nat) : Reg := ⟨.pcnt, i, 0x02, 0, 0⟩
/-- `Pcnt.RxFcsErrors`, 2440h+n.03 (R123). -/
abbrev Reg.pcntRxFcsErrors (i : Nat) : Reg := ⟨.pcnt, i, 0x03, 0, 0⟩
/-- `Pcnt.RxUndersize`, 2440h+n.04 (R123). -/
abbrev Reg.pcntRxUndersize (i : Nat) : Reg := ⟨.pcnt, i, 0x04, 0, 0⟩
/-- `Pcnt.RxOversize`, 2440h+n.05 (R123). -/
abbrev Reg.pcntRxOversize (i : Nat) : Reg := ⟨.pcnt, i, 0x05, 0, 0⟩
/-- `Pcnt.RxFragments`, 2440h+n.06 (R123). -/
abbrev Reg.pcntRxFragments (i : Nat) : Reg := ⟨.pcnt, i, 0x06, 0, 0⟩
/-- `Pcnt.RxAssemblyErrors`, 2440h+n.07 (R123). -/
abbrev Reg.pcntRxAssemblyErrors (i : Nat) : Reg := ⟨.pcnt, i, 0x07, 0, 0⟩
/-- `Pcnt.RxSmdErrors`, 2440h+n.08 (R123). -/
abbrev Reg.pcntRxSmdErrors (i : Nat) : Reg := ⟨.pcnt, i, 0x08, 0, 0⟩
/-- `Pcnt.RxPause`, 2440h+n.09 (R123). -/
abbrev Reg.pcntRxPause (i : Nat) : Reg := ⟨.pcnt, i, 0x09, 0, 0⟩
/-- `Pcnt.TxFrames`, 2440h+n.0A (R123). -/
abbrev Reg.pcntTxFrames (i : Nat) : Reg := ⟨.pcnt, i, 0x0A, 0, 0⟩
/-- `Pcnt.TxOctets`, 2440h+n.0B (R123). -/
abbrev Reg.pcntTxOctets (i : Nat) : Reg := ⟨.pcnt, i, 0x0B, 0, 0⟩
/-- `Pcnt.TxFragments`, 2440h+n.0C (R123). -/
abbrev Reg.pcntTxFragments (i : Nat) : Reg := ⟨.pcnt, i, 0x0C, 0, 0⟩
/-- `Pcnt.TxHolds`, 2440h+n.0D (R123). -/
abbrev Reg.pcntTxHolds (i : Nat) : Reg := ⟨.pcnt, i, 0x0D, 0, 0⟩
/-- `Pcnt.TxAborted`, 2440h+n.0E (R123). -/
abbrev Reg.pcntTxAborted (i : Nat) : Reg := ⟨.pcnt, i, 0x0E, 0, 0⟩
/-- `Pcnt.TxStomped`, 2440h+n.0F (R123). -/
abbrev Reg.pcntTxStomped (i : Nat) : Reg := ⟨.pcnt, i, 0x0F, 0, 0⟩
/-- `Pcnt.TxLinkDown`, 2440h+n.10 (R123). -/
abbrev Reg.pcntTxLinkDown (i : Nat) : Reg := ⟨.pcnt, i, 0x10, 0, 0⟩
/-- `Pcnt.LinkDowns`, 2440h+n.11 (R123). -/
abbrev Reg.pcntLinkDowns (i : Nat) : Reg := ⟨.pcnt, i, 0x11, 0, 0⟩
/-- `Pcnt.FecCorrected`, 2440h+n.12 (R123). -/
abbrev Reg.pcntFecCorrected (i : Nat) : Reg := ⟨.pcnt, i, 0x12, 0, 0⟩
/-- `Pcnt.FecUncorrected`, 2440h+n.13 (R123). -/
abbrev Reg.pcntFecUncorrected (i : Nat) : Reg := ⟨.pcnt, i, 0x13, 0, 0⟩
/-- `Pcnt.WarmStarts`, 2440h+n.14 (R123). -/
abbrev Reg.pcntWarmStarts (i : Nat) : Reg := ⟨.pcnt, i, 0x14, 0, 0⟩
/-- `Pcnt.WarmFallbacks`, 2440h+n.15 (R123). -/
abbrev Reg.pcntWarmFallbacks (i : Nat) : Reg := ⟨.pcnt, i, 0x15, 0, 0⟩
/-- `Mm.Key`, 4000h+b.10–17 (R134). -/
abbrev Reg.mmKey (i k row : Nat) : Reg := ⟨.mm, i, 0x10 + k, row, 0⟩
/-- `Mm.Mask`, 4000h+b.18–1F (R134). -/
abbrev Reg.mmMask (i k row : Nat) : Reg := ⟨.mm, i, 0x18 + k, row, 0⟩
/-- `Mm.Valid`, 4000h+b.20 (R134). -/
abbrev Reg.mmValid (i row : Nat) : Reg := ⟨.mm, i, 0x20, row, 0⟩
/-- `Mm.Action`, 4000h+b.21 (R134). -/
abbrev Reg.mmAction (i row : Nat) : Reg := ⟨.mm, i, 0x21, row, 0⟩
/-- `Mm.Hits`, 4000h+b.30 (R134). -/
abbrev Reg.mmHits (i row : Nat) : Reg := ⟨.mm, i, 0x30, row, 0⟩
/-- `Conn.AddrAHi`, 4010h.10 (R142). -/
abbrev Reg.connAddrAHi (row : Nat) : Reg := ⟨.conn, 0, 0x10, row, 0⟩
/-- `Conn.AddrALo`, 4010h.11 (R142). -/
abbrev Reg.connAddrALo (row : Nat) : Reg := ⟨.conn, 0, 0x11, row, 0⟩
/-- `Conn.AddrBHi`, 4010h.12 (R142). -/
abbrev Reg.connAddrBHi (row : Nat) : Reg := ⟨.conn, 0, 0x12, row, 0⟩
/-- `Conn.AddrBLo`, 4010h.13 (R142). -/
abbrev Reg.connAddrBLo (row : Nat) : Reg := ⟨.conn, 0, 0x13, row, 0⟩
/-- `Conn.Ports`, 4010h.14 (R142). -/
abbrev Reg.connPorts (row : Nat) : Reg := ⟨.conn, 0, 0x14, row, 0⟩
/-- `Conn.Control`, 4010h.15 (R142). -/
abbrev Reg.connControl (row : Nat) : Reg := ⟨.conn, 0, 0x15, row, 0⟩
/-- `Conn.LastSeen`, 4010h.16 (R142). -/
abbrev Reg.connLastSeen (row : Nat) : Reg := ⟨.conn, 0, 0x16, row, 0⟩
/-- `Conn.Frames`, 4010h.17 (R142). -/
abbrev Reg.connFrames (row : Nat) : Reg := ⟨.conn, 0, 0x17, row, 0⟩
/-- `Cls.BankChain`, 2700h.01 (R154). -/
abbrev Reg.clsBankChain : Reg := ⟨.cls, 0, 0x01, 0, 0⟩
/-- `Cls.ScanPeriod`, 2700h.02 (R154). -/
abbrev Reg.clsScanPeriod : Reg := ⟨.cls, 0, 0x02, 0, 0⟩
/-- `Cls.ClosingTimeout`, 2700h.03 (R154). -/
abbrev Reg.clsClosingTimeout : Reg := ⟨.cls, 0, 0x03, 0, 0⟩
/-- `Cls.ConnCount`, 2700h.04 (R154). -/
abbrev Reg.clsConnCount : Reg := ⟨.cls, 0, 0x04, 0, 0⟩
/-- `Cls.ConnHighWater`, 2700h.05 (R154). -/
abbrev Reg.clsConnHighWater : Reg := ⟨.cls, 0, 0x05, 0, 0⟩
/-- `Cls.ConnInserts`, 2700h.06 (R154). -/
abbrev Reg.clsConnInserts : Reg := ⟨.cls, 0, 0x06, 0, 0⟩
/-- `Cls.ConnExpiries`, 2700h.07 (R154). -/
abbrev Reg.clsConnExpiries : Reg := ⟨.cls, 0, 0x07, 0, 0⟩
/-- `Cls.ConnOverflows`, 2700h.08 (R154). -/
abbrev Reg.clsConnOverflows : Reg := ⟨.cls, 0, 0x08, 0, 0⟩
/-- `Cls.PauseCount`, 2700h.09 (R154). -/
abbrev Reg.clsPauseCount : Reg := ⟨.cls, 0, 0x09, 0, 0⟩
/-- `Cls.LastPause`, 2700h.0A (R154). -/
abbrev Reg.clsLastPause : Reg := ⟨.cls, 0, 0x0A, 0, 0⟩
/-- `Cls.IdleTimeout`, 2700h.10–1F (R154). -/
abbrev Reg.clsIdleTimeout (k : Nat) : Reg := ⟨.cls, 0, 0x10 + k, 0, 0⟩
/-- `Cls.WindowField`, 2700h.20–27 (R154). -/
abbrev Reg.clsWindowField (k : Nat) : Reg := ⟨.cls, 0, 0x20 + k, 0, 0⟩
/-- `Cls.MirrorPort`, 2700h.28–2B (R154). -/
abbrev Reg.clsMirrorPort (k : Nat) : Reg := ⟨.cls, 0, 0x28 + k, 0, 0⟩
/-- `Cls.PortBanks`, 2710h+n.01 (R155). -/
abbrev Reg.clsPortBanks (i : Nat) : Reg := ⟨.clsPort, i, 0x01, 0, 0⟩
/-- `Cls.DefaultAction`, 2710h+n.02 (R155). -/
abbrev Reg.clsDefaultAction (i : Nat) : Reg := ⟨.clsPort, i, 0x02, 0, 0⟩
/-- `Cls.PortProfile`, 2710h+n.03 (R155). -/
abbrev Reg.clsPortProfile (i : Nat) : Reg := ⟨.clsPort, i, 0x03, 0, 0⟩
/-- `Cls.ConnDomain`, 2710h+n.04 (R155). -/
abbrev Reg.clsConnDomain (i : Nat) : Reg := ⟨.clsPort, i, 0x04, 0, 0⟩
/-- `Cls.OddPolicy`, 2710h+n.05 (R155). -/
abbrev Reg.clsOddPolicy (i : Nat) : Reg := ⟨.clsPort, i, 0x05, 0, 0⟩
/-- `Ccnt.Searched`, 2740h+n.01 (R156). -/
abbrev Reg.ccntSearched (i : Nat) : Reg := ⟨.ccnt, i, 0x01, 0, 0⟩
/-- `Ccnt.DefaultHits`, 2740h+n.02 (R156). -/
abbrev Reg.ccntDefaultHits (i : Nat) : Reg := ⟨.ccnt, i, 0x02, 0, 0⟩
/-- `Ccnt.RuleDrops`, 2740h+n.03 (R156). -/
abbrev Reg.ccntRuleDrops (i : Nat) : Reg := ⟨.ccnt, i, 0x03, 0, 0⟩
/-- `Ccnt.DefaultDrops`, 2740h+n.04 (R156). -/
abbrev Reg.ccntDefaultDrops (i : Nat) : Reg := ⟨.ccnt, i, 0x04, 0, 0⟩
/-- `Ccnt.ConnMissDrops`, 2740h+n.05 (R156). -/
abbrev Reg.ccntConnMissDrops (i : Nat) : Reg := ⟨.ccnt, i, 0x05, 0, 0⟩
/-- `Ccnt.ToSlowPath`, 2740h+n.06 (R156). -/
abbrev Reg.ccntToSlowPath (i : Nat) : Reg := ⟨.ccnt, i, 0x06, 0, 0⟩
/-- `Ccnt.SlowPathFull`, 2740h+n.07 (R156). -/
abbrev Reg.ccntSlowPathFull (i : Nat) : Reg := ⟨.ccnt, i, 0x07, 0, 0⟩
/-- `Ccnt.ParseQueueDrops`, 2740h+n.08 (R156). -/
abbrev Reg.ccntParseQueueDrops (i : Nat) : Reg := ⟨.ccnt, i, 0x08, 0, 0⟩
/-- `Ccnt.PauseHeld`, 2740h+n.09 (R156). -/
abbrev Reg.ccntPauseHeld (i : Nat) : Reg := ⟨.ccnt, i, 0x09, 0, 0⟩
/-- `Ccnt.HeaderErrors`, 2740h+n.0A (R156). -/
abbrev Reg.ccntHeaderErrors (i : Nat) : Reg := ⟨.ccnt, i, 0x0A, 0, 0⟩
/-- `Ccnt.ActionSkipped`, 2740h+n.0B (R156). -/
abbrev Reg.ccntActionSkipped (i : Nat) : Reg := ⟨.ccnt, i, 0x0B, 0, 0⟩
/-- `Ccnt.Mirrored`, 2740h+n.0C (R156). -/
abbrev Reg.ccntMirrored (i : Nat) : Reg := ⟨.ccnt, i, 0x0C, 0, 0⟩
/-- `Ccnt.CopiedToHost`, 2740h+n.0D (R156). -/
abbrev Reg.ccntCopiedToHost (i : Nat) : Reg := ⟨.ccnt, i, 0x0D, 0, 0⟩
/-- `Rw.Ops`, 2780h+p.01 (R157). -/
abbrev Reg.rwOps (i : Nat) : Reg := ⟨.rw, i, 0x01, 0, 0⟩
/-- `Rw.Da`, 2780h+p.02 (R157). -/
abbrev Reg.rwDa (i : Nat) : Reg := ⟨.rw, i, 0x02, 0, 0⟩
/-- `Rw.Sa`, 2780h+p.03 (R157). -/
abbrev Reg.rwSa (i : Nat) : Reg := ⟨.rw, i, 0x03, 0, 0⟩
/-- `Rw.Dscp`, 2780h+p.04 (R157). -/
abbrev Reg.rwDscp (i : Nat) : Reg := ⟨.rw, i, 0x04, 0, 0⟩
/-- `Fdb.Key`, 4500h.10 (R179). -/
abbrev Reg.fdbKey (row : Nat) : Reg := ⟨.fdb, 0, 0x10, row, 0⟩
/-- `Fdb.Control`, 4500h.11 (R179). -/
abbrev Reg.fdbControl (row : Nat) : Reg := ⟨.fdb, 0, 0x11, row, 0⟩
/-- `Fdb.PortMask`, 4500h.12 (R179). -/
abbrev Reg.fdbPortMask (row : Nat) : Reg := ⟨.fdb, 0, 0x12, row, 0⟩
/-- `Fdb.Hits`, 4500h.13 (R179). -/
abbrev Reg.fdbHits (row : Nat) : Reg := ⟨.fdb, 0, 0x13, row, 0⟩
/-- `Buf.Mode`, 2500h.01 (R183). -/
abbrev Reg.bufMode : Reg := ⟨.buf, 0, 0x01, 0, 0⟩
/-- `Buf.FreeCells`, 2500h.02 (R183). -/
abbrev Reg.bufFreeCells : Reg := ⟨.buf, 0, 0x02, 0, 0⟩
/-- `Buf.UsedHighWater`, 2500h.03 (R183). -/
abbrev Reg.bufUsedHighWater : Reg := ⟨.buf, 0, 0x03, 0, 0⟩
/-- `Buf.PushOutThreshold`, 2500h.04 (R183). -/
abbrev Reg.bufPushOutThreshold : Reg := ⟨.buf, 0, 0x04, 0, 0⟩
/-- `Buf.HeadroomCells`, 2500h.05 (R183). -/
abbrev Reg.bufHeadroomCells : Reg := ⟨.buf, 0, 0x05, 0, 0⟩
/-- `Buf.PartitionPushOut`, 2500h.06 (R183). -/
abbrev Reg.bufPartitionPushOut : Reg := ⟨.buf, 0, 0x06, 0, 0⟩
/-- `Buf.McastCells`, 2500h.07 (R183). -/
abbrev Reg.bufMcastCells : Reg := ⟨.buf, 0, 0x07, 0, 0⟩
/-- `Buf.StagingCells`, 2500h.08 (R183). -/
abbrev Reg.bufStagingCells : Reg := ⟨.buf, 0, 0x08, 0, 0⟩
/-- `Buf.ThrottleStep`, 2500h.09 (R183). -/
abbrev Reg.bufThrottleStep : Reg := ⟨.buf, 0, 0x09, 0, 0⟩
/-- `Buf.RankFloor`, 2500h.0A (R183). -/
abbrev Reg.bufRankFloor : Reg := ⟨.buf, 0, 0x0A, 0, 0⟩
/-- `Buf.FloorRaises`, 2500h.0B (R183). -/
abbrev Reg.bufFloorRaises : Reg := ⟨.buf, 0, 0x0B, 0, 0⟩
/-- `Buf.EntriesFree`, 2500h.0C (R183). -/
abbrev Reg.bufEntriesFree : Reg := ⟨.buf, 0, 0x0C, 0, 0⟩
/-- `Buf.ReclaimOutcome`, 2500h.0E (R183). -/
abbrev Reg.bufReclaimOutcome : Reg := ⟨.buf, 0, 0x0E, 0, 0⟩
/-- `Buf.LostCells`, 2500h.0F (R183). -/
abbrev Reg.bufLostCells : Reg := ⟨.buf, 0, 0x0F, 0, 0⟩
/-- `Buf.ClassRank`, 2500h.10–17 (R183). -/
abbrev Reg.bufClassRank (k : Nat) : Reg := ⟨.buf, 0, 0x10 + k, 0, 0⟩
/-- `Buf.StagingWait`, 2500h.18–1F (R183). -/
abbrev Reg.bufStagingWait (k : Nat) : Reg := ⟨.buf, 0, 0x18 + k, 0, 0⟩
/-- `Buf.EccCorrected`, 2500h.20 (R183). -/
abbrev Reg.bufEccCorrected : Reg := ⟨.buf, 0, 0x20, 0, 0⟩
/-- `Buf.EccUncorrected`, 2500h.21 (R183). -/
abbrev Reg.bufEccUncorrected : Reg := ⟨.buf, 0, 0x21, 0, 0⟩
/-- `Buf.NoEntryDrops`, 2500h.22 (R183). -/
abbrev Reg.bufNoEntryDrops : Reg := ⟨.buf, 0, 0x22, 0, 0⟩
/-- `Fdb.Count`, 2500h.30 (R183). -/
abbrev Reg.fdbCount : Reg := ⟨.buf, 0, 0x30, 0, 0⟩
/-- `Fdb.LearnedCount`, 2500h.31 (R183). -/
abbrev Reg.fdbLearnedCount : Reg := ⟨.buf, 0, 0x31, 0, 0⟩
/-- `Fdb.LearnFull`, 2500h.32 (R183). -/
abbrev Reg.fdbLearnFull : Reg := ⟨.buf, 0, 0x32, 0, 0⟩
/-- `Fdb.Moves`, 2500h.33 (R183). -/
abbrev Reg.fdbMoves : Reg := ⟨.buf, 0, 0x33, 0, 0⟩
/-- `Q.PartitionCells`, 2510h+n.01 (R184). -/
abbrev Reg.qPartitionCells (i : Nat) : Reg := ⟨.q, i, 0x01, 0, 0⟩
/-- `Q.ProvisionalRank`, 2510h+n.02 (R184). -/
abbrev Reg.qProvisionalRank (i : Nat) : Reg := ⟨.q, i, 0x02, 0, 0⟩
/-- `Q.FlushOutcome`, 2510h+n.04 (R184). -/
abbrev Reg.qFlushOutcome (i : Nat) : Reg := ⟨.q, i, 0x04, 0, 0⟩
/-- `Q.PartitionUsed`, 2510h+n.05 (R184). -/
abbrev Reg.qPartitionUsed (i : Nat) : Reg := ⟨.q, i, 0x05, 0, 0⟩
/-- `Fdb.Learn`, 2510h+n.06 (R184). -/
abbrev Reg.fdbLearn (i : Nat) : Reg := ⟨.q, i, 0x06, 0, 0⟩
/-- `Fdb.PortVid`, 2510h+n.07 (R184). -/
abbrev Reg.fdbPortVid (i : Nat) : Reg := ⟨.q, i, 0x07, 0, 0⟩
/-- `Fdb.UnknownMask`, 2510h+n.08 (R184). -/
abbrev Reg.fdbUnknownMask (i : Nat) : Reg := ⟨.q, i, 0x08, 0, 0⟩
/-- `Q.MaxCells`, 2510h+n.20–3F (R184). -/
abbrev Reg.qMaxCells (i k : Nat) : Reg := ⟨.q, i, 0x20 + k, 0, 0⟩
/-- `Q.DepthCells`, 2510h+n.40–5F (R184). -/
abbrev Reg.qDepthCells (i k : Nat) : Reg := ⟨.q, i, 0x40 + k, 0, 0⟩
/-- `Q.DepthFrames`, 2510h+n.60–7F (R184). -/
abbrev Reg.qDepthFrames (i k : Nat) : Reg := ⟨.q, i, 0x60 + k, 0, 0⟩
/-- `Qcnt.Enqueued`, 2540h+n.01 (R185). -/
abbrev Reg.qcntEnqueued (i : Nat) : Reg := ⟨.qcnt, i, 0x01, 0, 0⟩
/-- `Qcnt.LimitDrops`, 2540h+n.03 (R185). -/
abbrev Reg.qcntLimitDrops (i : Nat) : Reg := ⟨.qcnt, i, 0x03, 0, 0⟩
/-- `Qcnt.FullDrops`, 2540h+n.04 (R185). -/
abbrev Reg.qcntFullDrops (i : Nat) : Reg := ⟨.qcnt, i, 0x04, 0, 0⟩
/-- `Qcnt.NoCellDrops`, 2540h+n.05 (R185). -/
abbrev Reg.qcntNoCellDrops (i : Nat) : Reg := ⟨.qcnt, i, 0x05, 0, 0⟩
/-- `Qcnt.PushOuts`, 2540h+n.06 (R185). -/
abbrev Reg.qcntPushOuts (i : Nat) : Reg := ⟨.qcnt, i, 0x06, 0, 0⟩
/-- `Qcnt.PushedOut`, 2540h+n.07 (R185). -/
abbrev Reg.qcntPushedOut (i : Nat) : Reg := ⟨.qcnt, i, 0x07, 0, 0⟩
/-- `Qcnt.ThrottleDrops`, 2540h+n.08 (R185). -/
abbrev Reg.qcntThrottleDrops (i : Nat) : Reg := ⟨.qcnt, i, 0x08, 0, 0⟩
/-- `Qcnt.StagingDrops`, 2540h+n.09 (R185). -/
abbrev Reg.qcntStagingDrops (i : Nat) : Reg := ⟨.qcnt, i, 0x09, 0, 0⟩
/-- `Qcnt.Flushed`, 2540h+n.0A (R185). -/
abbrev Reg.qcntFlushed (i : Nat) : Reg := ⟨.qcnt, i, 0x0A, 0, 0⟩
/-- `Qcnt.ErrorStomps`, 2540h+n.0B (R185). -/
abbrev Reg.qcntErrorStomps (i : Nat) : Reg := ⟨.qcnt, i, 0x0B, 0, 0⟩
/-- `Qcnt.ErrorDrops`, 2540h+n.0C (R185). -/
abbrev Reg.qcntErrorDrops (i : Nat) : Reg := ⟨.qcnt, i, 0x0C, 0, 0⟩
/-- `Qcnt.FdbMissFloods`, 2540h+n.0D (R185). -/
abbrev Reg.qcntFdbMissFloods (i : Nat) : Reg := ⟨.qcnt, i, 0x0D, 0, 0⟩
/-- `Qcnt.FdbMissDrops`, 2540h+n.0E (R185). -/
abbrev Reg.qcntFdbMissDrops (i : Nat) : Reg := ⟨.qcnt, i, 0x0E, 0, 0⟩
/-- `Qcnt.ReflectDrops`, 2540h+n.0F (R185). -/
abbrev Reg.qcntReflectDrops (i : Nat) : Reg := ⟨.qcnt, i, 0x0F, 0, 0⟩
/-- `Gcl.Gates`, 4200h+n.10 (R186). -/
abbrev Reg.gclGates (i row : Nat) : Reg := ⟨.gcl, i, 0x10, row, 0⟩
/-- `Gcl.Interval`, 4200h+n.11 (R186). -/
abbrev Reg.gclInterval (i row : Nat) : Reg := ⟨.gcl, i, 0x11, row, 0⟩
/-- `Gcl.Op`, 4200h+n.12 (R186). -/
abbrev Reg.gclOp (i row : Nat) : Reg := ⟨.gcl, i, 0x12, row, 0⟩
/-- `Gcl.Event`, 4200h+n.13 (R186). -/
abbrev Reg.gclEvent (i row : Nat) : Reg := ⟨.gcl, i, 0x13, row, 0⟩
/-- `Gcl.Enable`, 2600h+n.01 (R187). -/
abbrev Reg.gclEnable (i : Nat) : Reg := ⟨.sched, i, 0x01, 0, 0⟩
/-- `Gcl.BaseTime`, 2600h+n.02 (R187). -/
abbrev Reg.gclBaseTime (i : Nat) : Reg := ⟨.sched, i, 0x02, 0, 0⟩
/-- `Gcl.CycleTime`, 2600h+n.03 (R187). -/
abbrev Reg.gclCycleTime (i : Nat) : Reg := ⟨.sched, i, 0x03, 0, 0⟩
/-- `Gcl.Length`, 2600h+n.04 (R187). -/
abbrev Reg.gclLength (i : Nat) : Reg := ⟨.sched, i, 0x04, 0, 0⟩
/-- `Gcl.Domain`, 2600h+n.05 (R187). -/
abbrev Reg.gclDomain (i : Nat) : Reg := ⟨.sched, i, 0x05, 0, 0⟩
/-- `Sched.PreemptMask`, 2600h+n.06 (R187). -/
abbrev Reg.schedPreemptMask (i : Nat) : Reg := ⟨.sched, i, 0x06, 0, 0⟩
/-- `Sched.HoldAdvance`, 2600h+n.07 (R187). -/
abbrev Reg.schedHoldAdvance (i : Nat) : Reg := ⟨.sched, i, 0x07, 0, 0⟩
/-- `Sched.ReleaseAdvance`, 2600h+n.08 (R187). -/
abbrev Reg.schedReleaseAdvance (i : Nat) : Reg := ⟨.sched, i, 0x08, 0, 0⟩
/-- `Gcl.OperEntry`, 2600h+n.09 (R187). -/
abbrev Reg.gclOperEntry (i : Nat) : Reg := ⟨.sched, i, 0x09, 0, 0⟩
/-- `Gcl.OperCycleStart`, 2600h+n.0A (R187). -/
abbrev Reg.gclOperCycleStart (i : Nat) : Reg := ⟨.sched, i, 0x0A, 0, 0⟩
/-- `Gcl.OperGates`, 2600h+n.0B (R187). -/
abbrev Reg.gclOperGates (i : Nat) : Reg := ⟨.sched, i, 0x0B, 0, 0⟩
/-- `Sched.CutThrough`, 2600h+n.0C (R187). -/
abbrev Reg.schedCutThrough (i : Nat) : Reg := ⟨.sched, i, 0x0C, 0, 0⟩
/-- `Cbs.IdleSlope`, 2600h+n.10–17 (R187). -/
abbrev Reg.cbsIdleSlope (i k : Nat) : Reg := ⟨.sched, i, 0x10 + k, 0, 0⟩
/-- `Cbs.Credit`, 2600h+n.18–1F (R187). -/
abbrev Reg.cbsCredit (i k : Nat) : Reg := ⟨.sched, i, 0x18 + k, 0, 0⟩
/-- `Sid.Type`, 4300h.10 (R200). -/
abbrev Reg.sidType (row : Nat) : Reg := ⟨.sid, 0, 0x10, row, 0⟩
/-- `Sid.MacVid`, 4300h.11 (R200). -/
abbrev Reg.sidMacVid (row : Nat) : Reg := ⟨.sid, 0, 0x11, row, 0⟩
/-- `Sid.IpHi`, 4300h.12 (R200). -/
abbrev Reg.sidIpHi (row : Nat) : Reg := ⟨.sid, 0, 0x12, row, 0⟩
/-- `Sid.IpLo`, 4300h.13 (R200). -/
abbrev Reg.sidIpLo (row : Nat) : Reg := ⟨.sid, 0, 0x13, row, 0⟩
/-- `Sid.L4`, 4300h.14 (R200). -/
abbrev Reg.sidL4 (row : Nat) : Reg := ⟨.sid, 0, 0x14, row, 0⟩
/-- `Sid.Ports`, 4300h.15 (R200). -/
abbrev Reg.sidPorts (row : Nat) : Reg := ⟨.sid, 0, 0x15, row, 0⟩
/-- `Sid.Control`, 4300h.16 (R200). -/
abbrev Reg.sidControl (row : Nat) : Reg := ⟨.sid, 0, 0x16, row, 0⟩
/-- `Sid.Filter`, 4300h.17 (R200). -/
abbrev Reg.sidFilter (row : Nat) : Reg := ⟨.sid, 0, 0x17, row, 0⟩
/-- `Sid.NextSeq`, 4300h.18 (R200). -/
abbrev Reg.sidNextSeq (row : Nat) : Reg := ⟨.sid, 0, 0x18, row, 0⟩
/-- `Sid.Blocked`, 4300h.19 (R200). -/
abbrev Reg.sidBlocked (row : Nat) : Reg := ⟨.sid, 0, 0x19, row, 0⟩
/-- `Sid.Matched`, 4300h.20 (R200). -/
abbrev Reg.sidMatched (row : Nat) : Reg := ⟨.sid, 0, 0x20, row, 0⟩
/-- `Sid.SduDrops`, 4300h.21 (R200). -/
abbrev Reg.sidSduDrops (row : Nat) : Reg := ⟨.sid, 0, 0x21, row, 0⟩
/-- `Sid.GateDrops`, 4300h.22 (R200). -/
abbrev Reg.sidGateDrops (row : Nat) : Reg := ⟨.sid, 0, 0x22, row, 0⟩
/-- `Sid.MeterDrops`, 4300h.23 (R200). -/
abbrev Reg.sidMeterDrops (row : Nat) : Reg := ⟨.sid, 0, 0x23, row, 0⟩
/-- `Sg.Mode`, 4301h.10 (R203). -/
abbrev Reg.sgMode (row : Nat) : Reg := ⟨.sg, 0, 0x10, row, 0⟩
/-- `Sg.BaseTime`, 4301h.11 (R203). -/
abbrev Reg.sgBaseTime (row : Nat) : Reg := ⟨.sg, 0, 0x11, row, 0⟩
/-- `Sg.CycleTime`, 4301h.12 (R203). -/
abbrev Reg.sgCycleTime (row : Nat) : Reg := ⟨.sg, 0, 0x12, row, 0⟩
/-- `Sg.OpenOffset`, 4301h.13 (R203). -/
abbrev Reg.sgOpenOffset (row : Nat) : Reg := ⟨.sg, 0, 0x13, row, 0⟩
/-- `Sg.OpenLength`, 4301h.14 (R203). -/
abbrev Reg.sgOpenLength (row : Nat) : Reg := ⟨.sg, 0, 0x14, row, 0⟩
/-- `Sg.Control`, 4301h.15 (R203). -/
abbrev Reg.sgControl (row : Nat) : Reg := ⟨.sg, 0, 0x15, row, 0⟩
/-- `Sg.ClosedInvalid`, 4301h.16 (R203). -/
abbrev Reg.sgClosedInvalid (row : Nat) : Reg := ⟨.sg, 0, 0x16, row, 0⟩
/-- `Fm.Cir`, 4302h.10 (R204). -/
abbrev Reg.fmCir (row : Nat) : Reg := ⟨.fm, 0, 0x10, row, 0⟩
/-- `Fm.Cbs`, 4302h.11 (R204). -/
abbrev Reg.fmCbs (row : Nat) : Reg := ⟨.fm, 0, 0x11, row, 0⟩
/-- `Fm.Eir`, 4302h.12 (R204). -/
abbrev Reg.fmEir (row : Nat) : Reg := ⟨.fm, 0, 0x12, row, 0⟩
/-- `Fm.Ebs`, 4302h.13 (R204). -/
abbrev Reg.fmEbs (row : Nat) : Reg := ⟨.fm, 0, 0x13, row, 0⟩
/-- `Fm.Control`, 4302h.14 (R204). -/
abbrev Reg.fmControl (row : Nat) : Reg := ⟨.fm, 0, 0x14, row, 0⟩
/-- `Fm.MarkedRed`, 4302h.15 (R204). -/
abbrev Reg.fmMarkedRed (row : Nat) : Reg := ⟨.fm, 0, 0x15, row, 0⟩
/-- `Fm.Green`, 4302h.16 (R204). -/
abbrev Reg.fmGreen (row : Nat) : Reg := ⟨.fm, 0, 0x16, row, 0⟩
/-- `Fm.Yellow`, 4302h.17 (R204). -/
abbrev Reg.fmYellow (row : Nat) : Reg := ⟨.fm, 0, 0x17, row, 0⟩
/-- `Fm.Red`, 4302h.18 (R204). -/
abbrev Reg.fmRed (row : Nat) : Reg := ⟨.fm, 0, 0x18, row, 0⟩
/-- `Sr.Config`, 4303h.10 (R205). -/
abbrev Reg.srConfig (row : Nat) : Reg := ⟨.sr, 0, 0x10, row, 0⟩
/-- `Sr.RecovSeq`, 4303h.11 (R205). -/
abbrev Reg.srRecovSeq (row : Nat) : Reg := ⟨.sr, 0, 0x11, row, 0⟩
/-- `Sr.History`, 4303h.12 (R205). -/
abbrev Reg.srHistory (row : Nat) : Reg := ⟨.sr, 0, 0x12, row, 0⟩
/-- `Sr.Passed`, 4303h.13 (R205). -/
abbrev Reg.srPassed (row : Nat) : Reg := ⟨.sr, 0, 0x13, row, 0⟩
/-- `Sr.Discarded`, 4303h.14 (R205). -/
abbrev Reg.srDiscarded (row : Nat) : Reg := ⟨.sr, 0, 0x14, row, 0⟩
/-- `Sr.OutOfOrder`, 4303h.15 (R205). -/
abbrev Reg.srOutOfOrder (row : Nat) : Reg := ⟨.sr, 0, 0x15, row, 0⟩
/-- `Sr.Rogue`, 4303h.16 (R205). -/
abbrev Reg.srRogue (row : Nat) : Reg := ⟨.sr, 0, 0x16, row, 0⟩
/-- `Sr.Lost`, 4303h.17 (R205). -/
abbrev Reg.srLost (row : Nat) : Reg := ⟨.sr, 0, 0x17, row, 0⟩
/-- `Sr.Resets`, 4303h.18 (R205). -/
abbrev Reg.srResets (row : Nat) : Reg := ⟨.sr, 0, 0x18, row, 0⟩
/-- `Sr.Tagless`, 4303h.19 (R205). -/
abbrev Reg.srTagless (row : Nat) : Reg := ⟨.sr, 0, 0x19, row, 0⟩
/-- `Sr.Unverified`, 4303h.1A (R205). -/
abbrev Reg.srUnverified (row : Nat) : Reg := ⟨.sr, 0, 0x1A, row, 0⟩
/-- `Scnt.NoFit`, 2640h+n.01 (R215). -/
abbrev Reg.scntNoFit (i : Nat) : Reg := ⟨.scnt, i, 0x01, 0, 0⟩
/-- `Scnt.Overruns`, 2640h+n.02 (R215). -/
abbrev Reg.scntOverruns (i : Nat) : Reg := ⟨.scnt, i, 0x02, 0, 0⟩
/-- `Scnt.CutThrough`, 2640h+n.03 (R215). -/
abbrev Reg.scntCutThrough (i : Nat) : Reg := ⟨.scnt, i, 0x03, 0, 0⟩
/-- `Scnt.CutThroughDeclined`, 2640h+n.04 (R215). -/
abbrev Reg.scntCutThroughDeclined (i : Nat) : Reg := ⟨.scnt, i, 0x04, 0, 0⟩
/-- `Scnt.CutThroughStomps`, 2640h+n.05 (R215). -/
abbrev Reg.scntCutThroughStomps (i : Nat) : Reg := ⟨.scnt, i, 0x05, 0, 0⟩
/-- `Scnt.ListSwitches`, 2640h+n.06 (R215). -/
abbrev Reg.scntListSwitches (i : Nat) : Reg := ⟨.scnt, i, 0x06, 0, 0⟩
/-- `Scnt.Extended`, 2640h+n.07 (R215). -/
abbrev Reg.scntExtended (i : Nat) : Reg := ⟨.scnt, i, 0x07, 0, 0⟩
/-- `Scnt.DomainStops`, 2640h+n.08 (R215). -/
abbrev Reg.scntDomainStops (i : Nat) : Reg := ⟨.scnt, i, 0x08, 0, 0⟩
/-- `Lc.TxPipesInService`, 2801h.01 (R244). -/
abbrev Reg.lcTxPipesInService : Reg := ⟨.lc, 0, 0x01, 0, 0⟩
/-- `Lc.RxPipesInService`, 2801h.02 (R244). -/
abbrev Reg.lcRxPipesInService : Reg := ⟨.lc, 0, 0x02, 0, 0⟩
/-- `Lc.TxRetiredMask`, 2801h.03 (R244). -/
abbrev Reg.lcTxRetiredMask : Reg := ⟨.lc, 0, 0x03, 0, 0⟩
/-- `Lc.RxRetiredMask`, 2801h.04 (R244). -/
abbrev Reg.lcRxRetiredMask : Reg := ⟨.lc, 0, 0x04, 0, 0⟩
/-- `Lc.CheckMismatches`, 2801h.05 (R244). -/
abbrev Reg.lcCheckMismatches : Reg := ⟨.lc, 0, 0x05, 0, 0⟩
/-- `Lc.Recomputes`, 2801h.06 (R244). -/
abbrev Reg.lcRecomputes : Reg := ⟨.lc, 0, 0x06, 0, 0⟩
/-- `Lc.TxCapacity`, 2801h.07 (R244). -/
abbrev Reg.lcTxCapacity : Reg := ⟨.lc, 0, 0x07, 0, 0⟩
/-- `Lc.RxCapacity`, 2801h.08 (R244). -/
abbrev Reg.lcRxCapacity : Reg := ⟨.lc, 0, 0x08, 0, 0⟩
/-- `Lc.TxGranted`, 2801h.09 (R244). -/
abbrev Reg.lcTxGranted : Reg := ⟨.lc, 0, 0x09, 0, 0⟩
/-- `Lc.FallbackRetired`, 2801h.0A (R244). -/
abbrev Reg.lcFallbackRetired : Reg := ⟨.lc, 0, 0x0A, 0, 0⟩
/-- `Lc.TxChannel`, 2810h+n.01 (R245). -/
abbrev Reg.lcTxChannel (i : Nat) : Reg := ⟨.lcPort, i, 0x01, 0, 0⟩
/-- `Lc.TxSciMode`, 2810h+n.02 (R245). -/
abbrev Reg.lcTxSciMode (i : Nat) : Reg := ⟨.lcPort, i, 0x02, 0, 0⟩
/-- `Lc.RxImplicitSci`, 2810h+n.03 (R245). -/
abbrev Reg.lcRxImplicitSci (i : Nat) : Reg := ⟨.lcPort, i, 0x03, 0, 0⟩
/-- `Lc.RxSpeculate`, 2810h+n.04 (R245). -/
abbrev Reg.lcRxSpeculate (i : Nat) : Reg := ⟨.lcPort, i, 0x04, 0, 0⟩
/-- `Lc.RxProtect`, 2810h+n.05 (R245). -/
abbrev Reg.lcRxProtect (i : Nat) : Reg := ⟨.lcPort, i, 0x05, 0, 0⟩
/-- `Lc.TxProtected`, 2880h+n.01 (R246). -/
abbrev Reg.lcTxProtected (i : Nat) : Reg := ⟨.lcCnt, i, 0x01, 0, 0⟩
/-- `Lc.TxClear`, 2880h+n.02 (R246). -/
abbrev Reg.lcTxClear (i : Nat) : Reg := ⟨.lcCnt, i, 0x02, 0, 0⟩
/-- `Lc.TxSwaps`, 2880h+n.03 (R246). -/
abbrev Reg.lcTxSwaps (i : Nat) : Reg := ⟨.lcCnt, i, 0x03, 0, 0⟩
/-- `Lc.TxColdStarts`, 2880h+n.04 (R246). -/
abbrev Reg.lcTxColdStarts (i : Nat) : Reg := ⟨.lcCnt, i, 0x04, 0, 0⟩
/-- `Lc.TxDeferred`, 2880h+n.05 (R246). -/
abbrev Reg.lcTxDeferred (i : Nat) : Reg := ⟨.lcCnt, i, 0x05, 0, 0⟩
/-- `Lc.TxStarved`, 2880h+n.06 (R246). -/
abbrev Reg.lcTxStarved (i : Nat) : Reg := ⟨.lcCnt, i, 0x06, 0, 0⟩
/-- `Lc.TxGapPushOut`, 2880h+n.07 (R246). -/
abbrev Reg.lcTxGapPushOut (i : Nat) : Reg := ⟨.lcCnt, i, 0x07, 0, 0⟩
/-- `Lc.TxGapFlush`, 2880h+n.08 (R246). -/
abbrev Reg.lcTxGapFlush (i : Nat) : Reg := ⟨.lcCnt, i, 0x08, 0, 0⟩
/-- `Lc.TxGapRemoved`, 2880h+n.09 (R246). -/
abbrev Reg.lcTxGapRemoved (i : Nat) : Reg := ⟨.lcCnt, i, 0x09, 0, 0⟩
/-- `Lc.TxGapHandover`, 2880h+n.0A (R246). -/
abbrev Reg.lcTxGapHandover (i : Nat) : Reg := ⟨.lcCnt, i, 0x0A, 0, 0⟩
/-- `Lc.RxSpecHits`, 2880h+n.0B (R246). -/
abbrev Reg.lcRxSpecHits (i : Nat) : Reg := ⟨.lcCnt, i, 0x0B, 0, 0⟩
/-- `Lc.RxSpecMisses`, 2880h+n.0C (R246). -/
abbrev Reg.lcRxSpecMisses (i : Nat) : Reg := ⟨.lcCnt, i, 0x0C, 0, 0⟩
/-- `Lc.RxOk`, 2880h+n.0D (R246). -/
abbrev Reg.lcRxOk (i : Nat) : Reg := ⟨.lcCnt, i, 0x0D, 0, 0⟩
/-- `Lc.RxInvalid`, 2880h+n.0E (R246). -/
abbrev Reg.lcRxInvalid (i : Nat) : Reg := ⟨.lcCnt, i, 0x0E, 0, 0⟩
/-- `Lc.RxLate`, 2880h+n.0F (R246). -/
abbrev Reg.lcRxLate (i : Nat) : Reg := ⟨.lcCnt, i, 0x0F, 0, 0⟩
/-- `Lc.RxBadTag`, 2880h+n.10 (R246). -/
abbrev Reg.lcRxBadTag (i : Nat) : Reg := ⟨.lcCnt, i, 0x10, 0, 0⟩
/-- `Lc.RxUntaggedDrops`, 2880h+n.11 (R246). -/
abbrev Reg.lcRxUntaggedDrops (i : Nat) : Reg := ⟨.lcCnt, i, 0x11, 0, 0⟩
/-- `Lc.RxCheckDrops`, 2880h+n.12 (R246). -/
abbrev Reg.lcRxCheckDrops (i : Nat) : Reg := ⟨.lcCnt, i, 0x12, 0, 0⟩
/-- `Lc.RxKeystreamDrops`, 2880h+n.13 (R246). -/
abbrev Reg.lcRxKeystreamDrops (i : Nat) : Reg := ⟨.lcCnt, i, 0x13, 0, 0⟩
/-- `Lc.RxStompsRaised`, 2880h+n.14 (R246). -/
abbrev Reg.lcRxStompsRaised (i : Nat) : Reg := ⟨.lcCnt, i, 0x14, 0, 0⟩
/-- `Sc.Sci`, 2800h.01 (R250). -/
abbrev Reg.scSci : Reg := ⟨.sc, 0, 0x01, 0, 0⟩
/-- `Sc.Flags`, 2800h.02 (R250). -/
abbrev Reg.scFlags : Reg := ⟨.sc, 0, 0x02, 0, 0⟩
/-- `Sc.Ports`, 2800h.03 (R250). -/
abbrev Reg.scPorts : Reg := ⟨.sc, 0, 0x03, 0, 0⟩
/-- `Sc.Channel`, 2800h.04 (R250). -/
abbrev Reg.scChannel : Reg := ⟨.sc, 0, 0x04, 0, 0⟩
/-- `Sc.KekSlot`, 2800h.05 (R250). -/
abbrev Reg.scKekSlot : Reg := ⟨.sc, 0, 0x05, 0, 0⟩
/-- `Sc.Wrapped`, 2800h.06 (R250). -/
abbrev Reg.scWrapped : Reg := ⟨.sc, 0, 0x06, 0, 0⟩
/-- `Sc.InstallParams`, 2800h.07 (R250). -/
abbrev Reg.scInstallParams : Reg := ⟨.sc, 0, 0x07, 0, 0⟩
/-- `Sc.StartPn`, 2800h.08 (R250). -/
abbrev Reg.scStartPn : Reg := ⟨.sc, 0, 0x08, 0, 0⟩
/-- `Sc.Ssci`, 2800h.09 (R250). -/
abbrev Reg.scSsci : Reg := ⟨.sc, 0, 0x09, 0, 0⟩
/-- `Sc.Salt`, 2800h.0A (R250). -/
abbrev Reg.scSalt : Reg := ⟨.sc, 0, 0x0A, 0, 0⟩
/-- `Sc.PnThreshold`, 2800h.0B (R250). -/
abbrev Reg.scPnThreshold : Reg := ⟨.sc, 0, 0x0B, 0, 0⟩
/-- `Sc.ReplayWindow`, 2800h.0C (R250). -/
abbrev Reg.scReplayWindow : Reg := ⟨.sc, 0, 0x0C, 0, 0⟩
/-- `Sc.Outcome`, 2800h.0E (R250). -/
abbrev Reg.scOutcome : Reg := ⟨.sc, 0, 0x0E, 0, 0⟩
/-- `Sc.Result`, 2800h.0F (R250). -/
abbrev Reg.scResult : Reg := ⟨.sc, 0, 0x0F, 0, 0⟩
/-- `Sa.State`, 4100h.10 (R254). -/
abbrev Reg.saState (row : Nat) : Reg := ⟨.saRow, 0, 0x10, row, 0⟩
/-- `Sa.Control`, 4100h.11 (R254). -/
abbrev Reg.saControl (row : Nat) : Reg := ⟨.saRow, 0, 0x11, row, 0⟩
/-- `Sa.Params`, 4100h.12 (R254). -/
abbrev Reg.saParams (row : Nat) : Reg := ⟨.saRow, 0, 0x12, row, 0⟩
/-- `Sa.NextPn`, 4100h.13 (R254). -/
abbrev Reg.saNextPn (row : Nat) : Reg := ⟨.saRow, 0, 0x13, row, 0⟩
/-- `Sa.PnThreshold`, 4100h.14 (R254). -/
abbrev Reg.saPnThreshold (row : Nat) : Reg := ⟨.saRow, 0, 0x14, row, 0⟩
/-- `Sa.ReplayWindow`, 4100h.15 (R254). -/
abbrev Reg.saReplayWindow (row : Nat) : Reg := ⟨.saRow, 0, 0x15, row, 0⟩
/-- `Sa.Ssci`, 4100h.16 (R254). -/
abbrev Reg.saSsci (row : Nat) : Reg := ⟨.saRow, 0, 0x16, row, 0⟩
/-- `Sa.ChannelSci`, 4100h.17 (R254). -/
abbrev Reg.saChannelSci (row : Nat) : Reg := ⟨.saRow, 0, 0x17, row, 0⟩
/-- `Sa.ChannelPorts`, 4100h.18 (R254). -/
abbrev Reg.saChannelPorts (row : Nat) : Reg := ⟨.saRow, 0, 0x18, row, 0⟩
/-- `Sa.ActiveSince`, 4100h.19 (R254). -/
abbrev Reg.saActiveSince (row : Nat) : Reg := ⟨.saRow, 0, 0x19, row, 0⟩
/-- `Sa.Frames`, 4100h.1A (R254). -/
abbrev Reg.saFrames (row : Nat) : Reg := ⟨.saRow, 0, 0x1A, row, 0⟩
/-- `Sa.Rejected`, 4100h.1B (R254). -/
abbrev Reg.saRejected (row : Nat) : Reg := ⟨.saRow, 0, 0x1B, row, 0⟩
/-- `Sa.Gaps`, 4100h.1C (R254). -/
abbrev Reg.saGaps (row : Nat) : Reg := ⟨.saRow, 0, 0x1C, row, 0⟩
/-- `Sa.ExhaustDrops`, 4100h.1D (R254). -/
abbrev Reg.saExhaustDrops (row : Nat) : Reg := ⟨.saRow, 0, 0x1D, row, 0⟩
/-- `Sa.ChannelsOpen`, 2840h.01 (R268). -/
abbrev Reg.saChannelsOpen : Reg := ⟨.sa, 0, 0x01, 0, 0⟩
/-- `Sa.SlotsLive`, 2840h.02 (R268). -/
abbrev Reg.saSlotsLive : Reg := ⟨.sa, 0, 0x02, 0, 0⟩
/-- `Sa.NextKindleTime`, 2840h.03 (R268). -/
abbrev Reg.saNextKindleTime : Reg := ⟨.sa, 0, 0x03, 0, 0⟩
/-- `Sa.ExhaustHold`, 2840h.04 (R268). -/
abbrev Reg.saExhaustHold : Reg := ⟨.sa, 0, 0x04, 0, 0⟩
/-- `Sa.RxOverlap`, 2840h.05 (R268). -/
abbrev Reg.saRxOverlap : Reg := ⟨.sa, 0, 0x05, 0, 0⟩
/-- `Sa.EventFifo`, 2840h.06 (R268). -/
abbrev Reg.saEventFifo : Reg := ⟨.sa, 0, 0x06, 0, 0⟩
/-- `Sa.EventOverflows`, 2840h.07 (R268). -/
abbrev Reg.saEventOverflows : Reg := ⟨.sa, 0, 0x07, 0, 0⟩
/-- `Sa.Installs`, 2840h.08 (R268). -/
abbrev Reg.saInstalls : Reg := ⟨.sa, 0, 0x08, 0, 0⟩
/-- `Sa.UnwrapFailures`, 2840h.09 (R268). -/
abbrev Reg.saUnwrapFailures : Reg := ⟨.sa, 0, 0x09, 0, 0⟩
/-- `Scp.TxNoSaDrops`, 28B0h+n.01 (R269). -/
abbrev Reg.scpTxNoSaDrops (i : Nat) : Reg := ⟨.scp, i, 0x01, 0, 0⟩
/-- `Scp.TxExhaustDrops`, 28B0h+n.02 (R269). -/
abbrev Reg.scpTxExhaustDrops (i : Nat) : Reg := ⟨.scp, i, 0x02, 0, 0⟩
/-- `Scp.RxUnknownSci`, 28B0h+n.03 (R269). -/
abbrev Reg.scpRxUnknownSci (i : Nat) : Reg := ⟨.scp, i, 0x03, 0, 0⟩
/-- `Scp.RxNoSa`, 28B0h+n.04 (R269). -/
abbrev Reg.scpRxNoSa (i : Nat) : Reg := ⟨.scp, i, 0x04, 0, 0⟩
/-- `Scp.RxSuperseded`, 28B0h+n.05 (R269). -/
abbrev Reg.scpRxSuperseded (i : Nat) : Reg := ⟨.scp, i, 0x05, 0, 0⟩
/-- `Sp.QueueFrames`, 24C0h.01 (R287). -/
abbrev Reg.spQueueFrames : Reg := ⟨.sp, 0, 0x01, 0, 0⟩
/-- `Sp.MaxCells`, 24C0h.02 (R287). -/
abbrev Reg.spMaxCells : Reg := ⟨.sp, 0, 0x02, 0, 0⟩
/-- `Sp.ReorderTimeout`, 24C0h.03 (R287). -/
abbrev Reg.spReorderTimeout : Reg := ⟨.sp, 0, 0x03, 0, 0⟩
/-- `Sp.TagsOutstanding`, 24C0h.04 (R287). -/
abbrev Reg.spTagsOutstanding : Reg := ⟨.sp, 0, 0x04, 0, 0⟩
/-- `Sp.Dispatched`, 24C0h.05 (R287). -/
abbrev Reg.spDispatched : Reg := ⟨.sp, 0, 0x05, 0, 0⟩
/-- `Sp.Released`, 24C0h.06 (R287). -/
abbrev Reg.spReleased : Reg := ⟨.sp, 0, 0x06, 0, 0⟩
/-- `Sp.ReorderTimeouts`, 24C0h.07 (R287). -/
abbrev Reg.spReorderTimeouts : Reg := ⟨.sp, 0, 0x07, 0, 0⟩
/-- `Sp.LateOutputs`, 24C0h.08 (R287). -/
abbrev Reg.spLateOutputs : Reg := ⟨.sp, 0, 0x08, 0, 0⟩
/-- `Sp.LoopDrops`, 24C0h.09 (R287). -/
abbrev Reg.spLoopDrops : Reg := ⟨.sp, 0, 0x09, 0, 0⟩
/-- `Sp.NoEngineDrops`, 24C0h.0A (R287). -/
abbrev Reg.spNoEngineDrops : Reg := ⟨.sp, 0, 0x0A, 0, 0⟩
/-- `Sp.DispatchStalls`, 24C0h.0B (R287). -/
abbrev Reg.spDispatchStalls : Reg := ⟨.sp, 0, 0x0B, 0, 0⟩
/-- `Sp.ReasonMode`, 24C0h.11–18 (R287). -/
abbrev Reg.spReasonMode (k : Nat) : Reg := ⟨.sp, 0, 0x11 + k, 0, 0⟩
/-- `Se.Run`, 24D0h+e.01 (R288). -/
abbrev Reg.seRun (i : Nat) : Reg := ⟨.se, i, 0x01, 0, 0⟩
/-- `Se.State`, 24D0h+e.02 (R288). -/
abbrev Reg.seState (i : Nat) : Reg := ⟨.se, i, 0x02, 0, 0⟩
/-- `Se.EntryPc`, 24D0h+e.03 (R288). -/
abbrev Reg.seEntryPc (i : Nat) : Reg := ⟨.se, i, 0x03, 0, 0⟩
/-- `Se.FaultCause`, 24D0h+e.04 (R288). -/
abbrev Reg.seFaultCause (i : Nat) : Reg := ⟨.se, i, 0x04, 0, 0⟩
/-- `Se.FaultPc`, 24D0h+e.05 (R288). -/
abbrev Reg.seFaultPc (i : Nat) : Reg := ⟨.se, i, 0x05, 0, 0⟩
/-- `Se.Imem`, 24D0h+e.06 (R288). -/
abbrev Reg.seImem (i : Nat) : Reg := ⟨.se, i, 0x06, 0, 0⟩
/-- `Se.Dmem`, 24D0h+e.07 (R288). -/
abbrev Reg.seDmem (i : Nat) : Reg := ⟨.se, i, 0x07, 0, 0⟩
/-- `Se.InboxBytes`, 24D0h+e.08 (R288). -/
abbrev Reg.seInboxBytes (i : Nat) : Reg := ⟨.se, i, 0x08, 0, 0⟩
/-- `Se.PacketsIn`, 24D0h+e.09 (R288). -/
abbrev Reg.sePacketsIn (i : Nat) : Reg := ⟨.se, i, 0x09, 0, 0⟩
/-- `Se.PacketsOut`, 24D0h+e.0A (R288). -/
abbrev Reg.sePacketsOut (i : Nat) : Reg := ⟨.se, i, 0x0A, 0, 0⟩
/-- `Se.InOverruns`, 24D0h+e.0B (R288). -/
abbrev Reg.seInOverruns (i : Nat) : Reg := ⟨.se, i, 0x0B, 0, 0⟩
/-- `Se.Drops`, 24D0h+e.0C (R288). -/
abbrev Reg.seDrops (i : Nat) : Reg := ⟨.se, i, 0x0C, 0, 0⟩
/-- `Se.OutFormatErrors`, 24D0h+e.0D (R288). -/
abbrev Reg.seOutFormatErrors (i : Nat) : Reg := ⟨.se, i, 0x0D, 0, 0⟩
/-- `Se.StopDiscards`, 24D0h+e.0E (R288). -/
abbrev Reg.seStopDiscards (i : Nat) : Reg := ⟨.se, i, 0x0E, 0, 0⟩
/-- `RxRing.Base`, 24E0h+q.01, 24C1h.01 (R289). -/
abbrev Reg.rxRingBase (i : Nat) : Reg := ⟨.rxRing, i, 0x01, 0, 0⟩
/-- `TxRing.Base`, 24E0h+q.01, 24C1h.01 (R289). -/
abbrev Reg.txRingBase : Reg := ⟨.txRing, 0, 0x01, 0, 0⟩
/-- `RxRing.SizeLog2`, 24E0h+q.02, 24C1h.02 (R289). -/
abbrev Reg.rxRingSizeLog2 (i : Nat) : Reg := ⟨.rxRing, i, 0x02, 0, 0⟩
/-- `TxRing.SizeLog2`, 24E0h+q.02, 24C1h.02 (R289). -/
abbrev Reg.txRingSizeLog2 : Reg := ⟨.txRing, 0, 0x02, 0, 0⟩
/-- `RxRing.Enable`, 24E0h+q.03, 24C1h.03 (R289). -/
abbrev Reg.rxRingEnable (i : Nat) : Reg := ⟨.rxRing, i, 0x03, 0, 0⟩
/-- `TxRing.Enable`, 24E0h+q.03, 24C1h.03 (R289). -/
abbrev Reg.txRingEnable : Reg := ⟨.txRing, 0, 0x03, 0, 0⟩
/-- `RxRing.Produce`, 24E0h+q.04, 24C1h.04 (R289). -/
abbrev Reg.rxRingProduce (i : Nat) : Reg := ⟨.rxRing, i, 0x04, 0, 0⟩
/-- `TxRing.Produce`, 24E0h+q.04, 24C1h.04 (R289). -/
abbrev Reg.txRingProduce : Reg := ⟨.txRing, 0, 0x04, 0, 0⟩
/-- `RxRing.Consume`, 24E0h+q.05, 24C1h.05 (R289). -/
abbrev Reg.rxRingConsume (i : Nat) : Reg := ⟨.rxRing, i, 0x05, 0, 0⟩
/-- `TxRing.Consume`, 24E0h+q.05, 24C1h.05 (R289). -/
abbrev Reg.txRingConsume : Reg := ⟨.txRing, 0, 0x05, 0, 0⟩
/-- `Vlt.Slot`, 2900h.01 (R297). -/
abbrev Reg.vltSlot : Reg := ⟨.vlt, 0, 0x01, 0, 0⟩
/-- `Vlt.AuxSlot`, 2900h.02 (R297). -/
abbrev Reg.vltAuxSlot : Reg := ⟨.vlt, 0, 0x02, 0, 0⟩
/-- `Vlt.Class`, 2900h.03 (R297). -/
abbrev Reg.vltClass : Reg := ⟨.vlt, 0, 0x03, 0, 0⟩
/-- `Vlt.Algorithm`, 2900h.04 (R297). -/
abbrev Reg.vltAlgorithm : Reg := ⟨.vlt, 0, 0x04, 0, 0⟩
/-- `Vlt.Policy`, 2900h.05 (R297). -/
abbrev Reg.vltPolicy : Reg := ⟨.vlt, 0, 0x05, 0, 0⟩
/-- `Vlt.Digest`, 2900h.07 (R297). -/
abbrev Reg.vltDigest : Reg := ⟨.vlt, 0, 0x07, 0, 0⟩
/-- `Vlt.Input`, 2900h.08 (R297). -/
abbrev Reg.vltInput : Reg := ⟨.vlt, 0, 0x08, 0, 0⟩
/-- `Vlt.InputLength`, 2900h.09 (R297). -/
abbrev Reg.vltInputLength : Reg := ⟨.vlt, 0, 0x09, 0, 0⟩
/-- `Vlt.KdfFormat`, 2900h.0A (R297). -/
abbrev Reg.vltKdfFormat : Reg := ⟨.vlt, 0, 0x0A, 0, 0⟩
/-- `Vlt.Outcome`, 2900h.0C (R297). -/
abbrev Reg.vltOutcome : Reg := ⟨.vlt, 0, 0x0C, 0, 0⟩
/-- `Vlt.Output`, 2900h.0D (R297). -/
abbrev Reg.vltOutput : Reg := ⟨.vlt, 0, 0x0D, 0, 0⟩
/-- `Vlt.OutputLength`, 2900h.0E (R297). -/
abbrev Reg.vltOutputLength : Reg := ⟨.vlt, 0, 0x0E, 0, 0⟩
/-- `Vlt.SlotInfo`, 2900h.10 (R297). -/
abbrev Reg.vltSlotInfo : Reg := ⟨.vlt, 0, 0x10, 0, 0⟩
/-- `Vlt.SlotPublic`, 2900h.11 (R297). -/
abbrev Reg.vltSlotPublic : Reg := ⟨.vlt, 0, 0x11, 0, 0⟩
/-- `Vlt.LifeCycle`, 2901h.01 (R317). -/
abbrev Reg.vltLifeCycle : Reg := ⟨.vltG, 0, 0x01, 0, 0⟩
/-- `Vlt.TransitionOutcome`, 2901h.04 (R317). -/
abbrev Reg.vltTransitionOutcome : Reg := ⟨.vltG, 0, 0x04, 0, 0⟩
/-- `Vlt.CompletedAtStart`, 2901h.05 (R317). -/
abbrev Reg.vltCompletedAtStart : Reg := ⟨.vltG, 0, 0x05, 0, 0⟩
/-- `Vlt.State`, 2901h.06 (R317). -/
abbrev Reg.vltState : Reg := ⟨.vltG, 0, 0x06, 0, 0⟩
/-- `Vlt.SlotsUsed`, 2901h.07 (R317). -/
abbrev Reg.vltSlotsUsed : Reg := ⟨.vltG, 0, 0x07, 0, 0⟩
/-- `Vlt.AttestCounter`, 2901h.08 (R317). -/
abbrev Reg.vltAttestCounter : Reg := ⟨.vltG, 0, 0x08, 0, 0⟩
/-- `Vlt.DrbgReseeds`, 2901h.09 (R317). -/
abbrev Reg.vltDrbgReseeds : Reg := ⟨.vltG, 0, 0x09, 0, 0⟩
/-- `Vlt.EntropyFailures`, 2901h.0A (R317). -/
abbrev Reg.vltEntropyFailures : Reg := ⟨.vltG, 0, 0x0A, 0, 0⟩
/-- `Vlt.SlotLoadFailures`, 2901h.0B (R317). -/
abbrev Reg.vltSlotLoadFailures : Reg := ⟨.vltG, 0, 0x0B, 0, 0⟩
/-- `Cr.Context`, 2A01h.01 (R322). -/
abbrev Reg.crContext : Reg := ⟨.cr, 0, 0x01, 0, 0⟩
/-- `Cr.KeySlot`, 2A01h.02 (R322). -/
abbrev Reg.crKeySlot : Reg := ⟨.cr, 0, 0x02, 0, 0⟩
/-- `Cr.Mode`, 2A01h.03 (R322). -/
abbrev Reg.crMode : Reg := ⟨.cr, 0, 0x03, 0, 0⟩
/-- `Cr.Field`, 2A01h.04 (R322). -/
abbrev Reg.crField : Reg := ⟨.cr, 0, 0x04, 0, 0⟩
/-- `Cr.CounterStart`, 2A01h.05 (R322). -/
abbrev Reg.crCounterStart : Reg := ⟨.cr, 0, 0x05, 0, 0⟩
/-- `Cr.CounterEnd`, 2A01h.06 (R322). -/
abbrev Reg.crCounterEnd : Reg := ⟨.cr, 0, 0x06, 0, 0⟩
/-- `Cr.Outcome`, 2A01h.08 (R322). -/
abbrev Reg.crOutcome : Reg := ⟨.cr, 0, 0x08, 0, 0⟩
/-- `Cr.CounterNext`, 2A01h.09 (R322). -/
abbrev Reg.crCounterNext : Reg := ⟨.cr, 0, 0x09, 0, 0⟩
/-- `Cr.ContextInfo`, 2A01h.0A (R322). -/
abbrev Reg.crContextInfo : Reg := ⟨.cr, 0, 0x0A, 0, 0⟩
/-- `Crq.Base`, 2A20h+q.01 (R326). -/
abbrev Reg.crqBase (i : Nat) : Reg := ⟨.crq, i, 0x01, 0, 0⟩
/-- `Crq.SizeLog2`, 2A20h+q.02 (R326). -/
abbrev Reg.crqSizeLog2 (i : Nat) : Reg := ⟨.crq, i, 0x02, 0, 0⟩
/-- `Crq.Enable`, 2A20h+q.03 (R326). -/
abbrev Reg.crqEnable (i : Nat) : Reg := ⟨.crq, i, 0x03, 0, 0⟩
/-- `Crq.Produce`, 2A20h+q.04 (R326). -/
abbrev Reg.crqProduce (i : Nat) : Reg := ⟨.crq, i, 0x04, 0, 0⟩
/-- `Crq.Consume`, 2A20h+q.05 (R326). -/
abbrev Reg.crqConsume (i : Nat) : Reg := ⟨.crq, i, 0x05, 0, 0⟩
/-- `Crq.PendingStarts`, 2A20h+q.06 (R326). -/
abbrev Reg.crqPendingStarts (i : Nat) : Reg := ⟨.crq, i, 0x06, 0, 0⟩
/-- `Crq.LostStarts`, 2A20h+q.07 (R326). -/
abbrev Reg.crqLostStarts (i : Nat) : Reg := ⟨.crq, i, 0x07, 0, 0⟩
/-- `Dma.ChainAddress`, 2B10h+c.01 (R346). -/
abbrev Reg.dmaChainAddress (i : Nat) : Reg := ⟨.dma, i, 0x01, 0, 0⟩
/-- `Dma.Config`, 2B10h+c.02 (R346). -/
abbrev Reg.dmaConfig (i : Nat) : Reg := ⟨.dma, i, 0x02, 0, 0⟩
/-- `Dma.State`, 2B10h+c.04 (R346). -/
abbrev Reg.dmaState (i : Nat) : Reg := ⟨.dma, i, 0x04, 0, 0⟩
/-- `Dma.Position`, 2B10h+c.05 (R346). -/
abbrev Reg.dmaPosition (i : Nat) : Reg := ⟨.dma, i, 0x05, 0, 0⟩
/-- `Dma.BytesDone`, 2B10h+c.06 (R346). -/
abbrev Reg.dmaBytesDone (i : Nat) : Reg := ⟨.dma, i, 0x06, 0, 0⟩
/-- `Dma.Crc`, 2B10h+c.07 (R346). -/
abbrev Reg.dmaCrc (i : Nat) : Reg := ⟨.dma, i, 0x07, 0, 0⟩
/-- `Dma.Status`, 2B10h+c.08 (R346). -/
abbrev Reg.dmaStatus (i : Nat) : Reg := ⟨.dma, i, 0x08, 0, 0⟩
/-- `Dma.CompareOffset`, 2B10h+c.09 (R346). -/
abbrev Reg.dmaCompareOffset (i : Nat) : Reg := ⟨.dma, i, 0x09, 0, 0⟩
/-- `Dma.BadDescriptors`, 2B10h+c.0A (R346). -/
abbrev Reg.dmaBadDescriptors (i : Nat) : Reg := ⟨.dma, i, 0x0A, 0, 0⟩
/-- `Dma.LostStarts`, 2B10h+c.0B (R346). -/
abbrev Reg.dmaLostStarts (i : Nat) : Reg := ⟨.dma, i, 0x0B, 0, 0⟩
/-- `Dma.Chains`, 2B10h+c.0C (R346). -/
abbrev Reg.dmaChains (i : Nat) : Reg := ⟨.dma, i, 0x0C, 0, 0⟩
/-- `Cr.CoresInService`, 2A00h.01 (R347). -/
abbrev Reg.crCoresInService : Reg := ⟨.crG, 0, 0x01, 0, 0⟩
/-- `Cr.RetiredMask`, 2A00h.02 (R347). -/
abbrev Reg.crRetiredMask : Reg := ⟨.crG, 0, 0x02, 0, 0⟩
/-- `Cr.Mismatches`, 2A00h.03 (R347). -/
abbrev Reg.crMismatches : Reg := ⟨.crG, 0, 0x03, 0, 0⟩
/-- `Cr.Recomputes`, 2A00h.04 (R347). -/
abbrev Reg.crRecomputes : Reg := ⟨.crG, 0, 0x04, 0, 0⟩
/-- `Cr.JobsDone`, 2A00h.05 (R347). -/
abbrev Reg.crJobsDone : Reg := ⟨.crG, 0, 0x05, 0, 0⟩
/-- `Cr.JobsFailed`, 2A00h.06 (R347). -/
abbrev Reg.crJobsFailed : Reg := ⟨.crG, 0, 0x06, 0, 0⟩
/-- `Kid.Source`, 2F20h+k.01 (R356). -/
abbrev Reg.kidSource (i : Nat) : Reg := ⟨.kid, i, 0x01, 0, 0⟩
/-- `Kid.VaultSlot`, 2F20h+k.02 (R356). -/
abbrev Reg.kidVaultSlot (i : Nat) : Reg := ⟨.kid, i, 0x02, 0, 0⟩
/-- `Kid.Rights`, 2F20h+k.03 (R356). -/
abbrev Reg.kidRights (i : Nat) : Reg := ⟨.kid, i, 0x03, 0, 0⟩
/-- `Kid.State`, 2F20h+k.05 (R356). -/
abbrev Reg.kidState (i : Nat) : Reg := ⟨.kid, i, 0x05, 0, 0⟩
/-- `Kid.Outcome`, 2F20h+k.06 (R356). -/
abbrev Reg.kidOutcome (i : Nat) : Reg := ⟨.kid, i, 0x06, 0, 0⟩
/-- `Kid.Programs`, 2F20h+k.07 (R356). -/
abbrev Reg.kidPrograms (i : Nat) : Reg := ⟨.kid, i, 0x07, 0, 0⟩
/-- `Rg.Enable`, 2F40h+r.01 (R360). -/
abbrev Reg.rgEnable (i : Nat) : Reg := ⟨.rg, i, 0x01, 0, 0⟩
/-- `Rg.Base`, 2F40h+r.02 (R360). -/
abbrev Reg.rgBase (i : Nat) : Reg := ⟨.rg, i, 0x02, 0, 0⟩
/-- `Rg.Limit`, 2F40h+r.03 (R360). -/
abbrev Reg.rgLimit (i : Nat) : Reg := ⟨.rg, i, 0x03, 0, 0⟩
/-- `Rg.KeyId`, 2F40h+r.04 (R360). -/
abbrev Reg.rgKeyId (i : Nat) : Reg := ⟨.rg, i, 0x04, 0, 0⟩
/-- `Xm.DramSize`, 2F00h.01 (R365). -/
abbrev Reg.xmDramSize : Reg := ⟨.xm, 0, 0x01, 0, 0⟩
/-- `Xm.DramRate`, 2F00h.02 (R365). -/
abbrev Reg.xmDramRate : Reg := ⟨.xm, 0, 0x02, 0, 0⟩
/-- `Xm.FlashSize`, 2F00h.03 (R365). -/
abbrev Reg.xmFlashSize : Reg := ⟨.xm, 0, 0x03, 0, 0⟩
/-- `Xm.DramVisible`, 2F00h.04 (R365). -/
abbrev Reg.xmDramVisible : Reg := ⟨.xm, 0, 0x04, 0, 0⟩
/-- `Xm.FlashVisible`, 2F00h.05 (R365). -/
abbrev Reg.xmFlashVisible : Reg := ⟨.xm, 0, 0x05, 0, 0⟩
/-- `Xm.InitSweep`, 2F00h.06 (R365). -/
abbrev Reg.xmInitSweep : Reg := ⟨.xm, 0, 0x06, 0, 0⟩
/-- `Xm.UninitGranules`, 2F00h.07 (R365). -/
abbrev Reg.xmUninitGranules : Reg := ⟨.xm, 0, 0x07, 0, 0⟩
/-- `Xm.NoRegion`, 2F00h.08 (R365). -/
abbrev Reg.xmNoRegion : Reg := ⟨.xm, 0, 0x08, 0, 0⟩
/-- `Xm.KeyIdRefused`, 2F00h.09 (R365). -/
abbrev Reg.xmKeyIdRefused : Reg := ⟨.xm, 0, 0x09, 0, 0⟩
/-- `Xm.RightsRefused`, 2F00h.0A (R365). -/
abbrev Reg.xmRightsRefused : Reg := ⟨.xm, 0, 0x0A, 0, 0⟩
/-- `Xm.FlashRejects`, 2F00h.0B (R365). -/
abbrev Reg.xmFlashRejects : Reg := ⟨.xm, 0, 0x0B, 0, 0⟩
/-- `Xm.PartialWrites`, 2F00h.0C (R365). -/
abbrev Reg.xmPartialWrites : Reg := ⟨.xm, 0, 0x0C, 0, 0⟩
/-- `Xm.FlashEraseOutcome`, 2F00h.0E (R365). -/
abbrev Reg.xmFlashEraseOutcome : Reg := ⟨.xm, 0, 0x0E, 0, 0⟩
/-- `Xm.LastFailAddress`, 2F00h.10 (R365). -/
abbrev Reg.xmLastFailAddress : Reg := ⟨.xm, 0, 0x10, 0, 0⟩
/-- `Xm.LastFailInfo`, 2F00h.11 (R365). -/
abbrev Reg.xmLastFailInfo : Reg := ⟨.xm, 0, 0x11, 0, 0⟩
/-- `Xm.LastFailTime`, 2F00h.12 (R365). -/
abbrev Reg.xmLastFailTime : Reg := ⟨.xm, 0, 0x12, 0, 0⟩
/-- `Chm.State`, 2300h.01 (R386). -/
abbrev Reg.chmState : Reg := ⟨.chm, 0, 0x01, 0, 0⟩
/-- `Chm.Retrains`, 2300h.03 (R386). -/
abbrev Reg.chmRetrains : Reg := ⟨.chm, 0, 0x03, 0, 0⟩
/-- `Chm.CrcErrors`, 2300h.04 (R386). -/
abbrev Reg.chmCrcErrors : Reg := ⟨.chm, 0, 0x04, 0, 0⟩
/-- `Chm.Replays`, 2300h.05 (R386). -/
abbrev Reg.chmReplays : Reg := ⟨.chm, 0, 0x05, 0, 0⟩
/-- `Chm.ReadRetries`, 2300h.06 (R386). -/
abbrev Reg.chmReadRetries : Reg := ⟨.chm, 0, 0x06, 0, 0⟩
/-- `Chm.HoldFallbacks`, 2300h.07 (R386). -/
abbrev Reg.chmHoldFallbacks : Reg := ⟨.chm, 0, 0x07, 0, 0⟩
/-- `Chm.StaleFetches`, 2300h.08 (R386). -/
abbrev Reg.chmStaleFetches : Reg := ⟨.chm, 0, 0x08, 0, 0⟩
/-- `Chm.WickBackoffs`, 2300h.09 (R386). -/
abbrev Reg.chmWickBackoffs : Reg := ⟨.chm, 0, 0x09, 0, 0⟩
/-- `Chm.SemaphoreTimeouts`, 2300h.0A (R386). -/
abbrev Reg.chmSemaphoreTimeouts : Reg := ⟨.chm, 0, 0x0A, 0, 0⟩
/-- `Chm.ScFailures`, 2300h.0B (R386). -/
abbrev Reg.chmScFailures : Reg := ⟨.chm, 0, 0x0B, 0, 0⟩
/-- `Chm.LateFaults`, 2300h.0C (R386). -/
abbrev Reg.chmLateFaults : Reg := ⟨.chm, 0, 0x0C, 0, 0⟩
/-- `Chm.FaultRecords`, 2300h.0D (R386). -/
abbrev Reg.chmFaultRecords : Reg := ⟨.chm, 0, 0x0D, 0, 0⟩
/-- `Chm.FaultsLost`, 2300h.0E (R386). -/
abbrev Reg.chmFaultsLost : Reg := ⟨.chm, 0, 0x0E, 0, 0⟩
/-- `Chm.PendingFaults`, 2300h.10 (R386). -/
abbrev Reg.chmPendingFaults : Reg := ⟨.chm, 0, 0x10, 0, 0⟩
/-- `Chm.EventMerges`, 2300h.11 (R386). -/
abbrev Reg.chmEventMerges : Reg := ⟨.chm, 0, 0x11, 0, 0⟩
/-- `Chm.FramesLost`, 2300h.12 (R386). -/
abbrev Reg.chmFramesLost : Reg := ⟨.chm, 0, 0x12, 0, 0⟩
/-- `Cf.Address`, 2310h+k.01 (R387). -/
abbrev Reg.cfAddress (i : Nat) : Reg := ⟨.cf, i, 0x01, 0, 0⟩
/-- `Cf.Initiator`, 2310h+k.02 (R387). -/
abbrev Reg.cfInitiator (i : Nat) : Reg := ⟨.cf, i, 0x02, 0, 0⟩
/-- `Cf.Kind`, 2310h+k.03 (R387). -/
abbrev Reg.cfKind (i : Nat) : Reg := ⟨.cf, i, 0x03, 0, 0⟩
/-- `Cf.Size`, 2310h+k.04 (R387). -/
abbrev Reg.cfSize (i : Nat) : Reg := ⟨.cf, i, 0x04, 0, 0⟩
/-- `Cf.Time`, 2310h+k.05 (R387). -/
abbrev Reg.cfTime (i : Nat) : Reg := ⟨.cf, i, 0x05, 0, 0⟩
/-- `Can.Enable`, 2C10h+ch.01 (R393). -/
abbrev Reg.canEnable (i : Nat) : Reg := ⟨.can, i, 0x01, 0, 0⟩
/-- `Can.Formats`, 2C10h+ch.02 (R393). -/
abbrev Reg.canFormats (i : Nat) : Reg := ⟨.can, i, 0x02, 0, 0⟩
/-- `Can.NominalRate`, 2C10h+ch.03 (R393). -/
abbrev Reg.canNominalRate (i : Nat) : Reg := ⟨.can, i, 0x03, 0, 0⟩
/-- `Can.DataRate`, 2C10h+ch.04 (R393). -/
abbrev Reg.canDataRate (i : Nat) : Reg := ⟨.can, i, 0x04, 0, 0⟩
/-- `Can.XlDataRate`, 2C10h+ch.05 (R393). -/
abbrev Reg.canXlDataRate (i : Nat) : Reg := ⟨.can, i, 0x05, 0, 0⟩
/-- `Can.SamplePoints`, 2C10h+ch.06 (R393). -/
abbrev Reg.canSamplePoints (i : Nat) : Reg := ⟨.can, i, 0x06, 0, 0⟩
/-- `Can.Transceiver`, 2C10h+ch.07 (R393). -/
abbrev Reg.canTransceiver (i : Nat) : Reg := ⟨.can, i, 0x07, 0, 0⟩
/-- `Can.WakeEnable`, 2C10h+ch.08 (R393). -/
abbrev Reg.canWakeEnable (i : Nat) : Reg := ⟨.can, i, 0x08, 0, 0⟩
/-- `Can.TxMaxAge`, 2C10h+ch.09 (R393). -/
abbrev Reg.canTxMaxAge (i : Nat) : Reg := ⟨.can, i, 0x09, 0, 0⟩
/-- `Can.Status`, 2C10h+ch.0A (R393). -/
abbrev Reg.canStatus (i : Nat) : Reg := ⟨.can, i, 0x0A, 0, 0⟩
/-- `Can.ErrorCounters`, 2C10h+ch.0B (R393). -/
abbrev Reg.canErrorCounters (i : Nat) : Reg := ⟨.can, i, 0x0B, 0, 0⟩
/-- `Can.RxMessages`, 2C10h+ch.20 (R393). -/
abbrev Reg.canRxMessages (i : Nat) : Reg := ⟨.can, i, 0x20, 0, 0⟩
/-- `Can.TxMessages`, 2C10h+ch.21 (R393). -/
abbrev Reg.canTxMessages (i : Nat) : Reg := ⟨.can, i, 0x21, 0, 0⟩
/-- `Can.Errors`, 2C10h+ch.22 (R393). -/
abbrev Reg.canErrors (i : Nat) : Reg := ⟨.can, i, 0x22, 0, 0⟩
/-- `Can.BusOffs`, 2C10h+ch.23 (R393). -/
abbrev Reg.canBusOffs (i : Nat) : Reg := ⟨.can, i, 0x23, 0, 0⟩
/-- `Can.QueueDrops`, 2C10h+ch.24 (R393). -/
abbrev Reg.canQueueDrops (i : Nat) : Reg := ⟨.can, i, 0x24, 0, 0⟩
/-- `Can.PushOuts`, 2C10h+ch.25 (R393). -/
abbrev Reg.canPushOuts (i : Nat) : Reg := ⟨.can, i, 0x25, 0, 0⟩
/-- `Can.AgeDrops`, 2C10h+ch.26 (R393). -/
abbrev Reg.canAgeDrops (i : Nat) : Reg := ⟨.can, i, 0x26, 0, 0⟩
/-- `Can.FormatDrops`, 2C10h+ch.27 (R393). -/
abbrev Reg.canFormatDrops (i : Nat) : Reg := ⟨.can, i, 0x27, 0, 0⟩
/-- `Can.RemoteDrops`, 2C10h+ch.28 (R393). -/
abbrev Reg.canRemoteDrops (i : Nat) : Reg := ⟨.can, i, 0x28, 0, 0⟩
/-- `Lin.Enable`, 2C20h+l.01 (R395). -/
abbrev Reg.linEnable (i : Nat) : Reg := ⟨.lin, i, 0x01, 0, 0⟩
/-- `Lin.Role`, 2C20h+l.02 (R395). -/
abbrev Reg.linRole (i : Nat) : Reg := ⟨.lin, i, 0x02, 0, 0⟩
/-- `Lin.Rate`, 2C20h+l.03 (R395). -/
abbrev Reg.linRate (i : Nat) : Reg := ⟨.lin, i, 0x03, 0, 0⟩
/-- `Lin.ClassicIds`, 2C20h+l.04 (R395). -/
abbrev Reg.linClassicIds (i : Nat) : Reg := ⟨.lin, i, 0x04, 0, 0⟩
/-- `Lin.WakeEnable`, 2C20h+l.05 (R395). -/
abbrev Reg.linWakeEnable (i : Nat) : Reg := ⟨.lin, i, 0x05, 0, 0⟩
/-- `Lin.RxMessages`, 2C20h+l.20 (R395). -/
abbrev Reg.linRxMessages (i : Nat) : Reg := ⟨.lin, i, 0x20, 0, 0⟩
/-- `Lin.TxMessages`, 2C20h+l.21 (R395). -/
abbrev Reg.linTxMessages (i : Nat) : Reg := ⟨.lin, i, 0x21, 0, 0⟩
/-- `Lin.ChecksumErrors`, 2C20h+l.22 (R395). -/
abbrev Reg.linChecksumErrors (i : Nat) : Reg := ⟨.lin, i, 0x22, 0, 0⟩
/-- `Lin.NoResponse`, 2C20h+l.23 (R395). -/
abbrev Reg.linNoResponse (i : Nat) : Reg := ⟨.lin, i, 0x23, 0, 0⟩
/-- `Lin.BitErrors`, 2C20h+l.24 (R395). -/
abbrev Reg.linBitErrors (i : Nat) : Reg := ⟨.lin, i, 0x24, 0, 0⟩
/-- `Cxr.Sources`, 4400h.10 (R397). -/
abbrev Reg.cxrSources (row : Nat) : Reg := ⟨.cxr, 0, 0x10, row, 0⟩
/-- `Cxr.Key`, 4400h.11 (R397). -/
abbrev Reg.cxrKey (row : Nat) : Reg := ⟨.cxr, 0, 0x11, row, 0⟩
/-- `Cxr.Mask`, 4400h.12 (R397). -/
abbrev Reg.cxrMask (row : Nat) : Reg := ⟨.cxr, 0, 0x12, row, 0⟩
/-- `Cxr.Valid`, 4400h.13 (R397). -/
abbrev Reg.cxrValid (row : Nat) : Reg := ⟨.cxr, 0, 0x13, row, 0⟩
/-- `Cxr.Action`, 4400h.14 (R397). -/
abbrev Reg.cxrAction (row : Nat) : Reg := ⟨.cxr, 0, 0x14, row, 0⟩
/-- `Cxr.Rewrite`, 4400h.15 (R397). -/
abbrev Reg.cxrRewrite (row : Nat) : Reg := ⟨.cxr, 0, 0x15, row, 0⟩
/-- `Cxr.Hits`, 4400h.20 (R397). -/
abbrev Reg.cxrHits (row : Nat) : Reg := ⟨.cxr, 0, 0x20, row, 0⟩
/-- `Cyc.Target`, 2C80h+e.01 (R405). -/
abbrev Reg.cycTarget (i : Nat) : Reg := ⟨.cyc, i, 0x01, 0, 0⟩
/-- `Cyc.Key`, 2C80h+e.02 (R405). -/
abbrev Reg.cycKey (i : Nat) : Reg := ⟨.cyc, i, 0x02, 0, 0⟩
/-- `Cyc.Params`, 2C80h+e.03 (R405). -/
abbrev Reg.cycParams (i : Nat) : Reg := ⟨.cyc, i, 0x03, 0, 0⟩
/-- `Cyc.Period`, 2C80h+e.04 (R405). -/
abbrev Reg.cycPeriod (i : Nat) : Reg := ⟨.cyc, i, 0x04, 0, 0⟩
/-- `Cyc.Offset`, 2C80h+e.05 (R405). -/
abbrev Reg.cycOffset (i : Nat) : Reg := ⟨.cyc, i, 0x05, 0, 0⟩
/-- `Cyc.Domain`, 2C80h+e.06 (R405). -/
abbrev Reg.cycDomain (i : Nat) : Reg := ⟨.cyc, i, 0x06, 0, 0⟩
/-- `Cyc.Data`, 2C80h+e.07 (R405). -/
abbrev Reg.cycData (i : Nat) : Reg := ⟨.cyc, i, 0x07, 0, 0⟩
/-- `Cyc.DataAge`, 2C80h+e.08 (R405). -/
abbrev Reg.cycDataAge (i : Nat) : Reg := ⟨.cyc, i, 0x08, 0, 0⟩
/-- `Cyc.Sent`, 2C80h+e.09 (R405). -/
abbrev Reg.cycSent (i : Nat) : Reg := ⟨.cyc, i, 0x09, 0, 0⟩
/-- `Cyc.Slips`, 2C80h+e.0A (R405). -/
abbrev Reg.cycSlips (i : Nat) : Reg := ⟨.cyc, i, 0x0A, 0, 0⟩
/-- `Cyc.Updates`, 2C80h+e.0B (R405). -/
abbrev Reg.cycUpdates (i : Nat) : Reg := ⟨.cyc, i, 0x0B, 0, 0⟩
/-- `Fv.Config`, 4402h.10 (R413). -/
abbrev Reg.fvConfig (row : Nat) : Reg := ⟨.fv, 0, 0x10, row, 0⟩
/-- `Fv.Window`, 4402h.11 (R413). -/
abbrev Reg.fvWindow (row : Nat) : Reg := ⟨.fv, 0, 0x11, row, 0⟩
/-- `Fv.Value`, 4402h.12 (R413). -/
abbrev Reg.fvValue (row : Nat) : Reg := ⟨.fv, 0, 0x12, row, 0⟩
/-- `Fv.Accepted`, 4402h.13 (R413). -/
abbrev Reg.fvAccepted (row : Nat) : Reg := ⟨.fv, 0, 0x13, row, 0⟩
/-- `Fv.Rejected`, 4402h.14 (R413). -/
abbrev Reg.fvRejected (row : Nat) : Reg := ⟨.fv, 0, 0x14, row, 0⟩
/-- `Fv.Stale`, 4402h.15 (R413). -/
abbrev Reg.fvStale (row : Nat) : Reg := ⟨.fv, 0, 0x15, row, 0⟩
/-- `Fv.Exhausted`, 4402h.16 (R413). -/
abbrev Reg.fvExhausted (row : Nat) : Reg := ⟨.fv, 0, 0x16, row, 0⟩
/-- `Acf.Direction`, 2C40h+s.01 (R417). -/
abbrev Reg.acfDirection (i : Nat) : Reg := ⟨.acf, i, 0x01, 0, 0⟩
/-- `Acf.Subtype`, 2C40h+s.02 (R417). -/
abbrev Reg.acfSubtype (i : Nat) : Reg := ⟨.acf, i, 0x02, 0, 0⟩
/-- `Acf.StreamId`, 2C40h+s.03 (R417). -/
abbrev Reg.acfStreamId (i : Nat) : Reg := ⟨.acf, i, 0x03, 0, 0⟩
/-- `Acf.DestMac`, 2C40h+s.04 (R417). -/
abbrev Reg.acfDestMac (i : Nat) : Reg := ⟨.acf, i, 0x04, 0, 0⟩
/-- `Acf.Vlan`, 2C40h+s.05 (R417). -/
abbrev Reg.acfVlan (i : Nat) : Reg := ⟨.acf, i, 0x05, 0, 0⟩
/-- `Acf.MaxWait`, 2C40h+s.06 (R417). -/
abbrev Reg.acfMaxWait (i : Nat) : Reg := ⟨.acf, i, 0x06, 0, 0⟩
/-- `Acf.MaxBytes`, 2C40h+s.07 (R417). -/
abbrev Reg.acfMaxBytes (i : Nat) : Reg := ⟨.acf, i, 0x07, 0, 0⟩
/-- `Acf.Domain`, 2C40h+s.08 (R417). -/
abbrev Reg.acfDomain (i : Nat) : Reg := ⟨.acf, i, 0x08, 0, 0⟩
/-- `Acf.Frames`, 2C40h+s.20 (R417). -/
abbrev Reg.acfFrames (i : Nat) : Reg := ⟨.acf, i, 0x20, 0, 0⟩
/-- `Acf.Messages`, 2C40h+s.21 (R417). -/
abbrev Reg.acfMessages (i : Nat) : Reg := ⟨.acf, i, 0x21, 0, 0⟩
/-- `Acf.SeqErrors`, 2C40h+s.22 (R417). -/
abbrev Reg.acfSeqErrors (i : Nat) : Reg := ⟨.acf, i, 0x22, 0, 0⟩
/-- `Acf.Malformed`, 2C40h+s.23 (R417). -/
abbrev Reg.acfMalformed (i : Nat) : Reg := ⟨.acf, i, 0x23, 0, 0⟩
/-- `Gw.ProfileTag`, 2C00h.02 (R418). -/
abbrev Reg.gwProfileTag : Reg := ⟨.gw, 0, 0x02, 0, 0⟩
/-- `Gw.InboundQueue`, 2C00h.03 (R418). -/
abbrev Reg.gwInboundQueue : Reg := ⟨.gw, 0, 0x03, 0, 0⟩
/-- `Gw.AcfXlType`, 2C00h.04 (R418). -/
abbrev Reg.gwAcfXlType : Reg := ⟨.gw, 0, 0x04, 0, 0⟩
/-- `Gw.SourceMac`, 2C00h.05 (R418). -/
abbrev Reg.gwSourceMac : Reg := ⟨.gw, 0, 0x05, 0, 0⟩
/-- `Gw.FvReserveStep`, 2C00h.06 (R418). -/
abbrev Reg.gwFvReserveStep : Reg := ⟨.gw, 0, 0x06, 0, 0⟩
/-- `Gw.RouteMisses`, 2C00h.07 (R418). -/
abbrev Reg.gwRouteMisses : Reg := ⟨.gw, 0, 0x07, 0, 0⟩
/-- `Gw.UnknownStreams`, 2C00h.08 (R418). -/
abbrev Reg.gwUnknownStreams : Reg := ⟨.gw, 0, 0x08, 0, 0⟩
/-- `Gw.AcfDropped`, 2C00h.09 (R418). -/
abbrev Reg.gwAcfDropped : Reg := ⟨.gw, 0, 0x09, 0, 0⟩
/-- `Gw.KeySlot`, 2C00h.10–1F (R418). -/
abbrev Reg.gwKeySlot (k : Nat) : Reg := ⟨.gw, 0, 0x10 + k, 0, 0⟩
/-- `Gw.KeyOutcome`, 2C00h.20–2F (R418). -/
abbrev Reg.gwKeyOutcome (k : Nat) : Reg := ⟨.gw, 0, 0x20 + k, 0, 0⟩
/-- `Cp.State`, 2D00h.01 (R426). -/
abbrev Reg.cpState : Reg := ⟨.cp, 0, 0x01, 0, 0⟩
/-- `Cp.Duty`, 2D00h.02 (R426). -/
abbrev Reg.cpDuty : Reg := ⟨.cp, 0, 0x02, 0, 0⟩
/-- `Cp.Frequency`, 2D00h.03 (R426). -/
abbrev Reg.cpFrequency : Reg := ⟨.cp, 0, 0x03, 0, 0⟩
/-- `Cp.Status`, 2D00h.04 (R426). -/
abbrev Reg.cpStatus : Reg := ⟨.cp, 0, 0x04, 0, 0⟩
/-- `Cp.S2`, 2D00h.05 (R426). -/
abbrev Reg.cpS2 : Reg := ⟨.cp, 0, 0x05, 0, 0⟩
/-- `Pp.Ohms`, 2D00h.06 (R426). -/
abbrev Reg.ppOhms : Reg := ⟨.cp, 0, 0x06, 0, 0⟩
/-- `Pp.PresentOhms`, 2D00h.07 (R426). -/
abbrev Reg.ppPresentOhms : Reg := ⟨.cp, 0, 0x07, 0, 0⟩
/-- `Chg.WakeSources`, 2D00h.08 (R426). -/
abbrev Reg.chgWakeSources : Reg := ⟨.cp, 0, 0x08, 0, 0⟩
/-- `Chg.RampOpensS2`, 2D00h.09 (R426). -/
abbrev Reg.chgRampOpensS2 : Reg := ⟨.cp, 0, 0x09, 0, 0⟩
/-- `Chg.RampRequest`, 2D00h.0A (R426). -/
abbrev Reg.chgRampRequest : Reg := ⟨.cp, 0, 0x0A, 0, 0⟩
/-- `Tin.Nominal`, 2D04h+t.01 (R427). -/
abbrev Reg.tinNominal (i : Nat) : Reg := ⟨.tin, i, 0x01, 0, 0⟩
/-- `Tin.Beta`, 2D04h+t.02 (R427). -/
abbrev Reg.tinBeta (i : Nat) : Reg := ⟨.tin, i, 0x02, 0, 0⟩
/-- `Tin.Temp`, 2D04h+t.03 (R427). -/
abbrev Reg.tinTemp (i : Nat) : Reg := ⟨.tin, i, 0x03, 0, 0⟩
/-- `Tin.TripLimit`, 2D04h+t.04 (R427). -/
abbrev Reg.tinTripLimit (i : Nat) : Reg := ⟨.tin, i, 0x04, 0, 0⟩
/-- `Tin.TripOpen`, 2D04h+t.05 (R427). -/
abbrev Reg.tinTripOpen (i : Nat) : Reg := ⟨.tin, i, 0x05, 0, 0⟩
/-- `Cd.Command`, 2D10h+k.01 (R431). -/
abbrev Reg.cdCommand (i : Nat) : Reg := ⟨.cd, i, 0x01, 0, 0⟩
/-- `Cd.Role`, 2D10h+k.02 (R431). -/
abbrev Reg.cdRole (i : Nat) : Reg := ⟨.cd, i, 0x02, 0, 0⟩
/-- `Cd.State`, 2D10h+k.03 (R431). -/
abbrev Reg.cdState (i : Nat) : Reg := ⟨.cd, i, 0x03, 0, 0⟩
/-- `Cd.OpenCurrentLimit`, 2D10h+k.04 (R431). -/
abbrev Reg.cdOpenCurrentLimit (i : Nat) : Reg := ⟨.cd, i, 0x04, 0, 0⟩
/-- `Cd.RampWait`, 2D10h+k.05 (R431). -/
abbrev Reg.cdRampWait (i : Nat) : Reg := ⟨.cd, i, 0x05, 0, 0⟩
/-- `Cd.Faults`, 2D10h+k.06 (R431). -/
abbrev Reg.cdFaults (i : Nat) : Reg := ⟨.cd, i, 0x06, 0, 0⟩
/-- `Cd.ForcedOpens`, 2D10h+k.07 (R431). -/
abbrev Reg.cdForcedOpens (i : Nat) : Reg := ⟨.cd, i, 0x07, 0, 0⟩
/-- `Tot.Channel`, 2D20h.01 (R437). -/
abbrev Reg.totChannel : Reg := ⟨.tot, 0, 0x01, 0, 0⟩
/-- `Tot.Identifier`, 2D20h.02 (R437). -/
abbrev Reg.totIdentifier : Reg := ⟨.tot, 0, 0x02, 0, 0⟩
/-- `Tot.FvRow`, 2D20h.03 (R437). -/
abbrev Reg.totFvRow : Reg := ⟨.tot, 0, 0x03, 0, 0⟩
/-- `Tot.SampleTimeout`, 2D20h.04 (R437). -/
abbrev Reg.totSampleTimeout : Reg := ⟨.tot, 0, 0x04, 0, 0⟩
/-- `Tot.ImportMwh`, 2D20h.05 (R437). -/
abbrev Reg.totImportMwh : Reg := ⟨.tot, 0, 0x05, 0, 0⟩
/-- `Tot.ExportMwh`, 2D20h.06 (R437). -/
abbrev Reg.totExportMwh : Reg := ⟨.tot, 0, 0x06, 0, 0⟩
/-- `Tot.Voltage`, 2D20h.07 (R437). -/
abbrev Reg.totVoltage : Reg := ⟨.tot, 0, 0x07, 0, 0⟩
/-- `Tot.Current`, 2D20h.08 (R437). -/
abbrev Reg.totCurrent : Reg := ⟨.tot, 0, 0x08, 0, 0⟩
/-- `Tot.DeviationLimit`, 2D20h.09 (R437). -/
abbrev Reg.totDeviationLimit : Reg := ⟨.tot, 0, 0x09, 0, 0⟩
/-- `Tot.AbsFloor`, 2D20h.0A (R437). -/
abbrev Reg.totAbsFloor : Reg := ⟨.tot, 0, 0x0A, 0, 0⟩
/-- `Tot.Gaps`, 2D20h.0B (R437). -/
abbrev Reg.totGaps : Reg := ⟨.tot, 0, 0x0B, 0, 0⟩
/-- `Tot.AuthFailures`, 2D20h.0C (R437). -/
abbrev Reg.totAuthFailures : Reg := ⟨.tot, 0, 0x0C, 0, 0⟩
/-- `Ms.Outcome`, 2D30h.02 (R440). -/
abbrev Reg.msOutcome : Reg := ⟨.ms, 0, 0x02, 0, 0⟩
/-- `Ms.ContractSlot`, 2D30h.03 (R440). -/
abbrev Reg.msContractSlot : Reg := ⟨.ms, 0, 0x03, 0, 0⟩
/-- `Ms.EvseId`, 2D30h.04 (R440). -/
abbrev Reg.msEvseId : Reg := ⟨.ms, 0, 0x04, 0, 0⟩
/-- `Ms.PostMeterId`, 2D30h.05 (R440). -/
abbrev Reg.msPostMeterId : Reg := ⟨.ms, 0, 0x05, 0, 0⟩
/-- `Ms.PostReadingWh`, 2D30h.06 (R440). -/
abbrev Reg.msPostReadingWh : Reg := ⟨.ms, 0, 0x06, 0, 0⟩
/-- `Ms.PostTime`, 2D30h.07 (R440). -/
abbrev Reg.msPostTime : Reg := ⟨.ms, 0, 0x07, 0, 0⟩
/-- `Ms.PostSignature`, 2D30h.08 (R440). -/
abbrev Reg.msPostSignature : Reg := ⟨.ms, 0, 0x08, 0, 0⟩
/-- `Ms.PostSigLength`, 2D30h.09 (R440). -/
abbrev Reg.msPostSigLength : Reg := ⟨.ms, 0, 0x09, 0, 0⟩
/-- `Ms.SignInput`, 2D30h.0A (R440). -/
abbrev Reg.msSignInput : Reg := ⟨.ms, 0, 0x0A, 0, 0⟩
/-- `Ms.SignInputLength`, 2D30h.0B (R440). -/
abbrev Reg.msSignInputLength : Reg := ⟨.ms, 0, 0x0B, 0, 0⟩
/-- `Ms.Countersignature`, 2D30h.0C (R440). -/
abbrev Reg.msCountersignature : Reg := ⟨.ms, 0, 0x0C, 0, 0⟩
/-- `Ms.CountersigLength`, 2D30h.0D (R440). -/
abbrev Reg.msCountersigLength : Reg := ⟨.ms, 0, 0x0D, 0, 0⟩
/-- `Ms.SessionNumber`, 2D30h.0E (R440). -/
abbrev Reg.msSessionNumber : Reg := ⟨.ms, 0, 0x0E, 0, 0⟩
/-- `Ms.SessionState`, 2D30h.0F (R440). -/
abbrev Reg.msSessionState : Reg := ⟨.ms, 0, 0x0F, 0, 0⟩
/-- `Ms.CloseReason`, 2D30h.10 (R440). -/
abbrev Reg.msCloseReason : Reg := ⟨.ms, 0, 0x10, 0, 0⟩
/-- `Ms.CertFingerprint`, 2D30h.11 (R440). -/
abbrev Reg.msCertFingerprint : Reg := ⟨.ms, 0, 0x11, 0, 0⟩
/-- `Ms.Path`, 2D30h.12 (R440). -/
abbrev Reg.msPath : Reg := ⟨.ms, 0, 0x12, 0, 0⟩
/-- `Ms.Domain`, 2D40h.01 (R449). -/
abbrev Reg.msDomain : Reg := ⟨.msSeal, 0, 0x01, 0, 0⟩
/-- `Ms.SealState`, 2D50h.01 (R449). -/
abbrev Reg.msSealState : Reg := ⟨.msStat, 0, 0x01, 0, 0⟩
/-- `Ms.EventCounter`, 2D50h.02 (R449). -/
abbrev Reg.msEventCounter : Reg := ⟨.msStat, 0, 0x02, 0, 0⟩
/-- `Ms.NextSequence`, 2D50h.03 (R449). -/
abbrev Reg.msNextSequence : Reg := ⟨.msStat, 0, 0x03, 0, 0⟩
/-- `Ms.OldestUnexported`, 2D50h.04 (R449). -/
abbrev Reg.msOldestUnexported : Reg := ⟨.msStat, 0, 0x04, 0, 0⟩
/-- `Ms.RecordSelect`, 2D50h.06 (R449). -/
abbrev Reg.msRecordSelect : Reg := ⟨.msStat, 0, 0x06, 0, 0⟩
/-- `Ms.Record`, 2D50h.07 (R449). -/
abbrev Reg.msRecord : Reg := ⟨.msStat, 0, 0x07, 0, 0⟩
/-- `Ms.ExportOutcome`, 2D50h.09 (R449). -/
abbrev Reg.msExportOutcome : Reg := ⟨.msStat, 0, 0x09, 0, 0⟩
/-- `Ms.Export`, 2D50h.0A (R449). -/
abbrev Reg.msExport : Reg := ⟨.msStat, 0, 0x0A, 0, 0⟩
/-- `Ms.ExportLength`, 2D50h.0B (R449). -/
abbrev Reg.msExportLength : Reg := ⟨.msStat, 0, 0x0B, 0, 0⟩
/-- `Ms.SealPublic`, 2D50h.0C (R449). -/
abbrev Reg.msSealPublic : Reg := ⟨.msStat, 0, 0x0C, 0, 0⟩
/-- `Pwr.Mode`, 2100h.01 (R478). -/
abbrev Reg.pwrMode : Reg := ⟨.pwr, 0, 0x01, 0, 0⟩
/-- `Pwr.Outcome`, 2100h.04 (R478). -/
abbrev Reg.pwrOutcome : Reg := ⟨.pwr, 0, 0x04, 0, 0⟩
/-- `Pwr.PreviousMode`, 2100h.05 (R478). -/
abbrev Reg.pwrPreviousMode : Reg := ⟨.pwr, 0, 0x05, 0, 0⟩
/-- `Pwr.LastWake`, 2100h.06 (R478). -/
abbrev Reg.pwrLastWake : Reg := ⟨.pwr, 0, 0x06, 0, 0⟩
/-- `Pwr.LastWakeInfo`, 2100h.07 (R478). -/
abbrev Reg.pwrLastWakeInfo : Reg := ⟨.pwr, 0, 0x07, 0, 0⟩
/-- `Pwr.RetentionLost`, 2100h.08 (R478). -/
abbrev Reg.pwrRetentionLost : Reg := ⟨.pwr, 0, 0x08, 0, 0⟩
/-- `Pwr.EmberLimit`, 2100h.09 (R478). -/
abbrev Reg.pwrEmberLimit : Reg := ⟨.pwr, 0, 0x09, 0, 0⟩
/-- `Pwr.SleepTime`, 2100h.0A (R478). -/
abbrev Reg.pwrSleepTime : Reg := ⟨.pwr, 0, 0x0A, 0, 0⟩
/-- `Pwr.Wakes`, 2100h.0B (R478). -/
abbrev Reg.pwrWakes : Reg := ⟨.pwr, 0, 0x0B, 0, 0⟩
/-- `Wk.PinConfig`, 2110h.01–04 (R479). -/
abbrev Reg.wkPinConfig (k : Nat) : Reg := ⟨.wk, 0, 0x01 + k, 0, 0⟩
/-- `Wk.PinState`, 2110h.05 (R479). -/
abbrev Reg.wkPinState : Reg := ⟨.wk, 0, 0x05, 0, 0⟩
/-- `Wk.Targets`, 2110h.08 (R479). -/
abbrev Reg.wkTargets : Reg := ⟨.wk, 0, 0x08, 0, 0⟩
/-- `Wk.AlarmAfter`, 2110h.09 (R479). -/
abbrev Reg.wkAlarmAfter : Reg := ⟨.wk, 0, 0x09, 0, 0⟩
/-- `Sup.Vbat`, 2120h.01 (R480). -/
abbrev Reg.supVbat : Reg := ⟨.sup, 0, 0x01, 0, 0⟩
/-- `Sup.VbatMin`, 2120h.02 (R480). -/
abbrev Reg.supVbatMin : Reg := ⟨.sup, 0, 0x02, 0, 0⟩
/-- `Sup.VbatMax`, 2120h.03 (R480). -/
abbrev Reg.supVbatMax : Reg := ⟨.sup, 0, 0x03, 0, 0⟩
/-- `Sup.CoreSetpoint`, 2120h.04 (R480). -/
abbrev Reg.supCoreSetpoint : Reg := ⟨.sup, 0, 0x04, 0, 0⟩
/-- `Sup.RailStatus`, 2120h.05 (R480). -/
abbrev Reg.supRailStatus : Reg := ⟨.sup, 0, 0x05, 0, 0⟩
/-- `Sup.CrankEntries`, 2120h.06 (R480). -/
abbrev Reg.supCrankEntries : Reg := ⟨.sup, 0, 0x06, 0, 0⟩
/-- `Sup.OvEvents`, 2120h.07 (R480). -/
abbrev Reg.supOvEvents : Reg := ⟨.sup, 0, 0x07, 0, 0⟩
/-- `Thr.Ceiling`, 2120h.10 (R480). -/
abbrev Reg.thrCeiling : Reg := ⟨.sup, 0, 0x10, 0, 0⟩
/-- `Thr.StepDowns`, 2120h.11 (R480). -/
abbrev Reg.thrStepDowns : Reg := ⟨.sup, 0, 0x11, 0, 0⟩
/-- `Thr.ThrottledTime`, 2120h.12 (R480). -/
abbrev Reg.thrThrottledTime : Reg := ⟨.sup, 0, 0x12, 0, 0⟩
/-- `Thr.DroopMargin`, 2120h.13 (R480). -/
abbrev Reg.thrDroopMargin : Reg := ⟨.sup, 0, 0x13, 0, 0⟩
/-- `Thr.DroopEvents`, 2120h.14 (R480). -/
abbrev Reg.thrDroopEvents : Reg := ⟨.sup, 0, 0x14, 0, 0⟩
/-- `Thr.DroopSites`, 2120h.15 (R480). -/
abbrev Reg.thrDroopSites : Reg := ⟨.sup, 0, 0x15, 0, 0⟩
/-- `Cfg.Outcome`, 2140h.02 (R481). -/
abbrev Reg.cfgOutcome : Reg := ⟨.cfg, 0, 0x02, 0, 0⟩
/-- `Cfg.ImageSequence`, 2140h.03 (R481). -/
abbrev Reg.cfgImageSequence : Reg := ⟨.cfg, 0, 0x03, 0, 0⟩
/-- `Cfg.ImageBytes`, 2140h.04 (R481). -/
abbrev Reg.cfgImageBytes : Reg := ⟨.cfg, 0, 0x04, 0, 0⟩
/-- `Cfg.CriticalBytes`, 2140h.05 (R481). -/
abbrev Reg.cfgCriticalBytes : Reg := ⟨.cfg, 0, 0x05, 0, 0⟩
/-- `Cfg.LoadState`, 2140h.06 (R481). -/
abbrev Reg.cfgLoadState : Reg := ⟨.cfg, 0, 0x06, 0, 0⟩
/-- `Cfg.SkippedRecords`, 2140h.07 (R481). -/
abbrev Reg.cfgSkippedRecords : Reg := ⟨.cfg, 0, 0x07, 0, 0⟩
/-- `Cfg.CriticalRange`, 2140h.10–1F (R481). -/
abbrev Reg.cfgCriticalRange (k : Nat) : Reg := ⟨.cfg, 0, 0x10 + k, 0, 0⟩
/-- `Hb.StateA`, 2E00h.02 (R499). -/
abbrev Reg.hbStateA : Reg := ⟨.hb, 0, 0x02, 0, 0⟩
/-- `Hb.StateB`, 2E00h.03 (R499). -/
abbrev Reg.hbStateB : Reg := ⟨.hb, 0, 0x03, 0, 0⟩
/-- `Hb.PathFaults`, 2E00h.04 (R499). -/
abbrev Reg.hbPathFaults : Reg := ⟨.hb, 0, 0x04, 0, 0⟩
/-- `Hb.Losses`, 2E00h.05 (R499). -/
abbrev Reg.hbLosses : Reg := ⟨.hb, 0, 0x05, 0, 0⟩
/-- `Hb.Takeovers`, 2E00h.06 (R499). -/
abbrev Reg.hbTakeovers : Reg := ⟨.hb, 0, 0x06, 0, 0⟩
/-- `Tw.Enable`, 2E08h.01 (R500). -/
abbrev Reg.twEnable : Reg := ⟨.tw, 0, 0x01, 0, 0⟩
/-- `Tw.Unit`, 2E08h.02 (R500). -/
abbrev Reg.twUnit : Reg := ⟨.tw, 0, 0x02, 0, 0⟩
/-- `Tw.DestMac`, 2E08h.03 (R500). -/
abbrev Reg.twDestMac : Reg := ⟨.tw, 0, 0x03, 0, 0⟩
/-- `Tw.Vlan`, 2E08h.04 (R500). -/
abbrev Reg.twVlan : Reg := ⟨.tw, 0, 0x04, 0, 0⟩
/-- `Tw.ProfileTag`, 2E08h.05 (R500). -/
abbrev Reg.twProfileTag : Reg := ⟨.tw, 0, 0x05, 0, 0⟩
/-- `Tw.RxQueue`, 2E08h.06 (R500). -/
abbrev Reg.twRxQueue : Reg := ⟨.tw, 0, 0x06, 0, 0⟩
/-- `Tw.State`, 2E08h.07 (R500). -/
abbrev Reg.twState : Reg := ⟨.tw, 0, 0x07, 0, 0⟩
/-- `Tw.Losses`, 2E08h.08 (R500). -/
abbrev Reg.twLosses : Reg := ⟨.tw, 0, 0x08, 0, 0⟩
/-- `Tw.FramesRx`, 2E08h.09 (R500). -/
abbrev Reg.twFramesRx : Reg := ⟨.tw, 0, 0x09, 0, 0⟩
/-- `Tw.FrameErrors`, 2E08h.0A (R500). -/
abbrev Reg.twFrameErrors : Reg := ⟨.tw, 0, 0x0A, 0, 0⟩
/-- `Cg.Arbitrated`, 2E10h+g.01 (R501). -/
abbrev Reg.cgArbitrated (i : Nat) : Reg := ⟨.cg, i, 0x01, 0, 0⟩
/-- `Cg.TwinShared`, 2E10h+g.02 (R501). -/
abbrev Reg.cgTwinShared (i : Nat) : Reg := ⟨.cg, i, 0x02, 0, 0⟩
/-- `Cg.Claim`, 2E10h+g.03 (R501). -/
abbrev Reg.cgClaim (i : Nat) : Reg := ⟨.cg, i, 0x03, 0, 0⟩
/-- `Cg.ClaimA`, 2E10h+g.04 (R501). -/
abbrev Reg.cgClaimA (i : Nat) : Reg := ⟨.cg, i, 0x04, 0, 0⟩
/-- `Cg.ClaimB`, 2E10h+g.05 (R501). -/
abbrev Reg.cgClaimB (i : Nat) : Reg := ⟨.cg, i, 0x05, 0, 0⟩
/-- `Cg.ClaimTwin`, 2E10h+g.06 (R501). -/
abbrev Reg.cgClaimTwin (i : Nat) : Reg := ⟨.cg, i, 0x06, 0, 0⟩
/-- `Cg.Owner`, 2E10h+g.07 (R501). -/
abbrev Reg.cgOwner (i : Nat) : Reg := ⟨.cg, i, 0x07, 0, 0⟩
/-- `Cg.State`, 2E10h+g.08 (R501). -/
abbrev Reg.cgState (i : Nat) : Reg := ⟨.cg, i, 0x08, 0, 0⟩
/-- `Cg.HoldTime`, 2E10h+g.09 (R501). -/
abbrev Reg.cgHoldTime (i : Nat) : Reg := ⟨.cg, i, 0x09, 0, 0⟩
/-- `Cg.OwnerChanges`, 2E10h+g.0A (R501). -/
abbrev Reg.cgOwnerChanges (i : Nat) : Reg := ⟨.cg, i, 0x0A, 0, 0⟩
/-- `Cg.SafeEntries`, 2E10h+g.0B (R501). -/
abbrev Reg.cgSafeEntries (i : Nat) : Reg := ⟨.cg, i, 0x0B, 0, 0⟩
/-- `Cyc.Group`, 2E30h.01–80 (R502). -/
abbrev Reg.cycGroup (k : Nat) : Reg := ⟨.cycGroup, 0, 0x01 + k, 0, 0⟩
/-- `Out.Command`, 2E40h+o.01 (R502). -/
abbrev Reg.outCommand (i : Nat) : Reg := ⟨.outp, i, 0x01, 0, 0⟩
/-- `Out.Group`, 2E40h+o.02 (R502). -/
abbrev Reg.outGroup (i : Nat) : Reg := ⟨.outp, i, 0x02, 0, 0⟩
/-- `Out.SafeState`, 2E40h+o.03 (R502). -/
abbrev Reg.outSafeState (i : Nat) : Reg := ⟨.outp, i, 0x03, 0, 0⟩
/-- `Out.Drive`, 2E40h+o.04 (R502). -/
abbrev Reg.outDrive (i : Nat) : Reg := ⟨.outp, i, 0x04, 0, 0⟩
/-- `Cys.SafeMode`, 2E80h+e.01 (R502). -/
abbrev Reg.cysSafeMode (i : Nat) : Reg := ⟨.cys, i, 0x01, 0, 0⟩
/-- `Cys.SafeData`, 2E80h+e.02 (R502). -/
abbrev Reg.cysSafeData (i : Nat) : Reg := ⟨.cys, i, 0x02, 0, 0⟩
/-- `Err.NextSequence`, 3100h.01 (R521). -/
abbrev Reg.errNextSequence : Reg := ⟨.err, 0, 0x01, 0, 0⟩
/-- `Err.Unacknowledged`, 3100h.03 (R521). -/
abbrev Reg.errUnacknowledged : Reg := ⟨.err, 0, 0x03, 0, 0⟩
/-- `Err.Select`, 3100h.04 (R521). -/
abbrev Reg.errSelect : Reg := ⟨.err, 0, 0x04, 0, 0⟩
/-- `Err.Record`, 3100h.05 (R521). -/
abbrev Reg.errRecord : Reg := ⟨.err, 0, 0x05, 0, 0⟩
/-- `Err.QueueHighWater`, 3100h.07 (R521). -/
abbrev Reg.errQueueHighWater : Reg := ⟨.err, 0, 0x07, 0, 0⟩
/-- `Ecl.Recorded`, 3110h+c.01 (R522). -/
abbrev Reg.eclRecorded (i : Nat) : Reg := ⟨.ecl, i, 0x01, 0, 0⟩
/-- `Ecl.Lost`, 3110h+c.02 (R522). -/
abbrev Reg.eclLost (i : Nat) : Reg := ⟨.ecl, i, 0x02, 0, 0⟩
/-- `Ecl.FirstLost`, 3110h+c.03 (R522). -/
abbrev Reg.eclFirstLost (i : Nat) : Reg := ⟨.ecl, i, 0x03, 0, 0⟩
/-- `Ecl.LastLost`, 3110h+c.04 (R522). -/
abbrev Reg.eclLastLost (i : Nat) : Reg := ⟨.ecl, i, 0x04, 0, 0⟩
/-- `Rst.LastCause`, 3180h.01 (R523). -/
abbrev Reg.rstLastCause : Reg := ⟨.rst, 0, 0x01, 0, 0⟩
/-- `Rst.Outcome`, 3180h.04 (R523). -/
abbrev Reg.rstOutcome : Reg := ⟨.rst, 0, 0x04, 0, 0⟩
/-- `Rst.SnuffRestart`, 3180h.05 (R523). -/
abbrev Reg.rstSnuffRestart : Reg := ⟨.rst, 0, 0x05, 0, 0⟩
/-- `Rst.SnuffAutoLimit`, 3180h.06 (R523). -/
abbrev Reg.rstSnuffAutoLimit : Reg := ⟨.rst, 0, 0x06, 0, 0⟩
/-- `Rst.SnuffAutoCount`, 3180h.07 (R523). -/
abbrev Reg.rstSnuffAutoCount : Reg := ⟨.rst, 0, 0x07, 0, 0⟩
/-- `Rst.HaltCause`, 3180h.08 (R523). -/
abbrev Reg.rstHaltCause : Reg := ⟨.rst, 0, 0x08, 0, 0⟩
/-- `Rst.StartMode`, 3180h.09 (R523). -/
abbrev Reg.rstStartMode : Reg := ⟨.rst, 0, 0x09, 0, 0⟩
/-- `Rst.Starts`, 3180h.0A (R523). -/
abbrev Reg.rstStarts : Reg := ⟨.rst, 0, 0x0A, 0, 0⟩
/-- `Rst.PilotRestarts`, 3180h.0B (R523). -/
abbrev Reg.rstPilotRestarts : Reg := ⟨.rst, 0, 0x0B, 0, 0⟩
/-- `Dev.ConfigFormat`, 2000h.0A (R542). -/
abbrev Reg.devConfigFormat : Reg := ⟨.dev, 0, 0x0A, 0, 0⟩
/-- `Upd.ActiveSlot`, 3000h.01 (R542). -/
abbrev Reg.updActiveSlot : Reg := ⟨.upd, 0, 0x01, 0, 0⟩
/-- `Upd.SlotStateA`, 3000h.02 (R542). -/
abbrev Reg.updSlotStateA : Reg := ⟨.upd, 0, 0x02, 0, 0⟩
/-- `Upd.SlotStateB`, 3000h.03 (R542). -/
abbrev Reg.updSlotStateB : Reg := ⟨.upd, 0, 0x03, 0, 0⟩
/-- `Upd.Outcome`, 3000h.05 (R542). -/
abbrev Reg.updOutcome : Reg := ⟨.upd, 0, 0x05, 0, 0⟩
/-- `Upd.StagedVersion`, 3000h.06 (R542). -/
abbrev Reg.updStagedVersion : Reg := ⟨.upd, 0, 0x06, 0, 0⟩
/-- `Upd.ActiveVersion`, 3000h.07 (R542). -/
abbrev Reg.updActiveVersion : Reg := ⟨.upd, 0, 0x07, 0, 0⟩
/-- `Upd.Floor`, 3000h.08 (R542). -/
abbrev Reg.updFloor : Reg := ⟨.upd, 0, 0x08, 0, 0⟩
/-- `Upd.FloorStepsLeft`, 3000h.09 (R542). -/
abbrev Reg.updFloorStepsLeft : Reg := ⟨.upd, 0, 0x09, 0, 0⟩
/-- `Upd.TrialTime`, 3000h.0B (R542). -/
abbrev Reg.updTrialTime : Reg := ⟨.upd, 0, 0x0B, 0, 0⟩
/-- `Upd.Fallbacks`, 3000h.0C (R542). -/
abbrev Reg.updFallbacks : Reg := ⟨.upd, 0, 0x0C, 0, 0⟩
/-- `Upd.MigrationState`, 3000h.0D (R542). -/
abbrev Reg.updMigrationState : Reg := ⟨.upd, 0, 0x0D, 0, 0⟩
/-- `Upd.DroppedRecords`, 3000h.0E (R542). -/
abbrev Reg.updDroppedRecords : Reg := ⟨.upd, 0, 0x0E, 0, 0⟩
/-- `Upd.OwnerKey`, 3000h.0F (R542). -/
abbrev Reg.updOwnerKey : Reg := ⟨.upd, 0, 0x0F, 0, 0⟩
/-- `Upd.TaperMac`, 3000h.10 (R542). -/
abbrev Reg.updTaperMac : Reg := ⟨.upd, 0, 0x10, 0, 0⟩
/-- `Upd.TaperState`, 3000h.11 (R542). -/
abbrev Reg.updTaperState : Reg := ⟨.upd, 0, 0x11, 0, 0⟩
/-- `Upd.TaperBytes`, 3000h.12 (R542). -/
abbrev Reg.updTaperBytes : Reg := ⟨.upd, 0, 0x12, 0, 0⟩
/-- `Upd.TaperClockOut`, 3000h.13 (R542). -/
abbrev Reg.updTaperClockOut : Reg := ⟨.upd, 0, 0x13, 0, 0⟩

/-! Internal registers: state that the chapters give the block without an object of its own. -/

/-- Master local counter in sixteenths of a nanosecond (R82). -/
abbrev Reg.localCounter (i : Nat := 0) (row : Nat := 0) : Reg := ⟨.iTime, i, 1, row, 0⟩
/-- Wick follower counter in sixteenths (R83). -/
abbrev Reg.followerCounter (i : Nat := 0) (row : Nat := 0) : Reg := ⟨.iTime, i, 2, row, 0⟩
/-- Follower alignments failed in a row (R83). -/
abbrev Reg.followerFails (i : Nat := 0) (row : Nat := 0) : Reg := ⟨.iTime, i, 3, row, 0⟩
/-- 1 = the valid bit of P32–P36 timestamps is cleared (R83). -/
abbrev Reg.followerInvalid (i : Nat := 0) (row : Nat := 0) : Reg := ⟨.iTime, i, 4, row, 0⟩
/-- Uptime of the latest follower alignment, in ps (R83). -/
abbrev Reg.followerLast (i : Nat := 0) (row : Nat := 0) : Reg := ⟨.iTime, i, 5, row, 0⟩
/-- 1 = flash holds a copy of the configuration change counter (R49). -/
abbrev Reg.counterCopied (i : Nat := 0) (row : Nat := 0) : Reg := ⟨.iTime, i, 6, row, 0⟩
/-- 1 = the device has had its first start in Blank, at which it made its identity key (R291). -/
abbrev Reg.identityMade (i : Nat := 0) (row : Nat := 0) : Reg := ⟨.iTime, i, 7, row, 0⟩
/-- Clock of domain i in sixteenths (R84). -/
abbrev Reg.domClock (i : Nat := 0) (row : Nat := 0) : Reg := ⟨.iDom, i, 1, row, 0⟩
/-- Fraction of domain clock i below the sixteenth, in 2^-40 (R84). -/
abbrev Reg.domFrac (i : Nat := 0) (row : Nat := 0) : Reg := ⟨.iDom, i, 2, row, 0⟩
/-- Uptime in ps from which the Sync monitor of domain i measures (R85). -/
abbrev Reg.syncBase (i : Nat := 0) (row : Nat := 0) : Reg := ⟨.iDom, i, 3, row, 0⟩
/-- 1 = the Sync monitor of domain i has expired and not restarted (R85). -/
abbrev Reg.monitorExpired (i : Nat := 0) (row : Nat := 0) : Reg := ⟨.iDom, i, 4, row, 0⟩
/-- 1 = capture i was not read since it was taken (R96). -/
abbrev Reg.capUnread (i : Nat := 0) (row : Nat := 0) : Reg := ⟨.iCap, i, 1, row, 0⟩
/-- Pending bit of interrupt source i (R36). -/
abbrev Reg.irqPending (i : Nat := 0) (row : Nat := 0) : Reg := ⟨.iIrq, i, 1, row, 0⟩
/-- 1 = source i is claimed and not completed (R36). -/
abbrev Reg.irqClaimed (i : Nat := 0) (row : Nat := 0) : Reg := ⟨.iIrq, i, 2, row, 0⟩
/-- Priority 0–7 of interrupt source i (R36). -/
abbrev Reg.irqPriority (i : Nat := 0) (row : Nat := 0) : Reg := ⟨.iIrq, i, 3, row, 0⟩
/-- Enable bit of source i in PLIC context row (R36). -/
abbrev Reg.irqEnabled (i : Nat := 0) (row : Nat := 0) : Reg := ⟨.iIrq, i, 4, row, 0⟩
/-- Threshold of PLIC context i (R36). -/
abbrev Reg.irqThreshold (i : Nat := 0) (row : Nat := 0) : Reg := ⟨.iIrq, i, 5, row, 0⟩
/-- 1 = an interrupt of Pilot hook input i waits for its hook (R34). -/
abbrev Reg.hookPending (i : Nat := 0) (row : Nat := 0) : Reg := ⟨.iIrq, i, 6, row, 0⟩
/-- Link of port i: 0 down, 1 full training, 2 warm start on retained settings, 3 up (R110, R121). -/
abbrev Reg.portPhase (i : Nat := 0) (row : Nat := 0) : Reg := ⟨.iPort, i, 1, row, 0⟩
/-- Uptime in ps at which the phase of port i began. -/
abbrev Reg.portSince (i : Nat := 0) (row : Nat := 0) : Reg := ⟨.iPort, i, 2, row, 0⟩
/-- 1 = a retained block of port i is held (R120). -/
abbrev Reg.retPresent (i : Nat := 0) (row : Nat := 0) : Reg := ⟨.iPort, i, 3, row, 0⟩
/-- Retained block of port i, as bytes: 48 for each of its lanes, then their CRC-32C (R120). -/
abbrev Reg.retBlock (i : Nat := 0) (row : Nat := 0) : Reg := ⟨.iPort, i, 4, row, 0⟩
/-- Die temperature in °C above −100, as measured last (R121). -/
abbrev Reg.dieTemp (i : Nat := 0) (row : Nat := 0) : Reg := ⟨.iPort, i, 5, row, 0⟩
/-- Uptime in ps at which the die temperature was measured last, plus 1 (R120, R121). -/
abbrev Reg.dieTempAt (i : Nat := 0) (row : Nat := 0) : Reg := ⟨.iPort, i, 6, row, 0⟩
/-- Uptime in ps until which priority row of port i is paused; row 8 is the whole port (R113). -/
abbrev Reg.pauseUntil (i : Nat := 0) (row : Nat := 0) : Reg := ⟨.iPort, i, 7, row, 0⟩
/-- Verify requests sent on port i in the running verify procedure (R114). -/
abbrev Reg.verifyTries (i : Nat := 0) (row : Nat := 0) : Reg := ⟨.iPort, i, 8, row, 0⟩
/-- Uptime in ps at which the verify interval of port i ends (R114). -/
abbrev Reg.verifyAt (i : Nat := 0) (row : Nat := 0) : Reg := ⟨.iPort, i, 9, row, 0⟩
/-- What port i signals in Snuffed: 0 nothing, 1 local fault, 2 transmitter off (R125). -/
abbrev Reg.snuffSignal (i : Nat := 0) (row : Nat := 0) : Reg := ⟨.iPort, i, 10, row, 0⟩
/-- 1 = the SerDes of port i is unpowered (R38, R462). -/
abbrev Reg.serdesOff (i : Nat := 0) (row : Nat := 0) : Reg := ⟨.iPort, i, 11, row, 0⟩
/-- Speed that auto-negotiation last gave port i in mode 0x08: 1 10, 2 100, 3 1,000 Mbit/s; 0 = none yet (R103). -/
abbrev Reg.negSpeed (i : Nat := 0) (row : Nat := 0) : Reg := ⟨.iPort, i, 12, row, 0⟩
/-- 1 = SerDes lane i is powered (R107). -/
abbrev Reg.lanePower (i : Nat := 0) (row : Nat := 0) : Reg := ⟨.iPort, i, 13, row, 0⟩
/-- Verify responses that port i has sent (R114). -/
abbrev Reg.verifyResponses (i : Nat := 0) (row : Nat := 0) : Reg := ⟨.iPort, i, 14, row, 0⟩
/-- 1 = an express frame of port i waits until the preemptable frame in transmission is preempted (R195). -/
abbrev Reg.expressWaits (i : Nat := 0) (row : Nat := 0) : Reg := ⟨.iPort, i, 15, row, 0⟩
/-- Number of the next frame stored; frames are told apart by it. -/
abbrev Reg.nextFrame (i : Nat := 0) (row : Nat := 0) : Reg := ⟨.iBuf, i, 1, row, 0⟩
/-- 1 = the reclaim walk runs (R163). -/
abbrev Reg.reclaimBusy (i : Nat := 0) (row : Nat := 0) : Reg := ⟨.iBuf, i, 2, row, 0⟩
/-- Cells in the ingress write FIFO of port i (R175). -/
abbrev Reg.wrFifo (i : Nat := 0) (row : Nat := 0) : Reg := ⟨.iBuf, i, 3, row, 0⟩
/-- Uptime in ps of the latest raise of the rank floor (R176). -/
abbrev Reg.floorRaisedAt (i : Nat := 0) (row : Nat := 0) : Reg := ⟨.iBuf, i, 4, row, 0⟩
/-- Uptime in ps since which no write FIFO held more than 16 cells (R176). -/
abbrev Reg.floorQuietAt (i : Nat := 0) (row : Nat := 0) : Reg := ⟨.iBuf, i, 5, row, 0⟩
/-- Ingress port served next by the staging grants of partition i (R174). -/
abbrev Reg.grantNext (i : Nat := 0) (row : Nat := 0) : Reg := ⟨.iBuf, i, 6, row, 0⟩
/-- Flush of port i at entry to Trim: 0 none, 1 waits for the flush that runs, 2 runs (R461). -/
abbrev Reg.trimFlush (i : Nat := 0) (row : Nat := 0) : Reg := ⟨.iBuf, i, 7, row, 0⟩
/-- Queue, within its four, that class i of P37 serves next (R193). -/
abbrev Reg.hostNext (i : Nat := 0) (row : Nat := 0) : Reg := ⟨.iBuf, i, 8, row, 0⟩
/-- Number of the frame whose cells came last into the write FIFO of port i, plus 1 (R175). -/
abbrev Reg.fifoFrame (i : Nat := 0) (row : Nat := 0) : Reg := ⟨.iBuf, i, 9, row, 0⟩
/-- Port that the cell-write arbiter serves next within a rank (R175). -/
abbrev Reg.fifoNext (i : Nat := 0) (row : Nat := 0) : Reg := ⟨.iBuf, i, 10, row, 0⟩
/-- Port served next by parse pipeline i (R127). -/
abbrev Reg.parseNext (i : Nat := 0) (row : Nat := 0) : Reg := ⟨.iCls, i, 1, row, 0⟩
/-- Uptime in ps of the commit for whose hand-over bank i stops admission, plus 1; 0 = none (R152, R153). -/
abbrev Reg.bankPause (i : Nat := 0) (row : Nat := 0) : Reg := ⟨.iCls, i, 2, row, 0⟩
/-- 1 = bank i has handed over in the pause that still runs (R152). -/
abbrev Reg.bankFlipped (i : Nat := 0) (row : Nat := 0) : Reg := ⟨.iCls, i, 3, row, 0⟩
/-- Uptime in ps, plus 1, at which pipeline 0 last learned forwarding row row (R180). -/
abbrev Reg.fdbLearnedAt (i : Nat := 0) (row : Nat := 0) : Reg := ⟨.iCls, i, 4, row, 0⟩
/-- Scanner period, counted from uptime 0, in which connection row row was visited last, plus 1 (R146). -/
abbrev Reg.connScannedAt (i : Nat := 0) (row : Nat := 0) : Reg := ⟨.iCls, i, 5, row, 0⟩
/-- Instant in ns of the schedule domain at which the next row of port i starts (R188). -/
abbrev Reg.gclNextAt (i : Nat := 0) (row : Nat := 0) : Reg := ⟨.iGcl, i, 1, row, 0⟩
/-- Row of the gate list of port i that starts next (R188). -/
abbrev Reg.gclNextRow (i : Nat := 0) (row : Nat := 0) : Reg := ⟨.iGcl, i, 2, row, 0⟩
/-- 1 = a row start of port i is planned. -/
abbrev Reg.gclPlanned (i : Nat := 0) (row : Nat := 0) : Reg := ⟨.iGcl, i, 3, row, 0⟩
/-- 1 = the MAC merge hold of port i is requested (R195). -/
abbrev Reg.holdState (i : Nat := 0) (row : Nat := 0) : Reg := ⟨.iGcl, i, 4, row, 0⟩
/-- 1 = the head of class row of port i was counted in this gate opening (R194). -/
abbrev Reg.noFitCounted (i : Nat := 0) (row : Nat := 0) : Reg := ⟨.iGcl, i, 5, row, 0⟩
/-- Credit of class row of port i below one bit, in 10^-9 bit (R197). -/
abbrev Reg.cbsFrac (i : Nat := 0) (row : Nat := 0) : Reg := ⟨.iGcl, i, 6, row, 0⟩
/-- Uptime in ps to which the credits of port i are counted (R197). -/
abbrev Reg.cbsAt (i : Nat := 0) (row : Nat := 0) : Reg := ⟨.iGcl, i, 7, row, 0⟩
/-- Uptime in ps at which the gate of class row of port i last opened (R218). -/
abbrev Reg.gateOpenedAt (i : Nat := 0) (row : Nat := 0) : Reg := ⟨.iGcl, i, 8, row, 0⟩
/-- 1 = the next row that starts at port i is the first one after a hand-over (R196). -/
abbrev Reg.gclFresh (i : Nat := 0) (row : Nat := 0) : Reg := ⟨.iGcl, i, 9, row, 0⟩
/-- Bucket C of flow meter row, in units of 1/128,000,000 byte (R204). -/
abbrev Reg.fmC (i : Nat := 0) (row : Nat := 0) : Reg := ⟨.iStream, i, 1, row, 0⟩
/-- Bucket E of flow meter row, as fmC (R204). -/
abbrev Reg.fmE (i : Nat := 0) (row : Nat := 0) : Reg := ⟨.iStream, i, 2, row, 0⟩
/-- Reference time of flow meter row in sixteenths of the local counter (R204). -/
abbrev Reg.fmRef (i : Nat := 0) (row : Nat := 0) : Reg := ⟨.iStream, i, 3, row, 0⟩
/-- 1 = recovery function row is not in its take-any state (R206). -/
abbrev Reg.srLive (i : Nat := 0) (row : Nat := 0) : Reg := ⟨.iStream, i, 4, row, 0⟩
/-- Span of recovery function row (R206). -/
abbrev Reg.srSpan (i : Nat := 0) (row : Nat := 0) : Reg := ⟨.iStream, i, 5, row, 0⟩
/-- How often recovery function row went to take-any (R207). -/
abbrev Reg.srEpoch (i : Nat := 0) (row : Nat := 0) : Reg := ⟨.iStream, i, 6, row, 0⟩
/-- Uptime in ps at which the reset timer of recovery function row runs out; 0 = not running (R206). -/
abbrev Reg.srDeadline (i : Nat := 0) (row : Nat := 0) : Reg := ⟨.iStream, i, 7, row, 0⟩
/-- 1 = channel i is open (R247). -/
abbrev Reg.chOpen (i : Nat := 0) (row : Nat := 0) : Reg := ⟨.iChan, i, 1, row, 0⟩
/-- Direction of channel i: 1 receive (R247). -/
abbrev Reg.chRx (i : Nat := 0) (row : Nat := 0) : Reg := ⟨.iChan, i, 2, row, 0⟩
/-- SCI of channel i (R247). -/
abbrev Reg.chSci (i : Nat := 0) (row : Nat := 0) : Reg := ⟨.iChan, i, 3, row, 0⟩
/-- Ports of receive channel i (R247). -/
abbrev Reg.chPorts (i : Nat := 0) (row : Nat := 0) : Reg := ⟨.iChan, i, 4, row, 0⟩
/-- Flags of channel i (R250). -/
abbrev Reg.chFlags (i : Nat := 0) (row : Nat := 0) : Reg := ⟨.iChan, i, 5, row, 0⟩
/-- 1 = the exhaustion hold of channel i runs or has ended (R262). -/
abbrev Reg.chHolding (i : Nat := 0) (row : Nat := 0) : Reg := ⟨.iChan, i, 6, row, 0⟩
/-- Uptime in ps at which the exhaustion hold of channel i began (R262). -/
abbrev Reg.chHoldAt (i : Nat := 0) (row : Nat := 0) : Reg := ⟨.iChan, i, 7, row, 0⟩
/-- 1 = the exhaustion hold of channel i has ended (R262). -/
abbrev Reg.chHoldOver (i : Nat := 0) (row : Nat := 0) : Reg := ⟨.iChan, i, 8, row, 0⟩
/-- Key of association slot row; no path reads it (R254). -/
abbrev Reg.slotKey (i : Nat := 0) (row : Nat := 0) : Reg := ⟨.iSlot, i, 1, row, 0⟩
/-- Salt of association slot row (R254). -/
abbrev Reg.slotSalt (i : Nat := 0) (row : Nat := 0) : Reg := ⟨.iSlot, i, 2, row, 0⟩
/-- Highest accepted number of receive slot row, plus 1 (R265). -/
abbrev Reg.slotHighest (i : Nat := 0) (row : Nat := 0) : Reg := ⟨.iSlot, i, 3, row, 0⟩
/-- Order in which slot row became active (R264). -/
abbrev Reg.slotActiveAt (i : Nat := 0) (row : Nat := 0) : Reg := ⟨.iSlot, i, 4, row, 0⟩
/-- Uptime in ps at which slot row was superseded (R264). -/
abbrev Reg.slotOverlapAt (i : Nat := 0) (row : Nat := 0) : Reg := ⟨.iSlot, i, 5, row, 0⟩
/-- 1 = former current slot row is retired when its last started frame ends (R260). -/
abbrev Reg.slotRetiring (i : Nat := 0) (row : Nat := 0) : Reg := ⟨.iSlot, i, 6, row, 0⟩
/-- 1 = receive slot row has reached its threshold (R266). -/
abbrev Reg.slotThresholdMet (i : Nat := 0) (row : Nat := 0) : Reg := ⟨.iSlot, i, 7, row, 0⟩
/-- Number of the latest hand-over of slot rows, which orders the slots made active (R264). -/
abbrev Reg.slotOrder (i : Nat := 0) (row : Nat := 0) : Reg := ⟨.iSlotG, i, 1, row, 0⟩
/-- Ends from which connection row has seen a FIN: bit 0 endpoint A, bit 1 endpoint B (R142). -/
abbrev Reg.connFin (i : Nat := 0) (row : Nat := 0) : Reg := ⟨.iConn, i, 1, row, 0⟩
/-- Installs served in a row while a dictionary command waited (R302). -/
abbrev Reg.vltInstallsInRow (i : Nat := 0) (row : Nat := 0) : Reg := ⟨.iVlt, i, 1, row, 0⟩
/-- 1 = a health test stopped the DRBG (R308). -/
abbrev Reg.drbgStopped (i : Nat := 0) (row : Nat := 0) : Reg := ⟨.iVlt, i, 2, row, 0⟩
/-- Requests of the DRBG since its latest reseed (R308). -/
abbrev Reg.drbgRequests (i : Nat := 0) (row : Nat := 0) : Reg := ⟨.iVlt, i, 3, row, 0⟩
/-- Passing test windows since the latest failure (R308). -/
abbrev Reg.drbgWindows (i : Nat := 0) (row : Nat := 0) : Reg := ⟨.iVlt, i, 4, row, 0⟩
/-- Low 32 bits of the transition confirmation last written (R313). -/
abbrev Reg.vltConfirm (i : Nat := 0) (row : Nat := 0) : Reg := ⟨.iVlt, i, 5, row, 0⟩
/-- Target state + 1 of a journal intent without its done record (R314, R315). -/
abbrev Reg.journalIntent (i : Nat := 0) (row : Nat := 0) : Reg := ⟨.iVlt, i, 6, row, 0⟩
/-- Sequence number of the journal (R314). -/
abbrev Reg.journalSeq (i : Nat := 0) (row : Nat := 0) : Reg := ⟨.iVlt, i, 7, row, 0⟩
/-- Journal record held in flash copy i (R314). -/
abbrev Reg.journalCopy (i : Nat := 0) (row : Nat := 0) : Reg := ⟨.iVlt, i, 8, row, 0⟩
/-- Queue served next by the Cresset scheduler (R327). -/
abbrev Reg.crRobin (i : Nat := 0) (row : Nat := 0) : Reg := ⟨.iCr, i, 1, row, 0⟩
/-- Byte offset after the last descriptor of queue i taken by the scheduler (R327). -/
abbrev Reg.crqTaken (i : Nat := 0) (row : Nat := 0) : Reg := ⟨.iCr, i, 2, row, 0⟩
/-- 1 = a start pulse has released the job that waits at the head of queue i (R328). -/
abbrev Reg.crqReleased (i : Nat := 0) (row : Nat := 0) : Reg := ⟨.iCr, i, 3, row, 0⟩
/-- Running CRC of channel i (R339). -/
abbrev Reg.dmaCrcRun (i : Nat := 0) (row : Nat := 0) : Reg := ⟨.iDma, i, 1, row, 0⟩
/-- Type of the running CRC of channel i (R339). -/
abbrev Reg.dmaCrcType (i : Nat := 0) (row : Nat := 0) : Reg := ⟨.iDma, i, 2, row, 0⟩
/-- 1 = no CRC is written until the next reset, after a bad descriptor (R340). -/
abbrev Reg.dmaCrcOff (i : Nat := 0) (row : Nat := 0) : Reg := ⟨.iDma, i, 3, row, 0⟩
/-- 1 = a pending start of channel i (R343). -/
abbrev Reg.dmaPending (i : Nat := 0) (row : Nat := 0) : Reg := ⟨.iDma, i, 4, row, 0⟩
/-- 1 = the channel takes a new chain address at its next boundary (R345). -/
abbrev Reg.dmaJump (i : Nat := 0) (row : Nat := 0) : Reg := ⟨.iDma, i, 5, row, 0⟩
/-- 1 = the fence of channel i completed with FAULTED (R340, R382). -/
abbrev Reg.dmaFenceBad (i : Nat := 0) (row : Nat := 0) : Reg := ⟨.iDma, i, 6, row, 0⟩
/-- Word row of the descriptor that channel i has fetched (R337). -/
abbrev Reg.dmaWord (i : Nat := 0) (row : Nat := 0) : Reg := ⟨.iDma, i, 7, row, 0⟩
/-- Sector address + 1 of the erase that runs (R353). -/
abbrev Reg.flashErasing (i : Nat := 0) (row : Nat := 0) : Reg := ⟨.iXm, i, 1, row, 0⟩
/-- Consecutive replays (R384). -/
abbrev Reg.chmReplayRun (i : Nat := 0) (row : Nat := 0) : Reg := ⟨.iChm, i, 1, row, 0⟩
/-- Retrains failed in a row (R384). -/
abbrev Reg.chmFailedTrains (i : Nat := 0) (row : Nat := 0) : Reg := ⟨.iChm, i, 2, row, 0⟩
/-- First failed address of hart i since its previous fence, plus 1 (R382). -/
abbrev Reg.chmFirstFault (i : Nat := 0) (row : Nat := 0) : Reg := ⟨.iChm, i, 3, row, 0⟩
/-- Uptime in ps of the latest pulse that went out on sideband input row towards die i (0 Lantern, 1 Wick), plus 1; 0 = none (R369). -/
abbrev Reg.sidebandAt (i : Nat := 0) (row : Nat := 0) : Reg := ⟨.iChm, i, 4, row, 0⟩
/-- Generation of sequence tag i (R271). -/
abbrev Reg.spGeneration (i : Nat := 0) (row : Nat := 0) : Reg := ⟨.iSp, i, 1, row, 0⟩
/-- The last engine chosen, plus 1 (R273). -/
abbrev Reg.spLastEngine (i : Nat := 0) (row : Nat := 0) : Reg := ⟨.iSp, i, 2, row, 0⟩
/-- Tag at which the search for a free one starts (R271). -/
abbrev Reg.spNextTag (i : Nat := 0) (row : Nat := 0) : Reg := ⟨.iSp, i, 3, row, 0⟩
/-- 1 = the head frame was counted as stalled (R271). -/
abbrev Reg.spStallCounted (i : Nat := 0) (row : Nat := 0) : Reg := ⟨.iSp, i, 4, row, 0⟩
/-- Value that the latest packet instruction of engine i left in register row (R276). -/
abbrev Reg.seX (i : Nat := 0) (row : Nat := 0) : Reg := ⟨.iSe, i, 1, row, 0⟩
/-- Byte offset of ring i at which the device writes or reads next (R290). -/
abbrev Reg.ringOff (i : Nat := 0) (row : Nat := 0) : Reg := ⟨.iRing, i, 1, row, 0⟩
/-- Uptime in ps at which the ramp wait of driver i ends (R429). -/
abbrev Reg.cdOpenAt (i : Nat := 0) (row : Nat := 0) : Reg := ⟨.iCd, i, 1, row, 0⟩
/-- Uptime in ps of the latest accepted totaliser sample, plus 1; 0 = none (R429, R435). -/
abbrev Reg.totSampleAt (i : Nat := 0) (row : Nat := 0) : Reg := ⟨.iCp, i, 1, row, 0⟩
/-- 1 = a ramp request opened CP_S2 since the latest write to it (R429). -/
abbrev Reg.s2Ramped (i : Nat := 0) (row : Nat := 0) : Reg := ⟨.iCp, i, 2, row, 0⟩
/-- Uptime in ps at which group i entered state 5 (R488). -/
abbrev Reg.cgHoldAt (i : Nat := 0) (row : Nat := 0) : Reg := ⟨.iCg, i, 1, row, 0⟩
/-- 1 = the owner wrote output i since it appeared (R491). -/
abbrev Reg.outWritten (i : Nat := 0) (row : Nat := 0) : Reg := ⟨.iCg, i, 2, row, 0⟩
/-- Uptime in ps of the latest heartbeat of cluster i through the mailbox, plus 1 (R493). -/
abbrev Reg.hbMailAt (i : Nat := 0) (row : Nat := 0) : Reg := ⟨.iHb, i, 1, row, 0⟩
/-- Uptime in ps of the latest heartbeat of cluster i on the pilot line, plus 1 (R493). -/
abbrev Reg.hbPilotAt (i : Nat := 0) (row : Nat := 0) : Reg := ⟨.iHb, i, 2, row, 0⟩
/-- Uptime in ps at which the restart of cluster i began, plus 1; 0 = none runs (R517). -/
abbrev Reg.clusterRestart (i : Nat := 0) (row : Nat := 0) : Reg := ⟨.iHb, i, 3, row, 0⟩
/-- 1 = the restart of cluster i runs the lockstep self-test first (R517). -/
abbrev Reg.clusterTest (i : Nat := 0) (row : Nat := 0) : Reg := ⟨.iHb, i, 4, row, 0⟩
/-- Sequence of the next twin frame (R497). -/
abbrev Reg.twSeq (i : Nat := 0) (row : Nat := 0) : Reg := ⟨.iTw, i, 1, row, 0⟩
/-- Values of GO15 to GO0 in the latest valid twin frame (R497). -/
abbrev Reg.twGo (i : Nat := 0) (row : Nat := 0) : Reg := ⟨.iTw, i, 2, row, 0⟩
/-- Values of CP_S2 and CD3 to CD0 in the latest valid twin frame (R497). -/
abbrev Reg.twCd (i : Nat := 0) (row : Nat := 0) : Reg := ⟨.iTw, i, 3, row, 0⟩
/-- Uptime in ps at which the latest periodic twin frame was sent, plus 1 (R496). -/
abbrev Reg.twSentAt (i : Nat := 0) (row : Nat := 0) : Reg := ⟨.iTw, i, 4, row, 0⟩
/-- Uptime in ps of the latest valid frame on the claim link, plus 1 (R498). -/
abbrev Reg.twLinkAt (i : Nat := 0) (row : Nat := 0) : Reg := ⟨.iTw, i, 5, row, 0⟩
/-- Uptime in ps of the latest valid frame of the twin stream, plus 1 (R498). -/
abbrev Reg.twStreamAt (i : Nat := 0) (row : Nat := 0) : Reg := ⟨.iTw, i, 6, row, 0⟩
/-- The frame sent last on CLAIM_TX, as bytes (R496, R497). -/
abbrev Reg.claimTx (i : Nat := 0) (row : Nat := 0) : Reg := ⟨.iTw, i, 7, row, 0⟩
/-- Uptime in ps of the latest entry to Snuffed, plus 1 (R512). -/
abbrev Reg.snuffAt (i : Nat := 0) (row : Nat := 0) : Reg := ⟨.iPwr, i, 1, row, 0⟩
/-- Uptime in ps at which the present mode was entered (R471, R478). -/
abbrev Reg.modeAt (i : Nat := 0) (row : Nat := 0) : Reg := ⟨.iPwr, i, 2, row, 0⟩
/-- Target of the mode transition under way, plus 1; 0 = none (R458). -/
abbrev Reg.pwrTarget (i : Nat := 0) (row : Nat := 0) : Reg := ⟨.iPwr, i, 3, row, 0⟩
/-- 1 = the mode left is to be returned to on recovery: 1 crank, 2 overvoltage, 3 VPRE fault (R453, R454, R516). -/
abbrev Reg.crankEntry (i : Nat := 0) (row : Nat := 0) : Reg := ⟨.iPwr, i, 4, row, 0⟩
/-- Mode left at the latest entry to Ember or Dormant (R463). -/
abbrev Reg.modeLeft (i : Nat := 0) (row : Nat := 0) : Reg := ⟨.iPwr, i, 5, row, 0⟩
/-- Wake event latched during an entry to Ember or Dormant: source + 256 × info; 0 = none (R460). -/
abbrev Reg.wakeLatched (i : Nat := 0) (row : Nat := 0) : Reg := ⟨.iPwr, i, 6, row, 0⟩
/-- The VBAT sample i in mV: 0 the latest (R452). -/
abbrev Reg.vbatSample (i : Nat := 0) (row : Nat := 0) : Reg := ⟨.iPwr, i, 7, row, 0⟩
/-- VBAT samples taken since the start, up to 4 (R452). -/
abbrev Reg.vbatSamples (i : Nat := 0) (row : Nat := 0) : Reg := ⟨.iPwr, i, 8, row, 0⟩
/-- Uptime in ps, plus 1, since which VBAT is above 42.5 V; 0 = it is not (R453). -/
abbrev Reg.ovSince (i : Nat := 0) (row : Nat := 0) : Reg := ⟨.iPwr, i, 9, row, 0⟩
/-- Uptime in ps, plus 1, since which VBAT is below 40 V (R453). -/
abbrev Reg.ovClearSince (i : Nat := 0) (row : Nat := 0) : Reg := ⟨.iPwr, i, 10, row, 0⟩
/-- Uptime in ps, plus 1, since which VBAT is below 4.2 V (R454). -/
abbrev Reg.crankSince (i : Nat := 0) (row : Nat := 0) : Reg := ⟨.iPwr, i, 11, row, 0⟩
/-- Uptime in ps, plus 1, since which VBAT is above 5.0 V (R454). -/
abbrev Reg.crankClearSince (i : Nat := 0) (row : Nat := 0) : Reg := ⟨.iPwr, i, 12, row, 0⟩
/-- Uptime in ps, plus 1, since which VBAT is below the threshold of the next lower step (R474). -/
abbrev Reg.thrDownSince (i : Nat := 0) (row : Nat := 0) : Reg := ⟨.iPwr, i, 13, row, 0⟩
/-- Uptime in ps, plus 1, since which VBAT is above the threshold of the next higher step (R474). -/
abbrev Reg.thrUpSince (i : Nat := 0) (row : Nat := 0) : Reg := ⟨.iPwr, i, 14, row, 0⟩
/-- Uptime in ps of the latest step change (R474). -/
abbrev Reg.thrChangedAt (i : Nat := 0) (row : Nat := 0) : Reg := ⟨.iPwr, i, 15, row, 0⟩
/-- Step that VBAT gives (R474). -/
abbrev Reg.thrStep (i : Nat := 0) (row : Nat := 0) : Reg := ⟨.iPwr, i, 16, row, 0⟩
/-- Attempts that ended in the same VPRE fault, in a row (R516). -/
abbrev Reg.vpreFails (i : Nat := 0) (row : Nat := 0) : Reg := ⟨.iPwr, i, 17, row, 0⟩
/-- Uptime in ps of the latest VPRE fault (R516). -/
abbrev Reg.vpreFaultAt (i : Nat := 0) (row : Nat := 0) : Reg := ⟨.iPwr, i, 18, row, 0⟩
/-- Uptime in ps of the latest entry to Ember or Dormant, plus 1; 0 = none (R90, R463). -/
abbrev Reg.savedAt (i : Nat := 0) (row : Nat := 0) : Reg := ⟨.iPwr, i, 19, row, 0⟩
/-- 1 = the retention SRAM holds what the latest entry to Ember saved (R463, R465). -/
abbrev Reg.retSram (i : Nat := 0) (row : Nat := 0) : Reg := ⟨.iPwr, i, 20, row, 0⟩
/-- Items of R454 that the latest entry saved, 0 to 5. -/
abbrev Reg.retItems (i : Nat := 0) (row : Nat := 0) : Reg := ⟨.iPwr, i, 21, row, 0⟩
/-- 1 = the sleep record of the latest entry is valid (R464, R465). -/
abbrev Reg.recValid (i : Nat := 0) (row : Nat := 0) : Reg := ⟨.iPwr, i, 22, row, 0⟩
/-- 1 = the build phase of a configuration save runs (R466). -/
abbrev Reg.cfgSaving (i : Nat := 0) (row : Nat := 0) : Reg := ⟨.iPwr, i, 23, row, 0⟩
/-- Value written to Pwr.TrimConfirm (R459). -/
abbrev Reg.trimConfirm (i : Nat := 0) (row : Nat := 0) : Reg := ⟨.iPwr, i, 24, row, 0⟩
/-- Value written to Rst.Confirm (R523). -/
abbrev Reg.rstConfirm (i : Nat := 0) (row : Nat := 0) : Reg := ⟨.iPwr, i, 25, row, 0⟩
/-- Uptime in ps since which the device runs without entering Snuffed, plus 1 (R512). -/
abbrev Reg.snuffCleanSince (i : Nat := 0) (row : Nat := 0) : Reg := ⟨.iPwr, i, 26, row, 0⟩
/-- Uptime in ps of the latest accepted Pwr.Request, plus 1 (R460). -/
abbrev Reg.pwrAskedAt (i : Nat := 0) (row : Nat := 0) : Reg := ⟨.iPwr, i, 27, row, 0⟩
/-- Uptime in ps at which the pending reset asserted, plus 1 (R514). -/
abbrev Reg.rstAt (i : Nat := 0) (row : Nat := 0) : Reg := ⟨.iPwr, i, 28, row, 0⟩
/-- 1 = the pending reset is a power-on; 2 = it leaves the always-on domain (R514). -/
abbrev Reg.rstReach (i : Nat := 0) (row : Nat := 0) : Reg := ⟨.iPwr, i, 29, row, 0⟩
/-- Cluster + 1 whose restart Rst.Command began; 0 = none (R517, R523). -/
abbrev Reg.rstRestarting (i : Nat := 0) (row : Nat := 0) : Reg := ⟨.iPwr, i, 30, row, 0⟩
/-- 1 = bus-off recovery of channel i was started (R393). -/
abbrev Reg.canRecovering (i : Nat := 0) (row : Nat := 0) : Reg := ⟨.iCan, i, 1, row, 0⟩
/-- Uptime in ps until which channel i drives its wake-up signal (R395). -/
abbrev Reg.linWakeUntil (i : Nat := 0) (row : Nat := 0) : Reg := ⟨.iLin, i, 1, row, 0⟩
/-- The response that slave channel i sent last, as bytes (R408). -/
abbrev Reg.linResp (i : Nat := 0) (row : Nat := 0) : Reg := ⟨.iLin, i, 2, row, 0⟩
/-- Domain clock in ns, plus 1, of entry i at its latest release, hand-over or clock step (R406). -/
abbrev Reg.cycSeen (i : Nat := 0) (row : Nat := 0) : Reg := ⟨.iCyc, i, 1, row, 0⟩
/-- Uptime in ps, plus 1, of the latest accepted write or route update of entry i; 0 = none (R405). -/
abbrev Reg.cycDataAt (i : Nat := 0) (row : Nat := 0) : Reg := ⟨.iCyc, i, 2, row, 0⟩
/-- Uptime in ps of the latest route update of the held data of entry i, plus 1 (R407). -/
abbrev Reg.cycRouteAt (i : Nat := 0) (row : Nat := 0) : Reg := ⟨.iCyc, i, 3, row, 0⟩
/-- Held data of entry i before the writes of the cycle of its latest update (R407). -/
abbrev Reg.cycPrev (i : Nat := 0) (row : Nat := 0) : Reg := ⟨.iCyc, i, 4, row, 0⟩
/-- Flash reservation of freshness row, or its recorded V (R412). -/
abbrev Reg.fvReserve (i : Nat := 0) (row : Nat := 0) : Reg := ⟨.iFv, i, 1, row, 0⟩
/-- Sequence number of the next frame of stream i (R416). -/
abbrev Reg.acfSeqTx (i : Nat := 0) (row : Nat := 0) : Reg := ⟨.iAcf, i, 1, row, 0⟩
/-- Sequence number of the latest frame of stream i, plus 1; 0 = none (R417). -/
abbrev Reg.acfSeqRx (i : Nat := 0) (row : Nat := 0) : Reg := ⟨.iAcf, i, 2, row, 0⟩
/-- Receive stamp of the latest accepted sample in sixteenths of the follower counter, plus 1; 0 = none since the start (R435). -/
abbrev Reg.totStamp (i : Nat := 0) (row : Nat := 0) : Reg := ⟨.iTot, i, 1, row, 0⟩
/-- Lifetime import in units of 6.25 × 10^-16 J, exact (R435). -/
abbrev Reg.totImportUnits (i : Nat := 0) (row : Nat := 0) : Reg := ⟨.iTot, i, 2, row, 0⟩
/-- Lifetime export in the same units (R435). -/
abbrev Reg.totExportUnits (i : Nat := 0) (row : Nat := 0) : Reg := ⟨.iTot, i, 3, row, 0⟩
/-- 1 = the totals resumed after lost retention and the next interval is to be flagged (R435). -/
abbrev Reg.totResumed (i : Nat := 0) (row : Nat := 0) : Reg := ⟨.iTot, i, 4, row, 0⟩
/-- 1 = the latest sample of inlet temperature input i had reached the trip limit (R427). -/
abbrev Reg.tinTripped (i : Nat := 0) (row : Nat := 0) : Reg := ⟨.iTot, i, 5, row, 0⟩
/-- Value last written to Ms.Acknowledge (R446). -/
abbrev Reg.msAcked (i : Nat := 0) (row : Nat := 0) : Reg := ⟨.iMs, i, 1, row, 0⟩
/-- Refused seal writes since the latest record (R442). -/
abbrev Reg.msRefused (i : Nat := 0) (row : Nat := 0) : Reg := ⟨.iMs, i, 2, row, 0⟩
/-- 1 = the latest record is that of a refused write (R442). -/
abbrev Reg.msRefusedRecorded (i : Nat := 0) (row : Nat := 0) : Reg := ⟨.iMs, i, 3, row, 0⟩
/-- Value written to Ms.CloseConfirm (R441). -/
abbrev Reg.msConfirm (i : Nat := 0) (row : Nat := 0) : Reg := ⟨.iMs, i, 4, row, 0⟩
/-- Session whose export is built (R448). -/
abbrev Reg.msExportSession (i : Nat := 0) (row : Nat := 0) : Reg := ⟨.iMs, i, 5, row, 0⟩
/-- 1 = a reset interrupted the writing of a record (R447). -/
abbrev Reg.msTorn (i : Nat := 0) (row : Nat := 0) : Reg := ⟨.iMs, i, 6, row, 0⟩
/-- Value last written to Err.Acknowledge (R509). -/
abbrev Reg.errAcked (i : Nat := 0) (row : Nat := 0) : Reg := ⟨.iErr, i, 1, row, 0⟩
/-- Sequence of the next record to be copied to the flash log (R507). -/
abbrev Reg.errCopied (i : Nat := 0) (row : Nat := 0) : Reg := ⟨.iErr, i, 2, row, 0⟩
/-- Uptime in ps of the latest record written, plus 1 (R506). -/
abbrev Reg.errWroteAt (i : Nat := 0) (row : Nat := 0) : Reg := ⟨.iErr, i, 3, row, 0⟩
/-- Session identifier of the Taper transfer (R531). -/
abbrev Reg.updSession (i : Nat := 0) (row : Nat := 0) : Reg := ⟨.iUpd, i, 1, row, 0⟩
/-- Length L of the image under transfer (R532). -/
abbrev Reg.updLength (i : Nat := 0) (row : Nat := 0) : Reg := ⟨.iUpd, i, 2, row, 0⟩
/-- DATA frames accepted since the latest acknowledgement (R533). -/
abbrev Reg.updUnacked (i : Nat := 0) (row : Nat := 0) : Reg := ⟨.iUpd, i, 3, row, 0⟩
/-- Uptime in ps of the latest frame of the session (R533). -/
abbrev Reg.updLastFrame (i : Nat := 0) (row : Nat := 0) : Reg := ⟨.iUpd, i, 4, row, 0⟩
/-- Uptime in ps of the latest accepted DATA frame (R533). -/
abbrev Reg.updLastData (i : Nat := 0) (row : Nat := 0) : Reg := ⟨.iUpd, i, 5, row, 0⟩
/-- Uptime in ps at which the trial began, plus 1; 0 = no trial (R538). -/
abbrev Reg.updTrialAt (i : Nat := 0) (row : Nat := 0) : Reg := ⟨.iUpd, i, 6, row, 0⟩
/-- 1 = the slot that is not active is being erased (R539). -/
abbrev Reg.updErasing (i : Nat := 0) (row : Nat := 0) : Reg := ⟨.iUpd, i, 7, row, 0⟩
/-- Address of the tool whose session runs (R531). -/
abbrev Reg.updPeer (i : Nat := 0) (row : Nat := 0) : Reg := ⟨.iUpd, i, 8, row, 0⟩
/-- Uptime in ps of the latest CLOSE verdict, plus 1 (R535). -/
abbrev Reg.updVerdictAt (i : Nat := 0) (row : Nat := 0) : Reg := ⟨.iUpd, i, 9, row, 0⟩
/-- Latest selector record of sector i (R526). -/
abbrev Reg.selSector (i : Nat := 0) (row : Nat := 0) : Reg := ⟨.iUpd, i, 10, row, 0⟩

/-- The default `Port.Mode` of a port (R110's table). -/
def Port.defaultMode (n : Nat) : Nat :=
  if n < 24 then 0x04 else if n < 32 then 0x07 else if n < 36 then 0x10 else 0x11

/-- The first commit mode an owner accepts, which is the default of `Grp.CommitWhen` (R50). -/
def Grp.firstMode : Grp → Nat
  | .gcl => 2
  | _ => 0

/-- The reset values of the objects, other than 0, as the object tables give them (column Default). -/
def Reg.dfltOf (r : Reg) : Nat :=
  match r.grp with
  | .com => if r.inst = 0x1018 ∧ r.sub = 0x00 then 4 else if r.inst = 0x1018 ∧ r.sub = 0x01 then 0xB7E else if r.inst = 0x1018 ∧ r.sub = 0x03 then 0xB1 else if r.inst = 0x1200 ∧ r.sub = 0x00 then 2 else 0
  | .dev => if r.sub = 0x02 then 0xB1 else if r.sub = 0x0E then 0xFF else if r.sub = 0x0F then 0x7E else 0
  | .wk => if r.sub = 0x08 then 0xEBF else 0
  | .sup => if r.sub = 0x10 then 8 else if r.sub = 0x13 then 30 else 0
  | .dom => if r.sub = 0x01 then if r.inst = 0 then 1 else 0 else if r.sub = 0x02 then r.inst else if r.sub = 0x04 then 0xFF else if r.sub = 0x07 then 375000 else if r.sub = 0x09 then 0xFF else 0
  | .port => if r.sub = 0x01 then if r.inst = 37 then 1 else 0 else if r.sub = 0x02 then Port.defaultMode r.inst else if r.sub = 0x03 then 0 else if r.sub = 0x07 then 1 else if r.sub = 0x08 then 10 else if r.sub = 0x0E then if r.inst < 24 then 0 else if r.inst < 37 then 1 else 0 else if r.sub = 0x0F then if r.inst = 37 then 9216 else 1600 else 0
  | .plca => if r.sub = 0x03 then 8 else if r.sub = 0x04 then 32 else if r.sub = 0x06 then 128 else 0
  | .sp => if r.sub = 0x02 then 16384 else if r.sub = 0x03 then 100 else if 0x11 ≤ r.sub ∧ r.sub ≤ 0x18 then if r.sub = 0x12 ∨ r.sub = 0x16 ∨ r.sub = 0x18 then 0x83FF else 0x03FF else 0
  | .txRing => if r.sub = 0x02 then 16 else 0
  | .se => if r.sub = 0x02 then 3 else 0
  | .rxRing => if r.sub = 0x02 then 16 else 0
  | .buf => if r.sub = 0x02 then 196608 else if r.sub = 0x04 then 163840 else if r.sub = 0x05 then 6144 else if r.sub = 0x06 then 7 else if r.sub = 0x07 then 16384 else if r.sub = 0x08 then 256 else if r.sub = 0x09 then 8 else if r.sub = 0x0C then 262144 else if 0x10 ≤ r.sub ∧ r.sub ≤ 0x17 then r.sub - 0x10 else if 0x18 ≤ r.sub ∧ r.sub ≤ 0x1F then if r.sub < 0x1C then 2000 else if r.sub < 0x1F then 10000 else 0 else 0
  | .q => if r.sub = 0x01 then if r.inst < 8 then 10240 else if r.inst < 24 then 4096 else if r.inst < 32 then 1536 else if r.inst < 37 then 512 else 8192 else if r.sub = 0x07 then 1 else if 0x20 ≤ r.sub ∧ r.sub ≤ 0x3F then 32768 else 0
  | .sched => if r.sub = 0x03 then 1000000 else if r.sub = 0x04 then 1 else if r.sub = 0x0B then 0xFF else if r.sub = 0x0C then 1 else 0
  | .cls => if r.sub = 0x02 then 100 else if r.sub = 0x03 then 10 else if 0x10 ≤ r.sub ∧ r.sub ≤ 0x1F then if r.sub = 0x1F then 0 else 300 else if 0x28 ≤ r.sub ∧ r.sub ≤ 0x2B then 0xFF else 0
  | .clsPort => if r.sub = 0x01 then 0x1 else if r.sub = 0x02 then if r.inst = 37 then 0 else 1 else 0
  | .sc => if r.sub = 0x08 then 1 else 0
  | .lc => if r.sub = 0x01 then 10 else if r.sub = 0x02 then 10 else if r.sub = 0x07 then 1600000 else if r.sub = 0x08 then 1600000 else 0
  | .lcPort => if r.sub = 0x01 then 0xFFFF else if r.sub = 0x02 then 1 else if r.sub = 0x04 then 1 else 0
  | .sa => if r.sub = 0x04 then 5000 else if r.sub = 0x05 then 1000 else 0
  | .vlt => if r.sub = 0x03 then 4 else if r.sub = 0x04 then 0x2 else 0
  | .crG => if r.sub = 0x01 then 4 else 0
  | .cr => if r.sub = 0x02 then 16 else if r.sub = 0x03 then 0x41 else if r.sub = 0x06 then 0xFFFFFFFFFFFFFFFF else 0
  | .crq => if r.sub = 0x02 then 12 else 0
  | .gw => if r.sub = 0x02 then 0xFF else if r.sub = 0x03 then 0xFF else if r.sub = 0x04 then 0x7E else if r.sub = 0x06 then 4096 else if 0x10 ≤ r.sub ∧ r.sub ≤ 0x1F then 0xFFFF else 0
  | .can => if r.sub = 0x02 then 0x3 else if r.sub = 0x03 then 500 else if r.sub = 0x04 then 2000 else if r.sub = 0x05 then 10000 else if r.sub = 0x06 then 0x504B4B00 else if r.sub = 0x07 then 1 else if r.sub = 0x0A then 0x3 else 0
  | .lin => if r.sub = 0x03 then 19200 else 0
  | .acf => if r.sub = 0x02 then 0x82 else if r.sub = 0x06 then 50000 else if r.sub = 0x07 then 1400 else 0
  | .cyc => if r.sub = 0x01 then 0xFF else 0
  | .cp => if r.sub = 0x06 then 0xFFFF else if r.sub = 0x07 then 4000 else if r.sub = 0x08 then 0x3 else if r.sub = 0x09 then 1 else 0
  | .tin => if r.sub = 0x01 then 10000 else if r.sub = 0x02 then 3435 else if r.sub = 0x03 then 0x8000 else if r.sub = 0x04 then 900 else if r.sub = 0x05 then 1 else 0
  | .cd => if r.sub = 0x04 then 5000 else if r.sub = 0x05 then 1000 else 0
  | .tot => if r.sub = 0x01 then 0xFF else if r.sub = 0x03 then 0xFFFF else if r.sub = 0x04 then 50000 else if r.sub = 0x09 then 50 else if r.sub = 0x0A then 20000 else 0
  | .ms => if r.sub = 0x12 then 32 else 0
  | .tw => if r.sub = 0x05 then 0xFE else if r.sub = 0x06 then 0xFF else 0
  | .cg => if r.sub = 0x09 then 2000 else 0
  | .outp => if r.sub = 0x03 then if r.inst < 16 then 2 else 0 else if r.sub = 0x04 then if r.inst < 16 then 2 else 0 else 0
  | .xm => if r.sub = 0x01 then 4 else if r.sub = 0x02 then 3 else if r.sub = 0x03 then 3 else if r.sub = 0x06 then 1 else 0
  | .kid => if r.sub = 0x02 then 16 else 0
  | .upd => if r.sub = 0x02 then 4 else if r.sub = 0x09 then 256 else if r.sub = 0x0B then 300000 else 0
  | .rst => if r.sub = 0x01 then 1 else if r.sub = 0x06 then 3 else if r.sub = 0x09 then 3 else 0
  | .sb => if 0x01 ≤ r.sub ∧ r.sub ≤ 0x10 then 0xFFFF else if 0x11 ≤ r.sub ∧ r.sub ≤ 0x20 then 0xFFFF else 0
  | .evc => if 0x01 ≤ r.sub ∧ r.sub ≤ 0x20 then 0xFFFF else if 0x21 ≤ r.sub ∧ r.sub ≤ 0x28 then 0xFFFF else if 0x31 ≤ r.sub ∧ r.sub ≤ 0x40 then 0xFFFF else if 0x41 ≤ r.sub ∧ r.sub ≤ 0x48 then 0xFFFF else 0
  | .ecnt => if r.sub = 0x01 then 0xFFFF else 0
  | .irq => if 0x01 ≤ r.sub ∧ r.sub ≤ 0x40 then 0xFFFF else 0
  | .gcl => if r.sub = 0x10 then 0xFF else if r.sub = 0x11 then 1000000 else 0
  | .fv => if r.sub = 0x11 then 8192 else 0
  | .iPwr => if r.sub = 16 then 8 else if r.sub = 29 then 1 else 0
  | _ => 0

/-- The value a register reads as when the register file lists nothing for it. -/
def Reg.dflt (r : Reg) : Nat :=
  if r.sub = 0xF8 then r.grp.firstMode else r.dfltOf

end Sys2Proof.Machine
end

