-- ==== Sys2Proof/Machine/State.lean ====
section
/-! DEFINITION. The state of the block: every register, buffer, queue, table, mode and pin the spec names, as plain
data, the commands that wait, and the machine right after reset. -/
namespace Sys2Proof.Machine

/-- The six modes (R37), with the numbers of `Pwr.Mode`. -/
inductive Mode where
  | dormant | ember | glow | flame | trim | snuffed
deriving DecidableEq, Repr

/-- The three variants (R3, R4). -/
inductive Variant where
  | kvt6416 | kvt6412 | kvt6408
deriving DecidableEq, Repr

/-- What the fuses of one device fix. -/
structure Fuses where
  variant : Variant := .kvt6416
  serial : Nat := 0
  coreSetpoint : Nat := 0
  taperMac : Nat := 0
deriving DecidableEq, Repr

/-- A pulse of an event line on its way to a consumer that a command of its own serves (R29, R96, R328, R343, R369). -/
inductive Pulse where
  /-- For capture unit k: the time of the pulse's edge, in nanosecond form, and its qualifier. -/
  | capture (k time qualifier : Nat)
  | dmaStart (c : Nat)
  | cressetStart (q : Nat)
  | sideband (toWick : Bool) (input line : Nat) (time : Nat)
deriving DecidableEq, Repr

/-- An armed commit (R52): the boundary of mode 1, or the Kindle time and domain of mode 2. -/
structure Arm where
  owner : Owner
  kindle : Bool
  time : Nat := 0
  domain : Nat := 0
deriving DecidableEq, Repr

/-- An error report as its reporter places it in the queue (R505, R506). -/
structure Report where
  cls : Nat
  code : Nat := 0
  unit : Nat := 0
  flags : Nat := 0
  /-- Uptime in ps at which it arrived (R506). -/
  arrived : Nat := 0
  time : Nat := 0
  qualifier : Nat := 0
  mode : Nat := 0
  address : Nat := 0
  inst : Nat := 0
  detail : List Byte := []
deriving DecidableEq, Repr

/-- An error record: a report with its sequence number (R505). -/
structure Record where
  seq : Nat
  report : Report
deriving DecidableEq, Repr

/-- The answer to the latest access (R45): its path, the abort code with 0 for success, the value and the bytes. -/
structure Resp where
  ctx : Ctx := .lampA
  abort : Nat := 0
  value : Nat := 0
  bytes : List Byte := []
deriving DecidableEq, Repr

/-- Why the block stops. -/
inductive Fault where
  /-- Never raised: no rule stops the block itself; kept because the interface asks for a type. Safe. -/
  | none
deriving DecidableEq, Repr

/-- Why a command has no meaning. -/
inductive Refusal where
  /-- Raised by `exec` for a command without a meaning yet. Safe. -/
  | notModelled (mnemonic : String)
deriving DecidableEq, Repr

/-! ## Frames, queues and the line cipher (chapters 5 to 9) -/

/-- A frame stored in the cell buffer (R158, R160). The clocks are those of domains 0 to 3 and of the local counter, in
sixteenths, at its receive timestamp. -/
structure Frame where
  id : Nat
  ingress : Nat
  wireLen : Nat := 0
  bytes : List Byte
  refs : Nat := 0
  eligible : Bool := false
  stomp : Bool := false
  /-- 1 uncorrectable cell (R162), 2 failed verification, FCS or size of a cut-through frame (R202, R212, R241). -/
  stompCause : Nat := 0
  cutThrough : Bool := false
  cls : Nat := 0
  vlanOp : Nat := 0
  rtagOp : Nat := 0
  rtagSeq : Nat := 0
  rewrite : Bool := false
  profile : Nat := 0
  /-- The rewrite profile as it stood at the frame's search (R129, R140). -/
  rwOps : Nat := 0
  rwDa : Nat := 0
  rwSa : Nat := 0
  rwDscp : Nat := 0
  vid : Nat := 0
  handle : Nat := 0
  matched : Bool := false
  channel : Nat := 0
  protectedRx : Bool := false
  slot : Nat := 0
  pn : Nat := 0
  clocks : List Nat := []
  tsValid : Bool := true
  decided : Bool := false
  verdictDone : Bool := false
  /-- Profile bits of the search key in place of the ingress port's profile, for gateway and twin frames (R416, R496). -/
  hostTag : Option Nat := none
  /-- A reclassified output of the slow path, which may not enter it again (R279). -/
  reclassified : Bool := false
  /-- The key of its search, and whether it has 1,024 bits (R131, R133, R272). -/
  key : Nat := 0
  wideKey : Bool := false
  /-- The indices of its cells, in order: what their link words chain (R158, R159). -/
  chain : List Nat := []
  /-- The partition that stores it in Partition mode, 38 for the multicast partition; none in the pool or in staging (R173). -/
  store : Option Nat := none
  /-- Its chain is not trusted: its cells are lost (R162). -/
  untrusted : Bool := false
  /-- What its reception met, which stomps it as a cut-through frame and discards it otherwise: 1 keystream that came too late
  (R236), 2 no free cell (R170). -/
  failing : Nat := 0
deriving DecidableEq, Repr

/-- A queue entry (R161): the frame, and the port and queue it waits on. -/
structure Entry where
  port : Nat
  queue : Nat
  frame : Nat
  cells : Nat := 0
  inTx : Bool := false
  pnReserved : Bool := false
  /-- A host or mirror copy, sent as received without edits (R138). -/
  plain : Bool := false
  staged : Bool := false
  deferred : Bool := false
  /-- Its own index among the queue entries (R161). -/
  slot : Nat := 0
deriving DecidableEq, Repr

/-- A frame in transmission at a port (R193, R195, R225). -/
structure Wire where
  entry : Entry
  express : Bool := true
  held : Bool := false
  start : Nat := 0
  wireBytes : Nat := 0
  encrypted : Bool := false
  slot : Nat := 0
  pn : Nat := 0
  blocks : Nat := 0
  needed : Nat := 0
  grant : Nat := 0
  /-- The frame was preempted at least once (R195). -/
  split : Bool := false
  /-- A hand-over closed the gate of its class (R196). -/
  overrun : Bool := false
  /-- The transmission ends with a corrupted FCS at a failed link word (R162). -/
  broken : Bool := false
  /-- The bytes it puts on the wire, from destination address to FCS (R220, R222, R230). -/
  octets : List Byte := []
  /-- The clocks of domains 0 to 3 and of the local counter, in sixteenths, at its transmit timestamp (R93). -/
  clocks : List Nat := []
  /-- Octets of it sent in fragments that have ended, and the uptime in ps at which the running fragment began (R195). -/
  sent : Nat := 0
  since : Nat := 0
  /-- Uptime in ps, plus 1, of the permitted point at which the MAC preempts it; 0 when nothing asks for that (R195). -/
  stopAt : Nat := 0
deriving DecidableEq, Repr

/-- What a port has sent last: the bytes of its frame from destination address to FCS, and the clocks at its transmit timestamp
(R93, R222, R242). -/
structure Egress where
  port : Nat
  octets : List Byte
  clocks : List Nat
deriving DecidableEq, Repr

/-- A frame of P32 to P36, or of the gateway and the twin stream, that waits at the Chimney attachment for the end of a retrain, with its
receive timestamp (R14, R384, R568). -/
structure Crossing where
  port : Nat
  bad : Bool
  rx : RxFrame
  clocks : List Nat
  tsValid : Bool
  /-- Profile of a frame that a Wick unit sends with port 37 (R416, R496). -/
  tag : Nat := 0
deriving DecidableEq, Repr

/-- A prepared keystream buffer of a port: the reserved number of an association, bound to a queue entry (R223 to R226). -/
structure Prep where
  port : Nat
  slot : Nat
  pn : Nat
  queue : Nat
  frame : Nat
  blocks : Nat := 0
  coldAt : Nat := 0
deriving DecidableEq, Repr

/-- A speculation window of a port: the slot of its channel and AN, and the started entries of the next four numbers, each
with the keystream blocks released so far (R232). -/
structure SpecWindow where
  port : Nat
  slot : Nat
  entries : List (Nat × Nat) := []
deriving DecidableEq, Repr

/-- A received frame whose verdict is still to come (R235, R239, R240), and the recovery function that passed it (R207). -/
structure Verdict where
  port : Nat
  frame : Nat
  protectedRx : Bool := false
  slot : Nat := 0
  pn : Nat := 0
  fcsBad : Bool := false
  icvBad : Bool := false
  checkBad : Bool := false
  recovered : Bool := false
  recoveryRow : Nat := 0
  recoverySeq : Nat := 0
  recoveryEpoch : Nat := 0
deriving DecidableEq, Repr

/-- A frame in a staging queue of Partition mode (R174), with its decided targets once it is classified. -/
structure Staged where
  frame : Nat
  ingress : Nat
  since : Nat
  decided : Bool := false
  targets : List (Nat × Nat × Bool) := []
deriving DecidableEq, Repr

/-- A flush walk of one queue: the entries still to be walked, by their frames (R182). -/
structure FlushWalk where
  port : Nat
  queue : Nat
  frames : List Nat := []
deriving DecidableEq, Repr

/-- A frame in the slow-path queue with its reason (R149, R270). -/
structure SlowFrame where
  frame : Nat
  reason : Nat
deriving DecidableEq, Repr

/-- An install on its way through the vault (R259). -/
structure Install where
  ctx : Ctx
  channel : Nat
  target : Nat
  kek : Nat
  wrapped : List Byte := []
  params : Nat := 0
  startPn : Nat := 0
  ssci : Nat := 0
  salt : List Byte := []
  threshold : Nat := 0
  window : Nat := 0
deriving DecidableEq, Repr


/-! ## The vault (chapter 11) -/

/-- An occupied key slot of the vault (R291 to R296). -/
structure VaultSlot where
  slot : Nat
  cls : Nat
  alg : Nat
  policy : Nat
  /-- Generated inside; else imported (R295). -/
  generated : Bool
  key : List Byte
  pub : List Byte := []
deriving DecidableEq, Repr

/-- A vault command as its path context wrote it (R297, R298). -/
structure VaultCmd where
  ctx : Ctx
  code : Nat
  slot : Nat := 0
  aux : Nat := 0
  cls : Nat := 0
  alg : Nat := 0
  policy : Nat := 0
  keyData : List Byte := []
  digest : List Byte := []
  input : List Byte := []
  inLen : Nat := 0
  kdf : Nat := 0
deriving DecidableEq, Repr

/-- A countersign under way (R439): what its record of kind 3 and its signature take. -/
structure SealJob where
  ctx : Ctx
  flags : Nat
  time : Nat
  qualifier : Nat
  session : Nat
  payload : List Byte
  slot : Nat
  input : List Byte
  reading : Nat
  postTime : Nat
deriving DecidableEq, Repr

/-- What the vault carries out, in the order of R302 (R22). -/
inductive VaultReq where
  | command (c : VaultCmd)
  | install (i : Install)
  | crLoad (ctx : Ctx) (context slot mode field start last : Nat)
  | gwKey (k slot : Nat)
  | keyId (k : Nat)
  | countersign (job : SealJob)
  | sealClose (ctx : Ctx)
deriving DecidableEq, Repr

/-! ## Cresset and DMA (chapter 12) -/

/-- A loaded Cresset context (R322 to R325). -/
structure CrContext where
  idx : Nat
  mode : Nat
  slot : Nat
  alg : Nat
  key : List Byte
  field : Nat
  next : Nat
  last : Nat
  spent : Bool := false
deriving DecidableEq, Repr

/-- A Cresset job that runs or whose result waits for its turn (R327, R329 to R333). -/
structure CrJob where
  queue : Nat
  offset : Nat
  words : List Nat
  outcome : Nat := 0
  cores : Nat := 0
  field : Nat := 0
  counter : Nat := 0
  context : Option CrContext := none
  /-- Output, bytes of it written so far, the tag or digest, and whether a tag to check matches. -/
  output : List Byte := []
  written : Nat := 0
  tag : List Byte := []
  matched : Bool := true
  done : Bool := false
deriving DecidableEq, Repr

/-! ## External memory and the Chimney link (chapters 13 and 14) -/

/-- A written line with the KeyID and key its tag was made under (R349, R351). -/
structure FlashLine where
  line : Nat
  kid : Nat
  key : List Byte
deriving DecidableEq, Repr

/-- An initialised DRAM granule (R354): the KeyID and key under which its zero lines were written, and the lines written since whole
under another (R349, R352). -/
structure Granule where
  idx : Nat
  kid : Nat
  key : List Byte
  lines : List FlashLine := []
deriving DecidableEq, Repr

/-- The answer of the latest memory access: a bus error, or the bytes read; `retry` for a read that is to be reissued and
`held` for one that waits (R351, R374, R375). -/
structure BusResp where
  fault : Bool := false
  retry : Bool := false
  held : Bool := false
  /-- Why a core takes an access fault: the mcause value, 0 for none (R382). -/
  cause : Nat := 0
  tval : Nat := 0
  value : Nat := 0
  data : List Byte := []
deriving DecidableEq, Repr

/-- A read across the link: a fetch entry, or the held read (R374, R375). -/
structure Fetch where
  initiator : Nat
  addr : Nat
  size : Nat
  lr : Bool := false
  /-- Uptime at which it took the hold slot (R375, R380). -/
  since : Nat := 0
  ready : Bool := false
  doneAt : Nat := 0
  fault : Bool := false
  data : List Byte := []
deriving DecidableEq, Repr

/-- A posted piece of a write that crosses the link and is not acknowledged yet (R373, R383). -/
structure Posted where
  initiator : Nat
  addr : Nat
  data : List Byte
deriving DecidableEq, Repr

/-- The reservation semaphore (R378): the hart, its granule, when it was taken, and whether a write reached the granule. -/
structure Semaphore where
  hart : Nat
  granule : Nat
  taken : Nat
  touched : Bool := false
deriving DecidableEq, Repr

/-- A fence that waits (R382): its initiator, whether it waits for writes and for reads, and the DMA channel's
descriptor end it belongs to is known from the initiator. -/
structure Fence where
  initiator : Nat
  writes : Bool
  reads : Bool
deriving DecidableEq, Repr

/-- A read by a Wick-die initiator of a Lantern target that is held (R376, R380). -/
structure WickRead where
  addr : Nat
  size : Nat
  /-- Uptime in ps since which the request stands. -/
  since : Nat := 0
  backoffs : Nat := 0
  /-- Uptime in ps of a back-off after which the request is reissued; 0 while it stands. -/
  withdrawn : Nat := 0
deriving DecidableEq, Repr

/-- A line in the caches of a Lamplighter cluster (R357, R385). -/
structure CacheLine where
  core : Nat
  line : Nat
  kid : Nat
  dirty : Bool
  data : List Byte
deriving DecidableEq, Repr

/-! ## Sconce engines (chapter 10) -/

/-- An output of an engine or of the transmit ring (R277, R278): its disposition, ingress port, host queue and targets, and the
frame stored for it, if its disposition has one. -/
structure SpOut where
  disp : Nat
  ingress : Nat
  queue : Nat
  targets : Nat
  frame : Option Nat
deriving DecidableEq, Repr

/-- An outstanding sequence tag (R271, R281). -/
structure SpTag where
  tag : Nat
  gen : Nat
  engine : Nat
  ingress : Nat
  since : Nat
  resolved : Bool := false
  outputs : List SpOut := []
deriving DecidableEq, Repr

/-- The boxes of an engine: the packets of the inbox with the tag of each, the rest of the packet under reading, the words
of the packet under construction, and the closed packets (R275, R276). -/
structure EngineBox where
  engine : Nat
  inbox : List (List Byte) := []
  begun : Bool := false
  rest : List Byte := []
  words : List Nat := []
  sent : List (List Nat) := []
deriving DecidableEq, Repr

/-! ## The gateway (chapter 15) -/

/-- A message in the transmit queue of a CAN channel (R402, R403): the cyclic entry it is an instance of, if any. -/
structure CanEntry where
  ch : Nat
  msg : BusMsg
  cyc : Option Nat := none
  since : Nat
  inTx : Bool := false
  /-- Uptime at which the channel took it for transmission (R403). -/
  takenAt : Nat := 0
deriving DecidableEq, Repr

/-- An instance that waits on a master LIN channel, or whose header was sent (R408). -/
structure LinEntry where
  l : Nat
  cyc : Nat
  id : Nat
  publish : Bool
  data : List Byte
  sent : Bool := false
deriving DecidableEq, Repr

/-- The frame that an ACF stream packs (R416): when its first message entered, and the timestamp of that message. -/
structure AcfPack where
  stream : Nat
  since : Nat
  stamp : Nat
  payload : List Byte
deriving DecidableEq, Repr

/-! ## The Meter Seal (chapter 16) -/

/-- A record of the Meter Seal (R444, R445): its 512 bytes, and what the export takes from it (R448). -/
structure SealRecord where
  seq : Nat
  kind : Nat
  session : Nat := 0
  flags : Nat := 0
  reading : Nat := 0
  postTime : Nat := 0
  reason : Nat := 0
  /-- Its line 7 was overwritten (R447). -/
  voided : Bool := false
  bytes : List Byte
deriving DecidableEq, Repr

/-- The open session (R438): its opening values, its latest reading, the readings countersigned and the flags of R436 that
its intervals set. -/
structure Session where
  number : Nat
  slot : Nat
  path : Nat
  meter : List Byte := []
  fingerprint : List Byte
  alg : Nat
  openReading : Nat
  openImport : Nat
  lastReading : Nat
  readings : Nat := 0
  flags : Nat := 0
deriving DecidableEq, Repr


/-! ## Configuration images and firmware slots (chapters 17 and 20) -/

/-- A configuration image (R466 to R468): its slot, its header and what that says, the critical ranges it was saved under, and the
values of its records. -/
structure CfgImage where
  slot : Nat
  seq : Nat
  format : Nat
  header : List Byte
  bytes : Nat
  critBytes : Nat
  ranges : List Nat
  vals : List (Reg × Nat)
  texts : List (Reg × List Byte)
deriving DecidableEq, Repr

/-! ## Access paths (chapter 2) -/

/-- A Coath response that is kept, with what tells its request apart (R75). -/
structure CoathKept where
  tag : Nat
  source : List Byte
  port : Nat
  response : List Byte
deriving DecidableEq, Repr

/-- The segmented SDO transfer that runs (R67, R68): the object, the toggle bit that the next segment carries, what is still to be sent
or was received, the size that an initiate request stated, and when the latest segment came. -/
structure SdoTransfer where
  upload : Bool
  index : Nat
  sub : Nat
  toggle : Bool := false
  data : List Byte := []
  size : Option Nat := none
  since : Nat
deriving DecidableEq, Repr


/-- The state of the block. -/
structure State where
  /-- Fuses (R2, R3). -/
  fuses : Fuses := {}
  /-- The mode (R37). -/
  mode : Mode := .dormant
  /-- No path answers: a start is in progress or has not begun (R76, R503). -/
  starting : Bool := true
  /-- Uptime in picoseconds, by which every interval of the rules is measured. -/
  now : Nat := 0
  /-- The register file: registers whose value is not their default, in the order of `Reg.before`. -/
  regs : List (Reg × Nat) := []
  /-- Pending copies written since the hand-over of their owner (R50, R54). -/
  pend : List (Reg × Nat) := []
  /-- String, octet-string and domain objects that do not hold their default (R42). -/
  blobs : List (Reg × List Byte) := []
  /-- Armed commits, one for each owner at most (R52). -/
  armed : List Arm := []
  /-- Pulses on their way to captures, start inputs and the sideband (R29). -/
  pulses : List Pulse := []
  /-- The report queue of 32 entries (R506). -/
  reports : List Report := []
  /-- The answer to the latest access. -/
  resp : Resp := {}
  /-- How many free values were drawn: the model's own counter (log entry 5). -/
  drawn : Nat := 0
  /-- Frames stored in the cell buffer (R158). -/
  frames : List Frame := []
  /-- Queue entries of every port, oldest first (R161). -/
  entries : List Entry := []
  /-- Frames in transmission (R193). -/
  wire : List Wire := []
  /-- Prepared keystream buffers (R223). -/
  prep : List Prep := []
  /-- Receive speculation windows (R232). -/
  spec : List SpecWindow := []
  /-- Received frames whose verdict is still to come, oldest first (R240). -/
  verdicts : List Verdict := []
  /-- Header records in the parse queues, oldest first: ingress port and frame (R126, R127). -/
  records : List (Nat × Nat) := []
  /-- Staging queues of Partition mode, oldest first (R174). -/
  staging : List Staged := []
  /-- Cells that no list reaches (R162, R163). -/
  lostCells : List Nat := []
  /-- What each port has sent last (R222, R242). -/
  egress : List Egress := []
  /-- Frames of P32 to P36 that wait for the end of a retrain, oldest first (R384, R568). -/
  crossing : List Crossing := []
  /-- Flush walks under way (R182). -/
  flushes : List FlushWalk := []
  /-- The slow-path queue, oldest first (R149, R270). -/
  slow : List SlowFrame := []
  /-- The association event queue, oldest first (R266). -/
  saEvents : List Nat := []
  /-- Installs sent to the vault, oldest first (R259, R302). -/
  installs : List Install := []
  /-- Occupied key slots of the vault, by slot (R291). -/
  vault : List VaultSlot := []
  /-- Dictionary commands that wait for the vault, in order of arrival (R302). -/
  vaultWaiting : List VaultReq := []
  /-- What the vault runs (R302). -/
  vaultRunning : Option VaultReq := none
  /-- Loaded Cresset contexts (R322). -/
  crContexts : List CrContext := []
  /-- Cresset jobs that run or wait for their results to be written, in ring order of each queue (R327). -/
  crJobs : List CrJob := []
  /-- Bytes of every memory of the address space, in plain form, that differ from what an unlisted address reads as. -/
  mem : List Host.Cell := []
  /-- Written lines of the flash (R350). -/
  flashLines : List FlashLine := []
  /-- Initialised DRAM granules, ascending (R354). -/
  granules : List Granule := []
  /-- Keys of the programmed, closing and closed KeyIDs (R355, R357). -/
  kidKeys : List (Nat × List Byte) := []
  /-- Gateway keys in use: key number, algorithm and bytes (R418). -/
  gwKeys : List (Nat × Nat × List Byte) := []
  /-- Lines in the Lamplighter caches (R357, R385). -/
  cache : List CacheLine := []
  /-- The answer of the latest memory access. -/
  bus : BusResp := {}
  /-- Fetch entries of the Lantern half (R374). -/
  fetches : List Fetch := []
  /-- The read that the hold slot keeps waiting (R375). -/
  heldRead : Option Fetch := none
  /-- Posted writes not acknowledged yet, oldest first (R373). -/
  posted : List Posted := []
  /-- The reservation semaphore; none while free (R378). -/
  semaphore : Option Semaphore := none
  /-- Fences that wait (R382). -/
  fences : List Fence := []
  /-- The held read of a Wick-die initiator (R376). -/
  wickRead : Option WickRead := none
  /-- Outstanding sequence tags, in order of dispatch (R271). -/
  spTags : List SpTag := []
  /-- Boxes of the engines that do not stand empty (R275). -/
  boxes : List EngineBox := []
  /-- Transmit queues of the CAN channels, oldest first (R402). -/
  canQueue : List CanEntry := []
  /-- Instances on the master LIN channels, oldest first (R408). -/
  linQueue : List LinEntry := []
  /-- Frames that the ACF streams pack (R416). -/
  acfPacks : List AcfPack := []
  /-- Records of the Meter Seal in its flash ring, oldest first (R444, R446). -/
  sealRecords : List SealRecord := []
  /-- The open session (R438), or the latest one when none is open. -/
  sessions : List Session := []
  /-- Configuration images in flash whose header is written (R466). -/
  images : List CfgImage := []
  /-- The image that a save builds (R466). -/
  saving : Option CfgImage := none
  /-- The image whose remainder is still streamed, after migration (R469, R540). -/
  streaming : Option CfgImage := none
  /-- The retention log of error records, oldest first (R507). -/
  errLog : List Record := []
  /-- The flash log of error records, oldest first (R508). -/
  errFlash : List Record := []
  /-- The bytes of the Ivtas image in slot A and in slot B (R525, R527). -/
  ivtasA : List Byte := []
  ivtasB : List Byte := []
  /-- The Taper frame that the device sent last (R531, R533). -/
  taperTx : List Byte := []
  /-- Kept Coath responses, oldest first, at most 32 (R75). -/
  coathKept : List CoathKept := []
  /-- The segmented SDO transfer that runs (R67). -/
  sdo : Option SdoTransfer := none
  /-- The commands that wait, first in, first out. -/
  pending : List Instr := []
deriving DecidableEq, Repr

/-- The machine right after the power-on reset: every register at its default, nothing stored, no command waiting, and
the start of R518 still to come. -/
def State.reset : State := {}

end Sys2Proof.Machine
end

