-- ==== Sys2Proof/Machine/Objects.lean ====
section
/-! DEFINITION. The objects of the dictionary (R40 to R45): index, subindices, type, access kind and permitted values of each, as
the object tables of the chapters give them. Row selection, row count, view and commit block of the windows and owners follow
the same pattern everywhere and stand in Machine/Paths.lean (R50, R62). -/
namespace Sys2Proof.Machine

/-- The type of an object (R42): unsigned or signed with its bytes, a BOOLEAN, a string of up to so many bytes, or a string or
domain of exactly so many bytes. -/
inductive Ty where
  | u (bytes : Nat) | i (bytes : Nat) | bool | text (most : Nat) | octets (bytes : Nat)
deriving DecidableEq, Repr

/-- The access kinds (R43); `fixed` is const. -/
inductive Acc where
  | ro | wo | rw | fixed | rwp | rwt
deriving DecidableEq, Repr

/-- What a table says of the values an object takes (R567), with the abort of a value outside. -/
inductive Chk where
  | rng (lo hi abort : Nat)
  | rngOr (lo hi also abort : Nat)
  | mask (bits : Nat)
  | vals (l : List Nat)
  | mul (n : Nat)
deriving DecidableEq, Repr

/-- Objects of one row of an object table: indices `base` to `base + count - 1`, subindices `lo` to `hi`; whether they are held
on the Wick die (R76) and kept for each path context (R60). -/
structure Obj where
  base : Nat
  count : Nat
  grp : Grp
  lo : Nat
  hi : Nat
  ty : Ty
  acc : Acc
  wick : Bool
  perCtx : Bool
  chk : List Chk
deriving DecidableEq, Repr

/-- Part 1 of the object tables. -/
def objectRows1 : List Obj := [
  ⟨0x1000, 1, .com, 0x00, 0x00, .u 4, .fixed, true, false, []⟩,
  ⟨0x1001, 1, .com, 0x00, 0x00, .u 1, .ro, true, false, []⟩,
  ⟨0x1008, 1, .com, 0x00, 0x00, .octets 8, .fixed, true, false, []⟩,
  ⟨0x1009, 1, .com, 0x00, 0x00, .octets 2, .fixed, true, false, []⟩,
  ⟨0x100A, 1, .com, 0x00, 0x00, .text 32, .ro, true, false, []⟩,
  ⟨0x1018, 1, .com, 0x00, 0x00, .u 1, .fixed, true, false, []⟩,
  ⟨0x1018, 1, .com, 0x01, 0x01, .u 4, .fixed, true, false, []⟩,
  ⟨0x1018, 1, .com, 0x02, 0x02, .u 4, .fixed, true, false, []⟩,
  ⟨0x1018, 1, .com, 0x03, 0x03, .u 4, .fixed, true, false, []⟩,
  ⟨0x1018, 1, .com, 0x04, 0x04, .u 4, .fixed, true, false, []⟩,
  ⟨0x1200, 1, .com, 0x00, 0x00, .u 1, .fixed, true, false, []⟩,
  ⟨0x1200, 1, .com, 0x01, 0x01, .u 4, .ro, true, false, []⟩,
  ⟨0x1200, 1, .com, 0x02, 0x02, .u 4, .ro, true, false, []⟩,
  ⟨0x2000, 1, .dev, 0x01, 0x01, .u 2, .ro, true, false, []⟩,
  ⟨0x2000, 1, .dev, 0x02, 0x02, .u 1, .ro, true, false, []⟩,
  ⟨0x2000, 1, .dev, 0x04, 0x04, .u 8, .ro, true, false, []⟩,
  ⟨0x2000, 1, .dev, 0x0A, 0x0A, .u 2, .ro, true, false, []⟩,
  ⟨0x2000, 1, .dev, 0x0C, 0x0C, .u 8, .ro, true, false, []⟩,
  ⟨0x2000, 1, .dev, 0x0E, 0x0E, .u 1, .rw, true, false, [.rngOr 0 15 255 0x06090031]⟩,
  ⟨0x2000, 1, .dev, 0x0F, 0x0F, .u 1, .rw, true, false, [.rng 1 127 0x06090030]⟩,
  ⟨0x2000, 1, .dev, 0x10, 0x10, .u 8, .rw, true, true, [.mask 0xFFFFFF00FFFFFFFF]⟩,
  ⟨0x2000, 1, .dev, 0x11, 0x11, .u 8, .rw, true, true, []⟩,
  ⟨0x2000, 1, .dev, 0x12, 0x12, .u 4, .rw, true, true, [.rng 0 0 0x06090030]⟩,
  ⟨0x2000, 1, .dev, 0x14, 0x14, .u 4, .rw, true, false, []⟩,
  ⟨0x2000, 1, .dev, 0x15, 0x15, .octets 16, .rw, true, false, []⟩,
  ⟨0x2000, 1, .dev, 0x16, 0x16, .u 4, .ro, true, false, []⟩,
  ⟨0x2100, 1, .pwr, 0x01, 0x01, .u 1, .ro, true, false, []⟩,
  ⟨0x2100, 1, .pwr, 0x02, 0x02, .u 1, .wo, true, false, [.rng 0 4 0x06090030]⟩,
  ⟨0x2100, 1, .pwr, 0x03, 0x03, .u 4, .wo, true, false, []⟩,
  ⟨0x2100, 1, .pwr, 0x04, 0x04, .u 1, .ro, true, false, []⟩,
  ⟨0x2100, 1, .pwr, 0x05, 0x05, .u 1, .ro, true, false, []⟩,
  ⟨0x2100, 1, .pwr, 0x06, 0x06, .u 1, .ro, true, false, []⟩,
  ⟨0x2100, 1, .pwr, 0x07, 0x07, .u 1, .ro, true, false, []⟩,
  ⟨0x2100, 1, .pwr, 0x08, 0x08, .bool, .ro, true, false, []⟩,
  ⟨0x2100, 1, .pwr, 0x09, 0x09, .u 4, .rw, true, false, []⟩,
  ⟨0x2100, 1, .pwr, 0x0A, 0x0A, .u 8, .ro, true, false, []⟩,
  ⟨0x2100, 1, .pwr, 0x0B, 0x0B, .u 4, .ro, true, false, []⟩,
  ⟨0x2110, 1, .wk, 0x01, 0x04, .u 1, .rw, false, false, [.mask 0x3F]⟩,
  ⟨0x2110, 1, .wk, 0x05, 0x05, .u 1, .ro, false, false, []⟩,
  ⟨0x2110, 1, .wk, 0x08, 0x08, .u 2, .rw, false, false, [.mask 0xFFF]⟩]

/-- Part 2 of the object tables. -/
def objectRows2 : List Obj := [
  ⟨0x2110, 1, .wk, 0x09, 0x09, .u 4, .rw, false, false, []⟩,
  ⟨0x2120, 1, .sup, 0x01, 0x01, .u 2, .ro, false, false, []⟩,
  ⟨0x2120, 1, .sup, 0x02, 0x02, .u 2, .ro, false, false, []⟩,
  ⟨0x2120, 1, .sup, 0x03, 0x03, .u 2, .ro, false, false, []⟩,
  ⟨0x2120, 1, .sup, 0x04, 0x04, .u 2, .fixed, false, false, []⟩,
  ⟨0x2120, 1, .sup, 0x05, 0x05, .u 1, .ro, false, false, []⟩,
  ⟨0x2120, 1, .sup, 0x06, 0x06, .u 4, .ro, false, false, []⟩,
  ⟨0x2120, 1, .sup, 0x07, 0x07, .u 4, .ro, false, false, []⟩,
  ⟨0x2120, 1, .sup, 0x10, 0x10, .u 1, .rw, false, false, [.rng 4 8 0x06090030]⟩,
  ⟨0x2120, 1, .sup, 0x11, 0x11, .u 4, .ro, false, false, []⟩,
  ⟨0x2120, 1, .sup, 0x12, 0x12, .u 8, .ro, false, false, []⟩,
  ⟨0x2120, 1, .sup, 0x13, 0x13, .u 1, .rwt, false, false, [.rng 15 60 0x06090030]⟩,
  ⟨0x2120, 1, .sup, 0x14, 0x14, .u 8, .ro, false, false, []⟩,
  ⟨0x2120, 1, .sup, 0x15, 0x15, .u 2, .ro, false, false, []⟩,
  ⟨0x2140, 1, .cfg, 0x01, 0x01, .u 1, .wo, false, false, [.rng 1 1 0x06090030]⟩,
  ⟨0x2140, 1, .cfg, 0x02, 0x02, .u 1, .ro, false, false, []⟩,
  ⟨0x2140, 1, .cfg, 0x03, 0x03, .u 4, .ro, false, false, []⟩,
  ⟨0x2140, 1, .cfg, 0x04, 0x04, .u 4, .ro, false, false, []⟩,
  ⟨0x2140, 1, .cfg, 0x05, 0x05, .u 4, .ro, false, false, []⟩,
  ⟨0x2140, 1, .cfg, 0x06, 0x06, .u 1, .ro, false, false, []⟩,
  ⟨0x2140, 1, .cfg, 0x07, 0x07, .u 4, .ro, false, false, []⟩,
  ⟨0x2140, 1, .cfg, 0x10, 0x1F, .u 8, .rw, false, false, []⟩,
  ⟨0x2200, 1, .tb, 0x01, 0x01, .u 1, .rwt, false, false, [.rng 0 1 0x06090030]⟩,
  ⟨0x2200, 1, .tb, 0x02, 0x02, .u 1, .ro, false, false, []⟩,
  ⟨0x2200, 1, .tb, 0x03, 0x03, .u 1, .wo, false, false, [.rng 0 4 0x06090030]⟩,
  ⟨0x2200, 1, .tb, 0x04, 0x04, .u 8, .ro, false, true, []⟩,
  ⟨0x2200, 1, .tb, 0x05, 0x05, .u 1, .ro, false, true, []⟩,
  ⟨0x2200, 1, .tb, 0x06, 0x06, .u 1, .ro, false, true, []⟩,
  ⟨0x2200, 1, .tb, 0x07, 0x07, .i 2, .ro, false, false, []⟩,
  ⟨0x2200, 1, .tb, 0x08, 0x08, .u 4, .ro, false, false, []⟩,
  ⟨0x2210, 4, .dom, 0x01, 0x01, .bool, .rw, false, false, []⟩,
  ⟨0x2210, 4, .dom, 0x02, 0x02, .u 1, .rw, false, false, [.rng 0 127 0x06090031]⟩,
  ⟨0x2210, 4, .dom, 0x03, 0x03, .u 1, .rw, false, false, [.rng 0 1 0x06090030]⟩,
  ⟨0x2210, 4, .dom, 0x04, 0x04, .u 1, .rw, false, false, [.rngOr 0 36 255 0x06090031]⟩,
  ⟨0x2210, 4, .dom, 0x05, 0x05, .i 4, .rw, false, false, []⟩,
  ⟨0x2210, 4, .dom, 0x06, 0x06, .i 8, .wo, false, false, []⟩,
  ⟨0x2210, 4, .dom, 0x07, 0x07, .u 4, .rw, false, false, []⟩,
  ⟨0x2210, 4, .dom, 0x08, 0x08, .u 1, .ro, false, false, []⟩,
  ⟨0x2210, 4, .dom, 0x09, 0x09, .u 1, .rw, false, false, []⟩,
  ⟨0x2210, 4, .dom, 0x0A, 0x0A, .i 8, .ro, false, false, []⟩]

/-- Part 3 of the object tables. -/
def objectRows3 : List Obj := [
  ⟨0x2210, 4, .dom, 0x0B, 0x0B, .u 4, .ro, false, false, []⟩,
  ⟨0x2210, 4, .dom, 0x0C, 0x0C, .u 4, .ro, false, false, []⟩,
  ⟨0x2210, 4, .dom, 0x0D, 0x0D, .bool, .rw, false, false, [.rng 0 0 0x06090030]⟩,
  ⟨0x2240, 16, .cap, 0x01, 0x01, .u 1, .rw, false, false, [.rng 0 4 0x06090030]⟩,
  ⟨0x2240, 16, .cap, 0x02, 0x02, .u 8, .ro, false, false, []⟩,
  ⟨0x2240, 16, .cap, 0x03, 0x03, .u 1, .ro, false, false, []⟩,
  ⟨0x2240, 16, .cap, 0x04, 0x04, .u 4, .ro, false, false, []⟩,
  ⟨0x2240, 16, .cap, 0x05, 0x05, .u 4, .ro, false, false, []⟩,
  ⟨0x2300, 1, .chm, 0x01, 0x01, .u 1, .ro, false, false, []⟩,
  ⟨0x2300, 1, .chm, 0x02, 0x02, .u 1, .wo, false, false, [.rng 1 1 0x06090030]⟩,
  ⟨0x2300, 1, .chm, 0x03, 0x03, .u 4, .ro, false, false, []⟩,
  ⟨0x2300, 1, .chm, 0x04, 0x04, .u 8, .ro, false, false, []⟩,
  ⟨0x2300, 1, .chm, 0x05, 0x05, .u 8, .ro, false, false, []⟩,
  ⟨0x2300, 1, .chm, 0x06, 0x06, .u 8, .ro, false, false, []⟩,
  ⟨0x2300, 1, .chm, 0x07, 0x07, .u 8, .ro, false, false, []⟩,
  ⟨0x2300, 1, .chm, 0x08, 0x08, .u 4, .ro, false, false, []⟩,
  ⟨0x2300, 1, .chm, 0x09, 0x09, .u 4, .ro, false, false, []⟩,
  ⟨0x2300, 1, .chm, 0x0A, 0x0A, .u 4, .ro, false, false, []⟩,
  ⟨0x2300, 1, .chm, 0x0B, 0x0B, .u 4, .ro, false, false, []⟩,
  ⟨0x2300, 1, .chm, 0x0C, 0x0C, .u 8, .ro, false, false, []⟩,
  ⟨0x2300, 1, .chm, 0x0D, 0x0D, .u 1, .ro, false, false, []⟩,
  ⟨0x2300, 1, .chm, 0x0E, 0x0E, .u 4, .ro, false, false, []⟩,
  ⟨0x2300, 1, .chm, 0x0F, 0x0F, .u 1, .wo, false, false, [.rng 1 1 0x06090030]⟩,
  ⟨0x2300, 1, .chm, 0x10, 0x10, .u 8, .ro, false, false, []⟩,
  ⟨0x2300, 1, .chm, 0x11, 0x11, .u 4, .ro, false, false, []⟩,
  ⟨0x2300, 1, .chm, 0x12, 0x12, .u 8, .ro, false, false, []⟩,
  ⟨0x2310, 16, .cf, 0x01, 0x01, .u 8, .ro, false, false, []⟩,
  ⟨0x2310, 16, .cf, 0x02, 0x02, .u 1, .ro, false, false, []⟩,
  ⟨0x2310, 16, .cf, 0x03, 0x03, .u 1, .ro, false, false, []⟩,
  ⟨0x2310, 16, .cf, 0x04, 0x04, .u 1, .ro, false, false, []⟩,
  ⟨0x2310, 16, .cf, 0x05, 0x05, .u 8, .ro, false, false, []⟩,
  ⟨0x2400, 38, .port, 0x01, 0x01, .bool, .rw, false, false, []⟩,
  ⟨0x2400, 38, .port, 0x02, 0x02, .u 1, .rw, false, false, []⟩,
  ⟨0x2400, 38, .port, 0x03, 0x03, .u 1, .rw, false, false, [.rng 0 3 0x06090030]⟩,
  ⟨0x2400, 38, .port, 0x04, 0x04, .u 1, .rw, false, false, []⟩,
  ⟨0x2400, 38, .port, 0x05, 0x05, .bool, .rw, false, false, []⟩,
  ⟨0x2400, 38, .port, 0x06, 0x06, .bool, .rw, false, false, []⟩,
  ⟨0x2400, 38, .port, 0x07, 0x07, .bool, .rw, false, false, []⟩,
  ⟨0x2400, 38, .port, 0x08, 0x08, .u 1, .rw, false, false, [.rng 1 128 0x06090030]⟩,
  ⟨0x2400, 38, .port, 0x09, 0x09, .u 1, .rw, false, false, [.rng 0 3 0x06090031]⟩]

/-- Part 4 of the object tables. -/
def objectRows4 : List Obj := [
  ⟨0x2400, 38, .port, 0x0A, 0x0A, .u 2, .ro, false, false, []⟩,
  ⟨0x2400, 38, .port, 0x0B, 0x0B, .u 1, .wo, false, false, [.rng 1 2 0x06090030]⟩,
  ⟨0x2400, 38, .port, 0x0C, 0x0C, .u 2, .rw, false, false, []⟩,
  ⟨0x2400, 38, .port, 0x0D, 0x0D, .u 1, .rw, false, false, [.rng 0 2 0x06090030]⟩,
  ⟨0x2400, 38, .port, 0x0E, 0x0E, .u 1, .rw, false, false, [.rng 0 1 0x06090030]⟩,
  ⟨0x2400, 38, .port, 0x0F, 0x0F, .u 2, .rw, false, false, [.rng 64 9216 0x06090030]⟩,
  ⟨0x2400, 38, .port, 0x10, 0x10, .bool, .rw, false, false, []⟩,
  ⟨0x2440, 37, .pcnt, 0x01, 0x01, .u 8, .ro, false, false, []⟩,
  ⟨0x2440, 37, .pcnt, 0x02, 0x02, .u 8, .ro, false, false, []⟩,
  ⟨0x2440, 37, .pcnt, 0x03, 0x03, .u 8, .ro, false, false, []⟩,
  ⟨0x2440, 37, .pcnt, 0x04, 0x04, .u 8, .ro, false, false, []⟩,
  ⟨0x2440, 37, .pcnt, 0x05, 0x05, .u 8, .ro, false, false, []⟩,
  ⟨0x2440, 37, .pcnt, 0x06, 0x06, .u 8, .ro, false, false, []⟩,
  ⟨0x2440, 37, .pcnt, 0x07, 0x07, .u 8, .ro, false, false, []⟩,
  ⟨0x2440, 37, .pcnt, 0x08, 0x08, .u 8, .ro, false, false, []⟩,
  ⟨0x2440, 37, .pcnt, 0x09, 0x09, .u 8, .ro, false, false, []⟩,
  ⟨0x2440, 37, .pcnt, 0x0A, 0x0A, .u 8, .ro, false, false, []⟩,
  ⟨0x2440, 37, .pcnt, 0x0B, 0x0B, .u 8, .ro, false, false, []⟩,
  ⟨0x2440, 37, .pcnt, 0x0C, 0x0C, .u 8, .ro, false, false, []⟩,
  ⟨0x2440, 37, .pcnt, 0x0D, 0x0D, .u 8, .ro, false, false, []⟩,
  ⟨0x2440, 37, .pcnt, 0x0E, 0x0E, .u 8, .ro, false, false, []⟩,
  ⟨0x2440, 37, .pcnt, 0x0F, 0x0F, .u 8, .ro, false, false, []⟩,
  ⟨0x2440, 37, .pcnt, 0x10, 0x10, .u 8, .ro, false, false, []⟩,
  ⟨0x2440, 37, .pcnt, 0x11, 0x11, .u 8, .ro, false, false, []⟩,
  ⟨0x2440, 37, .pcnt, 0x12, 0x12, .u 8, .ro, false, false, []⟩,
  ⟨0x2440, 37, .pcnt, 0x13, 0x13, .u 8, .ro, false, false, []⟩,
  ⟨0x2440, 37, .pcnt, 0x14, 0x14, .u 8, .ro, false, false, []⟩,
  ⟨0x2440, 37, .pcnt, 0x15, 0x15, .u 8, .ro, false, false, []⟩,
  ⟨0x2440, 37, .pcnt, 0x20, 0x20, .u 1, .wo, false, false, [.rng 1 1 0x06090030]⟩,
  ⟨0x2490, 4, .plca, 0x01, 0x01, .bool, .rw, false, false, []⟩,
  ⟨0x2490, 4, .plca, 0x02, 0x02, .u 1, .rw, false, false, [.rng 0 254 0x06090031]⟩,
  ⟨0x2490, 4, .plca, 0x03, 0x03, .u 1, .rw, false, false, [.rng 1 255 0x06090030]⟩,
  ⟨0x2490, 4, .plca, 0x04, 0x04, .u 1, .rw, false, false, []⟩,
  ⟨0x2490, 4, .plca, 0x05, 0x05, .u 1, .rw, false, false, []⟩,
  ⟨0x2490, 4, .plca, 0x06, 0x06, .u 1, .rw, false, false, []⟩,
  ⟨0x2490, 4, .plca, 0x07, 0x07, .u 1, .ro, false, false, []⟩,
  ⟨0x24C0, 1, .sp, 0x01, 0x01, .u 2, .ro, false, false, []⟩,
  ⟨0x24C0, 1, .sp, 0x02, 0x02, .u 4, .rw, false, false, [.rng 256 65536 0x06090030]⟩,
  ⟨0x24C0, 1, .sp, 0x03, 0x03, .u 4, .rw, false, false, [.rng 1 100000 0x06090030]⟩,
  ⟨0x24C0, 1, .sp, 0x04, 0x04, .u 2, .ro, false, false, []⟩]

/-- Part 5 of the object tables. -/
def objectRows5 : List Obj := [
  ⟨0x24C0, 1, .sp, 0x05, 0x05, .u 8, .ro, false, false, []⟩,
  ⟨0x24C0, 1, .sp, 0x06, 0x06, .u 8, .ro, false, false, []⟩,
  ⟨0x24C0, 1, .sp, 0x07, 0x07, .u 8, .ro, false, false, []⟩,
  ⟨0x24C0, 1, .sp, 0x08, 0x08, .u 8, .ro, false, false, []⟩,
  ⟨0x24C0, 1, .sp, 0x09, 0x09, .u 8, .ro, false, false, []⟩,
  ⟨0x24C0, 1, .sp, 0x0A, 0x0A, .u 8, .ro, false, false, []⟩,
  ⟨0x24C0, 1, .sp, 0x0B, 0x0B, .u 8, .ro, false, false, []⟩,
  ⟨0x24C0, 1, .sp, 0x11, 0x18, .u 2, .rw, false, false, [.mask 0x83FF]⟩,
  ⟨0x24C1, 1, .txRing, 0x01, 0x01, .u 8, .rw, false, false, []⟩,
  ⟨0x24C1, 1, .txRing, 0x02, 0x02, .u 1, .rw, false, false, [.rng 12 24 0x06090030]⟩,
  ⟨0x24C1, 1, .txRing, 0x03, 0x03, .bool, .rw, false, false, []⟩,
  ⟨0x24C1, 1, .txRing, 0x04, 0x04, .u 4, .rw, false, false, []⟩,
  ⟨0x24C1, 1, .txRing, 0x05, 0x05, .u 4, .ro, false, false, []⟩,
  ⟨0x24D0, 10, .se, 0x01, 0x01, .u 1, .rw, false, false, [.rng 0 1 0x06090030]⟩,
  ⟨0x24D0, 10, .se, 0x02, 0x02, .u 1, .ro, false, false, []⟩,
  ⟨0x24D0, 10, .se, 0x03, 0x03, .u 4, .rw, false, false, [.mul 2]⟩,
  ⟨0x24D0, 10, .se, 0x04, 0x04, .u 4, .ro, false, false, []⟩,
  ⟨0x24D0, 10, .se, 0x05, 0x05, .u 4, .ro, false, false, []⟩,
  ⟨0x24D0, 10, .se, 0x06, 0x06, .octets 65536, .rw, false, false, []⟩,
  ⟨0x24D0, 10, .se, 0x07, 0x07, .octets 131072, .rw, false, false, []⟩,
  ⟨0x24D0, 10, .se, 0x08, 0x08, .u 2, .ro, false, false, []⟩,
  ⟨0x24D0, 10, .se, 0x09, 0x09, .u 8, .ro, false, false, []⟩,
  ⟨0x24D0, 10, .se, 0x0A, 0x0A, .u 8, .ro, false, false, []⟩,
  ⟨0x24D0, 10, .se, 0x0B, 0x0B, .u 8, .ro, false, false, []⟩,
  ⟨0x24D0, 10, .se, 0x0C, 0x0C, .u 8, .ro, false, false, []⟩,
  ⟨0x24D0, 10, .se, 0x0D, 0x0D, .u 8, .ro, false, false, []⟩,
  ⟨0x24D0, 10, .se, 0x0E, 0x0E, .u 8, .ro, false, false, []⟩,
  ⟨0x24E0, 31, .rxRing, 0x01, 0x01, .u 8, .rw, false, false, []⟩,
  ⟨0x24E0, 31, .rxRing, 0x02, 0x02, .u 1, .rw, false, false, [.rng 12 24 0x06090030]⟩,
  ⟨0x24E0, 31, .rxRing, 0x03, 0x03, .bool, .rw, false, false, []⟩,
  ⟨0x24E0, 31, .rxRing, 0x04, 0x04, .u 4, .ro, false, false, []⟩,
  ⟨0x24E0, 31, .rxRing, 0x05, 0x05, .u 4, .rw, false, false, []⟩,
  ⟨0x2500, 1, .buf, 0x01, 0x01, .u 1, .rwt, false, false, [.rng 0 1 0x06090030]⟩,
  ⟨0x2500, 1, .buf, 0x02, 0x02, .u 4, .ro, false, false, []⟩,
  ⟨0x2500, 1, .buf, 0x03, 0x03, .u 4, .ro, false, false, []⟩,
  ⟨0x2500, 1, .buf, 0x04, 0x04, .u 4, .rw, false, false, [.rng 0 196608 0x06090030]⟩,
  ⟨0x2500, 1, .buf, 0x05, 0x05, .u 4, .rw, false, false, [.rng 0 32768 0x06090030]⟩,
  ⟨0x2500, 1, .buf, 0x06, 0x06, .u 1, .rw, false, false, [.rng 1 8 0x06090030]⟩,
  ⟨0x2500, 1, .buf, 0x07, 0x07, .u 4, .rwt, false, false, []⟩,
  ⟨0x2500, 1, .buf, 0x08, 0x08, .u 2, .rwt, false, false, [.rng 64 1024 0x06090030]⟩]

/-- Part 6 of the object tables. -/
def objectRows6 : List Obj := [
  ⟨0x2500, 1, .buf, 0x09, 0x09, .u 1, .ro, false, false, []⟩,
  ⟨0x2500, 1, .buf, 0x0A, 0x0A, .u 1, .ro, false, false, []⟩,
  ⟨0x2500, 1, .buf, 0x0B, 0x0B, .u 4, .ro, false, false, []⟩,
  ⟨0x2500, 1, .buf, 0x0C, 0x0C, .u 4, .ro, false, false, []⟩,
  ⟨0x2500, 1, .buf, 0x0D, 0x0D, .u 1, .wo, false, false, [.rng 1 1 0x06090030]⟩,
  ⟨0x2500, 1, .buf, 0x0E, 0x0E, .u 1, .ro, false, false, []⟩,
  ⟨0x2500, 1, .buf, 0x0F, 0x0F, .u 4, .ro, false, false, []⟩,
  ⟨0x2500, 1, .buf, 0x10, 0x17, .u 1, .rw, false, false, [.rng 0 7 0x06090031]⟩,
  ⟨0x2500, 1, .buf, 0x18, 0x1F, .u 4, .rw, false, false, []⟩,
  ⟨0x2500, 1, .buf, 0x20, 0x20, .u 8, .ro, false, false, []⟩,
  ⟨0x2500, 1, .buf, 0x21, 0x21, .u 8, .ro, false, false, []⟩,
  ⟨0x2500, 1, .buf, 0x22, 0x22, .u 8, .ro, false, false, []⟩,
  ⟨0x2500, 1, .buf, 0x30, 0x30, .u 4, .ro, false, false, []⟩,
  ⟨0x2500, 1, .buf, 0x31, 0x31, .u 4, .ro, false, false, []⟩,
  ⟨0x2500, 1, .buf, 0x32, 0x32, .u 8, .ro, false, false, []⟩,
  ⟨0x2500, 1, .buf, 0x33, 0x33, .u 8, .ro, false, false, []⟩,
  ⟨0x2500, 1, .buf, 0x34, 0x34, .u 1, .wo, false, false, [.rngOr 0 37 255 0x06090031]⟩,
  ⟨0x2510, 38, .q, 0x01, 0x01, .u 4, .rwt, false, false, []⟩,
  ⟨0x2510, 38, .q, 0x02, 0x02, .u 1, .rw, false, false, [.rng 0 7 0x06090030]⟩,
  ⟨0x2510, 38, .q, 0x03, 0x03, .u 4, .wo, false, false, []⟩,
  ⟨0x2510, 38, .q, 0x04, 0x04, .u 1, .ro, false, false, []⟩,
  ⟨0x2510, 38, .q, 0x05, 0x05, .u 4, .ro, false, false, []⟩,
  ⟨0x2510, 38, .q, 0x06, 0x06, .bool, .rw, false, false, []⟩,
  ⟨0x2510, 38, .q, 0x07, 0x07, .u 2, .rw, false, false, [.rng 1 4094 0x06090030]⟩,
  ⟨0x2510, 38, .q, 0x08, 0x08, .u 8, .rw, false, false, [.mask 0x3FFFFFFFFF]⟩,
  ⟨0x2510, 38, .q, 0x20, 0x3F, .u 4, .rw, false, false, []⟩,
  ⟨0x2510, 38, .q, 0x40, 0x5F, .u 4, .ro, false, false, []⟩,
  ⟨0x2510, 38, .q, 0x60, 0x7F, .u 4, .ro, false, false, []⟩,
  ⟨0x2540, 38, .qcnt, 0x01, 0x01, .u 8, .ro, false, false, []⟩,
  ⟨0x2540, 38, .qcnt, 0x03, 0x03, .u 8, .ro, false, false, []⟩,
  ⟨0x2540, 38, .qcnt, 0x04, 0x04, .u 8, .ro, false, false, []⟩,
  ⟨0x2540, 38, .qcnt, 0x05, 0x05, .u 8, .ro, false, false, []⟩,
  ⟨0x2540, 38, .qcnt, 0x06, 0x06, .u 8, .ro, false, false, []⟩,
  ⟨0x2540, 38, .qcnt, 0x07, 0x07, .u 8, .ro, false, false, []⟩,
  ⟨0x2540, 38, .qcnt, 0x08, 0x08, .u 8, .ro, false, false, []⟩,
  ⟨0x2540, 38, .qcnt, 0x09, 0x09, .u 8, .ro, false, false, []⟩,
  ⟨0x2540, 38, .qcnt, 0x0A, 0x0A, .u 8, .ro, false, false, []⟩,
  ⟨0x2540, 38, .qcnt, 0x0B, 0x0B, .u 8, .ro, false, false, []⟩,
  ⟨0x2540, 38, .qcnt, 0x0C, 0x0C, .u 8, .ro, false, false, []⟩,
  ⟨0x2540, 38, .qcnt, 0x0D, 0x0D, .u 8, .ro, false, false, []⟩]

/-- Part 7 of the object tables. -/
def objectRows7 : List Obj := [
  ⟨0x2540, 38, .qcnt, 0x0E, 0x0E, .u 8, .ro, false, false, []⟩,
  ⟨0x2540, 38, .qcnt, 0x0F, 0x0F, .u 8, .ro, false, false, []⟩,
  ⟨0x2540, 38, .qcnt, 0x20, 0x20, .u 1, .wo, false, false, [.rng 1 1 0x06090030]⟩,
  ⟨0x2600, 38, .sched, 0x01, 0x01, .bool, .rwp, false, false, []⟩,
  ⟨0x2600, 38, .sched, 0x02, 0x02, .u 8, .rwp, false, false, []⟩,
  ⟨0x2600, 38, .sched, 0x03, 0x03, .u 4, .rwp, false, false, [.rng 1000 4000000000 0x06090030]⟩,
  ⟨0x2600, 38, .sched, 0x04, 0x04, .u 2, .rwp, false, false, [.rng 1 1024 0x06090030]⟩,
  ⟨0x2600, 38, .sched, 0x05, 0x05, .u 1, .rwp, false, false, [.rng 0 3 0x06090031]⟩,
  ⟨0x2600, 38, .sched, 0x06, 0x06, .u 1, .rw, false, false, []⟩,
  ⟨0x2600, 38, .sched, 0x07, 0x07, .u 2, .rw, false, false, []⟩,
  ⟨0x2600, 38, .sched, 0x08, 0x08, .u 2, .rw, false, false, []⟩,
  ⟨0x2600, 38, .sched, 0x09, 0x09, .u 2, .ro, false, false, []⟩,
  ⟨0x2600, 38, .sched, 0x0A, 0x0A, .u 8, .ro, false, false, []⟩,
  ⟨0x2600, 38, .sched, 0x0B, 0x0B, .u 1, .ro, false, false, []⟩,
  ⟨0x2600, 38, .sched, 0x0C, 0x0C, .bool, .rw, false, false, []⟩,
  ⟨0x2600, 38, .sched, 0x10, 0x17, .u 4, .rw, false, false, []⟩,
  ⟨0x2600, 38, .sched, 0x18, 0x1F, .i 4, .ro, false, false, []⟩,
  ⟨0x2640, 38, .scnt, 0x01, 0x01, .u 8, .ro, false, false, []⟩,
  ⟨0x2640, 38, .scnt, 0x02, 0x02, .u 8, .ro, false, false, []⟩,
  ⟨0x2640, 38, .scnt, 0x03, 0x03, .u 8, .ro, false, false, []⟩,
  ⟨0x2640, 38, .scnt, 0x04, 0x04, .u 8, .ro, false, false, []⟩,
  ⟨0x2640, 38, .scnt, 0x05, 0x05, .u 8, .ro, false, false, []⟩,
  ⟨0x2640, 38, .scnt, 0x06, 0x06, .u 8, .ro, false, false, []⟩,
  ⟨0x2640, 38, .scnt, 0x07, 0x07, .u 8, .ro, false, false, []⟩,
  ⟨0x2640, 38, .scnt, 0x08, 0x08, .u 8, .ro, false, false, []⟩,
  ⟨0x2640, 38, .scnt, 0x20, 0x20, .u 1, .wo, false, false, [.rng 1 1 0x06090030]⟩,
  ⟨0x2700, 1, .cls, 0x01, 0x01, .u 1, .rwt, false, false, [.mask 0x3]⟩,
  ⟨0x2700, 1, .cls, 0x02, 0x02, .u 2, .rw, false, false, [.rng 10 60000 0x06090030]⟩,
  ⟨0x2700, 1, .cls, 0x03, 0x03, .u 2, .rw, false, false, []⟩,
  ⟨0x2700, 1, .cls, 0x04, 0x04, .u 4, .ro, false, false, []⟩,
  ⟨0x2700, 1, .cls, 0x05, 0x05, .u 4, .ro, false, false, []⟩,
  ⟨0x2700, 1, .cls, 0x06, 0x06, .u 8, .ro, false, false, []⟩,
  ⟨0x2700, 1, .cls, 0x07, 0x07, .u 8, .ro, false, false, []⟩,
  ⟨0x2700, 1, .cls, 0x08, 0x08, .u 8, .ro, false, false, []⟩,
  ⟨0x2700, 1, .cls, 0x09, 0x09, .u 4, .ro, false, false, []⟩,
  ⟨0x2700, 1, .cls, 0x0A, 0x0A, .u 2, .ro, false, false, []⟩,
  ⟨0x2700, 1, .cls, 0x10, 0x1F, .u 4, .rw, false, false, []⟩,
  ⟨0x2700, 1, .cls, 0x20, 0x27, .u 2, .rw, false, false, [.mask 0x3FF]⟩,
  ⟨0x2700, 1, .cls, 0x28, 0x2B, .u 1, .rw, false, false, [.rngOr 0 37 255 0x06090030]⟩,
  ⟨0x2710, 38, .clsPort, 0x01, 0x01, .u 1, .rw, false, false, [.mask 0xF]⟩]

/-- Part 8 of the object tables. -/
def objectRows8 : List Obj := [
  ⟨0x2710, 38, .clsPort, 0x02, 0x02, .u 1, .rw, false, false, [.rng 0 2 0x06090030]⟩,
  ⟨0x2710, 38, .clsPort, 0x03, 0x03, .u 1, .rw, false, false, []⟩,
  ⟨0x2710, 38, .clsPort, 0x04, 0x04, .u 1, .rw, false, false, []⟩,
  ⟨0x2710, 38, .clsPort, 0x05, 0x05, .u 1, .rw, false, false, [.mask 0xF]⟩,
  ⟨0x2740, 38, .ccnt, 0x01, 0x01, .u 8, .ro, false, false, []⟩,
  ⟨0x2740, 38, .ccnt, 0x02, 0x02, .u 8, .ro, false, false, []⟩,
  ⟨0x2740, 38, .ccnt, 0x03, 0x03, .u 8, .ro, false, false, []⟩,
  ⟨0x2740, 38, .ccnt, 0x04, 0x04, .u 8, .ro, false, false, []⟩,
  ⟨0x2740, 38, .ccnt, 0x05, 0x05, .u 8, .ro, false, false, []⟩,
  ⟨0x2740, 38, .ccnt, 0x06, 0x06, .u 8, .ro, false, false, []⟩,
  ⟨0x2740, 38, .ccnt, 0x07, 0x07, .u 8, .ro, false, false, []⟩,
  ⟨0x2740, 38, .ccnt, 0x08, 0x08, .u 8, .ro, false, false, []⟩,
  ⟨0x2740, 38, .ccnt, 0x09, 0x09, .u 8, .ro, false, false, []⟩,
  ⟨0x2740, 38, .ccnt, 0x0A, 0x0A, .u 8, .ro, false, false, []⟩,
  ⟨0x2740, 38, .ccnt, 0x0B, 0x0B, .u 8, .ro, false, false, []⟩,
  ⟨0x2740, 38, .ccnt, 0x0C, 0x0C, .u 8, .ro, false, false, []⟩,
  ⟨0x2740, 38, .ccnt, 0x0D, 0x0D, .u 8, .ro, false, false, []⟩,
  ⟨0x2740, 38, .ccnt, 0x20, 0x20, .u 1, .wo, false, false, [.rng 1 1 0x06090030]⟩,
  ⟨0x2780, 128, .rw, 0x01, 0x01, .u 1, .rwp, false, false, [.mask 0xF]⟩,
  ⟨0x2780, 128, .rw, 0x02, 0x02, .u 8, .rwp, false, false, [.mask 0xFFFFFFFFFFFF]⟩,
  ⟨0x2780, 128, .rw, 0x03, 0x03, .u 8, .rwp, false, false, [.mask 0xFFFFFFFFFFFF]⟩,
  ⟨0x2780, 128, .rw, 0x04, 0x04, .u 1, .rwp, false, false, [.rng 0 63 0x06090031]⟩,
  ⟨0x2800, 1, .sc, 0x01, 0x01, .u 8, .rw, false, true, []⟩,
  ⟨0x2800, 1, .sc, 0x02, 0x02, .u 1, .rw, false, true, [.mask 0x7]⟩,
  ⟨0x2800, 1, .sc, 0x03, 0x03, .u 8, .rw, false, true, [.mask 0x1FFFFFFFFF]⟩,
  ⟨0x2800, 1, .sc, 0x04, 0x04, .u 2, .rw, false, true, [.rng 0 4095 0x06090031]⟩,
  ⟨0x2800, 1, .sc, 0x05, 0x05, .u 2, .rw, false, true, [.rng 0 1023 0x06090031]⟩,
  ⟨0x2800, 1, .sc, 0x06, 0x06, .octets 40, .rw, false, true, []⟩,
  ⟨0x2800, 1, .sc, 0x07, 0x07, .u 4, .rw, false, true, [.mask 0xFBC00000]⟩,
  ⟨0x2800, 1, .sc, 0x08, 0x08, .u 8, .rw, false, true, [.rng 1 0xFFFFFFFFFFFFFFFF 0x06090030]⟩,
  ⟨0x2800, 1, .sc, 0x09, 0x09, .u 4, .rw, false, true, []⟩,
  ⟨0x2800, 1, .sc, 0x0A, 0x0A, .octets 12, .rw, false, true, []⟩,
  ⟨0x2800, 1, .sc, 0x0B, 0x0B, .u 8, .rw, false, true, []⟩,
  ⟨0x2800, 1, .sc, 0x0C, 0x0C, .u 4, .rw, false, true, [.rng 0 1073741824 0x06090031]⟩,
  ⟨0x2800, 1, .sc, 0x0D, 0x0D, .u 1, .wo, false, true, [.rng 1 5 0x06090030]⟩,
  ⟨0x2800, 1, .sc, 0x0E, 0x0E, .u 1, .ro, false, true, []⟩,
  ⟨0x2800, 1, .sc, 0x0F, 0x0F, .u 2, .ro, false, true, []⟩,
  ⟨0x2801, 1, .lc, 0x01, 0x01, .u 1, .ro, false, false, []⟩,
  ⟨0x2801, 1, .lc, 0x02, 0x02, .u 1, .ro, false, false, []⟩,
  ⟨0x2801, 1, .lc, 0x03, 0x03, .u 2, .ro, false, false, []⟩]

/-- Part 9 of the object tables. -/
def objectRows9 : List Obj := [
  ⟨0x2801, 1, .lc, 0x04, 0x04, .u 2, .ro, false, false, []⟩,
  ⟨0x2801, 1, .lc, 0x05, 0x05, .u 8, .ro, false, false, []⟩,
  ⟨0x2801, 1, .lc, 0x06, 0x06, .u 8, .ro, false, false, []⟩,
  ⟨0x2801, 1, .lc, 0x07, 0x07, .u 4, .ro, false, false, []⟩,
  ⟨0x2801, 1, .lc, 0x08, 0x08, .u 4, .ro, false, false, []⟩,
  ⟨0x2801, 1, .lc, 0x09, 0x09, .u 4, .ro, false, false, []⟩,
  ⟨0x2801, 1, .lc, 0x0A, 0x0A, .u 8, .ro, false, false, []⟩,
  ⟨0x2810, 37, .lcPort, 0x01, 0x01, .u 2, .rw, false, false, [.rngOr 0 4095 65535 0x06090031]⟩,
  ⟨0x2810, 37, .lcPort, 0x02, 0x02, .u 1, .rw, false, false, [.rng 0 1 0x06090030]⟩,
  ⟨0x2810, 37, .lcPort, 0x03, 0x03, .u 8, .rw, false, false, []⟩,
  ⟨0x2810, 37, .lcPort, 0x04, 0x04, .bool, .rw, false, false, []⟩,
  ⟨0x2810, 37, .lcPort, 0x05, 0x05, .bool, .rw, false, false, []⟩,
  ⟨0x2840, 1, .sa, 0x01, 0x01, .u 2, .ro, false, false, []⟩,
  ⟨0x2840, 1, .sa, 0x02, 0x02, .u 2, .ro, false, false, []⟩,
  ⟨0x2840, 1, .sa, 0x03, 0x03, .u 8, .ro, false, false, []⟩,
  ⟨0x2840, 1, .sa, 0x04, 0x04, .u 4, .rw, false, false, [.rng 0 1000000 0x06090030]⟩,
  ⟨0x2840, 1, .sa, 0x05, 0x05, .u 4, .rw, false, false, [.rng 1 1000000 0x06090030]⟩,
  ⟨0x2840, 1, .sa, 0x06, 0x06, .u 2, .ro, false, false, []⟩,
  ⟨0x2840, 1, .sa, 0x07, 0x07, .u 4, .ro, false, false, []⟩,
  ⟨0x2840, 1, .sa, 0x08, 0x08, .u 8, .ro, false, false, []⟩,
  ⟨0x2840, 1, .sa, 0x09, 0x09, .u 4, .ro, false, false, []⟩,
  ⟨0x2880, 37, .lcCnt, 0x01, 0x01, .u 8, .ro, false, false, []⟩,
  ⟨0x2880, 37, .lcCnt, 0x02, 0x02, .u 8, .ro, false, false, []⟩,
  ⟨0x2880, 37, .lcCnt, 0x03, 0x03, .u 8, .ro, false, false, []⟩,
  ⟨0x2880, 37, .lcCnt, 0x04, 0x04, .u 8, .ro, false, false, []⟩,
  ⟨0x2880, 37, .lcCnt, 0x05, 0x05, .u 8, .ro, false, false, []⟩,
  ⟨0x2880, 37, .lcCnt, 0x06, 0x06, .u 8, .ro, false, false, []⟩,
  ⟨0x2880, 37, .lcCnt, 0x07, 0x07, .u 8, .ro, false, false, []⟩,
  ⟨0x2880, 37, .lcCnt, 0x08, 0x08, .u 8, .ro, false, false, []⟩,
  ⟨0x2880, 37, .lcCnt, 0x09, 0x09, .u 8, .ro, false, false, []⟩,
  ⟨0x2880, 37, .lcCnt, 0x0A, 0x0A, .u 8, .ro, false, false, []⟩,
  ⟨0x2880, 37, .lcCnt, 0x0B, 0x0B, .u 8, .ro, false, false, []⟩,
  ⟨0x2880, 37, .lcCnt, 0x0C, 0x0C, .u 8, .ro, false, false, []⟩,
  ⟨0x2880, 37, .lcCnt, 0x0D, 0x0D, .u 8, .ro, false, false, []⟩,
  ⟨0x2880, 37, .lcCnt, 0x0E, 0x0E, .u 8, .ro, false, false, []⟩,
  ⟨0x2880, 37, .lcCnt, 0x0F, 0x0F, .u 8, .ro, false, false, []⟩,
  ⟨0x2880, 37, .lcCnt, 0x10, 0x10, .u 8, .ro, false, false, []⟩,
  ⟨0x2880, 37, .lcCnt, 0x11, 0x11, .u 8, .ro, false, false, []⟩,
  ⟨0x2880, 37, .lcCnt, 0x12, 0x12, .u 8, .ro, false, false, []⟩,
  ⟨0x2880, 37, .lcCnt, 0x13, 0x13, .u 8, .ro, false, false, []⟩]

/-- Part 10 of the object tables. -/
def objectRows10 : List Obj := [
  ⟨0x2880, 37, .lcCnt, 0x14, 0x14, .u 8, .ro, false, false, []⟩,
  ⟨0x2880, 37, .lcCnt, 0x20, 0x20, .u 1, .wo, false, false, [.rng 1 1 0x06090030]⟩,
  ⟨0x28B0, 37, .scp, 0x01, 0x01, .u 8, .ro, false, false, []⟩,
  ⟨0x28B0, 37, .scp, 0x02, 0x02, .u 8, .ro, false, false, []⟩,
  ⟨0x28B0, 37, .scp, 0x03, 0x03, .u 8, .ro, false, false, []⟩,
  ⟨0x28B0, 37, .scp, 0x04, 0x04, .u 8, .ro, false, false, []⟩,
  ⟨0x28B0, 37, .scp, 0x05, 0x05, .u 8, .ro, false, false, []⟩,
  ⟨0x28B0, 37, .scp, 0x20, 0x20, .u 1, .wo, false, false, [.rng 1 1 0x06090030]⟩,
  ⟨0x2900, 1, .vlt, 0x01, 0x01, .u 2, .rw, false, true, [.rng 0 1023 0x06090031]⟩,
  ⟨0x2900, 1, .vlt, 0x02, 0x02, .u 2, .rw, false, true, [.rng 0 1023 0x06090031]⟩,
  ⟨0x2900, 1, .vlt, 0x03, 0x03, .u 1, .rw, false, true, []⟩,
  ⟨0x2900, 1, .vlt, 0x04, 0x04, .u 1, .rw, false, true, []⟩,
  ⟨0x2900, 1, .vlt, 0x05, 0x05, .u 2, .rw, false, true, []⟩,
  ⟨0x2900, 1, .vlt, 0x06, 0x06, .octets 520, .wo, false, true, []⟩,
  ⟨0x2900, 1, .vlt, 0x07, 0x07, .octets 64, .rw, false, true, []⟩,
  ⟨0x2900, 1, .vlt, 0x08, 0x08, .octets 1024, .rw, false, true, []⟩,
  ⟨0x2900, 1, .vlt, 0x09, 0x09, .u 2, .rw, false, true, [.rng 0 1024 0x06090031]⟩,
  ⟨0x2900, 1, .vlt, 0x0A, 0x0A, .u 1, .rw, false, true, []⟩,
  ⟨0x2900, 1, .vlt, 0x0B, 0x0B, .u 1, .wo, false, true, []⟩,
  ⟨0x2900, 1, .vlt, 0x0C, 0x0C, .u 1, .ro, false, true, []⟩,
  ⟨0x2900, 1, .vlt, 0x0D, 0x0D, .octets 640, .ro, false, true, []⟩,
  ⟨0x2900, 1, .vlt, 0x0E, 0x0E, .u 2, .ro, false, true, []⟩,
  ⟨0x2900, 1, .vlt, 0x10, 0x10, .u 4, .ro, false, true, []⟩,
  ⟨0x2900, 1, .vlt, 0x11, 0x11, .octets 133, .ro, false, true, []⟩,
  ⟨0x2901, 1, .vltG, 0x01, 0x01, .u 1, .ro, false, false, []⟩,
  ⟨0x2901, 1, .vltG, 0x02, 0x02, .u 4, .wo, false, false, []⟩,
  ⟨0x2901, 1, .vltG, 0x03, 0x03, .u 1, .wo, false, false, [.rng 0 4 0x06090031]⟩,
  ⟨0x2901, 1, .vltG, 0x04, 0x04, .u 1, .ro, false, false, []⟩,
  ⟨0x2901, 1, .vltG, 0x05, 0x05, .bool, .ro, false, false, []⟩,
  ⟨0x2901, 1, .vltG, 0x06, 0x06, .u 1, .ro, false, false, []⟩,
  ⟨0x2901, 1, .vltG, 0x07, 0x07, .u 2, .ro, false, false, []⟩,
  ⟨0x2901, 1, .vltG, 0x08, 0x08, .u 4, .ro, false, false, []⟩,
  ⟨0x2901, 1, .vltG, 0x09, 0x09, .u 4, .ro, false, false, []⟩,
  ⟨0x2901, 1, .vltG, 0x0A, 0x0A, .u 4, .ro, false, false, []⟩,
  ⟨0x2901, 1, .vltG, 0x0B, 0x0B, .u 2, .ro, false, false, []⟩,
  ⟨0x2A00, 1, .crG, 0x01, 0x01, .u 1, .ro, false, false, []⟩,
  ⟨0x2A00, 1, .crG, 0x02, 0x02, .u 1, .ro, false, false, []⟩,
  ⟨0x2A00, 1, .crG, 0x03, 0x03, .u 8, .ro, false, false, []⟩,
  ⟨0x2A00, 1, .crG, 0x04, 0x04, .u 8, .ro, false, false, []⟩,
  ⟨0x2A00, 1, .crG, 0x05, 0x05, .u 8, .ro, false, false, []⟩]

/-- Part 11 of the object tables. -/
def objectRows11 : List Obj := [
  ⟨0x2A00, 1, .crG, 0x06, 0x06, .u 8, .ro, false, false, []⟩,
  ⟨0x2A01, 1, .cr, 0x01, 0x01, .u 1, .rw, false, true, []⟩,
  ⟨0x2A01, 1, .cr, 0x02, 0x02, .u 2, .rw, false, true, [.rng 0 1023 0x06090031]⟩,
  ⟨0x2A01, 1, .cr, 0x03, 0x03, .u 1, .rw, false, true, [.vals [0x41, 0x42, 0x43, 0x44, 0x45, 0x46, 0x81, 0x82, 0x83, 0x84, 0x85, 0x86]]⟩,
  ⟨0x2A01, 1, .cr, 0x04, 0x04, .u 4, .rw, false, true, []⟩,
  ⟨0x2A01, 1, .cr, 0x05, 0x05, .u 8, .rw, false, true, []⟩,
  ⟨0x2A01, 1, .cr, 0x06, 0x06, .u 8, .rw, false, true, []⟩,
  ⟨0x2A01, 1, .cr, 0x07, 0x07, .u 1, .wo, false, true, [.rng 1 2 0x06090030]⟩,
  ⟨0x2A01, 1, .cr, 0x08, 0x08, .u 1, .ro, false, true, []⟩,
  ⟨0x2A01, 1, .cr, 0x09, 0x09, .u 8, .ro, false, true, []⟩,
  ⟨0x2A01, 1, .cr, 0x0A, 0x0A, .u 4, .ro, false, true, []⟩,
  ⟨0x2A20, 8, .crq, 0x01, 0x01, .u 8, .rw, false, false, []⟩,
  ⟨0x2A20, 8, .crq, 0x02, 0x02, .u 1, .rw, false, false, [.rng 10 20 0x06090030]⟩,
  ⟨0x2A20, 8, .crq, 0x03, 0x03, .bool, .rw, false, false, []⟩,
  ⟨0x2A20, 8, .crq, 0x04, 0x04, .u 4, .rw, false, false, [.mul 64]⟩,
  ⟨0x2A20, 8, .crq, 0x05, 0x05, .u 4, .ro, false, false, []⟩,
  ⟨0x2A20, 8, .crq, 0x06, 0x06, .u 1, .ro, false, false, []⟩,
  ⟨0x2A20, 8, .crq, 0x07, 0x07, .u 4, .ro, false, false, []⟩,
  ⟨0x2B10, 32, .dma, 0x01, 0x01, .u 8, .rwp, false, false, [.mask 0xFFFFFFFFE0]⟩,
  ⟨0x2B10, 32, .dma, 0x02, 0x02, .u 1, .rwp, false, false, [.mask 0x7]⟩,
  ⟨0x2B10, 32, .dma, 0x03, 0x03, .u 1, .wo, false, false, [.rng 0 2 0x06090030]⟩,
  ⟨0x2B10, 32, .dma, 0x04, 0x04, .u 1, .ro, false, false, []⟩,
  ⟨0x2B10, 32, .dma, 0x05, 0x05, .u 8, .ro, false, false, []⟩,
  ⟨0x2B10, 32, .dma, 0x06, 0x06, .u 4, .ro, false, false, []⟩,
  ⟨0x2B10, 32, .dma, 0x07, 0x07, .u 8, .ro, false, false, []⟩,
  ⟨0x2B10, 32, .dma, 0x08, 0x08, .u 2, .ro, false, false, []⟩,
  ⟨0x2B10, 32, .dma, 0x09, 0x09, .u 8, .ro, false, false, []⟩,
  ⟨0x2B10, 32, .dma, 0x0A, 0x0A, .u 4, .ro, false, false, []⟩,
  ⟨0x2B10, 32, .dma, 0x0B, 0x0B, .u 4, .ro, false, false, []⟩,
  ⟨0x2B10, 32, .dma, 0x0C, 0x0C, .u 4, .ro, false, false, []⟩,
  ⟨0x2C00, 1, .gw, 0x02, 0x02, .u 1, .rw, false, false, []⟩,
  ⟨0x2C00, 1, .gw, 0x03, 0x03, .u 1, .rw, false, false, [.rngOr 0 30 255 0x06090031]⟩,
  ⟨0x2C00, 1, .gw, 0x04, 0x04, .u 1, .rw, false, false, [.rng 4 127 0x06090030]⟩,
  ⟨0x2C00, 1, .gw, 0x05, 0x05, .u 8, .rw, false, false, [.mask 0xFFFFFFFFFFFF]⟩,
  ⟨0x2C00, 1, .gw, 0x06, 0x06, .u 4, .rw, false, false, [.rng 256 65536 0x06090030]⟩,
  ⟨0x2C00, 1, .gw, 0x07, 0x07, .u 8, .ro, false, false, []⟩,
  ⟨0x2C00, 1, .gw, 0x08, 0x08, .u 8, .ro, false, false, []⟩,
  ⟨0x2C00, 1, .gw, 0x09, 0x09, .u 8, .ro, false, false, []⟩,
  ⟨0x2C00, 1, .gw, 0x10, 0x1F, .u 2, .rw, false, false, []⟩,
  ⟨0x2C00, 1, .gw, 0x20, 0x2F, .u 1, .ro, false, false, []⟩]

/-- Part 12 of the object tables. -/
def objectRows12 : List Obj := [
  ⟨0x2C10, 16, .can, 0x01, 0x01, .bool, .rw, false, false, []⟩,
  ⟨0x2C10, 16, .can, 0x02, 0x02, .u 1, .rw, false, false, [.mask 0x3F]⟩,
  ⟨0x2C10, 16, .can, 0x03, 0x03, .u 2, .rw, false, false, [.rng 125 1000 0x06090030]⟩,
  ⟨0x2C10, 16, .can, 0x04, 0x04, .u 2, .rw, false, false, [.rng 500 8000 0x06090030]⟩,
  ⟨0x2C10, 16, .can, 0x05, 0x05, .u 2, .rw, false, false, [.rng 500 20000 0x06090030]⟩,
  ⟨0x2C10, 16, .can, 0x06, 0x06, .u 4, .rw, false, false, [.mask 0xFFFFFF00]⟩,
  ⟨0x2C10, 16, .can, 0x07, 0x07, .u 1, .rw, false, false, [.rng 0 2 0x06090030]⟩,
  ⟨0x2C10, 16, .can, 0x08, 0x08, .bool, .rw, false, false, []⟩,
  ⟨0x2C10, 16, .can, 0x09, 0x09, .u 4, .rw, false, false, []⟩,
  ⟨0x2C10, 16, .can, 0x0A, 0x0A, .u 1, .ro, false, false, []⟩,
  ⟨0x2C10, 16, .can, 0x0B, 0x0B, .u 4, .ro, false, false, []⟩,
  ⟨0x2C10, 16, .can, 0x0C, 0x0C, .u 1, .wo, false, false, [.rng 1 1 0x06090030]⟩,
  ⟨0x2C10, 16, .can, 0x20, 0x20, .u 8, .ro, false, false, []⟩,
  ⟨0x2C10, 16, .can, 0x21, 0x21, .u 8, .ro, false, false, []⟩,
  ⟨0x2C10, 16, .can, 0x22, 0x22, .u 8, .ro, false, false, []⟩,
  ⟨0x2C10, 16, .can, 0x23, 0x23, .u 8, .ro, false, false, []⟩,
  ⟨0x2C10, 16, .can, 0x24, 0x24, .u 8, .ro, false, false, []⟩,
  ⟨0x2C10, 16, .can, 0x25, 0x25, .u 8, .ro, false, false, []⟩,
  ⟨0x2C10, 16, .can, 0x26, 0x26, .u 8, .ro, false, false, []⟩,
  ⟨0x2C10, 16, .can, 0x27, 0x27, .u 8, .ro, false, false, []⟩,
  ⟨0x2C10, 16, .can, 0x28, 0x28, .u 8, .ro, false, false, []⟩,
  ⟨0x2C10, 16, .can, 0x30, 0x30, .u 1, .wo, false, false, [.rng 1 1 0x06090030]⟩,
  ⟨0x2C20, 8, .lin, 0x01, 0x01, .bool, .rw, false, false, []⟩,
  ⟨0x2C20, 8, .lin, 0x02, 0x02, .u 1, .rw, false, false, [.rng 0 1 0x06090030]⟩,
  ⟨0x2C20, 8, .lin, 0x03, 0x03, .u 2, .rw, false, false, [.rng 1000 20000 0x06090030]⟩,
  ⟨0x2C20, 8, .lin, 0x04, 0x04, .u 8, .rw, false, false, [.mask 0xFFFFFFFFFFFFFFF]⟩,
  ⟨0x2C20, 8, .lin, 0x05, 0x05, .bool, .rw, false, false, []⟩,
  ⟨0x2C20, 8, .lin, 0x06, 0x06, .u 1, .wo, false, false, [.rng 1 1 0x06090030]⟩,
  ⟨0x2C20, 8, .lin, 0x20, 0x20, .u 8, .ro, false, false, []⟩,
  ⟨0x2C20, 8, .lin, 0x21, 0x21, .u 8, .ro, false, false, []⟩,
  ⟨0x2C20, 8, .lin, 0x22, 0x22, .u 8, .ro, false, false, []⟩,
  ⟨0x2C20, 8, .lin, 0x23, 0x23, .u 8, .ro, false, false, []⟩,
  ⟨0x2C20, 8, .lin, 0x24, 0x24, .u 8, .ro, false, false, []⟩,
  ⟨0x2C20, 8, .lin, 0x30, 0x30, .u 1, .wo, false, false, [.rng 1 1 0x06090030]⟩,
  ⟨0x2C40, 32, .acf, 0x01, 0x01, .u 1, .rw, false, false, [.rng 0 2 0x06090030]⟩,
  ⟨0x2C40, 32, .acf, 0x02, 0x02, .u 1, .rw, false, false, [.vals [0x82, 0x05]]⟩,
  ⟨0x2C40, 32, .acf, 0x03, 0x03, .u 8, .rw, false, false, []⟩,
  ⟨0x2C40, 32, .acf, 0x04, 0x04, .u 8, .rw, false, false, [.mask 0xFFFFFFFFFFFF]⟩,
  ⟨0x2C40, 32, .acf, 0x05, 0x05, .u 2, .rw, false, false, []⟩,
  ⟨0x2C40, 32, .acf, 0x06, 0x06, .u 4, .rw, false, false, [.rng 0 1000000 0x06090030]⟩]

/-- Part 13 of the object tables. -/
def objectRows13 : List Obj := [
  ⟨0x2C40, 32, .acf, 0x07, 0x07, .u 2, .rw, false, false, [.rng 64 1400 0x06090030]⟩,
  ⟨0x2C40, 32, .acf, 0x08, 0x08, .u 1, .rw, false, false, [.rng 0 3 0x06090030]⟩,
  ⟨0x2C40, 32, .acf, 0x20, 0x20, .u 8, .ro, false, false, []⟩,
  ⟨0x2C40, 32, .acf, 0x21, 0x21, .u 8, .ro, false, false, []⟩,
  ⟨0x2C40, 32, .acf, 0x22, 0x22, .u 8, .ro, false, false, []⟩,
  ⟨0x2C40, 32, .acf, 0x23, 0x23, .u 8, .ro, false, false, []⟩,
  ⟨0x2C40, 32, .acf, 0x30, 0x30, .u 1, .wo, false, false, [.rng 1 1 0x06090030]⟩,
  ⟨0x2C80, 128, .cyc, 0x01, 0x01, .u 1, .rwp, false, false, [.rngOr 0 23 255 0x06090031]⟩,
  ⟨0x2C80, 128, .cyc, 0x02, 0x02, .u 8, .rwp, false, false, [.mask 0xFFFFFFFFFFFF0000]⟩,
  ⟨0x2C80, 128, .cyc, 0x03, 0x03, .u 4, .rwp, false, false, [.mask 0xFFFCFFFF]⟩,
  ⟨0x2C80, 128, .cyc, 0x04, 0x04, .u 4, .rwp, false, false, [.rngOr 100 60000000 0 0x06090030]⟩,
  ⟨0x2C80, 128, .cyc, 0x05, 0x05, .u 4, .rwp, false, false, []⟩,
  ⟨0x2C80, 128, .cyc, 0x06, 0x06, .u 1, .rwp, false, false, [.rng 0 3 0x06090031]⟩,
  ⟨0x2C80, 128, .cyc, 0x07, 0x07, .octets 2048, .rw, false, false, []⟩,
  ⟨0x2C80, 128, .cyc, 0x08, 0x08, .u 4, .ro, false, false, []⟩,
  ⟨0x2C80, 128, .cyc, 0x09, 0x09, .u 8, .ro, false, false, []⟩,
  ⟨0x2C80, 128, .cyc, 0x0A, 0x0A, .u 8, .ro, false, false, []⟩,
  ⟨0x2C80, 128, .cyc, 0x0B, 0x0B, .u 8, .ro, false, false, []⟩,
  ⟨0x2D00, 1, .cp, 0x01, 0x01, .u 1, .ro, false, false, []⟩,
  ⟨0x2D00, 1, .cp, 0x02, 0x02, .u 2, .ro, false, false, []⟩,
  ⟨0x2D00, 1, .cp, 0x03, 0x03, .u 2, .ro, false, false, []⟩,
  ⟨0x2D00, 1, .cp, 0x04, 0x04, .u 1, .ro, false, false, []⟩,
  ⟨0x2D00, 1, .cp, 0x05, 0x05, .bool, .rw, false, false, []⟩,
  ⟨0x2D00, 1, .cp, 0x06, 0x06, .u 2, .ro, false, false, []⟩,
  ⟨0x2D00, 1, .cp, 0x07, 0x07, .u 2, .rw, false, false, [.rng 100 9000 0x06090030]⟩,
  ⟨0x2D00, 1, .cp, 0x08, 0x08, .u 1, .rw, false, false, [.mask 0x3]⟩,
  ⟨0x2D00, 1, .cp, 0x09, 0x09, .bool, .rw, false, false, []⟩,
  ⟨0x2D00, 1, .cp, 0x0A, 0x0A, .bool, .ro, false, false, []⟩,
  ⟨0x2D04, 4, .tin, 0x01, 0x01, .u 4, .rw, false, false, []⟩,
  ⟨0x2D04, 4, .tin, 0x02, 0x02, .u 2, .rw, false, false, []⟩,
  ⟨0x2D04, 4, .tin, 0x03, 0x03, .i 2, .ro, false, false, []⟩,
  ⟨0x2D04, 4, .tin, 0x04, 0x04, .i 2, .rw, false, false, []⟩,
  ⟨0x2D04, 4, .tin, 0x05, 0x05, .bool, .rw, false, false, []⟩,
  ⟨0x2D10, 4, .cd, 0x01, 0x01, .bool, .rw, false, false, []⟩,
  ⟨0x2D10, 4, .cd, 0x02, 0x02, .u 1, .rw, false, false, [.rng 0 1 0x06090030]⟩,
  ⟨0x2D10, 4, .cd, 0x03, 0x03, .u 1, .ro, false, false, []⟩,
  ⟨0x2D10, 4, .cd, 0x04, 0x04, .u 4, .rw, false, false, []⟩,
  ⟨0x2D10, 4, .cd, 0x05, 0x05, .u 2, .rw, false, false, [.rng 10 10000 0x06090030]⟩,
  ⟨0x2D10, 4, .cd, 0x06, 0x06, .u 1, .ro, false, false, []⟩,
  ⟨0x2D10, 4, .cd, 0x07, 0x07, .u 4, .ro, false, false, []⟩]

/-- Part 14 of the object tables. -/
def objectRows14 : List Obj := [
  ⟨0x2D10, 4, .cd, 0x08, 0x08, .u 1, .wo, false, false, [.rng 1 1 0x06090030]⟩,
  ⟨0x2D20, 1, .tot, 0x01, 0x01, .u 1, .rw, false, false, [.rngOr 0 15 255 0x06090031]⟩,
  ⟨0x2D20, 1, .tot, 0x02, 0x02, .u 8, .rw, false, false, [.mask 0xFFFFFFFF00000000]⟩,
  ⟨0x2D20, 1, .tot, 0x03, 0x03, .u 2, .rw, false, false, [.rngOr 0 2047 65535 0x06090030]⟩,
  ⟨0x2D20, 1, .tot, 0x04, 0x04, .u 4, .rw, false, false, [.rng 1000 1000000 0x06090030]⟩,
  ⟨0x2D20, 1, .tot, 0x05, 0x05, .u 8, .ro, false, false, []⟩,
  ⟨0x2D20, 1, .tot, 0x06, 0x06, .u 8, .ro, false, false, []⟩,
  ⟨0x2D20, 1, .tot, 0x07, 0x07, .u 4, .ro, false, false, []⟩,
  ⟨0x2D20, 1, .tot, 0x08, 0x08, .i 4, .ro, false, false, []⟩,
  ⟨0x2D20, 1, .tot, 0x09, 0x09, .u 2, .rw, false, false, []⟩,
  ⟨0x2D20, 1, .tot, 0x0A, 0x0A, .u 4, .rw, false, false, []⟩,
  ⟨0x2D20, 1, .tot, 0x0B, 0x0B, .u 4, .ro, false, false, []⟩,
  ⟨0x2D20, 1, .tot, 0x0C, 0x0C, .u 4, .ro, false, false, []⟩,
  ⟨0x2D30, 1, .ms, 0x01, 0x01, .u 1, .wo, false, true, [.rng 1 3 0x06090030]⟩,
  ⟨0x2D30, 1, .ms, 0x02, 0x02, .u 1, .ro, false, true, []⟩,
  ⟨0x2D30, 1, .ms, 0x03, 0x03, .u 1, .rw, false, true, [.rng 0 7 0x06090030]⟩,
  ⟨0x2D30, 1, .ms, 0x04, 0x04, .text 40, .rw, false, true, []⟩,
  ⟨0x2D30, 1, .ms, 0x05, 0x05, .text 32, .rw, false, true, []⟩,
  ⟨0x2D30, 1, .ms, 0x06, 0x06, .u 8, .rw, false, true, []⟩,
  ⟨0x2D30, 1, .ms, 0x07, 0x07, .u 8, .rw, false, true, []⟩,
  ⟨0x2D30, 1, .ms, 0x08, 0x08, .octets 200, .rw, false, true, []⟩,
  ⟨0x2D30, 1, .ms, 0x09, 0x09, .u 1, .rw, false, true, [.rng 0 200 0x06090030]⟩,
  ⟨0x2D30, 1, .ms, 0x0A, 0x0A, .octets 1024, .rw, false, true, []⟩,
  ⟨0x2D30, 1, .ms, 0x0B, 0x0B, .u 2, .rw, false, true, []⟩,
  ⟨0x2D30, 1, .ms, 0x0C, 0x0C, .octets 132, .ro, false, true, []⟩,
  ⟨0x2D30, 1, .ms, 0x0D, 0x0D, .u 1, .ro, false, true, []⟩,
  ⟨0x2D30, 1, .ms, 0x0E, 0x0E, .u 4, .ro, false, true, []⟩,
  ⟨0x2D30, 1, .ms, 0x0F, 0x0F, .u 1, .ro, false, true, []⟩,
  ⟨0x2D30, 1, .ms, 0x10, 0x10, .u 1, .rw, false, true, [.rng 0 3 0x06090030]⟩,
  ⟨0x2D30, 1, .ms, 0x11, 0x11, .octets 32, .rw, false, true, []⟩,
  ⟨0x2D30, 1, .ms, 0x12, 0x12, .u 1, .rw, false, true, [.vals [32, 36]]⟩,
  ⟨0x2D40, 1, .msSeal, 0x01, 0x01, .u 1, .rw, false, false, [.rng 0 3 0x06090030]⟩,
  ⟨0x2D40, 1, .msSeal, 0x02, 0x02, .u 4, .wo, false, false, []⟩,
  ⟨0x2D40, 1, .msSeal, 0x03, 0x03, .u 1, .wo, false, false, [.rng 1 1 0x06090030]⟩,
  ⟨0x2D50, 1, .msStat, 0x01, 0x01, .u 1, .ro, false, false, []⟩,
  ⟨0x2D50, 1, .msStat, 0x02, 0x02, .u 4, .ro, false, false, []⟩,
  ⟨0x2D50, 1, .msStat, 0x03, 0x03, .u 4, .ro, false, false, []⟩,
  ⟨0x2D50, 1, .msStat, 0x04, 0x04, .u 4, .ro, false, false, []⟩,
  ⟨0x2D50, 1, .msStat, 0x05, 0x05, .u 4, .wo, false, false, []⟩,
  ⟨0x2D50, 1, .msStat, 0x06, 0x06, .u 4, .rw, false, false, []⟩]

/-- Part 15 of the object tables. -/
def objectRows15 : List Obj := [
  ⟨0x2D50, 1, .msStat, 0x07, 0x07, .octets 512, .ro, false, false, []⟩,
  ⟨0x2D50, 1, .msStat, 0x08, 0x08, .u 4, .wo, false, false, []⟩,
  ⟨0x2D50, 1, .msStat, 0x09, 0x09, .u 1, .ro, false, false, []⟩,
  ⟨0x2D50, 1, .msStat, 0x0A, 0x0A, .octets 16384, .ro, false, false, []⟩,
  ⟨0x2D50, 1, .msStat, 0x0B, 0x0B, .u 2, .ro, false, false, []⟩,
  ⟨0x2D50, 1, .msStat, 0x0C, 0x0C, .octets 97, .ro, false, false, []⟩,
  ⟨0x2E00, 1, .hb, 0x01, 0x01, .u 4, .wo, true, false, []⟩,
  ⟨0x2E00, 1, .hb, 0x02, 0x02, .u 1, .ro, true, false, []⟩,
  ⟨0x2E00, 1, .hb, 0x03, 0x03, .u 1, .ro, true, false, []⟩,
  ⟨0x2E00, 1, .hb, 0x04, 0x04, .u 1, .ro, true, false, []⟩,
  ⟨0x2E00, 1, .hb, 0x05, 0x05, .u 4, .ro, true, false, []⟩,
  ⟨0x2E00, 1, .hb, 0x06, 0x06, .u 4, .ro, true, false, []⟩,
  ⟨0x2E08, 1, .tw, 0x01, 0x01, .bool, .rwt, true, false, []⟩,
  ⟨0x2E08, 1, .tw, 0x02, 0x02, .u 1, .rwt, true, false, [.rng 0 1 0x06090030]⟩,
  ⟨0x2E08, 1, .tw, 0x03, 0x03, .u 8, .rw, true, false, [.mask 0xFFFFFFFFFFFF]⟩,
  ⟨0x2E08, 1, .tw, 0x04, 0x04, .u 2, .rw, true, false, []⟩,
  ⟨0x2E08, 1, .tw, 0x05, 0x05, .u 1, .rw, true, false, []⟩,
  ⟨0x2E08, 1, .tw, 0x06, 0x06, .u 1, .rw, true, false, [.rngOr 0 30 255 0x06090031]⟩,
  ⟨0x2E08, 1, .tw, 0x07, 0x07, .u 1, .ro, true, false, []⟩,
  ⟨0x2E08, 1, .tw, 0x08, 0x08, .u 4, .ro, true, false, []⟩,
  ⟨0x2E08, 1, .tw, 0x09, 0x09, .u 8, .ro, true, false, []⟩,
  ⟨0x2E08, 1, .tw, 0x0A, 0x0A, .u 8, .ro, true, false, []⟩,
  ⟨0x2E10, 16, .cg, 0x01, 0x01, .bool, .rw, true, false, []⟩,
  ⟨0x2E10, 16, .cg, 0x02, 0x02, .bool, .rw, true, false, []⟩,
  ⟨0x2E10, 16, .cg, 0x03, 0x03, .u 1, .rw, true, true, []⟩,
  ⟨0x2E10, 16, .cg, 0x04, 0x04, .u 1, .ro, true, false, []⟩,
  ⟨0x2E10, 16, .cg, 0x05, 0x05, .u 1, .ro, true, false, []⟩,
  ⟨0x2E10, 16, .cg, 0x06, 0x06, .u 1, .ro, true, false, []⟩,
  ⟨0x2E10, 16, .cg, 0x07, 0x07, .u 1, .ro, true, false, []⟩,
  ⟨0x2E10, 16, .cg, 0x08, 0x08, .u 1, .ro, true, false, []⟩,
  ⟨0x2E10, 16, .cg, 0x09, 0x09, .u 2, .rw, true, false, [.rng 0 5000 0x06090031]⟩,
  ⟨0x2E10, 16, .cg, 0x0A, 0x0A, .u 4, .ro, true, false, []⟩,
  ⟨0x2E10, 16, .cg, 0x0B, 0x0B, .u 4, .ro, true, false, []⟩,
  ⟨0x2E30, 1, .cycGroup, 0x01, 0x80, .u 1, .rw, true, false, [.rng 0 15 0x06090031]⟩,
  ⟨0x2E40, 21, .outp, 0x01, 0x01, .bool, .rw, true, false, []⟩,
  ⟨0x2E40, 21, .outp, 0x02, 0x02, .u 1, .rw, true, false, [.rng 0 15 0x06090031]⟩,
  ⟨0x2E40, 21, .outp, 0x03, 0x03, .u 1, .rw, true, false, [.rng 0 2 0x06090030]⟩,
  ⟨0x2E40, 21, .outp, 0x04, 0x04, .u 1, .ro, true, false, []⟩,
  ⟨0x2E80, 128, .cys, 0x01, 0x01, .u 1, .rw, true, false, [.rng 0 2 0x06090030]⟩,
  ⟨0x2E80, 128, .cys, 0x02, 0x02, .octets 64, .rw, true, false, []⟩]

/-- Part 16 of the object tables. -/
def objectRows16 : List Obj := [
  ⟨0x2F00, 1, .xm, 0x01, 0x01, .u 1, .rwt, false, false, [.rng 0 4 0x06090030]⟩,
  ⟨0x2F00, 1, .xm, 0x02, 0x02, .u 1, .rwt, false, false, [.rng 0 3 0x06090030]⟩,
  ⟨0x2F00, 1, .xm, 0x03, 0x03, .u 1, .rwt, false, false, [.rng 0 3 0x06090030]⟩,
  ⟨0x2F00, 1, .xm, 0x04, 0x04, .u 8, .ro, false, false, []⟩,
  ⟨0x2F00, 1, .xm, 0x05, 0x05, .u 8, .ro, false, false, []⟩,
  ⟨0x2F00, 1, .xm, 0x06, 0x06, .bool, .rw, false, false, []⟩,
  ⟨0x2F00, 1, .xm, 0x07, 0x07, .u 4, .ro, false, false, []⟩,
  ⟨0x2F00, 1, .xm, 0x08, 0x08, .u 8, .ro, false, false, []⟩,
  ⟨0x2F00, 1, .xm, 0x09, 0x09, .u 8, .ro, false, false, []⟩,
  ⟨0x2F00, 1, .xm, 0x0A, 0x0A, .u 8, .ro, false, false, []⟩,
  ⟨0x2F00, 1, .xm, 0x0B, 0x0B, .u 8, .ro, false, false, []⟩,
  ⟨0x2F00, 1, .xm, 0x0C, 0x0C, .u 8, .ro, false, false, []⟩,
  ⟨0x2F00, 1, .xm, 0x0D, 0x0D, .u 8, .wo, false, false, []⟩,
  ⟨0x2F00, 1, .xm, 0x0E, 0x0E, .u 1, .ro, false, false, []⟩,
  ⟨0x2F00, 1, .xm, 0x10, 0x10, .u 8, .ro, false, false, []⟩,
  ⟨0x2F00, 1, .xm, 0x11, 0x11, .u 4, .ro, false, false, []⟩,
  ⟨0x2F00, 1, .xm, 0x12, 0x12, .u 8, .ro, false, false, []⟩,
  ⟨0x2F20, 16, .kid, 0x01, 0x01, .u 1, .rw, false, false, [.rng 0 1 0x06090030]⟩,
  ⟨0x2F20, 16, .kid, 0x02, 0x02, .u 2, .rw, false, false, [.rng 16 1015 0x06090031]⟩,
  ⟨0x2F20, 16, .kid, 0x03, 0x03, .u 2, .rw, false, false, [.mask 0xFFF]⟩,
  ⟨0x2F20, 16, .kid, 0x04, 0x04, .u 1, .wo, false, false, [.rng 1 3 0x06090030]⟩,
  ⟨0x2F20, 16, .kid, 0x05, 0x05, .u 1, .ro, false, false, []⟩,
  ⟨0x2F20, 16, .kid, 0x06, 0x06, .u 1, .ro, false, false, []⟩,
  ⟨0x2F20, 16, .kid, 0x07, 0x07, .u 4, .ro, false, false, []⟩,
  ⟨0x2F40, 16, .rg, 0x01, 0x01, .bool, .rwp, false, false, []⟩,
  ⟨0x2F40, 16, .rg, 0x02, 0x02, .u 8, .rwp, false, false, [.mask 0xFFFFFFFFFF]⟩,
  ⟨0x2F40, 16, .rg, 0x03, 0x03, .u 8, .rwp, false, false, [.mask 0xFFFFFFFFFF]⟩,
  ⟨0x2F40, 16, .rg, 0x04, 0x04, .u 1, .rwp, false, false, [.rng 0 14 0x06090031]⟩,
  ⟨0x3000, 1, .upd, 0x01, 0x01, .u 1, .ro, true, false, []⟩,
  ⟨0x3000, 1, .upd, 0x02, 0x02, .u 1, .ro, true, false, []⟩,
  ⟨0x3000, 1, .upd, 0x03, 0x03, .u 1, .ro, true, false, []⟩,
  ⟨0x3000, 1, .upd, 0x04, 0x04, .u 1, .wo, true, false, [.rng 1 1 0x06090030]⟩,
  ⟨0x3000, 1, .upd, 0x05, 0x05, .u 1, .ro, true, false, []⟩,
  ⟨0x3000, 1, .upd, 0x06, 0x06, .u 8, .ro, true, false, []⟩,
  ⟨0x3000, 1, .upd, 0x07, 0x07, .u 8, .ro, true, false, []⟩,
  ⟨0x3000, 1, .upd, 0x08, 0x08, .u 8, .ro, true, false, []⟩,
  ⟨0x3000, 1, .upd, 0x09, 0x09, .u 2, .ro, true, false, []⟩,
  ⟨0x3000, 1, .upd, 0x0A, 0x0A, .u 1, .wo, true, false, [.rng 1 1 0x06090030]⟩,
  ⟨0x3000, 1, .upd, 0x0B, 0x0B, .u 4, .rw, true, false, [.rng 10000 3600000 0x06090030]⟩,
  ⟨0x3000, 1, .upd, 0x0C, 0x0C, .u 4, .ro, true, false, []⟩]

/-- Part 17 of the object tables. -/
def objectRows17 : List Obj := [
  ⟨0x3000, 1, .upd, 0x0D, 0x0D, .u 1, .ro, true, false, []⟩,
  ⟨0x3000, 1, .upd, 0x0E, 0x0E, .u 4, .ro, true, false, []⟩,
  ⟨0x3000, 1, .upd, 0x0F, 0x0F, .octets 97, .rwt, true, false, []⟩,
  ⟨0x3000, 1, .upd, 0x10, 0x10, .u 8, .rw, true, false, [.mask 0xFFFFFFFFFFFF]⟩,
  ⟨0x3000, 1, .upd, 0x11, 0x11, .u 1, .ro, true, false, []⟩,
  ⟨0x3000, 1, .upd, 0x12, 0x12, .u 4, .ro, true, false, []⟩,
  ⟨0x3000, 1, .upd, 0x13, 0x13, .bool, .rw, true, false, []⟩,
  ⟨0x3100, 1, .err, 0x01, 0x01, .u 4, .ro, true, false, []⟩,
  ⟨0x3100, 1, .err, 0x02, 0x02, .u 4, .wo, true, false, []⟩,
  ⟨0x3100, 1, .err, 0x03, 0x03, .u 1, .ro, true, false, []⟩,
  ⟨0x3100, 1, .err, 0x04, 0x04, .u 4, .rw, true, true, []⟩,
  ⟨0x3100, 1, .err, 0x05, 0x05, .octets 64, .ro, true, true, []⟩,
  ⟨0x3100, 1, .err, 0x06, 0x06, .octets 16, .wo, true, false, []⟩,
  ⟨0x3100, 1, .err, 0x07, 0x07, .u 1, .ro, true, false, []⟩,
  ⟨0x3110, 16, .ecl, 0x01, 0x01, .u 4, .ro, true, false, []⟩,
  ⟨0x3110, 16, .ecl, 0x02, 0x02, .u 4, .ro, true, false, []⟩,
  ⟨0x3110, 16, .ecl, 0x03, 0x03, .u 8, .ro, true, false, []⟩,
  ⟨0x3110, 16, .ecl, 0x04, 0x04, .u 8, .ro, true, false, []⟩,
  ⟨0x3110, 16, .ecl, 0x05, 0x05, .u 1, .wo, true, false, [.rng 1 1 0x06090030]⟩,
  ⟨0x3180, 1, .rst, 0x01, 0x01, .u 1, .ro, true, false, []⟩,
  ⟨0x3180, 1, .rst, 0x02, 0x02, .u 1, .wo, true, false, [.rng 1 4 0x06090030]⟩,
  ⟨0x3180, 1, .rst, 0x03, 0x03, .u 4, .wo, true, false, []⟩,
  ⟨0x3180, 1, .rst, 0x04, 0x04, .u 1, .ro, true, false, []⟩,
  ⟨0x3180, 1, .rst, 0x05, 0x05, .u 4, .rw, true, false, [.rngOr 100 60000 0 0x06090030]⟩,
  ⟨0x3180, 1, .rst, 0x06, 0x06, .u 1, .rw, true, false, [.rng 0 15 0x06090031]⟩,
  ⟨0x3180, 1, .rst, 0x07, 0x07, .u 1, .ro, true, false, []⟩,
  ⟨0x3180, 1, .rst, 0x08, 0x08, .u 1, .ro, true, false, []⟩,
  ⟨0x3180, 1, .rst, 0x09, 0x09, .u 1, .rw, true, false, [.rng 2 3 0x06090030]⟩,
  ⟨0x3180, 1, .rst, 0x0A, 0x0A, .u 4, .ro, true, false, []⟩,
  ⟨0x3180, 1, .rst, 0x0B, 0x0B, .u 4, .ro, true, false, []⟩,
  ⟨0x3200, 1, .ev, 0x01, 0x01, .u 2, .wo, false, false, [.rng 0 255 0x06090031]⟩,
  ⟨0x3201, 4, .evProducer, 0x01, 0x40, .u 4, .rw, false, false, []⟩,
  ⟨0x3208, 1, .sb, 0x01, 0x10, .u 2, .rw, false, false, [.rngOr 0 255 65535 0x06090031]⟩,
  ⟨0x3208, 1, .sb, 0x11, 0x20, .u 2, .rw, false, false, [.rngOr 0 255 65535 0x06090031]⟩,
  ⟨0x3210, 1, .evc, 0x01, 0x20, .u 2, .rw, false, false, [.rngOr 0 255 65535 0x06090031]⟩,
  ⟨0x3210, 1, .evc, 0x21, 0x28, .u 2, .rw, false, false, [.rngOr 0 255 65535 0x06090031]⟩,
  ⟨0x3210, 1, .evc, 0x31, 0x40, .u 2, .rw, false, false, [.rngOr 0 255 65535 0x06090031]⟩,
  ⟨0x3210, 1, .evc, 0x41, 0x48, .u 2, .rw, false, false, [.rngOr 0 255 65535 0x06090031]⟩,
  ⟨0x3220, 32, .ecnt, 0x01, 0x01, .u 2, .rw, false, false, [.rngOr 0 255 65535 0x06090031]⟩,
  ⟨0x3220, 32, .ecnt, 0x02, 0x02, .u 8, .ro, false, false, []⟩]

/-- Part 18 of the object tables. -/
def objectRows18 : List Obj := [
  ⟨0x3220, 32, .ecnt, 0x03, 0x03, .u 1, .wo, false, false, [.rng 1 1 0x06090030]⟩,
  ⟨0x3240, 1, .irq, 0x01, 0x40, .u 2, .rw, false, false, [.rngOr 0 255 65535 0x06090031]⟩,
  ⟨0x3241, 1, .irqMerged, 0x01, 0x40, .u 4, .ro, false, false, []⟩,
  ⟨0x4000, 4, .mm, 0x10, 0x17, .u 8, .rwp, false, false, []⟩,
  ⟨0x4000, 4, .mm, 0x18, 0x1F, .u 8, .rwp, false, false, []⟩,
  ⟨0x4000, 4, .mm, 0x20, 0x20, .bool, .rwp, false, false, []⟩,
  ⟨0x4000, 4, .mm, 0x21, 0x21, .u 8, .rwp, false, false, []⟩,
  ⟨0x4000, 4, .mm, 0x30, 0x30, .u 8, .ro, false, false, []⟩,
  ⟨0x4010, 1, .conn, 0x10, 0x10, .u 8, .rwp, false, false, []⟩,
  ⟨0x4010, 1, .conn, 0x11, 0x11, .u 8, .rwp, false, false, []⟩,
  ⟨0x4010, 1, .conn, 0x12, 0x12, .u 8, .rwp, false, false, []⟩,
  ⟨0x4010, 1, .conn, 0x13, 0x13, .u 8, .rwp, false, false, []⟩,
  ⟨0x4010, 1, .conn, 0x14, 0x14, .u 4, .rwp, false, false, []⟩,
  ⟨0x4010, 1, .conn, 0x15, 0x15, .u 4, .rwp, false, false, [.mask 0xFFFFFFE0]⟩,
  ⟨0x4010, 1, .conn, 0x16, 0x16, .u 4, .ro, false, false, []⟩,
  ⟨0x4010, 1, .conn, 0x17, 0x17, .u 8, .ro, false, false, []⟩,
  ⟨0x4100, 1, .saRow, 0x10, 0x10, .u 1, .ro, false, false, []⟩,
  ⟨0x4100, 1, .saRow, 0x11, 0x11, .u 4, .rwp, false, false, [.mask 0xE0000000]⟩,
  ⟨0x4100, 1, .saRow, 0x12, 0x12, .u 4, .ro, false, false, []⟩,
  ⟨0x4100, 1, .saRow, 0x13, 0x13, .u 8, .ro, false, false, []⟩,
  ⟨0x4100, 1, .saRow, 0x14, 0x14, .u 8, .rwp, false, false, []⟩,
  ⟨0x4100, 1, .saRow, 0x15, 0x15, .u 4, .rwp, false, false, [.rng 0 1073741824 0x06090031]⟩,
  ⟨0x4100, 1, .saRow, 0x16, 0x16, .u 4, .ro, false, false, []⟩,
  ⟨0x4100, 1, .saRow, 0x17, 0x17, .u 8, .ro, false, false, []⟩,
  ⟨0x4100, 1, .saRow, 0x18, 0x18, .u 8, .ro, false, false, []⟩,
  ⟨0x4100, 1, .saRow, 0x19, 0x19, .u 8, .ro, false, false, []⟩,
  ⟨0x4100, 1, .saRow, 0x1A, 0x1A, .u 8, .ro, false, false, []⟩,
  ⟨0x4100, 1, .saRow, 0x1B, 0x1B, .u 8, .ro, false, false, []⟩,
  ⟨0x4100, 1, .saRow, 0x1C, 0x1C, .u 8, .ro, false, false, []⟩,
  ⟨0x4100, 1, .saRow, 0x1D, 0x1D, .u 8, .ro, false, false, []⟩,
  ⟨0x4200, 38, .gcl, 0x10, 0x10, .u 1, .rwp, false, false, []⟩,
  ⟨0x4200, 38, .gcl, 0x11, 0x11, .u 4, .rwp, false, false, [.rng 16 0xFFFFFFFF 0x06090032]⟩,
  ⟨0x4200, 38, .gcl, 0x12, 0x12, .u 1, .rwp, false, false, [.rng 0 2 0x06090030]⟩,
  ⟨0x4200, 38, .gcl, 0x13, 0x13, .bool, .rwp, false, false, []⟩,
  ⟨0x4300, 1, .sid, 0x10, 0x10, .u 1, .rwp, false, false, [.rng 0 4 0x06090030]⟩,
  ⟨0x4300, 1, .sid, 0x11, 0x11, .u 8, .rwp, false, false, [.mask 0xFFFFFFFFFFFFFFF]⟩,
  ⟨0x4300, 1, .sid, 0x12, 0x12, .u 8, .rwp, false, false, []⟩,
  ⟨0x4300, 1, .sid, 0x13, 0x13, .u 8, .rwp, false, false, []⟩,
  ⟨0x4300, 1, .sid, 0x14, 0x14, .u 4, .rwp, false, false, [.mask 0xFFFCFFFF]⟩,
  ⟨0x4300, 1, .sid, 0x15, 0x15, .u 8, .rwp, false, false, [.mask 0x3FFFFFFFFF]⟩]

/-- Part 19 of the object tables. -/
def objectRows19 : List Obj := [
  ⟨0x4300, 1, .sid, 0x16, 0x16, .u 4, .rwp, false, false, [.mask 0xFFF80000]⟩,
  ⟨0x4300, 1, .sid, 0x17, 0x17, .u 8, .rwp, false, false, [.mask 0xFFFFFF000000FFFF]⟩,
  ⟨0x4300, 1, .sid, 0x18, 0x18, .u 2, .ro, false, false, []⟩,
  ⟨0x4300, 1, .sid, 0x19, 0x19, .bool, .rw, false, false, [.rng 0 0 0x06090030]⟩,
  ⟨0x4300, 1, .sid, 0x20, 0x20, .u 8, .ro, false, false, []⟩,
  ⟨0x4300, 1, .sid, 0x21, 0x21, .u 8, .ro, false, false, []⟩,
  ⟨0x4300, 1, .sid, 0x22, 0x22, .u 8, .ro, false, false, []⟩,
  ⟨0x4300, 1, .sid, 0x23, 0x23, .u 8, .ro, false, false, []⟩,
  ⟨0x4301, 1, .sg, 0x10, 0x10, .u 1, .rwp, false, false, [.rng 0 2 0x06090030]⟩,
  ⟨0x4301, 1, .sg, 0x11, 0x11, .u 8, .rwp, false, false, []⟩,
  ⟨0x4301, 1, .sg, 0x12, 0x12, .u 4, .rwp, false, false, []⟩,
  ⟨0x4301, 1, .sg, 0x13, 0x13, .u 4, .rwp, false, false, []⟩,
  ⟨0x4301, 1, .sg, 0x14, 0x14, .u 4, .rwp, false, false, []⟩,
  ⟨0x4301, 1, .sg, 0x15, 0x15, .u 1, .rwp, false, false, [.mask 0xF7]⟩,
  ⟨0x4301, 1, .sg, 0x16, 0x16, .bool, .rw, false, false, [.rng 0 0 0x06090030]⟩,
  ⟨0x4302, 1, .fm, 0x10, 0x10, .u 4, .rwp, false, false, []⟩,
  ⟨0x4302, 1, .fm, 0x11, 0x11, .u 4, .rwp, false, false, []⟩,
  ⟨0x4302, 1, .fm, 0x12, 0x12, .u 4, .rwp, false, false, []⟩,
  ⟨0x4302, 1, .fm, 0x13, 0x13, .u 4, .rwp, false, false, []⟩,
  ⟨0x4302, 1, .fm, 0x14, 0x14, .u 1, .rwp, false, false, [.mask 0x7]⟩,
  ⟨0x4302, 1, .fm, 0x15, 0x15, .bool, .rw, false, false, [.rng 0 0 0x06090030]⟩,
  ⟨0x4302, 1, .fm, 0x16, 0x16, .u 8, .ro, false, false, []⟩,
  ⟨0x4302, 1, .fm, 0x17, 0x17, .u 8, .ro, false, false, []⟩,
  ⟨0x4302, 1, .fm, 0x18, 0x18, .u 8, .ro, false, false, []⟩,
  ⟨0x4303, 1, .sr, 0x10, 0x10, .u 4, .rwp, false, false, [.mask 0xE07FFFFF]⟩,
  ⟨0x4303, 1, .sr, 0x11, 0x11, .u 2, .ro, false, false, []⟩,
  ⟨0x4303, 1, .sr, 0x12, 0x12, .u 8, .ro, false, false, []⟩,
  ⟨0x4303, 1, .sr, 0x13, 0x13, .u 8, .ro, false, false, []⟩,
  ⟨0x4303, 1, .sr, 0x14, 0x14, .u 8, .ro, false, false, []⟩,
  ⟨0x4303, 1, .sr, 0x15, 0x15, .u 8, .ro, false, false, []⟩,
  ⟨0x4303, 1, .sr, 0x16, 0x16, .u 8, .ro, false, false, []⟩,
  ⟨0x4303, 1, .sr, 0x17, 0x17, .u 8, .ro, false, false, []⟩,
  ⟨0x4303, 1, .sr, 0x18, 0x18, .u 8, .ro, false, false, []⟩,
  ⟨0x4303, 1, .sr, 0x19, 0x19, .u 8, .ro, false, false, []⟩,
  ⟨0x4303, 1, .sr, 0x1A, 0x1A, .u 8, .ro, false, false, []⟩,
  ⟨0x4400, 1, .cxr, 0x10, 0x10, .u 4, .rwp, false, false, [.mask 0x1FFFFFF]⟩,
  ⟨0x4400, 1, .cxr, 0x11, 0x11, .u 8, .rwp, false, false, [.mask 0xFFFFFFFFFFFFFFC0]⟩,
  ⟨0x4400, 1, .cxr, 0x12, 0x12, .u 8, .rwp, false, false, []⟩,
  ⟨0x4400, 1, .cxr, 0x13, 0x13, .bool, .rwp, false, false, []⟩,
  ⟨0x4400, 1, .cxr, 0x14, 0x14, .u 8, .rwp, false, false, [.mask 0xFFFF00FFFFFFF000]⟩]

/-- Part 20 of the object tables. -/
def objectRows20 : List Obj := [
  ⟨0x4400, 1, .cxr, 0x15, 0x15, .u 8, .rwp, false, false, [.mask 0xFFFFFFFFC0000000]⟩,
  ⟨0x4400, 1, .cxr, 0x20, 0x20, .u 8, .ro, false, false, []⟩,
  ⟨0x4402, 1, .fv, 0x10, 0x10, .u 4, .rwp, false, false, [.mask 0xFCFFFFFF]⟩,
  ⟨0x4402, 1, .fv, 0x11, 0x11, .u 4, .rwp, false, false, []⟩,
  ⟨0x4402, 1, .fv, 0x12, 0x12, .u 8, .rwp, false, false, []⟩,
  ⟨0x4402, 1, .fv, 0x13, 0x13, .u 8, .ro, false, false, []⟩,
  ⟨0x4402, 1, .fv, 0x14, 0x14, .u 8, .ro, false, false, []⟩,
  ⟨0x4402, 1, .fv, 0x15, 0x15, .u 8, .ro, false, false, []⟩,
  ⟨0x4402, 1, .fv, 0x16, 0x16, .u 8, .ro, false, false, []⟩,
  ⟨0x4500, 1, .fdb, 0x10, 0x10, .u 8, .rwp, false, false, [.mask 0xFFFFFFFFFFFFFFF]⟩,
  ⟨0x4500, 1, .fdb, 0x11, 0x11, .u 4, .rwp, false, false, [.mask 0xFF00003F]⟩,
  ⟨0x4500, 1, .fdb, 0x12, 0x12, .u 8, .rwp, false, false, [.mask 0x3FFFFFFFFF]⟩,
  ⟨0x4500, 1, .fdb, 0x13, 0x13, .u 8, .ro, false, false, []⟩,
  ⟨0x2230, 1, .rxDelay, 0x01, 0x26, .i 2, .rw, false, false, []⟩,
  ⟨0x2231, 1, .txDelay, 0x01, 0x26, .i 2, .rw, false, false, []⟩]

/-- The object tables of every chapter, in ascending index. -/
def objectRows : List Obj :=
  objectRows1 ++ objectRows2 ++ objectRows3 ++ objectRows4 ++ objectRows5 ++ objectRows6 ++ objectRows7 ++ objectRows8 ++ objectRows9 ++ objectRows10 ++ objectRows11 ++ objectRows12 ++ objectRows13 ++ objectRows14 ++ objectRows15 ++ objectRows16 ++ objectRows17 ++ objectRows18 ++ objectRows19 ++ objectRows20

end Sys2Proof.Machine
end

