-- ==== Sys2Proof/Machine/Ops.lean ====
section
/-! DEFINITION. The named operations over registers, objects of bytes and accesses: every reading and writing of the
state goes through them. -/
namespace Sys2Proof.Machine

/-! ## Lists of named entries in canonical order -/

/-- The entry of a register in a list of entries. -/
def Assoc.get? {α : Type} (l : List (Reg × α)) (r : Reg) : Option α :=
  match l with
  | [] => none
  | (k, v) :: t => if k = r then some v else Assoc.get? t r

/-- The list with the entry of a register set, in the order of `Reg.before`. -/
def Assoc.put {α : Type} (l : List (Reg × α)) (r : Reg) (v : α) : List (Reg × α) :=
  match l with
  | [] => [(r, v)]
  | (k, w) :: t =>
    if k = r then (r, v) :: t
    else if r.before k then (r, v) :: (k, w) :: t
    else (k, w) :: Assoc.put t r v

/-- The list without the entry of a register. -/
def Assoc.del {α : Type} (l : List (Reg × α)) (r : Reg) : List (Reg × α) :=
  l.filter (fun e => e.1 ≠ r)

/-! ## Registers -/

/-- The value of a register. -/
def State.get (s : State) (r : Reg) : Nat := (Assoc.get? s.regs r).getD r.dflt

/-- The register file with one register set: an entry equal to the default is not kept. -/
def putReg (l : List (Reg × Nat)) (r : Reg) (v : Nat) : List (Reg × Nat) :=
  if v = r.dflt then Assoc.del l r else Assoc.put l r v

/-- The state with one register set. -/
def State.set (s : State) (r : Reg) (v : Nat) : State := { s with regs := putReg s.regs r v }

/-- The state with several registers set, in order. -/
def State.sets (s : State) (l : List (Reg × Nat)) : State := l.foldl (fun s e => s.set e.1 e.2) s

/-- A counter of `w` bits advanced by `n`, which wraps. -/
def State.count (s : State) (r : Reg) (w : Nat := 64) (n : Nat := 1) : State :=
  s.set r ((s.get r + n) % 2 ^ w)

/-- A counter of `w` bits advanced by 1, which stops at its highest value. -/
def State.countSat (s : State) (r : Reg) (w : Nat := 32) : State :=
  s.set r (min (s.get r + 1) (2 ^ w - 1))

/-- A counter that falls, and stops at 0. -/
def State.uncount (s : State) (r : Reg) (n : Nat := 1) : State := s.set r (s.get r - n)

/-- Every register of a group and instance whose subindex lies in a range, at its default again. -/
def State.clearRange (s : State) (g : Grp) (i lo hi : Nat) : State :=
  { s with regs := s.regs.filter (fun e => !(e.1.grp = g && e.1.inst = i && lo ≤ e.1.sub && e.1.sub ≤ hi)) }

/-! ## Pending copies (R50, R54) -/

/-- The pending copy of a register: what was written since the hand-over, or else the active copy. -/
def State.pendGet (s : State) (r : Reg) : Nat := (Assoc.get? s.pend r).getD (s.get r)

/-- A write to the pending copy. -/
def State.pendSet (s : State) (r : Reg) (v : Nat) : State := { s with pend := Assoc.put s.pend r v }

/-! ## Objects of bytes (R42) -/

/-- The bytes of an object, or the given bytes when it still holds its default. -/
def State.blob (s : State) (r : Reg) (dflt : List Byte := []) : List Byte := (Assoc.get? s.blobs r).getD dflt

/-- The state with the bytes of an object set. -/
def State.setBlob (s : State) (r : Reg) (b : List Byte) : State := { s with blobs := Assoc.put s.blobs r b }

/-- The state with the bytes of an object at their default again. -/
def State.clearBlob (s : State) (r : Reg) : State := { s with blobs := Assoc.del s.blobs r }

/-! ## Free values -/

/-- A fresh free value of `w` bits and the state after it was drawn. -/
def State.draw (s : State) (w : Nat) : Nat × State :=
  ((Config.free w s.drawn).toNat, { s with drawn := s.drawn + 1 })

/-! ## Presence (R3 to R5) -/

/-- The ports a variant has. -/
def Variant.hasPort (v : Variant) (n : Nat) : Bool := n < 38 && !(v = .kvt6408 && 4 ≤ n && n ≤ 7)

/-- The Sconce engines a variant has. -/
def Variant.engines : Variant → Nat
  | .kvt6408 => 6
  | _ => 10

/-- The association slots a variant has. -/
def Variant.slots : Variant → Nat
  | .kvt6408 => 4096
  | _ => 8192

/-- The charging-inlet front end and the Meter Seal are present on the KVT-6416 alone. -/
def Variant.hasInlet (v : Variant) : Bool := v = .kvt6416

/-- `Dev.PartCode` (R3). -/
def Variant.partCode : Variant → Nat
  | .kvt6416 => 0x6416
  | .kvt6412 => 0x6412
  | .kvt6408 => 0x6408

/-- `Dev.UnitPresence` (R4). -/
def Variant.unitPresence : Variant → Nat
  | .kvt6416 => 0x1FF7FF7F
  | .kvt6412 => 0x1FC7FF7F
  | .kvt6408 => 0x1FC03F7D

/-- Whether the variant has the port. -/
abbrev State.hasPort (s : State) (n : Nat) : Bool := s.fuses.variant.hasPort n

/-! ## Modes -/

/-- The number of a mode in `Pwr.Mode` (R37). -/
def Mode.code : Mode → Nat
  | .dormant => 0 | .ember => 1 | .glow => 2 | .flame => 3 | .trim => 4 | .snuffed => 5

/-- The mode that a transition or a wake of a number leads to. No request leads to Snuffed (R458, R510). -/
def Mode.ofCode : Nat → Mode
  | 0 => .dormant | 1 => .ember | 2 => .glow | 4 => .trim | _ => .flame

/-- The device runs in Flame, Glow or Trim and its start is over. -/
def State.running (s : State) : Bool :=
  !s.starting && (s.mode = .flame || s.mode = .glow || s.mode = .trim)

/-- The fabric forwards frames: Flame or Glow (R37). -/
def State.forwarding (s : State) : Bool :=
  !s.starting && (s.mode = .flame || s.mode = .glow)

/-- `Com.SoftwareVersion` (R41, R527): the version string of the active Ivtas image, without its padding. -/
def State.softwareVersion (s : State) : List Byte :=
  (slice (if s.get Reg.updActiveSlot = 0 then s.ivtasA else s.ivtasB) 40 32).takeWhile (fun b => b ≠ 0)

/-! ## Checks (R44) -/

/-- The first abort of a list of checks, taken in the order of R44. -/
def firstAbort : List (Option Nat) → Option Nat
  | [] => none
  | some a :: _ => some a
  | none :: t => firstAbort t

/-- A check: the abort, unless the condition holds. -/
def need (ok : Bool) (abort : Nat) : Option Nat := if ok then none else some abort

/-! ## Objects of a variant -/

/-- The bytes of a value of a type; of a text, the most it takes. -/
def Ty.bytes : Ty → Nat
  | .u n => n
  | .i n => n
  | .bool => 1
  | .text n => n
  | .octets n => n

/-- A string, octet string or domain. -/
def Ty.isBytes : Ty → Bool
  | .text _ => true
  | .octets _ => true
  | _ => false

/-- Whether a variant has the object of a subindex in an instance of a group (R4, R5, R109, R123, R184, R450, R502). -/
def Variant.hasObject (v : Variant) (g : Grp) (i sub : Nat) : Bool :=
  match g with
  | .port => v.hasPort i && (i < 37 || sub = 0x01 || sub = 0x0A || sub = 0x0F) && (i < 32 || sub < 6 || 9 < sub) &&
      (sub ≠ 0x10 || i = 36)
  | .pcnt => v.hasPort i && (i < 32 || !([0x06, 0x07, 0x08, 0x0C, 0x0D].contains sub))
  | .q => v.hasPort i && (i ≠ 37 || sub < 6 || 8 < sub) && (i = 37 || sub < 0x20 || sub % 0x20 < 8)
  | .sched => v.hasPort i && (i < 32 || sub < 6 || 8 < sub)
  | .qcnt => v.hasPort i
  | .scnt => v.hasPort i
  | .ccnt => v.hasPort i
  | .clsPort => v.hasPort i
  | .lcPort => v.hasPort i
  | .lcCnt => v.hasPort i
  | .scp => v.hasPort i
  | .gcl => v.hasPort i
  | .rxDelay => v.hasPort (sub - 1)
  | .txDelay => v.hasPort (sub - 1)
  | .se => i < v.engines
  | .can => (sub ≠ 7 && sub ≠ 8) || i < 8
  | .cp => v.hasInlet
  | .tin => v.hasInlet
  | .cd => v.hasInlet
  | .tot => v.hasInlet
  | .ms => v.hasInlet
  | .msSeal => v.hasInlet
  | .msStat => v.hasInlet
  | .outp => i < 16 || (v.hasInlet && sub ≠ 0x01)
  | .ecl => 0 < i
  | _ => true

/-- A row of the object tables names an index and subindex. -/
def Obj.covers (o : Obj) (idx sub : Nat) : Bool := o.base ≤ idx && idx < o.base + o.count && o.lo ≤ sub && sub ≤ o.hi

/-- The object of an index and subindex on a variant. -/
def objAt (v : Variant) (idx sub : Nat) : Option Obj :=
  (objectRows.find? (fun o => o.covers idx sub)).filter (fun o => v.hasObject o.grp (idx - o.base) sub)

/-- The row of the object tables that a register belongs to. -/
def objOf (r : Reg) : Option Obj :=
  objectRows.find? (fun o => o.grp = r.grp && r.inst < o.count && o.lo ≤ r.sub && r.sub ≤ o.hi)

/-- The register of an object. -/
def Obj.reg (o : Obj) (idx sub row : Nat) : Reg := ⟨o.grp, idx - o.base, sub, row, 0⟩

/-- An object is a field of a table window (R62). -/
def Obj.isRow (o : Obj) : Bool := 0x4000 ≤ o.base

/-- A value passes a check, or the abort it takes (R44, R567). -/
def Chk.abort : Chk → Nat → Option Nat
  | .rng lo hi a, v => need (lo ≤ v && v ≤ hi) a
  | .rngOr lo hi also a, v => need ((lo ≤ v && v ≤ hi) || v = also) a
  | .mask m, v => need (subsetBits v m) 0x06090030
  | .vals l, v => need (l.contains v) 0x06090030
  | .mul n, v => need (v % n = 0) 0x06090030

/-- A value passes every check of its object's row and fits its type (R42, R44, R56). -/
def Obj.valueAbort (o : Obj) (v : Nat) : Option Nat :=
  firstAbort ((match o.ty with
    | .bool => need (v ≤ 1) 0x06090030
    | t => need (v < 256 ^ t.bytes) 0x06090030) :: o.chk.map (fun c => c.abort v))

/-! ## What a running load or save holds (R466, R468, R470) -/

/-- An image holds objects of a row: rw, rwp and rwt, not kept per path context, and none of the exceptions of R468. -/
def Obj.held (o : Obj) : Bool :=
  (o.acc = .rw || o.acc = .rwp || o.acc = .rwt) && !o.perCtx && !(o.grp = .se && (o.lo = 6 || o.lo = 7)) && !(o.grp = .fv && o.lo = 0x12)

/-- The length of the held data of a cyclic entry (R405). -/
def State.cycBytes (s : State) (e : Nat) : Nat := field (s.get (Reg.cycParams e)) 15 0

/-- An instance of an object is held: not the const objects of P37 and of KeyID 15, nor long cyclic data (R109, R359, R468). -/
def State.instHeld (s : State) (g : Grp) (i sub : Nat) : Bool :=
  match g with
  | .port => i < 37
  | .kid => i < 15 || sub = 2
  | .cyc => sub ≠ 0x07 || s.cycBytes i ≤ 64
  | _ => true

/-- The index of a register of an object. -/
def Reg.index (r : Reg) : Nat :=
  match objOf r with
  | some o => o.base + r.inst
  | none => 0

/-- Whether a record belongs to the critical section (R468). -/
def isCritical (ranges : List Nat) (idx row : Nat) : Bool :=
  idx = 0x2000 || idx = 0x2100 || idx = 0x2110 || (0x2200 ≤ idx && idx ≤ 0x2213) || (0x2C00 ≤ idx && idx ≤ 0x2CFF) ||
  (idx = 0x4400 && row < 512) || idx = 0x4402 || (0x2F20 ≤ idx && idx ≤ 0x2F4F) ||
  ranges.any (fun w => w ≠ 0 && field w 63 48 ≤ idx && idx ≤ field w 47 32 &&
    (idx < 0x4000 || (field w 31 16 ≤ row && row ≤ field w 15 0)))

/-- An index has an object that the image holds in a record of its own. -/
def State.indexHeld (s : State) (idx : Nat) : Bool :=
  objectRows.any (fun o => o.held && !o.isRow && o.base ≤ idx && idx < o.base + o.count &&
    s.fuses.variant.hasObject o.grp (idx - o.base) o.lo && s.instHeld o.grp (idx - o.base) o.lo)

/-- An index still has records of the streamed image to apply (R470). -/
def State.indexLoading (s : State) (idx : Nat) : Bool :=
  match s.streaming with
  | some img => (s.indexHeld idx && !isCritical img.ranges idx 0) ||
      img.vals.any (fun e => 0x4000 ≤ idx && e.1.index = idx && !isCritical img.ranges idx e.1.row)
  | none => false

/-- A write of an object is refused while the image is built that holds it, or while records of its index are still to be applied
(R466, R470). -/
def State.locked (s : State) (idx sub : Nat) : Bool :=
  s.indexLoading idx ||
  (s.get Reg.cfgSaving = 1 && match objAt s.fuses.variant idx sub with
    | some o => o.held && s.instHeld o.grp (idx - o.base) sub
    | none => false)

/-! ## Accesses (R43 to R45, R57, R60, R76) -/

/-- The bank that holds the copies of a path context. -/
def ctxBank : Ctx → Nat
  | .lampA => 3 | .lampB => 4 | .dma => 5 | .debug => 6 | .sdo => 7 | .coath => 8

/-- The copy of a register that a path context sees. -/
abbrev Reg.of (r : Reg) (c : Ctx) : Reg := { r with bank := ctxBank c }

/-- Whether the dictionary answers a path context in the present mode (R76). -/
def State.answers (s : State) (c : Ctx) : Bool :=
  s.running || (!s.starting && s.mode = .snuffed && c = .sdo)

/-- What the answer shows in place of an abort code when the access met a bus error before it reached the dictionary (R58, R384). -/
abbrev linkFault : Nat := 2 ^ 32

/-- A refused access: the abort is reported and latched in the context's `Dev.LastAbort` (R57, R60); one that met a bus error on its way
latches nothing. -/
def State.refuse (s : State) (c : Ctx) (abort : Nat) : State :=
  { (if abort = linkFault then s else s.set (Reg.devLastAbort.of c) abort) with
    resp := { ctx := c, abort := abort, value := 0xFFFFFFFFFFFFFFFF } }

/-- An access stands on the other die than its object while the Chimney link is down: the SDO server is on the Wick die, the other paths
come from the Lantern die (R58, R66, R384). -/
def State.linkBars (s : State) (c : Ctx) (wick : Bool) : Bool := s.get Reg.chmState = 3 && (decide (c = .sdo)) != wick

/-- What such an access is answered: a bus error in the window (R58, R384), and for the SDO server and Coath, for which no rule gives an
answer, the abort 0x08000022 (log entry 146). -/
def linkAbort : Ctx → Nat
  | .sdo => 0x08000022
  | .coath => 0x08000022
  | _ => linkFault

/-- A write that completed without abort. -/
def State.done (s : State) (c : Ctx) : State := { s with resp := { ctx := c } }

/-- A read that completed without abort. -/
def State.reply (s : State) (c : Ctx) (v : Nat) (bytes : List Byte := []) : State :=
  { s with resp := { ctx := c, value := v, bytes := bytes } }

/-- The configuration change counter rises by 1 and stops at its highest value (R48, R49). -/
def State.changed (s : State) : State := s.countSat Reg.devChangeCounter 64

/-- One access of a path context. The object exists and its unit is present, or abort 0x06020000; its access kind permits it; in
Snuffed an object that is not held on the Wick die refuses with 0x08000022 (R76); an object of the other die is out of reach while the
Chimney link is down; then the checks of the object in the order of R44;
then the access itself. Where the dictionary does not answer, nothing happens. -/
def State.access (s : State) (c : Ctx) (present wick : Bool) (checks : List (Option Nat)) (act : State → State)
    (kind : Option Nat := none) : State :=
  if s.answers c then
    if present && s.linkBars c wick then s.refuse c (linkAbort c)
    else match firstAbort (need present 0x06020000 :: kind :: need (s.running || wick) 0x08000022 :: checks) with
    | some a => s.refuse c a
    | none => act s
  else s

/-- A write to the wo object of an index and subindex, which performs an action. -/
def State.cmdWrite (s : State) (c : Ctx) (idx sub : Nat) (present wick : Bool) (checks : List (Option Nat)) (act : State → State)
    (kind : Option Nat := none) : State :=
  s.access c present wick (need (!s.locked idx sub) 0x08000022 :: checks) (fun s => (act s).done c) kind

/-- A write to the rw or rwt object of an index and subindex, which the change counter counts (R48). -/
def State.rwWrite (s : State) (c : Ctx) (idx sub : Nat) (present wick : Bool) (checks : List (Option Nat)) (act : State → State)
    (kind : Option Nat := none) : State :=
  s.access c present wick (need (!s.locked idx sub) 0x08000022 :: checks) (fun s => ((act s).changed).done c) kind

/-- The check that a value fits the bytes of its type: the unused high-order bytes must be its extension (R56). -/
def fits (n v : Nat) : Option Nat := need (v < 256 ^ n) 0x06090030

/-- The check of a clear command: only 1 may be written (R124). -/
def onlyOne (v : Nat) : List (Option Nat) := [need (v = 1) 0x06090030]

/-! ## Time -/

/-- Picoseconds in a microsecond, a millisecond and a second. -/
abbrev us : Nat := 1000000
abbrev ms : Nat := 1000000000
abbrev sec : Nat := 1000000000000

/-- The valid bit, domain and sixteenths of a time (R81). -/
def qualifierOf (valid : Bool) (dom sixteenths : Nat) : Nat := flag valid * 128 + dom * 16 + sixteenths % 16

/-- The clock of a domain 0 to 3, or of the local counter 4, in sixteenths (R84). -/
def State.clock (s : State) (d : Nat) : Nat := if d < 4 then s.get (Reg.domClock d) else s.get Reg.localCounter

/-- The nanosecond form of a clock (R81). -/
def State.timeNs (s : State) (d : Nat) : Nat := s.clock d / 16 % 2 ^ 64

/-- The qualifier of a clock: valid unless the domain is disabled (R81). -/
def State.qualifier (s : State) (d : Nat) : Nat :=
  qualifierOf (4 ≤ d || s.get (Reg.domEnable d) = 1) d (s.clock d)

/-- The clock that records carry: domain 0, or the local counter when domain 0 is disabled and during a start (R505, R518). -/
def State.recordClock (s : State) : Nat := if s.get (Reg.domEnable 0) = 1 && !s.starting then 0 else 4

/-- Uptime in ps of the latest hand-over of an owner, plus 1. -/
abbrev Reg.handedAt (o : Owner) : Reg := ⟨o.grp, o.inst, 0xFF, 0, 1⟩

/-- What becomes pending in the fabric cycle of its owner's hand-over is taken late (R54). -/
def State.takeLate (s : State) (o : Owner) (sameCycle : Bool) : State :=
  if s.get (Reg.handedAt o) = s.now + 1 && sameCycle then s.set (Reg.takenLate o) 1 else s

/-- A save in its build phase is abandoned by a hand-over with 0x45 (R466). -/
def State.abandonSave (s : State) : State :=
  if s.get Reg.cfgSaving = 1 then ({ s with saving := none } : State).sets [(Reg.cfgOutcome, 0x45), (Reg.cfgSaving, 0)] else s

/-- An owner was handed over: it is counted, timed, and counts as a configuration change (R48, R50, R466). -/
def State.handedOver (s : State) (o : Owner) : State :=
  (((s.count (Reg.commitCount o) 32).sets [(Reg.activeSince o, s.timeNs 0), (Reg.handedAt o, s.now + 1)]).changed).abandonSave

/-- Outcome codes (R11). -/
abbrev outDone : Nat := 0
abbrev outBusy : Nat := 1
abbrev outFull : Nat := 2
abbrev outAbsent : Nat := 3
abbrev outMode : Nat := 4
abbrev outAborted : Nat := 5
abbrev outLate : Nat := 6
abbrev outFaulted : Nat := 7

end Sys2Proof.Machine
end

