-- ==== Sys2Proof/Machine/Flags.lean ====
section
/-! DEFINITION. Event lines, interrupts and error reports: what a pulse of a producer sets in its consumers, and what a
report leaves in the queue. -/
namespace Sys2Proof.Machine

/-! ## Event lines (R29 to R36) -/

/-- The die a producer unit stands on: true for the Wick die (R33). A port link stands on the die of its port. -/
def producerOnWick (unit inst : Nat) : Bool :=
  match unit with
  | 0x04 => 32 ≤ inst
  | 0x08 => true | 0x09 => true | 0x0A => true | 0x0B => true | 0x0C => true | 0x0D => true
  | 0x11 => true | 0x12 => true | 0x14 => true
  | _ => false

/-- A producer code (R33). -/
abbrev producerCode (unit inst : Nat) : Nat := unit * 0x1000000 + inst

/-- The line a producer code stands on, if any: at most one (R32). -/
def State.lineOf (s : State) (code : Nat) : Option Nat :=
  (s.regs.find? (fun e => e.1.grp = .evProducer && e.2 = code && code ≠ 0)).map
    (fun e => e.1.inst * 64 + e.1.sub - 1)

/-- The producer code of a line (R32). -/
def State.producerOf (s : State) (line : Nat) : Nat := s.get (Reg.evProducer (line / 64) (line % 64))

/-- An event counter counts a pulse that reaches it (R31, R35). -/
def State.ecntPulse (s : State) (i : Nat) : State := s.count (Reg.ecntCount i)

/-- An interrupt source takes a pulse as an edge, or merges it (R36). -/
def State.irqPulse (s : State) (src : Nat) : State :=
  if s.get (Reg.irqPending src) = 1 ∨ s.get (Reg.irqClaimed src) = 1 then s.countSat (Reg.irqMerged src)
  else s.set (Reg.irqPending src) 1

/-- A pulse for a capture unit, with the time of its edge on the clock that the unit records (R96). -/
def State.capturePulse (s : State) (k : Nat) : Pulse :=
  .capture k (s.timeNs (s.get (Reg.capDomain k))) (s.qualifier (s.get (Reg.capDomain k)))

/-- One consumer input takes a pulse of its line. Captures and start inputs take it in a step of their own. -/
def State.consume (s : State) (r : Reg) : State :=
  match r.grp with
  | .ecnt => s.ecntPulse r.inst
  | .irq => s.irqPulse (r.sub - 1)
  | .evc =>
    if r.sub ≤ 0x20 then { s with pulses := s.pulses ++ [.dmaStart (r.sub - 1)] }
    else if r.sub ≤ 0x28 then { s with pulses := s.pulses ++ [.cressetStart (r.sub - 0x21)] }
    else if r.sub ≤ 0x40 then { s with pulses := s.pulses ++ [s.capturePulse (r.sub - 0x31)] }
    else s.set (Reg.hookPending (r.sub - 0x41)) 1
  | _ => s

/-- A consumer input and the die it stands on: Pilot hooks stand on the Wick die (R34). -/
def isConsumer (r : Reg) (wick : Bool) : Bool :=
  match r.grp with
  | .ecnt => r.sub = 0x01 && !wick
  | .irq => !wick
  | .evc => (decide (0x41 ≤ r.sub)) == wick
  | _ => false

/-- A line's pulse reaches every consumer of one die that names the line (R29, R30). -/
def State.deliver (s : State) (line : Nat) (wick : Bool) : State :=
  ((s.regs.filter (fun e => isConsumer e.1 wick && e.2 = line)).map (·.1)).foldl State.consume s

/-- The sideband input that carries a line to the Wick die or to the Lantern die (R34). -/
def State.sidebandInput (s : State) (line : Nat) (toWick : Bool) : Option Nat :=
  (s.regs.find? (fun e => e.1.grp = .sb && e.2 = line && (decide (e.1.sub ≤ 0x10)) == toWick)).map
    (fun e => if toWick then e.1.sub - 1 else e.1.sub - 0x11)

/-- A pulse goes out on a sideband input, which is lost with the link and pauses while it retrains (log entry 190); one that follows another on its input by less than 2 link
cycles reaches the consumer as one pulse with it (R31, R366, R369, R384). -/
def State.sendSideband (s : State) (toWick : Bool) (input line : Nat) : State :=
  let at' := Reg.sidebandAt (flag toWick) input
  let last := s.get at'
  if s.get Reg.chmState ≠ 1 ∧ s.get Reg.chmState ≠ 2 then s
  else if last ≠ 0 ∧ s.now + 1 < last + 2000 then (s.set at' (s.now + 1)).count Reg.chmEventMerges 32
  else { s.set at' (s.now + 1) with pulses := s.pulses ++ [.sideband toWick input line s.now] }

/-- A line pulses on the die of its producer; a mapped line goes out on the sideband as well (R30, R34, R369). -/
def State.pulseLine (s : State) (line : Nat) (wick : Bool) : State :=
  let s := s.deliver line wick
  match s.sidebandInput line (!wick) with
  | some input => s.sendSideband (!wick) input line
  | none => s

/-- A producer pulses: the line that names it, if any, carries the pulse (R29, R32). -/
def State.pulse (s : State) (unit inst : Nat) : State :=
  match s.lineOf (producerCode unit inst) with
  | some line => s.pulseLine line (producerOnWick unit inst)
  | none => s

/-- Take the first pulse that a test accepts out of those under way. -/
def takeFirst {α : Type} (p : α → Bool) : List α → Option (α × List α)
  | [] => none
  | a :: t => if p a then some (a, t) else (takeFirst p t).map (fun (b, r) => (b, a :: r))

/-! ## Error reports (R504 to R506) -/

/-- The report queue holds this many entries (R506). -/
abbrev reportRoom : Nat := 32

/-- A report that finds no room is lost and counted for its class, by the local counter (R506, R522). -/
def State.reportLost (s : State) (cls : Nat) : State :=
  let t := s.timeNs 4
  let s := if s.get (Reg.eclLost cls) = 0 then s.set (Reg.eclFirstLost cls) t else s
  (s.countSat (Reg.eclLost cls)).set (Reg.eclLastLost cls) t

/-- A reporter places a report in the queue, or it is lost; reports of one instant stand in ascending reporting-unit code (R506). The time, qualifier and mode are those of the report
(R505). -/
def State.report (s : State) (r : Report) : State :=
  if s.reports.length < reportRoom then
    let r := { r with arrived := s.now, time := s.timeNs s.recordClock, qualifier := s.qualifier s.recordClock,
                      mode := s.mode.code, flags := r.flags + flag s.starting * 4 }
    let later := fun (q : Report) => q.arrived = s.now && r.unit < q.unit
    ({ s with reports := s.reports.filter (fun q => !later q) ++ r :: s.reports.filter later } : State).set Reg.errQueueHighWater
      (max (s.get Reg.errQueueHighWater) (s.reports.length + 1))
  else s.reportLost r.cls

/-- A report that names the object whose counter or value its rule gives (R505): its code is the index and its address
field the index in bits 31–16 and the subindex in bits 15–8 (log entry 8). -/
def State.reportObj (s : State) (cls unit idx sub : Nat) (inst : Nat := 0) (detail : List Byte := []) : State :=
  s.report { cls := cls, code := idx, unit := unit, address := idx * 65536 + sub * 256, inst := inst, detail := detail }

end Sys2Proof.Machine
end

