-- ==== Sys2Proof/Machine/Credit.lean ====
section
/-! DEFINITION. The rate of a port, its gates and the credit of its shaped classes (R103, R187, R197). -/
namespace Sys2Proof.Machine

/-- `Port.Mode` in force at a port. -/
def State.modeOf (s : State) (n : Nat) : Nat := s.get (Reg.portMode n).latched

/-- The MAC rate of a port in kbit/s; in mode 0x08 that of the speed that auto-negotiation last gave (R103, R119). -/
def State.macRate (s : State) (n : Nat) : Nat :=
  if n = 37 then 200000000
  else match s.modeOf n with
  | 0x01 => 100000000
  | 0x02 => 50000000
  | 0x03 => 25000000
  | 0x04 => 10000000
  | 0x05 => 5000000
  | 0x06 => 2500000
  | 0x07 => 1000000
  | 0x08 => match s.get (Reg.negSpeed n) with
    | 1 => 10000
    | 2 => 100000
    | _ => 1000000
  | 0x11 => 100000
  | _ => 10000

/-- The class of a queue: eight queues per port, thirty-two on P37 (R161). -/
def queueClass (port queue : Nat) : Nat := if port = 37 then queue / 4 else queue

/-- The gate of a class is open at a port (R187, R193). -/
def State.gateIsOpen (s : State) (n c : Nat) : Bool := bitOf (s.get (Reg.gclOperGates n)) c

/-- The port sends a frame of a class: it is on the wire and not held by preemption. -/
def State.sending (s : State) (n c : Nat) : Bool :=
  s.wire.any (fun w => w.entry.port = n && queueClass n w.entry.queue = c && !w.held)

/-- A frame of a class is held by preemption at a port. -/
def State.holding (s : State) (n c : Nat) : Bool :=
  s.wire.any (fun w => w.entry.port = n && queueClass n w.entry.queue = c && w.held)

/-- Entries of a class that wait at a port. -/
def State.waiting (s : State) (n c : Nat) : Bool :=
  s.entries.any (fun e => e.port = n && queueClass n e.queue = c && !e.inTx)

/-- The instant up to which a port sends the frame of a class, looked at from an instant on: its preemption ends the sending (R195). -/
def State.sendsUntil (s : State) (n c t : Nat) : Nat :=
  match s.wire.find? (fun w => w.entry.port = n && queueClass n w.entry.queue = c && !w.held) with
  | some w => if w.stopAt = 0 then t else min t (w.stopAt - 1)
  | none => t

/-- The credit of a shaped class counted up to an instant (R197): it rises at the idle slope while a frame waits at
an open gate, moves at idle slope minus port rate while one is sent, and stands still otherwise; an empty queue ends with
no positive credit. One kbit/s for one picosecond is 10^-9 bit. -/
def State.settleClass (s : State) (n c t : Nat) : State :=
  let slope := s.get (Reg.cbsIdleSlope n c)
  if slope = 0 then s
  else
    let dt : Int := (t - s.get (Reg.cbsAt n) : Nat)
    let total : Int := toSigned 32 (s.get (Reg.cbsCredit n c)) * 1000000000 + s.get (Reg.cbsFrac n c)
    let total :=
      if s.sending n c then total + ((slope : Int) - s.macRate n) * (s.sendsUntil n c t - s.get (Reg.cbsAt n) : Nat)
      else if s.gateIsOpen n c && s.waiting n c && !s.holding n c then total + slope * dt
      else total
    let total := if !s.waiting n c && !s.sending n c && !s.holding n c then min total 0 else total
    let total := max (-(2 ^ 31) * 1000000000) (min total ((2 ^ 31 - 1) * 1000000000))
    s.sets [(Reg.cbsCredit n c, ofSigned 32 (total / 1000000000)), (Reg.cbsFrac n c, (total % 1000000000).toNat)]

/-- The credits of every class of a port counted up to an instant, unless they are already. -/
def State.settleTo (s : State) (n t : Nat) : State :=
  ((List.range 8).foldl (fun s c => s.settleClass n c t) s).set (Reg.cbsAt n) (max t (s.get (Reg.cbsAt n)))

/-- The credits of every class of a port counted up to the present instant. -/
def State.settle (s : State) (n : Nat) : State := s.settleTo n s.now

/-- The picoseconds that octets take at the MAC rate of a port, rounded up (R103). -/
def State.octetPs (s : State) (n k : Nat) : Nat := (k * 8000000000 + s.macRate n - 1) / s.macRate n

end Sys2Proof.Machine
end

