-- ==== Sys2Proof/Machine/Frames.lean ====
section
/-! DEFINITION. Reading and editing the bytes of a frame: the parse graph and the search key (R130 to R133), the SecTAG
(R219 to R221), the edits of the action word (R139, R140) and the frame check sequence. -/
namespace Sys2Proof.Machine

/-- The Ethernet frame check sequence over bytes, as transmitted (least significant byte first). -/
def fcsOf (bs : List Byte) : List Byte := leBytes 4 (crcStep 0xEDB88320 0xFFFFFFFF bs ^^^ 0xFFFFFFFF)

/-- The fields that the header extractor takes from a frame (R130). -/
structure Hdr where
  da : Nat := 0
  sa : Nat := 0
  outerVid : Nat := 0
  outerPcp : Nat := 0
  innerVid : Nat := 0
  innerPcp : Nat := 0
  tagCount : Nat := 0
  rtag : Bool := false
  rtagSeq : Nat := 0
  etype : Nat := 0
  ipv4 : Bool := false
  ipv6 : Bool := false
  srcIp : Nat := 0
  dstIp : Nat := 0
  proto : Nat := 0
  dscp : Nat := 0
  ttl : Nat := 0
  fragment : Bool := false
  options : Bool := false
  l4 : Bool := false
  sport : Nat := 0
  dport : Nat := 0
  tcpFlags : Nat := 0
  truncated : Bool := false
  error : Bool := false
  l3Off : Nat := 0
  l4Off : Nat := 0
  payOff : Nat := 0
deriving DecidableEq, Repr

/-- Whether a header of `n` bytes at an offset is read: 0 yes, 1 it ends beyond byte 256, 2 beyond the frame (R130). -/
def headerEnd (len off n : Nat) : Nat := if 256 < off + n then 1 else if len < off + n then 2 else 0

/-- The walk ends at a header that is not whole: truncated, or a header error (R130). -/
def Hdr.cut (h : Hdr) (why : Nat) : Hdr := if why = 1 then { h with truncated := true } else { h with error := true }

/-- The L4 node of a protocol; a TCP header ends where its data offset says (R130). -/
def parseL4 (b : List Byte) (h : Hdr) (off : Nat) : Hdr :=
  let len := b.length
  if h.proto = 6 then
    match headerEnd len off 20 with
    | 0 =>
      let n := max 20 (beAt b (off + 12) 1 / 16 * 4)
      match headerEnd len off n with
      | 0 => { h with l4 := true, sport := beAt b off 2, dport := beAt b (off + 2) 2, tcpFlags := beAt b (off + 13) 1,
                      l4Off := off, payOff := off + n }
      | e => h.cut e
    | e => h.cut e
  else if h.proto = 17 then
    match headerEnd len off 8 with
    | 0 => { h with l4 := true, sport := beAt b off 2, dport := beAt b (off + 2) 2, l4Off := off, payOff := off + 8 }
    | e => h.cut e
  else if h.proto = 1 ∨ h.proto = 58 then
    match headerEnd len off 4 with
    | 0 => { h with l4 := true, sport := beAt b off 1 * 256 + beAt b (off + 1) 1, l4Off := off, payOff := off + 4 }
    | e => h.cut e
  else h

/-- The ones' complement sum of 16-bit words, folded. -/
def csum16 : List Byte → Nat → Nat
  | a :: c :: t, acc => let s := acc + a.toNat * 256 + c.toNat; csum16 t (s % 65536 + s / 65536)
  | [a], acc => let s := acc + a.toNat * 256; s % 65536 + s / 65536
  | [], acc => acc

/-- The IPv4 node (R130): a bad checksum or a total length beyond the bytes received is a header error. -/
def parseIpv4 (b : List Byte) (h : Hdr) (off : Nat) : Hdr :=
  let len := b.length
  let vi := beAt b off 1
  if len ≤ off then h.cut (headerEnd len off 20)
  else if vi / 16 ≠ 4 ∨ vi % 16 < 5 then h
  else
    let hl := vi % 16 * 4
    match headerEnd len off hl with
    | 0 =>
      if csum16 (slice b off hl) 0 ≠ 0xFFFF ∨ len < off + beAt b (off + 2) 2 then { h with error := true }
      else
        let fo := beAt b (off + 6) 2
        let h := { h with ipv4 := true, l3Off := off, dscp := beAt b (off + 1) 1 / 4, ttl := beAt b (off + 8) 1,
                          proto := beAt b (off + 9) 1, srcIp := 0xFFFF00000000 + beAt b (off + 12) 4,
                          dstIp := 0xFFFF00000000 + beAt b (off + 16) 4, options := 5 < vi % 16,
                          fragment := bitOf fo 13 || fo % 0x2000 ≠ 0 }
        if fo % 0x2000 ≠ 0 then h else parseL4 b h (off + hl)
    | e => h.cut e

/-- The extension headers of IPv6 that the walk passes (R130). -/
def ipv6Passed (n : Nat) : Bool := n = 0 || n = 43 || n = 60

/-- The other extension headers of IPv6, which end the walk (R130; log entry 11). -/
def ipv6Other (n : Nat) : Bool := n = 50 || n = 51 || n = 135 || n = 139 || n = 140 || n = 253 || n = 254

/-- The IPv6 Fragment header, which ends the walk (R130). -/
def parseFragment (b : List Byte) (h : Hdr) (off : Nat) : Hdr :=
  match headerEnd b.length off 8 with
  | 0 => { h with fragment := true }
  | e => h.cut e

/-- The walk over IPv6 extension headers: at most two are passed (R130). -/
def parseIpv6Ext (b : List Byte) : Nat → Hdr → Nat → Hdr
  | 0, h, off =>
    if ipv6Passed h.proto || ipv6Other h.proto then { h with options := true }
    else if h.proto = 44 then parseFragment b h off else parseL4 b h off
  | k + 1, h, off =>
    if h.proto = 44 then parseFragment b h off
    else if ipv6Other h.proto then { h with options := true }
    else if ipv6Passed h.proto then
      match headerEnd b.length off 8 with
      | 0 =>
        let n := (beAt b (off + 1) 1 + 1) * 8
        match headerEnd b.length off n with
        | 0 => parseIpv6Ext b k { h with options := true, proto := beAt b off 1 } (off + n)
        | e => h.cut e
      | e => h.cut e
    else parseL4 b h off

/-- The IPv6 node (R130): a payload length beyond the bytes received is a header error. -/
def parseIpv6 (b : List Byte) (h : Hdr) (off : Nat) : Hdr :=
  let len := b.length
  if len ≤ off then h.cut (headerEnd len off 40)
  else if beAt b off 1 / 16 ≠ 6 then h
  else
    match headerEnd len off 40 with
    | 0 =>
      if len < off + 40 + beAt b (off + 4) 2 then { h with error := true }
      else
        let h := { h with ipv6 := true, l3Off := off, dscp := beAt b off 2 / 64 % 64, ttl := beAt b (off + 7) 1,
                          proto := beAt b (off + 6) 1, srcIp := beAt b (off + 8) 16, dstIp := beAt b (off + 24) 16 }
        parseIpv6Ext b 2 h (off + 40)
    | e => h.cut e

/-- The nodes after the tags: the EtherType at an offset and what it leads to (R130). -/
def parseType (b : List Byte) (h : Hdr) (off : Nat) : Hdr :=
  match headerEnd b.length off 2 with
  | 0 =>
    let t := beAt b off 2
    let h := { h with etype := t }
    if t = 0x0800 then parseIpv4 b h (off + 2)
    else if t = 0x86DD then parseIpv6 b h (off + 2)
    else h
  | e => h.cut e

/-- The R-tag node (R130), then the EtherType. -/
def parseRtag (b : List Byte) (h : Hdr) (off : Nat) : Hdr :=
  if beAt b off 2 = 0xF1C1 ∧ off + 2 ≤ b.length then
    match headerEnd b.length off 6 with
    | 0 => parseType b { h with rtag := true, rtagSeq := beAt b (off + 4) 2 } (off + 6)
    | e => h.cut e
  else parseType b h off

/-- A tag protocol identifier of an S-tag or C-tag (R130). -/
def isTpid (t : Nat) : Bool := t = 0x88A8 || t = 0x8100

/-- The tag nodes (R130): outer and inner tag; a third ends the walk with tag count 3. -/
def parseTags (b : List Byte) : Nat → Hdr → Nat → Hdr
  | 0, h, off => if isTpid (beAt b off 2) then { h with tagCount := 3 } else parseRtag b h off
  | k + 1, h, off =>
    if isTpid (beAt b off 2) ∧ off + 2 ≤ b.length then
      match headerEnd b.length off 4 with
      | 0 =>
        let tci := beAt b (off + 2) 2
        let h := if h.tagCount = 0 then { h with tagCount := 1, outerVid := tci % 4096, outerPcp := tci / 8192 }
          else { h with tagCount := 2, innerVid := tci % 4096, innerPcp := tci / 8192 }
        parseTags b k h (off + 4)
      | e => h.cut e
    else parseRtag b h off

/-- The walk of the parse graph over a stored frame (R126, R130). -/
def parseFrame (b : List Byte) : Hdr :=
  match headerEnd b.length 0 12 with
  | 0 => parseTags b 2 { da := beAt b 0 6, sa := beAt b 6 6 } 12
  | e => ({} : Hdr).cut e

/-- Whether a destination address is a group address. -/
def groupAddr (da : Nat) : Bool := bitOf da 40

/-- The search key of a frame (R131, R132), with its ingress port, secure channel, stream handle and port profile. -/
def searchKey (h : Hdr) (port profile : Nat) (chan : Option Nat) (stream : Option Nat) : Nat :=
  let icmp := h.ipv4 && h.proto = 1 || h.ipv6 && h.proto = 58
  let flags := flag chan.isSome * 512 + flag (groupAddr h.da) * 256 + flag h.ipv4 * 128 + flag h.ipv6 * 64 +
    flag h.fragment * 32 + flag h.options * 16 + flag h.l4 * 8 + flag h.rtag * 4 + flag h.truncated * 2 + flag h.error
  port * 2 ^ 506 + flags * 2 ^ 496 + h.da * 2 ^ 448 + h.sa * 2 ^ 400 + h.outerVid * 2 ^ 388 + h.outerPcp * 2 ^ 385 +
  h.innerVid * 2 ^ 373 + h.innerPcp * 2 ^ 370 + h.tagCount * 2 ^ 368 + h.etype * 2 ^ 352 + h.srcIp * 2 ^ 224 +
  h.dstIp * 2 ^ 96 + h.proto * 2 ^ 88 + h.dscp * 2 ^ 82 + h.ttl * 2 ^ 74 + h.sport * 2 ^ 58 + h.dport * 2 ^ 42 +
  (if icmp then 0 else h.tcpFlags) * 2 ^ 34 + chan.getD 0 * 2 ^ 22 + stream.getD 0 * 2 ^ 10 + profile * 4 + flag stream.isSome * 2

/-- `n` bytes at an offset, big-endian, where bytes beyond the end of the frame read 0 (R133). -/
def beAtZero (b : List Byte) (off n : Nat) : Nat := ofBe (padTo n (b.drop off))

/-- The place from which a window field counts (R133). -/
def windowAnchor (h : Hdr) (a : Nat) : Nat :=
  match a with
  | 0 => 0
  | 1 => h.l3Off
  | 2 => h.l4Off
  | _ => h.payOff

/-- A window field (R133): 4 bytes at its anchor and offset, or 0 when it reaches beyond byte 256. -/
def windowField (b : List Byte) (h : Hdr) (w : Nat) : Nat :=
  let off := windowAnchor h (field w 9 8) + w % 256
  if 256 < off + 4 then 0 else beAtZero b off 4

/-- A window field reaches beyond byte 256 and sets bit 497 (R133). -/
def windowBeyond (h : Hdr) (w : Nat) : Bool := 256 < windowAnchor h (field w 9 8) + w % 256 + 4

/-- The upper half of the key of a chained pair: 32 payload bytes after a TCP or UDP header and the eight window fields (R130, R133). -/
def chainedKey (b : List Byte) (h : Hdr) (ws : List Nat) : Nat :=
  (if h.l4 && (h.proto = 6 || h.proto = 17) then beAtZero b h.payOff 32 else 0) +
  ((ws.zipIdx).map (fun (w, k) => windowField b h w * 2 ^ (256 + 32 * k))).foldl (· + ·) 0

/-! ## The SecTAG -/

/-- The fields of a SecTAG that begins at the EtherType after the source address (R220). -/
structure SecTag where
  v : Bool
  es : Bool
  sc : Bool
  scb : Bool
  e : Bool
  c : Bool
  an : Nat
  sl : Nat
  pn : Nat
  sci : Nat
  len : Nat
deriving DecidableEq, Repr

/-- The SecTAG of a frame's bytes (R220). -/
def secTagOf (b : List Byte) : SecTag :=
  let t := beAt b 14 1
  let sc := bitOf t 5
  { v := bitOf t 7, es := bitOf t 6, sc := sc, scb := bitOf t 4, e := bitOf t 3, c := bitOf t 2, an := t % 4,
    sl := beAt b 15 1 % 64, pn := beAt b 16 4, sci := if sc then beAt b 20 8 else 0, len := if sc then 16 else 8 }

/-- The bytes of a SecTAG as the device sends it (R220). -/
def secTagBytes (sc enc : Bool) (an userLen pn sci : Nat) : List Byte :=
  beBytes 2 0x88E5 ++ [BitVec.ofNat 8 (flag sc * 32 + flag enc * 12 + an)] ++
  [BitVec.ofNat 8 (if userLen < 48 then userLen else 0)] ++ beBytes 4 (pn % 2 ^ 32) ++ (if sc then beBytes 8 sci else [])

/-! ## Edits -/

/-- The egress edit of the VLAN tags (R139): 1 push, 2 pop, 3 replace, skipped where the frame does not allow it. -/
def editVlan (b : List Byte) (op vid cls tags : Nat) : List Byte :=
  match op with
  | 1 => if 2 ≤ tags then b else b.take 12 ++ beBytes 2 0x8100 ++ beBytes 2 (cls * 8192 + vid) ++ b.drop 12
  | 2 => if tags = 0 then b else b.take 12 ++ b.drop 16
  | 3 => if tags = 0 then b else patch b 14 (beBytes 2 (beAt b 14 2 / 4096 * 4096 + vid))
  | _ => b

/-- The end of the VLAN tags that stand one after another from an offset on. -/
def tagsEnd (b : List Byte) : Nat → Nat → Nat
  | 0, off => off
  | k + 1, off => if isTpid (beAt b off 2) then tagsEnd b k (off + 4) else off

/-- The offset of the EtherType after the VLAN tags of a frame, however many it has (R139). -/
def typeOff (b : List Byte) : Nat := tagsEnd b (b.length / 4) 12

/-- The egress edit of the R-tag (R139): 1 push, 2 pop. -/
def editRtag (b : List Byte) (op seq : Nat) (has : Bool) : List Byte :=
  let o := typeOff b
  match op with
  | 1 => if has then b else b.take o ++ beBytes 2 0xF1C1 ++ beBytes 2 0 ++ beBytes 2 seq ++ b.drop o
  | 2 => if has then b.take o ++ b.drop (o + 6) else b
  | _ => b

/-- A changed 16-bit word in an IPv4 header and its checksum, updated incrementally (R140). -/
def patchIpv4 (b : List Byte) (l3 off new : Nat) : List Byte :=
  let old := beAt b off 2
  let s := (0xFFFF - beAt b (l3 + 10) 2) + (0xFFFF - old) + new
  let s := s % 65536 + s / 65536
  let s := s % 65536 + s / 65536
  patch (patch b off (beBytes 2 new)) (l3 + 10) (beBytes 2 (0xFFFF - s))

/-- A rewrite profile applied to a frame (R140): DA, SA, DSCP, then TTL or hop limit. -/
def editRewrite (b : List Byte) (ops da sa dscp : Nat) : List Byte :=
  let b := if bitOf ops 0 then patch b 0 (beBytes 6 da) else b
  let b := if bitOf ops 1 then patch b 6 (beBytes 6 sa) else b
  let h := parseFrame b
  let o := h.l3Off
  let b := if bitOf ops 2 then
      if h.ipv4 then patchIpv4 b o o (beAt b o 1 * 256 + dscp * 4 + beAt b (o + 1) 1 % 4)
      else if h.ipv6 then patch b o (beBytes 2 (beAt b o 1 / 16 * 4096 + dscp * 64 + beAt b o 2 % 64))
      else b
    else b
  if bitOf ops 3 then
    if h.ipv4 then patchIpv4 b o (o + 8) (beAt b (o + 8) 2 - 256)
    else if h.ipv6 then patch b (o + 7) (beBytes 1 (h.ttl - 1))
    else b
  else b

end Sys2Proof.Machine
end

