-- ==== Sys2Proof/Machine/Buffer.lean ====
section
/-! DEFINITION. The cell buffer, the queues and admission (R158 to R185): storing and freeing frames, queue entries,
push-out, flushing, reclaiming, the rank floor and the staging queues of Partition mode. -/
namespace Sys2Proof.Machine

/-- Cells a stored length occupies (R158). -/
def cellsOf (len : Nat) : Nat := (len + 63) / 64

/-- Cells of the store and queue entries of the device. -/
abbrev allCells : Nat := 196608
abbrev allEntries : Nat := 262144

/-- The stored frame of a number. -/
def State.frame? (s : State) (id : Nat) : Option Frame := s.frames.find? (fun f => f.id == id)

/-- The stored frame of a number changed. -/
def State.updFrame (s : State) (id : Nat) (g : Frame → Frame) : State :=
  { s with frames := s.frames.map (fun f => if f.id = id then g f else f) }

/-- Cells taken from the free list, with the high water of used cells (R183). -/
def State.takeCells (s : State) (n : Nat) : State :=
  let s := s.set Reg.bufFreeCells (s.get Reg.bufFreeCells - n)
  let used := allCells - s.get Reg.bufFreeCells
  if s.get Reg.bufUsedHighWater < used then s.set Reg.bufUsedHighWater used else s

/-- A frame's cells return to the free list and the frame is gone. -/
def State.freeFrame (s : State) (id : Nat) : State :=
  match s.frame? id with
  | some f =>
    ({ s with frames := s.frames.filter (fun g => g.id ≠ id) } : State).set Reg.bufFreeCells
      (s.get Reg.bufFreeCells + f.chain.length)
  | none => s

/-- The first index, from one on and around a range, that a list does not hold, looked for a number of times. -/
def firstFree (used : List Nat) (range : Nat) : Nat → Nat → Nat
  | 0, a => a
  | k + 1, a => if used.contains a then firstFree used range k ((a + 1) % range) else a

/-- The cells that frames hold or that are lost. -/
def State.cellsUsed (s : State) : List Nat := s.frames.flatMap (·.chain) ++ s.lostCells

/-- `n` free cells, beside those of a list, and the state after; a free value says from where each is looked for. -/
def State.pickCells (s : State) (used : List Nat) : Nat → List Nat × State
  | 0 => ([], s)
  | k + 1 =>
    let r := s.pickCells used k
    let d := r.2.draw 18
    (r.1 ++ [firstFree (used ++ r.1) allCells allCells (d.1 % allCells)], d.2)

/-- A new frame stored in the buffer, and its number: its bytes go to free cells in order, as far as there are any (R158, R159,
R170). -/
def State.storeFrame (s : State) (f : Frame) : State × Nat :=
  let id := s.get Reg.nextFrame
  let n := min (cellsOf f.bytes.length) (s.get Reg.bufFreeCells)
  let r := (s.set Reg.nextFrame (id + 1)).pickCells s.cellsUsed n
  let s := r.2.takeCells n
  ({ s with frames := s.frames ++ [{ f with id := id, chain := r.1 }] }, id)

/-! ## The words of the buffer structures (R159 to R161) -/

/-- The bytes of cell k of a frame (R158). -/
def Frame.cell (f : Frame) (k : Nat) : List Byte := slice f.bytes (64 * k) 64

/-- The link word of cell k of a frame; what its next-cell field holds in the last cell is a free value (R159). -/
def Frame.linkWord (f : Frame) (k : Nat) : Nat :=
  let last := k + 1 = f.chain.length
  (if last then (Config.free 18 (f.chain.getD k 0)).toNat else f.chain.getD (k + 1) 0) * 2 ^ 46 + flag last * 2 ^ 45 +
    ((f.cell k).length - 1) * 2 ^ 39

/-- The three words of the descriptor of a frame, which stands at the index of its first cell (R160). -/
def Frame.descriptor (f : Frame) : List Nat :=
  let first := f.chain.headD 0
  let t := f.clocks.getD 0 0
  [first * 2 ^ 46 + f.bytes.length * 2 ^ 32 + f.refs * 2 ^ 26 + flag f.eligible * 2 ^ 25 + flag f.stomp * 2 ^ 24 +
     flag f.cutThrough * 2 ^ 23 + f.cls * 2 ^ 20 + f.chain.getLastD 0,
   f.ingress * 2 ^ 58 + f.vlanOp * 2 ^ 56 + f.rtagOp * 2 ^ 54 + flag f.rewrite * 2 ^ 53 + f.profile * 2 ^ 46 + f.vid * 2 ^ 34 +
     f.handle * 2 ^ 22 + f.channel * 2 ^ 10 + qualifierOf f.tsValid 0 t,
   t / 16 % 2 ^ 64]

/-- The rank of a class (R164). -/
def State.rankOf (s : State) (cls : Nat) : Nat := s.get (Reg.bufClassRank cls)

/-- The entries of a queue, oldest first. -/
def State.queueEntries (s : State) (port queue : Nat) : List Entry :=
  s.entries.filter (fun e => e.port = port && e.queue = queue)

/-- `Q.DepthCells` (R184). -/
def State.depthCells (s : State) (port queue : Nat) : Nat := ((s.queueEntries port queue).map (·.cells)).sum

/-- `Q.DepthFrames` (R184). -/
def State.depthFrames (s : State) (port queue : Nat) : Nat := (s.queueEntries port queue).length

/-- `Buf.EntriesFree` (R183). -/
def State.entriesFree (s : State) : Nat := allEntries - s.entries.length

/-- `Q.PartitionUsed`: the cells charged to a port's partition, 0 in Pool mode (R173, R184). -/
def State.partitionUsed (s : State) (port : Nat) : Nat :=
  if s.get Reg.bufMode.latched = 1 then ((s.entries.filter (fun e => e.port = port)).map (·.cells)).sum else 0

/-- Partition mode is in force (R173). -/
def State.partitionMode (s : State) : Bool := s.get Reg.bufMode.latched = 1

/-- Whether two entries are the same copy. -/
def Entry.same (a b : Entry) : Bool := a.port = b.port && a.queue = b.queue && a.frame = b.frame && a.plain = b.plain

/-- The first entry equal to a copy removed. -/
def removeEntry (e : Entry) : List Entry → List Entry
  | [] => []
  | a :: t => if a.same e then t else a :: removeEntry e t

/-- The word of a queue entry (R161): the index of its frame's descriptor, the index of the entry behind it in its queue, of which the
last entry holds a free value, and its two bits. -/
def State.entryWord (s : State) (e : Entry) : Nat :=
  let behind := ((s.queueEntries e.port e.queue).dropWhile (fun a => !a.same e)).drop 1
  let next := match behind with
    | a :: _ => a.slot
    | [] => (Config.free 18 e.slot).toNat
  (match s.frame? e.frame with | some f => f.chain.headD 0 | none => 0) * 2 ^ 46 + next * 2 ^ 28 + flag e.inTx * 2 ^ 27 +
    flag e.pnReserved * 2 ^ 26

/-- One copy of a frame ends: the reference count falls, and at 0 the cells are freed (R167, R169). -/
def State.unref (s : State) (id : Nat) : State :=
  match s.frame? id with
  | some f => if f.refs ≤ 1 then s.freeFrame id else s.updFrame id (fun f => { f with refs := f.refs - 1 })
  | none => s

/-- The prepared buffer bound to an entry becomes a gap, counted in the given counter of the port and in `Sa.Gaps`
(R227). -/
def State.gapAt (s : State) (e : Entry) (ctr : Nat → Reg) : State :=
  match s.prep.find? (fun p => p.port = e.port && p.queue = e.queue && p.frame = e.frame) with
  | some p =>
    let s : State := { s with prep := s.prep.filter (fun q => q.port ≠ p.port) }
    (s.count (ctr e.port)).count (Reg.saGaps p.slot)
  | none => s

/-- An entry leaves its queue other than by transmission: its reserved number becomes a gap, its copy ends. -/
def State.dropEntry (s : State) (e : Entry) (gap : Nat → Reg) : State :=
  let s := (s.settle e.port).gapAt e gap
  (({ s with entries := removeEntry e s.entries } : State).unref e.frame).settle e.port

/-- Every entry of a frame leaves its queue, and the frame's cells are freed (R170, R171, R241). -/
def State.dropFrame (s : State) (id : Nat) (gap : Nat → Reg) : State :=
  let own := s.entries.filter (fun e => e.frame = id)
  let s := own.foldl (fun s e => (s.settle e.port).gapAt e gap) s
  let s := ({ s with entries := s.entries.filter (fun e => e.frame ≠ id), staging := s.staging.filter (fun g => g.frame ≠ id),
                     records := s.records.filter (fun r => r.2 ≠ id), slow := s.slow.filter (fun g => g.frame ≠ id) } : State).freeFrame id
  own.foldl (fun s e => s.settle e.port) s

/-- A copy of a frame linked at the tail of a queue (R164). -/
def State.enqueue (s : State) (id port queue : Nat) (plain : Bool) : State :=
  match s.frame? id with
  | some f =>
    let d := s.draw 18
    let e : Entry := { port := port, queue := queue, frame := id, cells := cellsOf f.bytes.length, plain := plain,
                       slot := firstFree (s.entries.map (·.slot)) allEntries allEntries d.1 }
    let s := d.2.settle port
    (({ s with entries := s.entries ++ [e] } : State).updFrame id (fun f => { f with refs := f.refs + 1 })).count
      (Reg.qcntEnqueued port)
  | none => s

/-! ## Admission (R164 to R169) -/

/-- The link of a port is up; P37 has no link and is up in Flame, Glow and Trim (R111, R119). -/
def State.linkUp (s : State) (port : Nat) : Bool :=
  if port = 37 then s.running else bitOf (s.get (Reg.portStatus port)) 0

/-- A port takes part in admission: its link is up, and in Trim only P37 does (R112, R461). -/
def State.admitsTo (s : State) (port : Nat) : Bool := s.linkUp port && (port = 37 || s.mode ≠ .trim)

/-- The tail of a queue, where it is evictable: not in transmission, unless it was selected for transmission in this very cycle (R168,
R169; log entry 157). -/
def State.victimTail (s : State) (port queue : Nat) : Option Entry :=
  match (s.queueEntries port queue).getLast? with
  | some e => if e.inTx && !s.wire.any (fun w => w.entry.same e && w.start = s.now) then none else some e
  | none => none

/-- A victim queue is taken before another: the longer in cells, then the lower port, then the lower queue (R167). -/
def State.victimBefore (s : State) (a b : Entry) : Bool :=
  let da := s.depthCells a.port a.queue
  let db := s.depthCells b.port b.queue
  db < da || (da = db && (a.port < b.port || (a.port = b.port && a.queue < b.queue)))

/-- The tail entry to evict for a copy of the given rank: of every port in Pool mode, of the target port in Partition
mode (R167). -/
def State.victimIn (s : State) (rank port : Nat) : Option Entry :=
  s.entries.foldl (fun best e =>
    if s.rankOf (queueClass e.port e.queue) < rank && (!s.partitionMode || e.port = port) then
      match s.victimTail e.port e.queue with
      | some t => match best with
        | none => some t
        | some b => if s.victimBefore t b then some t else best
      | none => best
    else best) none

/-- The victim for a copy of a frame: the frame's own copies are linked after every eviction (R164, R167). -/
def State.victim (s : State) (id rank port : Nat) : Option Entry :=
  ({ s with entries := s.entries.filter (fun e => e.frame ≠ id) } : State).victimIn rank port

/-- Check 5 of R165: the copy is admitted only by push-out. -/
def State.underPressure (s : State) (port : Nat) : Bool :=
  if s.partitionMode then
    s.get Reg.bufPartitionPushOut * s.get (Reg.qPartitionCells port).latched ≤ s.partitionUsed port * 8
  else s.get Reg.bufPushOutThreshold ≤ allCells - s.get Reg.bufFreeCells

/-- What the checks of R165 after the link and the rank floor make of a copy, before any eviction (R164). -/
inductive Admission where
  /-- It is dropped and counted. -/
  | drop (counter : Reg)
  /-- It needs no push-out. -/
  | free
  /-- It is admitted only by push-out. -/
  | pressed
deriving DecidableEq, Repr

/-- The checks of a copy at its target: queue limit, cell reserve, pressure (R165). -/
def State.checkCopy (s : State) (cells : Nat) (t : Nat × Nat × Bool) : Admission :=
  if s.get (Reg.qMaxCells t.1 t.2.1) < s.depthCells t.1 t.2.1 + cells then .drop (Reg.qcntLimitDrops t.1)
  else if !s.partitionMode && s.get Reg.bufFreeCells ≤ s.get Reg.bufHeadroomCells then .drop (Reg.qcntFullDrops t.1)
  else if s.underPressure t.1 then .pressed
  else .free

/-- The eviction that a copy pays for (R167 to R169): whether the copy goes on, and the state after. A victim that is selected for
transmission in the same cycle stays, and the copy needs no eviction. -/
def State.makeRoom (s : State) (id rank port : Nat) : Admission → Bool × State
  | .drop ctr => (false, s.count ctr)
  | .free => (true, s)
  | .pressed =>
    match s.victim id rank port with
    | none => (false, s.count (Reg.qcntFullDrops port))
    | some v =>
      if v.inTx then (true, s)
      else (true, ((s.dropEntry v Reg.lcTxGapPushOut).count (Reg.qcntPushedOut v.port)).count (Reg.qcntPushOuts port))

/-- The entry of a copy that has passed the checks, where one is free (R165). -/
def State.linkCopy (s : State) (id : Nat) (t : Nat × Nat × Bool) : State :=
  if s.entriesFree = 0 then s.count Reg.bufNoEntryDrops else s.enqueue id t.1 t.2.1 t.2.2

/-- The copies of a frame through admission in the order of R164: the checks of all, the evictions, the entries. -/
def State.admitCopies (s : State) (id cells rank : Nat) (ts : List (Nat × Nat × Bool)) : State :=
  let checked := ts.map (fun t => (t, s.checkCopy cells t))
  let r := checked.foldl (fun (acc : List (Nat × Nat × Bool) × State) c =>
    let m := acc.2.makeRoom id rank c.1.1 c.2
    (if m.1 then acc.1 ++ [c.1] else acc.1, m.2)) ([], s)
  r.1.foldl (fun s t => s.linkCopy id t) r.2

/-- The refusal of the rank floor: at throttle step 4/8, a rank below the floor (R165, R176). -/
def State.floorRefuses (s : State) (rank : Nat) : Bool :=
  s.get Reg.bufThrottleStep = 4 && rank < s.get Reg.bufRankFloor

/-- The partition that stores a frame with the given targets: that of its one target, or the multicast partition 38 (R173). -/
def partitionOf (targets : List (Nat × Nat × Bool)) : Nat :=
  match targets with
  | [t] => t.1
  | _ => 38

/-- The cells that a partition stores, and how many it has (R173). -/
def State.storedIn (s : State) (p : Nat) : Nat := ((s.frames.filter (fun f => f.store = some p)).map (fun f => f.chain.length)).sum
def State.partitionSize (s : State) (p : Nat) : Nat :=
  s.get (if p = 38 then Reg.bufMcastCells.latched else (Reg.qPartitionCells p).latched)

/-- An admitted frame goes to its partition; where that has no free cell for it, the frame is dropped at all targets (R170, R173). -/
def State.moveIn (s : State) (f : Frame) (p : Nat) : State :=
  if s.partitionSize p < s.storedIn p + f.chain.length then
    (s.dropFrame f.id Reg.lcTxGapRemoved).count (Reg.qcntNoCellDrops f.ingress)
  else s.updFrame f.id (fun f => { f with store := some p })

/-- Admission of a decided frame at its targets, in ascending port and queue order (R164 to R166). Every copy is counted once,
one whose link is down in `Pcnt.TxLinkDown` (R112, R185). A frame that no target admits is freed; one that is admitted goes to its
partition in Partition mode (R173). -/
def State.admitAll (s : State) (id : Nat) (targets : List (Nat × Nat × Bool)) : State :=
  match s.frame? id with
  | none => s
  | some f =>
    let rank := s.rankOf f.cls
    let cells := cellsOf f.bytes.length
    let up := targets.filter (fun t => s.admitsTo t.1)
    let s := (targets.filter (fun t => !s.admitsTo t.1)).foldl (fun s t => s.count (Reg.pcntTxLinkDown t.1)) s
    let s :=
      if s.floorRefuses rank then (if up.isEmpty then s else s.count (Reg.qcntThrottleDrops f.ingress))
      else s.admitCopies id cells rank up
    let s := s.updFrame id (fun f => { f with decided := true })
    match s.frame? id with
    | some f' => if f'.refs = 0 then s.freeFrame id else if s.partitionMode then s.moveIn f' (partitionOf targets) else s
    | none => s

/-- A pushed R-tag of an admitted frame takes the next number of its stream (R208). -/
def State.numberRtag (s : State) (id : Nat) : State :=
  match s.frame? id with
  | some f =>
    if f.rtagOp = 1 ∧ 0 < f.refs ∧ f.matched then
      (s.updFrame id (fun g => { g with rtagSeq := s.get (Reg.sidNextSeq f.handle) })).set (Reg.sidNextSeq f.handle)
        ((s.get (Reg.sidNextSeq f.handle) + 1) % 65536)
    else s
  | none => s

/-! ## Reclaiming, flushing, forgetting -/

/-- BUF_RECLAIM (R163): starts the walk that returns lost cells; refused while it runs. -/
def execBufReclaim (ctx : Ctx) (value : Nat) (s : State) : Host.Outcome State Fault Refusal :=
  .next (s.cmdWrite ctx 0x2500 0x0D true false (need (s.get Reg.reclaimBusy = 0) 0x08000022 :: onlyOne value) (fun s =>
    s.sets [(Reg.reclaimBusy, 1), (Reg.bufReclaimOutcome, outBusy)]))

/-- RECLAIM_DONE (R163): the running walk ends and every lost cell is back on the free list. -/
def execReclaimDone (s : State) : Host.Outcome State Fault Refusal :=
  if s.get Reg.reclaimBusy = 1 then
    .next (s.sets [(Reg.reclaimBusy, 0), (Reg.bufReclaimOutcome, outDone),
      (Reg.bufFreeCells, s.get Reg.bufFreeCells + s.get Reg.bufLostCells), (Reg.bufLostCells, 0)] |> fun s => { s with lostCells := [] })
  else .next s

/-- A flush of a port runs (R182). -/
def State.flushing (s : State) (port : Nat) : Bool := s.flushes.any (fun w => w.port = port)

/-- A walk of every entry that now stands in the given queues of a port (R182). -/
def State.startFlush (s : State) (port : Nat) (queues : List Nat) : State :=
  { s with flushes := s.flushes ++
      queues.map (fun q => ({ port := port, queue := q, frames := (s.queueEntries port q).map (·.frame) } : FlushWalk)) }

/-- Q_FLUSH (R182, R461): snapshots the entries of the selected queues; refused while a flush of the port runs, and from entry
to Trim until the device's own flush of the port has ended. -/
def execQFlush (ctx : Ctx) (port value : Nat) (s : State) : Host.Outcome State Fault Refusal :=
  .next (s.cmdWrite ctx (0x2510 + port) 3 (s.hasPort port) false
    [need (!s.flushing port && s.get (Reg.trimFlush port) = 0) 0x08000022, fits 4 value,
     need (port = 37 || value < 256) 0x06090030] (fun s =>
      (s.startFlush port (bitsOf 32 value)).set (Reg.qFlushOutcome port) (if value = 0 then outDone else outBusy)))

/-- The walk of one queue: every snapshot entry that is not in transmission is removed and counted (R182). -/
def State.flushWalk (s : State) (w : FlushWalk) : State :=
  ((s.queueEntries w.port w.queue).filter (fun e => !e.inTx && w.frames.contains e.frame)).foldl
    (fun s e => (s.dropEntry e Reg.lcTxGapFlush).count (Reg.qcntFlushed e.port)) s

/-- The walks of a port end (R182). -/
def State.endFlush (s : State) (port : Nat) : State :=
  let s := (s.flushes.filter (fun w => w.port = port)).foldl State.flushWalk s
  { s with flushes := s.flushes.filter (fun w => w.port ≠ port) }

/-- Every queue number of a port. -/
def queuesOf (port : Nat) : List Nat := List.range (if port = 37 then 32 else 8)

/-- FLUSH_DONE (R182, R461): the walks of a port's selected queues end. The flush that entry to Trim asks for follows a flush
written through `Q.Flush`. -/
def execFlushDone (port : Nat) (s : State) : Host.Outcome State Fault Refusal :=
  if s.flushing port ∨ s.get (Reg.trimFlush port) = 2 then
    let s := s.endFlush port
    if s.get (Reg.trimFlush port) = 2 then .next (s.set (Reg.trimFlush port) 0)
    else
      let s := s.set (Reg.qFlushOutcome port) outDone
      if s.get (Reg.trimFlush port) = 1 then .next ((s.startFlush port (queuesOf port)).set (Reg.trimFlush port) 2) else .next s
  else .next s

/-- The rows of the active forwarding database that are valid (R177). -/
def State.fdbRows (s : State) : List Nat :=
  (s.regs.filter (fun e => e.1.grp = .fdb && e.1.sub = 0x11 && e.1.bank = 0 && bitOf e.2 31)).map (·.1.row)

/-- A row of the active forwarding database emptied. -/
def State.fdbClear (s : State) (row : Nat) : State :=
  s.sets [(Reg.fdbKey row, 0), (Reg.fdbControl row, 0), (Reg.fdbPortMask row, 0), (Reg.fdbHits row, 0)]

/-- A row holds a learned entry: valid and not static (R180). -/
def State.fdbLearned (s : State) (row : Nat) : Bool := bitOf (s.get (Reg.fdbControl row)) 31 && !bitOf (s.get (Reg.fdbControl row)) 30

/-- FDB_FORGET (R183): removes the learned rows of one port, or of all ports. -/
def execFdbForget (ctx : Ctx) (value : Nat) (s : State) : Host.Outcome State Fault Refusal :=
  .next (s.cmdWrite ctx 0x2500 0x34 true false [need (value ≤ 37 || value = 0xFF) 0x06090031] (fun s =>
    (s.fdbRows.filter (fun r => s.fdbLearned r && (value = 0xFF || s.get (Reg.fdbControl r) % 64 = value))).foldl
      State.fdbClear s))

/-- QCNT_CLEAR (R185, R124): clears every queue counter of the port. -/
def execQcntClear (ctx : Ctx) (port value : Nat) (s : State) : Host.Outcome State Fault Refusal :=
  .next (s.cmdWrite ctx (0x2540 + port) 0x20 (s.hasPort port) false (onlyOne value) (fun s => s.clearRange .qcnt port 0x01 0x1F))

/-! ## The rank floor (R176) -/

/-- Picoseconds of fabric cycles at the present throttle step (R77, R175). -/
def State.fabricPs (s : State) (cycles : Nat) : Nat := cycles * 6400 / s.get Reg.bufThrottleStep

/-- The rank floor changes and its line pulses (R176). -/
def State.setFloor (s : State) (v : Nat) : State :=
  if s.get Reg.bufRankFloor = v then s else (s.set Reg.bufRankFloor v).pulse 0x0E 0

/-- RANK_FLOOR_RAISE (R176): at 4/8, a write FIFO of 32 cells raises the floor, at most once in 1,024 fabric cycles. -/
def execRankFloorRaise (s : State) : Host.Outcome State Fault Refusal :=
  if s.forwarding ∧ s.get Reg.bufThrottleStep = 4 ∧ s.get Reg.bufRankFloor < 7 ∧
      (List.range 37).any (fun n => 32 ≤ s.get (Reg.wrFifo n)) ∧
      (s.get Reg.floorRaisedAt = 0 ∨ s.get Reg.floorRaisedAt + s.fabricPs 1024 ≤ s.now) then
    .next (((s.setFloor (s.get Reg.bufRankFloor + 1)).count Reg.bufFloorRaises 32).set Reg.floorRaisedAt s.now)
  else .next s

/-- RANK_FLOOR_LOWER (R176): at 4/8, after 8,192 fabric cycles with no write FIFO above 16 cells, the floor falls. -/
def execRankFloorLower (s : State) : Host.Outcome State Fault Refusal :=
  if s.forwarding ∧ s.get Reg.bufThrottleStep = 4 ∧ 0 < s.get Reg.bufRankFloor ∧
      (List.range 37).all (fun n => s.get (Reg.wrFifo n) ≤ 16) ∧ s.get Reg.floorQuietAt + s.fabricPs 8192 ≤ s.now then
    .next ((s.setFloor (s.get Reg.bufRankFloor - 1)).set Reg.floorQuietAt s.now)
  else .next s

/-! ## Staging queues of Partition mode (R174) -/

/-- The partition a staged frame asks (R173, R174). -/
def Staged.partition (g : Staged) : Nat := partitionOf g.targets

/-- The rank of a staged frame: provisional before its classification (R174). -/
def State.stagedRank (s : State) (g : Staged) : Nat :=
  if g.decided then
    match s.frame? g.frame with
    | some f => s.rankOf f.cls
    | none => 0
  else s.get (Reg.qProvisionalRank g.ingress)

/-- The classified head frames of the staging queues. -/
def State.stagingHeads (s : State) : List Staged :=
  (List.range 38).filterMap (fun n => (s.staging.find? (fun g => g.ingress = n)).filter (·.decided))

/-- The head that a partition serves next: of the highest rank, round-robin by ingress port within a rank (R174). -/
def State.grantOf (s : State) (part : Nat) : Option Staged :=
  let next := s.get (Reg.grantNext part)
  let turn := fun (g : Staged) => (g.ingress + 38 - next) % 38
  (s.stagingHeads.filter (fun g => g.partition = part)).foldl (fun best g =>
    match best with
    | none => some g
    | some b =>
      if s.stagedRank b < s.stagedRank g || (s.stagedRank b = s.stagedRank g && turn g < turn b) then some g else best) none

/-- A staged frame has waited longer than `Buf.StagingWait` of its rank; a wait of 0 is no limit (R174). -/
def State.stagedTooLong (s : State) (g : Staged) : Bool :=
  let w := s.get (Reg.bufStagingWait (s.stagedRank g))
  w ≠ 0 && g.since + w * 1000 < s.now

/-- STAGING_TIMEOUT (R174): the oldest frame of an ingress port's staging queue that has waited too long is dropped. -/
def execStagingTimeout (port : Nat) (s : State) : Host.Outcome State Fault Refusal :=
  match s.staging.find? (fun g => g.ingress = port && s.stagedTooLong g) with
  | some g => .next ((s.dropFrame g.frame Reg.lcTxGapRemoved).count (Reg.qcntStagingDrops port))
  | none => .next s

/-! ## The write FIFOs (R173, R175, R176) -/

/-- The rank of the frame whose cells stand in a port's write FIFO: provisional before its classification (R175). -/
def State.fifoRank (s : State) (n : Nat) : Nat :=
  match s.frame? (s.get (Reg.fifoFrame n) - 1) with
  | some f => if f.decided then s.rankOf f.cls else s.get (Reg.qProvisionalRank n)
  | none => s.get (Reg.qProvisionalRank n)

/-- The port whose write FIFO the cell-write arbiter serves next: of the highest rank, round-robin by port within a rank (R175). -/
def State.fifoTurn (s : State) : Option Nat :=
  ((List.range 37).map (fun k => (s.get Reg.fifoNext + k) % 37)).foldl (fun best n =>
    if s.get (Reg.wrFifo n) = 0 then best
    else match best with
      | none => some n
      | some b => if s.fifoRank b < s.fifoRank n then some n else best) none

/-- The arbiter writes a number of cells. -/
def State.writeCells (s : State) : Nat → State
  | 0 => s
  | k + 1 =>
    match s.fifoTurn with
    | some n => (s.sets [(Reg.wrFifo n, s.get (Reg.wrFifo n) - 1), (Reg.fifoNext, (n + 1) % 37)]).writeCells k
    | none => s

/-- The cell writes of the time-base cycle that ends now: 22 in 5 fabric cycles (R173, R175). -/
def State.writesDue (s : State) : Nat :=
  let k := s.now / 2000
  11 * s.get Reg.bufThrottleStep * k / 8 - 11 * s.get Reg.bufThrottleStep * (k - 1) / 8

/-- The write FIFOs of Pool mode drain over one time-base cycle; a fill above 16 cells is noted for the rank floor (R175, R176). -/
def State.drainFifos (s : State) : State :=
  if s.forwarding && (List.range 37).any (fun n => s.get (Reg.wrFifo n) ≠ 0) then
    let high := (List.range 37).any (fun n => 16 < s.get (Reg.wrFifo n))
    let s := s.writeCells s.writesDue
    if high then s.set Reg.floorQuietAt s.now else s
  else s

end Sys2Proof.Machine
end

