-- ==== Sys2Proof/Machine/Events.lean ====
section
/-! DEFINITION. Commands of the event lines: software pulses, the sideband, event counters and the interrupt controller
(R29 to R36, R369). -/
namespace Sys2Proof.Machine

/-- EV_PULSE (R32): pulses a line once, when its producer is a software producer. -/
def execEvPulse (ctx : Ctx) (value : Nat) (s : State) : Host.Outcome State Fault Refusal :=
  .next (s.cmdWrite ctx 0x3200 1 true false
    [fits 2 value, need (value < 256) 0x06090031, need (s.producerOf value / 0x1000000 = 0x16) 0x06040043]
    (fun s => s.pulseLine value false))

/-- The pulses of one sideband input that follow one of the given time by less than 2 link cycles each: how many are
merged with it, and the pulses left (R369). -/
def mergePulses (toWick : Bool) (input : Nat) : Nat → List Pulse → Nat × List Pulse
  | _, [] => (0, [])
  | t, p :: ps =>
    match p with
    | .sideband w i l t' =>
      if w = toWick ∧ i = input then
        if t' < t + 2000 then
          let r := mergePulses toWick input t' ps
          (r.1 + 1, r.2)
        else (0, p :: ps)
      else
        let r := mergePulses toWick input t ps
        (r.1, .sideband w i l t' :: r.2)
    | q =>
      let r := mergePulses toWick input t ps
      (r.1, q :: r.2)

/-- Whether a pulse under way is on the given sideband input. -/
def Pulse.onInput (toWick : Bool) (input : Nat) : Pulse → Bool
  | .sideband w i _ _ => w == toWick && i == input
  | _ => false

/-- EVENT_SIDEBAND_DELIVER (R369): the oldest pulse of a sideband input reaches the consumers of the other die as one
pulse, merged with those that follow it by less than 2 link cycles. With no pulse under way, nothing happens. -/
def execEventSidebandDeliver (toWick : Bool) (input : Nat) (s : State) : Host.Outcome State Fault Refusal :=
  match takeFirst (Pulse.onInput toWick input) s.pulses with
  | some (.sideband _ _ line t, rest) =>
    if s.get Reg.chmState = 1 then
      let m := mergePulses toWick input t rest
      .next (({ s with pulses := m.2 }.count Reg.chmEventMerges 32 m.1).deliver line toWick)
    else .next s
  | _ => .next s

/-- ECNT_CLEAR (R35): a write of 1 sets the count to 0. -/
def execEcntClear (ctx : Ctx) (i value : Nat) (s : State) : Host.Outcome State Fault Refusal :=
  .next (s.cmdWrite ctx (0x3220 + i) 3 (i < 32) false (onlyOne value) (fun s => s.set (Reg.ecntCount i) 0))

/-- The sources pending and enabled for a context of the interrupt controller, with a priority above 0 (R36). -/
def State.irqReady (s : State) (target : Nat) : List Nat :=
  (List.range 64).filter (fun k => s.get (Reg.irqPending k) = 1 && s.get (Reg.irqEnabled k target) = 1 &&
    0 < s.get (Reg.irqPriority k))

/-- The source that a claim answers: of the highest priority, and of those the lowest number. -/
def State.irqBest (s : State) (target : Nat) : Option Nat :=
  (s.irqReady target).foldl (fun b k => match b with
    | none => some k
    | some j => if s.get (Reg.irqPriority j) < s.get (Reg.irqPriority k) then some k else b) none

/-- The notification of a context of the interrupt controller: an enabled pending source has a priority above its threshold, which masks
no claim (R36; layout and rules of the RISC-V PLIC specification, log entry 22). -/
def State.irqNotify (s : State) (target : Nat) : Bool :=
  (s.irqReady target).any (fun k => s.get (Reg.irqThreshold target) < s.get (Reg.irqPriority k))

/-- A claim of a context: the number of the source claimed, whose pending bit is cleared and which stays claimed until it is completed, or
0 (R36). -/
def State.irqTake (s : State) (target : Nat) : Nat × State :=
  match s.irqBest target with
  | some k => (k + 1, (s.set (Reg.irqPending k) 0).set (Reg.irqClaimed k) 1)
  | none => (0, s)

/-- A completion of a context: a source that it enables can take a new pulse; any other number is ignored (R36). -/
def State.irqGive (s : State) (target source : Nat) : State :=
  if 1 ≤ source ∧ source ≤ 64 ∧ s.get (Reg.irqEnabled (source - 1) target) = 1 then s.set (Reg.irqClaimed (source - 1)) 0 else s

/-- The path context of a hart of the interrupt controller: contexts 0 and 1 are Lamplighter A, 2 and 3 are B (R36). -/
def irqCtx (target : Nat) : Ctx := if target < 2 then .lampA else .lampB

/-- IRQ_CLAIM (R36): the hart reads the number of the source it claims, or 0; the source's pending bit is cleared and
the source stays claimed until it is completed. -/
def execIrqClaim (target : Nat) (s : State) : Host.Outcome State Fault Refusal :=
  .next ((s.irqTake target).2.reply (irqCtx target) (s.irqTake target).1)

/-- IRQ_COMPLETE (R36): a claimed source that the context enables can take a new pulse; any other number is ignored. -/
def execIrqComplete (target source : Nat) (s : State) : Host.Outcome State Fault Refusal :=
  if 1 ≤ source ∧ source ≤ 64 ∧ s.get (Reg.irqEnabled (source - 1) target) = 1 then
    .next ((s.irqGive target source).done (irqCtx target))
  else .next s

end Sys2Proof.Machine
end

