-- ==== Sys2Proof/Machine/Gcm.lean ====
section
/-! DEFINITION. Galois/counter mode over the block cipher of `Config.aes`: counter blocks, the hash and the tag. -/
namespace Sys2Proof.Machine

/-- `k` steps of the product in the field of the hash: the accumulator, the multiplicand and the bits left. -/
def ghashSteps : Nat → Nat → Nat → Nat → Nat
  | 0, _, z, _ => z
  | k + 1, x, z, v =>
    ghashSteps k x (if bitOf x k then z ^^^ v else z) (if v % 2 = 1 then (v / 2) ^^^ (0xE1 * 2 ^ 120) else v / 2)

/-- The product of two elements of the field of the hash. -/
def ghashMul (x y : Nat) : Nat := ghashSteps 128 x 0 y

/-- The blocks of 16 bytes of a list, the last padded with zeros, as big-endian numbers. -/
def blocks16 : Nat → List Byte → List Nat
  | 0, _ => []
  | k + 1, l => if l = [] then [] else ofBe (padTo 16 l) :: blocks16 k (l.drop 16)

/-- The hash of authenticated and enciphered bytes under a hash subkey. -/
def ghash (h : Nat) (aad data : List Byte) : Nat :=
  let bs := blocks16 aad.length aad ++ blocks16 data.length data ++ [aad.length * 8 * 2 ^ 64 + data.length * 8]
  bs.foldl (fun y b => ghashMul (y ^^^ b) h) 0

/-- The keystream block with a counter, under a key and a 96-bit IV. -/
def gcmBlock (bits key iv ctr : Nat) : Nat := (Config.aes bits key (BitVec.ofNat 128 (iv * 2 ^ 32 + ctr % 2 ^ 32))).toNat

/-- Bytes enciphered or deciphered by keystream blocks from counter 2 on. -/
def gcmCrypt (bits key iv : Nat) : Nat → Nat → List Byte → List Byte
  | 0, _, _ => []
  | k + 1, ctr, l =>
    if l = [] then []
    else List.zipWith (fun a b => a ^^^ b) (l.take 16) (beBytes 16 (gcmBlock bits key iv ctr)) ++
      gcmCrypt bits key iv k (ctr + 1) (l.drop 16)

/-- Bytes through the cipher, block 1 being counter 2. -/
def gcmData (bits key iv : Nat) (l : List Byte) : List Byte := gcmCrypt bits key iv l.length 2 l

/-- The 16-byte tag over authenticated and enciphered bytes. -/
def gcmTag (bits key iv : Nat) (aad data : List Byte) : List Byte :=
  let h := (Config.aes bits key 0).toNat
  beBytes 16 (ghash h aad data ^^^ gcmBlock bits key iv 1)

end Sys2Proof.Machine
end

