-- ==== Sys2Proof/Machine/Crypto.lean ====
section
/-! DEFINITION. The keyed functions of the vault, the Cresset engines and the gateway over the primitives of `Config`:
HMAC, HKDF, CMAC, counter-mode derivation and CCM. -/
namespace Sys2Proof.Machine

/-- A digest of `bits` bits, cut to its length. -/
def digest (bits : Nat) (m : List Byte) : List Byte := padTo (bits / 8) (Config.sha bits m)

/-- HMAC over a SHA-2 function (FIPS 198-1). -/
def hmac (bits : Nat) (key m : List Byte) : List Byte :=
  let block := if bits = 256 then 64 else 128
  let k := padTo block (if block < key.length then digest bits key else key)
  digest bits (k.map (fun b => b ^^^ 0x5C) ++ digest bits (k.map (fun b => b ^^^ 0x36) ++ m))

/-- The expansion of HKDF: `n` blocks after a block. -/
def hkdfBlocks (prk info : List Byte) : Nat → Nat → List Byte → List Byte
  | 0, _, _ => []
  | n + 1, i, prev =>
    let t := hmac 384 prk (prev ++ info ++ [BitVec.ofNat 8 i])
    t ++ hkdfBlocks prk info n (i + 1) t

/-- HKDF with SHA-384 (R309); the key of the extraction is the whole salt. -/
def hkdf (ikm salt info : List Byte) (len : Nat) : List Byte :=
  (hkdfBlocks (hmac 384 salt ikm) info (len / 48 + 1) 1 []).take len

/-- Key bits of a key of bytes. -/
abbrev keyBits (key : List Byte) : Nat := key.length * 8

/-- One block through the cipher. -/
def aesBytes (key : List Byte) (b : Nat) : Nat := (Config.aes (keyBits key) (ofBe key) (BitVec.ofNat 128 b)).toNat

/-- Doubling in the field of CMAC. -/
def cmacDouble (x : Nat) : Nat := (x * 2 % 2 ^ 128) ^^^ (if bitOf x 127 then 0x87 else 0)

/-- The chain of CMAC over whole blocks. -/
def cbcChain (key : List Byte) (x : Nat) (bs : List Nat) : Nat := bs.foldl (fun x b => aesBytes key (x ^^^ b)) x

/-- AES-CMAC (NIST SP 800-38B). -/
def cmac (key m : List Byte) : List Byte :=
  let k1 := cmacDouble (aesBytes key 0)
  let k2 := cmacDouble k1
  let n := (m.length - 1) / 16
  let head := blocks16 n (m.take (16 * n))
  let last := m.drop (16 * n)
  let m' := if last.length = 16 then ofBe last ^^^ k1 else ofBe (padTo 16 (last ++ [0x80])) ^^^ k2
  beBytes 16 (aesBytes key (cbcChain key 0 head ^^^ m'))

/-- The blocks of the counter-mode derivation (R309). -/
def kdfBlocks (prf : List Byte → List Byte) (input : List Byte) (iw lw len : Nat) : Nat → Nat → List Byte
  | 0, _ => []
  | n + 1, i => prf (beBytes iw i ++ input ++ beBytes lw (len * 8)) ++ kdfBlocks prf input iw lw len n (i + 1)

/-- Counter-mode derivation (R309): the widths of the counter and of the length by the format. -/
def kdfCtr (alg : Nat) (key input : List Byte) (format len : Nat) : List Byte :=
  let prf := if alg = 0x03 then hmac 384 key else cmac key
  let out := if alg = 0x03 then 48 else 16
  let iw := match format % 4 with | 0 => 1 | 1 => 2 | _ => 4
  let lw := if bitOf format 2 then 4 else 2
  (kdfBlocks prf input iw lw len ((len + out - 1) / out) 1).take len

/-- The additional data of CCM with its length. -/
def ccmAad (aad : List Byte) : List Byte :=
  if aad = [] then []
  else
    let a := (if aad.length < 0xFF00 then beBytes 2 aad.length else beBytes 2 0xFFFE ++ beBytes 4 aad.length) ++ aad
    padTo ((a.length + 15) / 16 * 16) a

/-- The tag of CCM before it is enciphered, with a 12-byte nonce (NIST SP 800-38C). -/
def ccmMac (key : List Byte) (nonce : Nat) (aad plain : List Byte) (tag : Nat) : Nat :=
  let flags := flag (aad ≠ []) * 64 + (tag - 2) / 2 * 8 + 2
  let b0 := flags * 2 ^ 120 + nonce * 2 ^ 24 + plain.length
  let a := ccmAad aad
  cbcChain key 0 (b0 :: blocks16 a.length a ++ blocks16 plain.length plain)

/-- Bytes through the counter blocks of CCM. -/
def ccmCrypt (key : List Byte) (nonce : Nat) : Nat → Nat → List Byte → List Byte
  | 0, _, _ => []
  | k + 1, ctr, l =>
    if l = [] then []
    else List.zipWith (fun a b => a ^^^ b) (l.take 16) (beBytes 16 (aesBytes key (2 * 2 ^ 120 + nonce * 2 ^ 24 + ctr))) ++
      ccmCrypt key nonce k (ctr + 1) (l.drop 16)

/-- The tag of CCM. -/
def ccmTag (key : List Byte) (nonce : Nat) (aad plain : List Byte) (tag : Nat) : List Byte :=
  (beBytes 16 (ccmMac key nonce aad plain tag ^^^ aesBytes key (2 * 2 ^ 120 + nonce * 2 ^ 24))).take tag

end Sys2Proof.Machine
end

