-- ==== Sys2Proof/Machine/Slots.lean ====
section
/-! DEFINITION. Association slots as the cipher path moves them (R247, R255, R260 to R266): events, retirement, the
current slot of a transmit channel, and the end of a frame in transmission. -/
namespace Sys2Proof.Machine

/-- An association event: its line pulses, and it is queued, or lost and counted when 512 wait (R266). -/
def State.saEvent (s : State) (kind slot : Nat) : State :=
  let s : State := if s.saEvents.length < 512 then { s with saEvents := s.saEvents ++ [kind * 0x4000 + 0x2000 + slot % 0x2000] }
    else s.count Reg.saEventOverflows 32
  s.pulse 0x05 0

/-- A slot returns to state 0: its key is zeroised and a retirement is queued (R255, R266). -/
def State.retireSlot (s : State) (row : Nat) : State :=
  let s : State := { s with spec := s.spec.filter (fun w => w.slot ≠ row) }
  (s.sets [(Reg.saState row, 0), (Reg.slotKey 0 row, 0), (Reg.slotSalt 0 row, 0), (Reg.slotRetiring 0 row, 0),
    (Reg.saControl row, 0)]).saEvent 3 row

/-- The current slot of a transmit channel: the one in state 3 (R260). -/
def State.currentSlot (s : State) (c : Nat) : Option Nat :=
  if s.get (Reg.saState (2 * c)) = 3 ∧ s.get (Reg.slotRetiring 0 (2 * c)) = 0 then some (2 * c)
  else if s.get (Reg.saState (2 * c + 1)) = 3 ∧ s.get (Reg.slotRetiring 0 (2 * c + 1)) = 0 then some (2 * c + 1)
  else none

/-- The exhausted slot of a transmit channel: one in state 5 (R262). -/
def State.exhaustedSlot (s : State) (c : Nat) : Option Nat :=
  if s.get (Reg.saState (2 * c)) = 5 then some (2 * c)
  else if s.get (Reg.saState (2 * c + 1)) = 5 then some (2 * c + 1) else none

/-- A slot becomes active (state 3): the number of the hand-over that made it so, which slots of one hand-over share, and the domain-0
time are kept (R254, R256, R264). -/
def State.slotActive (s : State) (row : Nat) : State :=
  s.sets [(Reg.saState row, 3), (Reg.slotActiveAt 0 row, s.get Reg.slotOrder), (Reg.saActiveSince row, s.timeNs 0),
    (Reg.slotOverlapAt 0 row, 0)]

/-- Whether the former current slot of a transmit channel still has a started frame (R260). -/
def State.slotOnWire (s : State) (row : Nat) : Bool := s.wire.any (fun w => w.encrypted && w.slot = row)

/-- A prepared reservation becomes a gap while its entry stays queued (R227, R231). -/
def State.prepGap (s : State) (p : Prep) (ctr : Nat → Reg) : State :=
  let s : State := { s with
    prep := s.prep.filter (fun q => q.port ≠ p.port),
    entries := s.entries.map (fun e =>
      if e.port = p.port && e.queue = p.queue && e.frame = p.frame then { e with pnReserved := false } else e) }
  (s.count (ctr p.port)).count (Reg.saGaps p.slot)

/-- The prepared reservations of a channel under another slot than the one given become gaps (R231). -/
def State.prepHandover (s : State) (c row : Nat) : State :=
  (s.prep.filter (fun p => p.slot / 2 = c && p.slot ≠ row)).foldl (fun s p => s.prepGap p Reg.lcTxGapHandover) s

/-- A transmit slot becomes current; the former one, in state 3 or 5, is retired, at once or when the last frame started under
it ends; an exhaustion hold of the channel is over (R260, R262). -/
def State.makeCurrent (s : State) (row : Nat) : State :=
  let c := row / 2
  let s := s.prepHandover c row
  let other := if row % 2 = 0 then row + 1 else row - 1
  let s :=
    if s.get (Reg.saState other) = 3 ∨ s.get (Reg.saState other) = 5 then
      if s.slotOnWire other then s.set (Reg.slotRetiring 0 other) 1 else s.retireSlot other
    else s
  ((s.slotActive row).set (Reg.saControl row) (setBit (s.get (Reg.saControl row)) 31 false)).sets
    [(Reg.chHolding c, 0), (Reg.chHoldOver c, 0)]

/-- A frame in transmission ends: it leaves the wire, its grant is released, its copy ends, and a former current slot whose
last started frame it was is retired (R166, R218, R260). -/
def State.endWire (s : State) (w : Wire) : State :=
  let s := s.settle w.entry.port
  let s : State := { s with wire := s.wire.filter (fun v => !(v.entry.same w.entry)), entries := removeEntry w.entry s.entries }
  let s := (s.set Reg.lcTxGranted (s.get Reg.lcTxGranted - w.grant)).unref w.entry.frame
  let s := s.settle w.entry.port
  if w.encrypted ∧ s.get (Reg.slotRetiring 0 w.slot) = 1 ∧ ¬ s.slotOnWire w.slot then s.retireSlot w.slot else s

/-- The frames in transmission at a port are cut off and counted (R112, R125). -/
def State.cutWire (s : State) (port : Nat) : State :=
  (s.wire.filter (fun w => w.entry.port = port)).foldl (fun s w => (s.endWire w).count (Reg.pcntTxAborted port)) s

end Sys2Proof.Machine
end

