-- ==== Sys2Proof/Machine/Port.lean ====
section
/-! DEFINITION. The port complex (R103 to R125): link starts, link state, warm start, MAC merge verification, PAUSE, PLCA
and the port counters. -/
namespace Sys2Proof.Machine

/-- The settings of a port that its link start latches: subindices 02h to 04h, 06h to 09h and 10h (R109, R110). -/
def portLatched (n : Nat) : List Reg :=
  [Reg.portMode n, Reg.portFec n, Reg.portLaneCfg n, Reg.portMergeEnable n, Reg.portMergeVerify n, Reg.portVerifyTime n,
   Reg.portAddFragSize n, Reg.portRmiiClockOut n]

/-- The PLCA settings of P32 + k, which a BEACON or a link start without PLCA latches (R116). -/
def plcaLatched (k : Nat) : List Reg :=
  [Reg.plcaEnable k, Reg.plcaNodeId k, Reg.plcaNodeCount k, Reg.plcaToTimer k, Reg.plcaMaxBurst k, Reg.plcaBurstTimer k]

/-- Settings copied into force at their boundary (R10). -/
def State.latch (s : State) (l : List Reg) : State := l.foldl (fun s r => s.set r.latched (s.get r)) s

/-- Whether MAC merge preemption is active at a port (R109, R115). -/
def State.preemptActive (s : State) (n : Nat) : Bool := n < 32 && bitOf (s.get (Reg.portStatus n)) 7

/-- A port's link comes up: status, warm count, the verify procedure of MAC merge, and the link event (R111, R114, R122). -/
def State.linkComesUp (s : State) (n speed : Nat) (warm : Bool) : State :=
  let merge := n < 32 && s.get (Reg.portMergeEnable n).latched = 1
  let s := if s.modeOf n = 8 then s.set (Reg.negSpeed n) (speed % 4) else s
  let verify := merge && s.get (Reg.portMergeVerify n).latched = 1
  let st := 1 + flag (n < 32) * 8 + flag warm * 16 + flag verify * 32 + flag (merge && !verify) * 128 +
    flag (n = 36) * 256 + (if s.modeOf n = 8 then speed % 4 * 512 else 0)
  let s := s.sets [(Reg.portStatus n, st), (Reg.portPhase n, 3), (Reg.portSince n, s.now)]
  let s := if warm then s.count (Reg.pcntWarmStarts n) else s
  let s := if verify then s.sets [(Reg.verifyTries n, 1),
      (Reg.verifyAt n, s.now + s.get (Reg.portVerifyTime n).latched * ms)] else s
  s.pulse 0x04 n

/-- A port's link goes down from any cause: frames in transmission are cut off, the change is counted and its line
pulses (R111, R112). Of `Port.Status`, how the last start went and the reference clock of P36 stay (R109; log entry 155). PLCA runs no
longer there (R116; log entry 134). -/
def State.linkGoesDown (s : State) (n : Nat) : State :=
  let st := s.get (Reg.portStatus n)
  let up := bitOf st 0
  let s := s.sets [(Reg.portStatus n, flag (bitOf st 4) * 16 + flag (bitOf st 8) * 256), (Reg.portPhase n, 0),
    (Reg.verifyTries n, 0), (Reg.holdState n, 0), (Reg.expressWaits n, 0)]
  let s := if 32 ≤ n ∧ n < 36 then s.set (Reg.plcaStatus (n - 32)) 0 else s
  if up then ((s.cutWire n).count (Reg.pcntLinkDowns n)).pulse 0x04 n else s

/-! ## Lanes and retained blocks (R107, R108, R120, R121) -/

/-- The logical lanes of a port. -/
def logicalLanes (n : Nat) : List Nat := if n < 8 then [0, 1] else if n < 32 then [0] else []

/-- The logical lanes that a mode of a port uses (R103, R107). -/
def lanesUsed (n mode : Nat) : List Nat := (logicalLanes n).filter (fun k => k = 0 || mode = 0x01)

/-- The SerDes lane that is a logical lane of a port; bit 0 of `Port.LaneCfg` swaps the two of P0 to P7 (R107, R108). -/
def State.laneOf (s : State) (n k : Nat) : Nat :=
  if n < 8 then 2 * n + (if bitOf (s.get (Reg.portLaneCfg n).latched) 0 then 1 - k else k) else n + 8

/-- The lanes that the mode of a port uses are powered, and its others are not (R107); with `on` false none is. -/
def State.powerLanes (s : State) (n : Nat) (on : Bool) : State :=
  s.sets ((logicalLanes n).map (fun k => (Reg.lanePower (s.laneOf n k), flag (on && (lanesUsed n (s.modeOf n)).contains k))))

/-- The die temperature is measured: as a start or a wake gives it at this instant, and else as a free value. -/
def State.senseTemp (s : State) : State :=
  if s.get Reg.dieTempAt = s.now + 1 then s
  else
    let d := s.draw 8
    d.2.sets [(Reg.dieTemp 0, d.1), (Reg.dieTempAt, s.now + 1)]

/-- What the block of one lane says beside its settings: mode, code, lane configuration and die temperature (R120). -/
def State.laneTail (s : State) (n : Nat) : List Byte :=
  leBytes 1 (s.modeOf n) ++ leBytes 1 (s.get (Reg.portFec n).latched) ++ leBytes 1 (s.get (Reg.portLaneCfg n).latched) ++
    leBytes 1 (s.get (Reg.dieTemp 0))

/-- A retained block is whole: its lanes of 48 bytes, then their CRC-32C (R120, R121). -/
def blockWhole (b : List Byte) : Bool :=
  48 < b.length && b.length % 48 = 4 && ofLe (b.drop (b.length - 4)) = crc32c (b.take (b.length - 4))

/-- The retained block of a port is there, whole, and of its mode, code and lane configuration (R121). -/
def State.warmHolds (s : State) (n : Nat) : Bool :=
  s.get (Reg.retPresent n) = 1 && blockWhole (s.blob (Reg.retBlock n)) &&
  slice (s.blob (Reg.retBlock n)) 44 3 == (s.laneTail n).take 3

/-- The temperature of a retained block lies within 40 °C of the die temperature (R121). -/
def State.warmTemp (s : State) (n : Nat) : Bool :=
  let t := beAt (s.blob (Reg.retBlock n)) 47 1
  t ≤ s.get (Reg.dieTemp 0) + 40 && s.get (Reg.dieTemp 0) ≤ t + 40

/-- A port trains fully; a block that it did not use is counted (R121). -/
def State.trainFully (s : State) (n : Nat) : State :=
  let s := if s.get (Reg.retPresent n) = 1 then s.count (Reg.pcntWarmFallbacks n) else s
  s.sets [(Reg.portPhase n, 1), (Reg.portSince n, s.now)]

/-- A link start (R107, R110, R121): the boundary settings take force and the lanes that the mode uses are powered; a SerDes port starts
warm on a retained block that fits and trains fully otherwise; a 10BASE-T1S port is up while it is enabled; P36 waits for its
reference clock. -/
def State.linkStart (s : State) (n : Nat) : State :=
  let s := s.latch (portLatched n)
  if n < 32 then
    if s.get (Reg.serdesOff n) = 1 then s
    else
      let s := s.powerLanes n true
      if s.warmHolds n then
        let s := s.senseTemp
        if s.warmTemp n then s.sets [(Reg.portPhase n, 2), (Reg.portSince n, s.now)] else s.trainFully n
      else s.trainFully n
  else if n < 36 then
    let s := if bitOf (s.get (Reg.plcaStatus (n - 32))) 0 then s else s.latch (plcaLatched (n - 32))
    s.linkComesUp n 0 false
  else s.sets [(Reg.portPhase n, 1), (Reg.portSince n, s.now)]

/-- Checks of the commands of one port: P37 holds `Port.Enable` as a constant (R109, R110). -/
def constOnHost (n : Nat) : Option Nat := need (n ≠ 37) 0x06010002

/-- PORT_ENABLE (R110): a change of `Port.Enable` from 0 to 1 starts the link. -/
def execPortEnable (ctx : Ctx) (n : Nat) (s : State) : Host.Outcome State Fault Refusal :=
  .next (s.rwWrite ctx (0x2400 + n) 1 (s.hasPort n) false [] (fun s =>
    if s.get (Reg.portEnable n) = 1 then s else (s.set (Reg.portEnable n) 1).linkStart n) (constOnHost n))

/-- PORT_DISABLE (R110): takes the link down at once. -/
def execPortDisable (ctx : Ctx) (n : Nat) (s : State) : Host.Outcome State Fault Refusal :=
  .next (s.rwWrite ctx (0x2400 + n) 1 (s.hasPort n) false []
    (fun s => (s.set (Reg.portEnable n) 0).linkGoesDown n) (constOnHost n))

/-- PORT_RESTART (R110): restarts the link of an enabled port; does nothing on a disabled port. -/
def execPortRestart (ctx : Ctx) (n : Nat) (s : State) : Host.Outcome State Fault Refusal :=
  .next (s.cmdWrite ctx (0x2400 + n) 0x0B (s.hasPort n) false [need (n ≠ 37) 0x06090011] (fun s =>
    if s.get (Reg.portEnable n) = 1 then (s.linkGoesDown n).linkStart n else s))

/-- PORT_RESTART_FULL (R110, R121): discards the retained block; an enabled port restarts with full training. -/
def execPortRestartFull (ctx : Ctx) (n : Nat) (s : State) : Host.Outcome State Fault Refusal :=
  .next (s.cmdWrite ctx (0x2400 + n) 0x0B (s.hasPort n) false [need (n ≠ 37) 0x06090011] (fun s =>
    let s := s.set (Reg.retPresent n) 0
    if s.get (Reg.portEnable n) = 1 then (s.linkGoesDown n).linkStart n else s))

/-- The Lantern die or, for P32 to P36, the Wick die serves the port: Flame, Glow or Trim. -/
def State.portLive (s : State) (n : Nat) : Bool := s.running && s.hasPort n && n < 37 && s.get (Reg.portEnable n) = 1

/-- A warm start that has not locked on the retained settings in its time falls back to full training (R121). -/
def State.warmFallback (s : State) (n : Nat) : State :=
  (s.sets [(Reg.portPhase n, 1), (Reg.portSince n, s.now)]).count (Reg.pcntWarmFallbacks n)

/-- The link of an enabled port may be declared up: it is starting, its lock has had time to hold for 10 µs, and in mode 08h
auto-negotiation gave a speed (R103, R111). -/
def State.linkReady (s : State) (port speed : Nat) : Bool :=
  s.portLive port && (s.get (Reg.portPhase port) = 1 || s.get (Reg.portPhase port) = 2) &&
  (s.modeOf port ≠ 8 || (1 ≤ speed && speed ≤ 3)) && (32 ≤ port || s.get (Reg.portSince port) + 10 * us ≤ s.now)

/-- LINK_UP (R111, R121, R122): an enabled port whose link is starting is declared up, with the speed that auto-negotiation gave
in mode 08h. A lock on retained settings that came after 800 µs, 10 µs before, is none: the port falls back. -/
def execLinkUp (port speed : Nat) (s : State) : Host.Outcome State Fault Refusal :=
  if s.linkReady port speed then
    if s.get (Reg.portPhase port) = 2 ∧ s.get (Reg.portSince port) + 810 * us < s.now then .next (s.warmFallback port)
    else .next (s.linkComesUp port speed (s.get (Reg.portPhase port) = 2))
  else .next s

/-- LINK_DOWN (R110, R111): a fault (1 local, 2 remote), loss of lock (3) or loss of clock that began at `since` and
persists for `Port.LinkDownHold` takes the link down, and the link starts again. P32 to P35 have none of these. After a fault the lock
is still there, and `Port.Status` says which it was; a loss of clock takes the clock bit of P36 (R109; log entry 155). -/
def execLinkDown (port since cause : Nat) (s : State) : Host.Outcome State Fault Refusal :=
  if s.portLive port ∧ (port < 32 ∨ port = 36) ∧ bitOf (s.get (Reg.portStatus port)) 0 ∧
      since + s.get (Reg.portLinkDownHold port) * us ≤ s.now then
    let s := s.linkGoesDown port
    let st := s.get (Reg.portStatus port)
    let s := s.set (Reg.portStatus port) (if port = 36 then st % 256 else if cause = 1 then st + 10 else if cause = 2 then st + 12 else st)
    .next (s.linkStart port)
  else .next s

/-- WARM_LOCK_TIMEOUT (R121): lock not reached within 800 µs on the retained settings falls back to full training. -/
def execWarmLockTimeout (port : Nat) (s : State) : Host.Outcome State Fault Refusal :=
  if s.portLive port ∧ s.get (Reg.portPhase port) = 2 ∧ s.get (Reg.portSince port) + 800 * us ≤ s.now then
    .next (s.warmFallback port)
  else .next s

/-- Verify requests that the procedure sends before it fails (R114: IEEE 802.3br; log entry 12). -/
abbrev verifyLimit : Nat := 3

/-- MERGE_VERIFY_TIMEOUT (R114): the verify interval elapses without a response: the device sends again, or the procedure
has failed. -/
def execMergeVerifyTimeout (port : Nat) (s : State) : Host.Outcome State Fault Refusal :=
  if s.portLive port ∧ field (s.get (Reg.portStatus port)) 6 5 = 1 ∧ s.get (Reg.verifyAt port) ≤ s.now then
    if s.get (Reg.verifyTries port) < verifyLimit then
      .next (s.sets [(Reg.verifyTries port, s.get (Reg.verifyTries port) + 1),
        (Reg.verifyAt port, s.now + s.get (Reg.portVerifyTime port).latched * ms)])
    else .next (s.set (Reg.portStatus port) (setField (s.get (Reg.portStatus port)) 6 5 3))
  else .next s

/-- A verify response arrives while the procedure runs: it has succeeded and preemption is active (R114). -/
def State.verifyResponse (s : State) (port : Nat) : State :=
  if field (s.get (Reg.portStatus port)) 6 5 = 1 then
    s.set (Reg.portStatus port) (setBit (setField (s.get (Reg.portStatus port)) 6 5 2) 7 true)
  else s

/-- A verify request of the partner is answered where MAC merge is enabled (R114: IEEE 802.3br). -/
def State.verifyRequest (s : State) (port : Nat) : State :=
  if port < 32 ∧ s.get (Reg.portMergeEnable port).latched = 1 then s.count (Reg.verifyResponses port) else s

/-- The pause times of a received frame, each in quanta of 512 bit times (R113). -/
def State.pauseSet (s : State) (port row quanta : Nat) : State :=
  s.set (Reg.pauseUntil port row) (s.now + quanta * 512 * ms / s.macRate port)

/-- PAUSE_FRAME_RECEIVE (R113): a PAUSE (`pfc` false, one time) or priority flow control frame (times of the priorities
whose enable bit is set) is counted, as a frame of 64 bytes as well, and honoured when `Port.PauseMode` selects its kind. It is not
forwarded (R113, R123). -/
def execPauseFrameReceive (port : Nat) (pfc : Bool) (enables : Nat) (times : List Nat) (s : State) :
    Host.Outcome State Fault Refusal :=
  if s.portLive port ∧ s.linkUp port then
    let s := ((s.count (Reg.pcntRxFrames port)).count (Reg.pcntRxOctets port) 64 64).count (Reg.pcntRxPause port)
    if s.get (Reg.portPauseMode port) = 1 ∧ ¬ pfc then .next (s.pauseSet port 8 (times.headD 0))
    else if s.get (Reg.portPauseMode port) = 2 ∧ pfc then
      .next ((bitsOf 8 enables).foldl (fun s k => s.pauseSet port k (times.getD k 0)) s)
    else .next s
  else .next s

/-- Whether a class of a port is held by an honoured pause (R113). -/
def State.paused (s : State) (port cls : Nat) : Bool :=
  s.now < s.get (Reg.pauseUntil port 8) || s.now < s.get (Reg.pauseUntil port cls)

/-- PAUSE_TIME_EXPIRE (R113): the pause times of a port that have run out are gone, and its held queues may transmit. -/
def execPauseTimeExpire (port : Nat) (s : State) : Host.Outcome State Fault Refusal :=
  .next ((List.range 9).foldl (fun s k => if s.get (Reg.pauseUntil port k) ≤ s.now then s.set (Reg.pauseUntil port k) 0 else s) s)

/-- PLCA_BEACON (R116): a BEACON sent or received applies the PLCA objects; PLCA runs when it is enabled. -/
def execPlcaBeacon (k : Nat) (s : State) : Host.Outcome State Fault Refusal :=
  if k < 4 ∧ s.portLive (32 + k) then
    let s := s.latch (plcaLatched k)
    .next (s.set (Reg.plcaStatus k) (if s.get (Reg.plcaEnable k).latched = 1 then
      1 + flag (s.get (Reg.plcaNodeId k).latched = 0) * 2 else 0))
  else .next s

/-- PLCA_BEACON_TIMEOUT (R117): a follower that saw no BEACON for 4 × `Plca.NodeCount` opportunities falls back to CSMA/CD. -/
def execPlcaBeaconTimeout (k opportunities : Nat) (s : State) : Host.Outcome State Fault Refusal :=
  if k < 4 ∧ s.portLive (32 + k) ∧ s.get (Reg.plcaNodeId k).latched ≠ 0 ∧
      4 * s.get (Reg.plcaNodeCount k).latched ≤ opportunities then
    .next (s.set (Reg.plcaStatus k) (setBit (s.get (Reg.plcaStatus k)) 0 false))
  else .next s

/-- PCNT_CLEAR (R124): clears every counter of the port. -/
def execPcntClear (ctx : Ctx) (n value : Nat) (s : State) : Host.Outcome State Fault Refusal :=
  .next (s.cmdWrite ctx (0x2440 + n) 0x20 (s.hasPort n && n < 37) false (onlyOne value) (fun s => s.clearRange .pcnt n 0x01 0x1F))

/-- Entry to Snuffed at the ports (R125): every enabled port cuts off its frame and signals as `Port.SnuffSignal` and its
class say, and its link is down. -/
def State.portsSnuff (s : State) : State :=
  (List.range 37).foldl (fun s n =>
    if s.get (Reg.portEnable n) = 1 then
      let sig := if n < 24 ∧ s.get (Reg.portSnuffSignal n) = 0 then 1 else 2
      let s := s.cutWire n
      (s.linkGoesDown n).set (Reg.snuffSignal n) sig
    else s) s

/-- The blocks of lanes of 48 bytes: 44 of equaliser, CTLE, DFE and CDR settings, which are free values, and what the block says of the
port (R120). -/
def State.laneBlocks (s : State) (n : Nat) : Nat → List Byte × State
  | 0 => ([], s)
  | k + 1 =>
    let r := s.laneBlocks n k
    let d := r.2.draw 352
    (r.1 ++ leBytes 44 d.1 ++ s.laneTail n, d.2)

/-- The retained block of a port saved (R120): one block for each lane that its mode uses, with the die temperature at this instant, and
their CRC-32C. -/
def State.savePort (s : State) (n : Nat) : State :=
  let s := s.senseTemp
  let r := s.laneBlocks n (lanesUsed n (s.modeOf n)).length
  (r.2.set (Reg.retPresent n) 1).setBlob (Reg.retBlock n) (r.1 ++ leBytes 4 (crc32c r.1))

/-- A retained block whose save was cut off lacks its CRC-32C (R120, R454). -/
def State.cutBlock (s : State) (n : Nat) : State :=
  s.setBlob (Reg.retBlock n) ((s.blob (Reg.retBlock n)).take ((s.blob (Reg.retBlock n)).length - 4))

/-- The save at entry to Ember (R120): eligible ports with their link up are saved; a port that is not eligible loses its
block; one whose link is down keeps what it has. -/
def State.savePorts (s : State) (ports : List Nat) : State :=
  ports.foldl (fun s n =>
    if s.get (Reg.portWarmEligible n) = 0 then s.set (Reg.retPresent n) 0
    else if s.get (Reg.portEnable n) = 1 ∧ bitOf (s.get (Reg.portStatus n)) 0 then s.savePort n
    else s) s

end Sys2Proof.Machine
end

