-- ==== Sys2Proof/Machine/Protect.lean ====
section
/-! DEFINITION. The form of a frame on the wire (R138 to R140, R219, R220, R222, R230, R242): its edits, what protects it, its SecTAG and
ICV, and its frame check sequence. -/
namespace Sys2Proof.Machine

/-- The bytes of a copy after the edits recorded with its frame; a host or mirror copy is not edited (R138 to R140). -/
def egressBytes (e : Entry) (f : Frame) : List Byte :=
  if e.plain then f.bytes
  else
    let h := parseFrame f.bytes
    let b := if f.rewrite then editRewrite f.bytes f.rwOps f.rwDa f.rwSa f.rwDscp else f.bytes
    let b := editRtag b f.rtagOp f.rtagSeq h.rtag
    editVlan b f.vlanOp f.vid f.cls h.tagCount

/-- What protects a frame that leaves a port (R222, R262). -/
inductive Guard where
  /-- Sent in the clear. -/
  | clear
  /-- Sent under a slot. -/
  | secure (slot : Nat)
  /-- Held at the head of its queue: the slot is exhausted. -/
  | hold (channel : Nat)
  /-- Removed: the channel has no current slot. -/
  | noSa
  /-- Removed: the exhaustion hold has ended. -/
  | exhausted (slot : Nat)
deriving DecidableEq, Repr

/-- The protection of a frame at a port (R222, R262). -/
def State.guard (s : State) (port : Nat) (f : Frame) : Guard :=
  let c := s.get (Reg.lcTxChannel port)
  if port = 37 ∨ c = 0xFFFF ∨ (parseFrame f.bytes).etype = 0x888E then .clear
  else match s.currentSlot c with
    | some slot =>
      if s.get (Reg.saNextPn slot) < 2 ^ (if bitOf (s.get (Reg.saParams slot)) 31 then 64 else 32) then .secure slot else .hold c
    | none => match s.exhaustedSlot c with
      | some slot =>
        if s.get (Reg.chHoldOver c) = 1 ∨ s.get Reg.saExhaustHold = 0 then .exhausted slot else .hold c
      | none => if bitOf (s.get (Reg.chFlags c)) 1 then .clear else .noSa

/-- The association of a slot uses an XPN suite (R219). -/
def State.slotXpn (s : State) (row : Nat) : Bool := bitOf (s.get (Reg.saParams row)) 31

/-- The encrypted bytes of user data of a length under a slot (R219). -/
def State.encryptedBytes (s : State) (slot user : Nat) : Nat :=
  let p := s.get (Reg.saParams slot)
  if bitOf p 27 then 0
  else match field p 29 28 with
    | 1 => user - 30
    | 2 => user - 50
    | _ => user

/-- The keystream blocks a frame needs: J0 and one for each 16 encrypted bytes (R217, R219). -/
def State.blocksNeeded (s : State) (slot user : Nat) : Nat := 1 + (s.encryptedBytes slot user + 15) / 16

/-- The bytes a protected frame grows by: SecTAG and ICV (R220). -/
def State.tagGrowth (s : State) (port : Nat) : Nat := if s.get (Reg.lcTxSciMode port) = 1 then 32 else 24

/-! ## Associations on the wire -/

/-- The AN of a slot (R254). -/
def State.slotAn (s : State) (row : Nat) : Nat := field (s.get (Reg.saParams row)) 25 24

/-- Key bits of a slot's suite (R250). -/
def State.slotBits (s : State) (row : Nat) : Nat := if bitOf (s.get (Reg.saParams row)) 30 then 256 else 128

/-- The 96-bit IV of a number under a slot (R219). -/
def State.ivOf (s : State) (row pn : Nat) : Nat :=
  if s.slotXpn row then (s.get (Reg.saSsci row) * 2 ^ 64 + pn) ^^^ s.get (Reg.slotSalt 0 row)
  else s.get (Reg.saChannelSci row) * 2 ^ 32 + pn

/-- How user data is split under a slot: the bytes left in the clear by integrity only or the confidentiality offset (R219). -/
def State.clearBytes (s : State) (row user : Nat) : Nat := user - s.encryptedBytes row user

/-- A protected frame as it leaves (R219, R220, R222): addresses, SecTAG, user data and ICV. -/
def State.seal (s : State) (row pn : Nat) (sc : Bool) (b : List Byte) : List Byte :=
  let user := b.drop 12
  let k := s.clearBytes row user.length
  let integrity := bitOf (s.get (Reg.saParams row)) 27
  let tag := secTagBytes sc (!integrity) (s.slotAn row) user.length pn (s.get (Reg.saChannelSci row))
  let head := b.take 12 ++ tag ++ user.take k
  let c := gcmData (s.slotBits row) (s.get (Reg.slotKey 0 row)) (s.ivOf row pn) (user.drop k)
  head ++ c ++ gcmTag (s.slotBits row) (s.get (Reg.slotKey 0 row)) (s.ivOf row pn) head c

/-- A protected frame opened (R219): the frame without SecTAG and ICV, and whether its ICV is right. -/
def State.unseal (s : State) (row pn : Nat) (b : List Byte) (tagLen : Nat) : List Byte × Bool :=
  let userLen := b.length - 12 - tagLen - 16
  let k := s.clearBytes row userLen
  let head := b.take (12 + tagLen + k)
  let c := (b.drop (12 + tagLen + k)).take (userLen - k)
  let bits := s.slotBits row
  let key := s.get (Reg.slotKey 0 row)
  let iv := s.ivOf row pn
  (b.take 12 ++ slice b (12 + tagLen) k ++ gcmData bits key iv c, gcmTag bits key iv head c == b.drop (b.length - 16))

/-! ## Octets on the wire -/

/-- A frame check sequence corrupted: the correct one inverted in every bit (R242). -/
def badFcs (b : List Byte) : List Byte := (fcsOf b).map (fun x => ~~~x)

/-- What a port sends of a copy, from destination address to ICV: its edits, then its protection under a slot and a number (R222, R230). -/
def State.wireBody (s : State) (e : Entry) (f : Frame) (row : Option (Nat × Nat)) : List Byte :=
  match row with
  | some (slot, pn) => s.seal slot pn (s.get (Reg.lcTxSciMode e.port) = 1) (egressBytes e f)
  | none => egressBytes e f

/-- The octets of a frame that ends with the corrupted FCS of R242. -/
def stomped (octets : List Byte) : List Byte :=
  let b := octets.take (octets.length - 4)
  b ++ badFcs b

/-- The octets of a frame that ends after some of them, with a corrupted FCS (R162, R225). -/
def cutShort (octets : List Byte) (n : Nat) : List Byte := octets.take n ++ badFcs (octets.take n)

end Sys2Proof.Machine
end

