-- ==== Sys2Proof/Machine/Sched.lean ====
section
/-! DEFINITION. Scheduled traffic (R186 to R198, R218, R222 to R231): gate lists, holds of preemptable traffic, and the
choice, start and end of frames on the wire. -/
namespace Sys2Proof.Machine

/-! ## Gate lists -/

/-- The clock of a port's schedule domain in nanoseconds (R187). -/
def State.gclNow (s : State) (n : Nat) : Nat := s.timeNs (s.get (Reg.gclDomain n))

/-- The row that follows a row of a port's list in one copy, and its start: the next row when the row ends, or row 0 at the next cycle
start, whichever the list and the cycle leave (R188). -/
def gclAfterIn (get : Reg → Nat) (n row start cycle : Nat) : Nat × Nat :=
  let e := start + get (Reg.gclInterval n row)
  let c := cycle + get (Reg.gclCycleTime n)
  if row + 1 < get (Reg.gclLength n) ∧ e < c then (row + 1, e) else (0, c)

/-- The row that follows a row of a port's active list, and its start (R188). -/
def State.gclAfter (s : State) (n row start cycle : Nat) : Nat × Nat := gclAfterIn s.get n row start cycle

/-- The first cycle start of a port's list in one copy at or after an instant (R188, R189). -/
def gclCycleIn (get : Reg → Nat) (n t : Nat) : Nat :=
  let c : Int := get (Reg.gclCycleTime n)
  let b : Int := get (Reg.gclBaseTime n)
  ((t : Int) + (b - t) % c).toNat

/-- The first cycle start of a port's active list at or after an instant (R188, R189). -/
def State.gclCycleAt (s : State) (n t : Nat) : Nat := gclCycleIn s.get n t

/-- A port's list is planned to start at its first cycle start at or after an instant (R189). -/
def State.gclPlan (s : State) (n t : Nat) : State :=
  s.sets [(Reg.gclPlanned n, 1), (Reg.gclNextRow n, 0), (Reg.gclNextAt n, s.gclCycleAt n t)]

/-! ## Preemption (R114, R195) -/

/-- The least octets of a fragment that is not the last (R109, R195). -/
def State.fragmentMin (s : State) (n : Nat) : Nat := 64 * (1 + s.get (Reg.portAddFragSize n).latched)

/-- Octets of a frame that the running fragment has carried up to an instant, after preamble and SMD. -/
def State.fragmentOctets (s : State) (n t : Nat) (w : Wire) : Nat := ((t - w.since) * s.macRate n + 7999999999) / 8000000000 - 8

/-- The uptime, plus 1, of the next point at which the MAC may preempt a frame: its fragment has its least octets, and 64 are left for the
last one; 0 when there is none (R195). -/
def State.preemptPoint (s : State) (n : Nat) (w : Wire) : Nat :=
  let k := max (s.fragmentMin n) (s.fragmentOctets n s.now w)
  if w.sent + k + 72 ≤ w.wireBytes then max s.now (w.since + s.octetPs n (8 + k)) + 1 else 0

/-- A frame on the wire of a port is asked to stop: by the hold, by an express frame that is sent or waits, or by its gate, unless a
hand-over closed that (R195, R196). -/
def State.stopAsked (s : State) (n : Nat) (w : Wire) : Bool :=
  s.get (Reg.holdState n) = 1 || s.get (Reg.expressWaits n) = 1 || s.wire.any (fun v => v.entry.port = n && v.express) ||
  (!s.gateIsOpen n (queueClass n w.entry.queue) && !w.overrun)

/-- A preemptable frame of a port that has come to the point at which it is preempted. -/
def State.stopsNow (s : State) (n : Nat) (w : Wire) : Bool :=
  w.entry.port = n && !w.express && !w.held && w.stopAt ≠ 0 && w.stopAt ≤ s.now + 1

/-- Frames that have come to the point at which they are preempted are held, each with a fragment sent (R195). -/
def State.holdDue (s : State) (n : Nat) : State :=
  let due := s.wire.filter (s.stopsNow n)
  let s : State := { s with wire := s.wire.map (fun w => if s.stopsNow n w then
      { w with held := true, split := true, sent := w.sent + s.fragmentOctets n (w.stopAt - 1) w, stopAt := 0 } else w) }
  due.foldl (fun s _ => s.count (Reg.pcntTxFragments n)) s

/-- A preemptable frame of a port is asked to stop at its next permitted point, goes on to be sent, or goes on after a hold (R195). -/
def State.askStop (s : State) (n : Nat) : State :=
  { s with wire := s.wire.map (fun w =>
      if w.entry.port = n && !w.express then
        if s.stopAsked n w then (if w.held || w.stopAt ≠ 0 then w else { w with stopAt := s.preemptPoint n w })
        else if w.held then { w with held := false, since := s.now } else { w with stopAt := 0 }
      else w) }

/-- A preemptable frame on the wire of a port is held, or goes on, as the hold, its gate and express frames decide (R195). -/
def State.rehold (s : State) (n : Nat) : State := (((s.settle n).holdDue n).askStop n).holdDue n

/-- The MAC merge hold of a port is requested (R195). -/
def State.requestHold (s : State) (n : Nat) : State :=
  if s.preemptActive n ∧ s.get (Reg.holdState n) = 0 then
    let s := s.settle n
    ((s.set (Reg.holdState n) 1).count (Reg.pcntTxHolds n)).rehold n
  else s

/-- The MAC merge hold of a port is released (R195). -/
def State.releaseHold (s : State) (n : Nat) : State :=
  let s := s.settle n
  (s.set (Reg.holdState n) 0).rehold n

/-- The gates of a port take a state: gates that open start a new opening (R194), and a held frame may go on. -/
def State.setGates (s : State) (n gates : Nat) : State :=
  let s := s.settle n
  let opened := (List.range 8).filter (fun c => bitOf gates c && !s.gateIsOpen n c)
  let s := opened.foldl (fun s c => s.sets [(Reg.noFitCounted n c, 0), (Reg.gateOpenedAt n c, s.now)]) s
  (s.set (Reg.gclOperGates n) gates).rehold n

/-- Frames in transmission whose gate the first row after a hand-over closes complete, and will be counted when they end (R196). -/
def State.markOverruns (s : State) (n gates : Nat) : State :=
  { s with wire := s.wire.map (fun w =>
      let c := queueClass n w.entry.queue
      if w.entry.port = n && !w.held && !bitOf gates c && s.gateIsOpen n c then
        { w with overrun := true }
      else w) }

/-- A row of a port's list starts (R186, R188, R195): the gates, the operation and the event of the row. -/
def State.gateEntry (s : State) (n : Nat) : State :=
  let row := s.get (Reg.gclNextRow n)
  let t := s.get (Reg.gclNextAt n)
  let s := if row = 0 then s.set (Reg.gclOperCycleStart n) t else s
  let nx := s.gclAfter n row t (s.get (Reg.gclOperCycleStart n))
  let s := s.sets [(Reg.gclOperEntry n, row), (Reg.gclNextRow n, nx.1), (Reg.gclNextAt n, nx.2)]
  let s := match s.get (Reg.gclOp n row) with
    | 1 => s.requestHold n
    | 2 => s.releaseHold n
    | _ => s
  let s := if s.get (Reg.gclFresh n) = 1 then (s.markOverruns n (s.get (Reg.gclGates n row))).set (Reg.gclFresh n) 0 else s
  let s := s.setGates n (s.get (Reg.gclGates n row))
  if s.get (Reg.gclEvent n row) = 1 then s.pulse 0x03 n else s

/-- A running list stops with its domain (R192): every gate opens and a hold it requested ends (log entry 14). Only the active
copy of `Gcl.Enable` changes. -/
def State.gclStop (s : State) (n : Nat) : State :=
  let s := s.pendSet (Reg.gclEnable n) (s.pendGet (Reg.gclEnable n))
  let s := (s.sets [(Reg.gclEnable n, 0), (Reg.gclPlanned n, 0)]).count (Reg.scntDomainStops n)
  (s.releaseHold n).setGates n 0xFF

/-- The list of a port runs on a powered device. -/
def State.gclLive (s : State) (n : Nat) : Bool :=
  s.forwarding && s.hasPort n && s.get (Reg.gclEnable n) = 1 && s.get (Reg.gclPlanned n) = 1

/-- GATE_ENTRY_START (R188): the next row starts when the clock of the schedule domain reaches its instant. -/
def execGateEntryStart (port : Nat) (s : State) : Host.Outcome State Fault Refusal :=
  if s.gclLive port ∧ s.get (Reg.gclNextAt port) ≤ s.gclNow port then .next (s.gateEntry port) else .next s

/-- The head entry of a class at a port: P37 serves four queues a class (R161, R193). -/
def State.headOf (s : State) (n c : Nat) : Option Entry :=
  s.entries.find? (fun e => e.port = n && queueClass n e.queue = c)

/-- A head frame may start (R171, R243): eligible, or cut-through, whose verdict is waited for below 5 Gbit/s. -/
def State.mayStart (s : State) (f : Frame) : Bool :=
  f.eligible || (f.cutThrough && (f.verdictDone || 5000000 ≤ s.macRate f.ingress))

/-! ## Rows ahead (R101, R189, R195, R223) -/

/-- A row of a list that starts ahead: its gates, its operation, and its start. -/
structure RowAhead where
  gates : Nat
  op : Nat
  start : Nat
deriving DecidableEq, Repr

/-- The rows of a port's list in one copy that start no later than an instant, from a given one on. -/
def rowsIn (get : Reg → Nat) (n limit : Nat) : Nat → Nat → Nat → Nat → List RowAhead
  | 0, _, _, _ => []
  | k + 1, row, t, cycle =>
    if limit < t then []
    else
      let nx := gclAfterIn get n row t cycle
      ⟨get (Reg.gclGates n row), get (Reg.gclOp n row), t⟩ :: rowsIn get n limit k nx.1 nx.2 (if nx.1 = 0 then nx.2 else cycle)

/-- The armed commit of a port's list. -/
def State.gclArm (s : State) (n : Nat) : Option Arm := s.armed.find? (fun a => a.owner = ⟨.gcl, n⟩ && a.kindle)

/-- Rows of at least 16 ns that start within a time (R186). -/
abbrev rowsWithin (ahead : Nat) : Nat := ahead / 16 + 2

/-- The rows of the running list that start within a time ahead, each with the nanoseconds until its start. -/
def State.rowsRunning (s : State) (n ahead : Nat) : List RowAhead :=
  if s.gclLive n then
    (rowsIn s.get n (s.gclNow n + ahead) (rowsWithin ahead) (s.get (Reg.gclNextRow n)) (s.get (Reg.gclNextAt n))
      (s.get (Reg.gclOperCycleStart n))).map (fun r => { r with start := r.start - s.gclNow n })
  else []

/-- The rows of a list armed for a time `k` ns ahead that start within a time ahead, as its pending copy has them (R189). -/
def State.rowsArmed (s : State) (n ahead k : Nat) : List RowAhead :=
  if s.pendGet (Reg.gclEnable n) = 1 then
    let t := s.timeNs (s.pendGet (Reg.gclDomain n))
    let c := gclCycleIn s.pendGet n (t + k)
    (rowsIn s.pendGet n (t + ahead) (rowsWithin ahead) 0 c c).map (fun r => { r with start := r.start - t })
  else []

/-- The rows that start at a port within a time ahead: those of the running list up to a hand-over that is armed, and from 640 ns before
it on those of the pending copy (R101, R189). -/
def State.rowsAhead (s : State) (n ahead : Nat) : List RowAhead :=
  match s.gclArm n with
  | none => s.rowsRunning n ahead
  | some a =>
    let k := a.time - s.timeNs a.domain
    (s.rowsRunning n ahead).filter (fun r => r.start < k) ++ (if k ≤ 640 then s.rowsArmed n ahead k else [])

/-- The gates that each of the rows ahead opens, after gates in force. -/
def openings : Nat → List RowAhead → List Nat
  | _, [] => []
  | g, r :: t => (r.gates &&& (g ^^^ 0xFF)) :: openings r.gates t

/-- The entry of a class that is the next to be taken at a port, when it may start: one in transmission is taken already. -/
def State.readyHead (s : State) (n c : Nat) : Option Entry :=
  (s.entries.find? (fun e => e.port = n && queueClass n e.queue = c && !e.inTx)).filter
    (fun e => (s.frame? e.frame).any (fun f => s.mayStart f))

/-- The entry that is to be taken next among the classes of a mask, the highest first. -/
def State.readyAmong (s : State) (n mask : Nat) : Option Entry :=
  ([7, 6, 5, 4, 3, 2, 1, 0].filter (bitOf mask)).findSome? (s.readyHead n)

/-- GATE_NOTICE (R101, R189): 640 ns ahead of an opening, the eligible head frame of the highest class that opens is staged. -/
def execGateNotice (port : Nat) (s : State) : Host.Outcome State Fault Refusal :=
  match (openings (s.get (Reg.gclOperGates port)) (s.rowsAhead port 640)).findSome? (s.readyAmong port) with
  | some e => .next { s with entries := s.entries.map (fun a => if a.same e then { a with staged := true } else a) }
  | none => .next s

/-- HOLD_REQUEST (R195): at `Sched.HoldAdvance` before an operation-1 row the hold is requested. -/
def execHoldRequest (port : Nat) (s : State) : Host.Outcome State Fault Refusal :=
  if (s.rowsAhead port (s.get (Reg.schedHoldAdvance port))).any (fun r => r.op = 1) then .next (s.requestHold port) else .next s

/-- HOLD_RELEASE (R195): at `Sched.ReleaseAdvance` before an operation-2 row the hold is released. -/
def execHoldRelease (port : Nat) (s : State) : Host.Outcome State Fault Refusal :=
  if (s.rowsAhead port (s.get (Reg.schedReleaseAdvance port))).any (fun r => r.op = 2) then .next (s.releaseHold port) else .next s

/-! ## The next closing of a gate (R194) -/

/-- The start of the first row, from a given one on, that closes a class, looked for over a number of rows and up to a
limit. -/
def State.closingFrom (s : State) (n c limit : Nat) : Nat → Nat → Nat → Nat → Option Nat
  | 0, _, _, _ => none
  | k + 1, row, t, cycle =>
    if limit < t then none
    else if !bitOf (s.get (Reg.gclGates n row)) c then some t
    else
      let cycle := if row = 0 then t else cycle
      let nx := s.gclAfter n row t cycle
      s.closingFrom n c limit k nx.1 nx.2 cycle

/-- The next instant at which the gate of a class closes, within one whole cycle; none when it stays open (R194). -/
def State.nextClosing (s : State) (n c : Nat) : Option Nat :=
  if s.gclLive n then
    s.closingFrom n c (s.gclNow n + s.get (Reg.gclCycleTime n)) (s.get (Reg.gclLength n) + 1) (s.get (Reg.gclNextRow n))
      (s.get (Reg.gclNextAt n)) (s.get (Reg.gclOperCycleStart n))
  else none

/-- A number of wire bytes fits before the next closing of a class at the port's MAC rate, to the sixteenth of a nanosecond (R194). -/
def State.fitsGate (s : State) (n c bytes : Nat) : Bool :=
  match s.nextClosing n c with
  | none => true
  | some t => bytes * 128000000 ≤ (t * 16 - s.clock (s.get (Reg.gclDomain n))) * s.macRate n

/-- `Sched.PreemptMask` in force at a port: as the frame boundary before a frame in transmission left it (R187). -/
def State.preemptMask (s : State) (n : Nat) : Nat :=
  if s.wire.any (fun w => w.entry.port = n) then s.get (Reg.schedPreemptMask n).latched else s.get (Reg.schedPreemptMask n)

/-- A class is express: its bit of `Sched.PreemptMask` in force is 0, or the port has no active preemption (R194). -/
def State.isExpress (s : State) (n c : Nat) : Bool := !bitOf (s.preemptMask n) c || !s.preemptActive n

/-- What protects a copy that leaves a port now: a number prepared at the port serves it whatever became of its slot (R222, R226, R262). -/
def State.guardNow (s : State) (port : Nat) (f : Frame) : Guard :=
  match s.guard port f with
  | .clear => .clear
  | g => match s.prep.find? (fun p => p.port = port) with
    | some p => .secure p.slot
    | none => g

/-! ## Reservations (R223 to R227, R262, R263) -/

/-- A candidate that finds its slot exhausted starts the hold of its channel (R262). -/
def State.startHold (s : State) (c : Nat) : State :=
  if s.get (Reg.chHolding c) = 1 then s else s.sets [(Reg.chHolding c, 1), (Reg.chHoldAt c, s.now)]

/-- A head frame of which the channel has no use is removed and counted (R262). -/
def State.removeHead (s : State) (e : Entry) (g : Guard) : State :=
  match g with
  | .noSa => (s.dropEntry e Reg.lcTxGapRemoved).count (Reg.scpTxNoSaDrops e.port)
  | .exhausted slot =>
    ((s.dropEntry e Reg.lcTxGapRemoved).count (Reg.saExhaustDrops slot)).count (Reg.scpTxExhaustDrops e.port)
  | .hold c => s.startHold c
  | _ => s

/-- The last number of an association (R266). -/
def State.lastPn (s : State) (slot : Nat) : Nat := if s.slotXpn slot then 2 ^ 64 - 1 else 2 ^ 32 - 1

/-- A transmit slot reaches its last number: state 5, the event, and the takeover by a standby slot with bit 30, which
counts as a hand-over of the slot table (R255, R263, R266). -/
def State.exhaustSlot (s : State) (slot : Nat) : State :=
  let s := (s.set (Reg.saState slot) 5).saEvent 2 slot
  let other := if slot % 2 = 0 then slot + 1 else slot - 1
  if s.get (Reg.saState other) = 2 ∧ bitOf (s.get (Reg.saControl other)) 30 then
    (s.makeCurrent other).handedOver ⟨.saRow, 0⟩
  else s

/-- The next number of a slot reserved for an entry of a port (R224, R266). -/
def State.reserve (s : State) (e : Entry) (slot coldAt : Nat) : State :=
  let pn := s.get (Reg.saNextPn slot)
  let s : State := { s with
    prep := s.prep ++ [{ port := e.port, slot := slot, pn := pn, queue := e.queue, frame := e.frame, coldAt := coldAt }],
    entries := s.entries.map (fun a => if a.same e then { a with pnReserved := true } else a) }
  let s := s.set (Reg.saNextPn slot) (min (pn + 1) (2 ^ 64 - 1))
  let s := if pn = s.get (Reg.saPnThreshold slot) then s.saEvent 0 slot else s
  if pn = s.lastPn slot then s.exhaustSlot slot else s

/-- The prepared buffer of a port bound to another entry (R226). -/
def State.rebind (s : State) (e : Entry) : State :=
  match s.prep.find? (fun p => p.port = e.port) with
  | none => s
  | some old =>
    { s with
      prep := s.prep.map (fun p => if p.port = e.port then { p with queue := e.queue, frame := e.frame } else p),
      entries := s.entries.map (fun a =>
        if a.same e then { a with pnReserved := true }
        else if a.port = old.port && a.queue = old.queue && a.frame = old.frame then { a with pnReserved := false } else a) }

/-! ## Errors in the buffer structures at a read (R162) -/

/-- The frame loses its cells beyond the first `kept`: no list reaches them any more. -/
def State.cutChain (s : State) (id kept : Nat) : State :=
  match s.frame? id with
  | some f =>
    let gone := f.chain.drop kept
    ({ s with lostCells := s.lostCells ++ gone } : State).set Reg.bufLostCells (s.get Reg.bufLostCells + gone.length) |>.updFrame id
      (fun f => { f with bytes := f.bytes.take (64 * kept), chain := f.chain.take kept })
  | none => s

/-- The chain of a frame is not trusted any more: its cells are lost, and the entries that remain end like the one that met the error. -/
def State.loseChain (s : State) (id : Nat) : State :=
  match s.frame? id with
  | some f =>
    ({ s with lostCells := s.lostCells ++ f.chain } : State).set Reg.bufLostCells (s.get Reg.bufLostCells + f.chain.length) |>.updFrame id
      (fun f => { f with chain := [], untrusted := true })
  | none => s

/-- An uncorrectable error is counted and reported (R162). -/
def State.eccReport (s : State) (inst : Nat) : State :=
  (s.count Reg.bufEccUncorrected).reportObj 1 0 0x2500 0x21 inst

/-! ## Starting a frame (R193 to R197, R218, R225, R226) -/

/-- What the scheduler makes of the head of one class. -/
inductive Pick where
  /-- The class takes no part. -/
  | skip
  /-- The head does not fit before its gate closes. -/
  | noFit
  /-- The head is held or removed for its channel. -/
  | turned (e : Entry) (g : Guard)
  /-- The head may start. -/
  | start (e : Entry) (f : Frame) (g : Guard)
deriving DecidableEq, Repr

/-- The bytes on the wire of a copy, from preamble to FCS (R194). -/
def State.wireLength (s : State) (e : Entry) (f : Frame) (g : Guard) : Nat :=
  8 + (egressBytes e f).length + 4 + (match g with | .secure _ => s.tagGrowth e.port | _ => 0)

/-- The head of a class in the choice of the next frame (R193 to R195, R113). -/
def State.pickClass (s : State) (n c : Nat) : Pick :=
  if !s.gateIsOpen n c || s.paused n c || (s.get (Reg.cbsIdleSlope n c) ≠ 0 && toSigned 32 (s.get (Reg.cbsCredit n c)) < 0) then
    .skip
  else match s.headOf n c with
    | none => .skip
    | some e => match s.frame? e.frame with
      | none => .skip
      | some f =>
        if e.inTx || !s.mayStart f then .skip
        else
          let g := s.guardNow n f
          let express := s.isExpress n c
          let len := s.wireLength e f g
          let first := if express then len else min len (8 + s.fragmentMin n + 4)
          if !express && (s.get (Reg.holdState n) = 1 || s.wire.any (fun w => w.entry.port = n)) then .skip
          else match g with
            | .clear => if s.fitsGate n c first then .start e f g else .noFit
            | .secure _ => if s.fitsGate n c first then .start e f g else .noFit
            | _ => .turned e g

/-- A class whose head does not fit is counted once in a gate opening (R194). -/
def State.countNoFit (s : State) (n c : Nat) : State :=
  if s.get (Reg.noFitCounted n c) = 1 then s else (s.set (Reg.noFitCounted n c) 1).count (Reg.scntNoFit n)

/-- The highest class that takes part, and the state after the classes above it were looked at. A head that its channel
holds is passed over; one that its channel removes ends the choice (R193, R194, R262). -/
def State.pick (s : State) (n : Nat) : List Nat → Pick × State
  | [] => (.skip, s)
  | c :: cs =>
    match s.pickClass n c with
    | .skip => s.pick n cs
    | .noFit => (s.countNoFit n c).pick n cs
    | .turned _ (.hold ch) => (s.startHold ch).pick n cs
    | p => (p, s)

/-- The grant that a started frame holds until its last block is released, in Mbit/s (R218). -/
def State.grantFor (s : State) (n blocks needed : Nat) : Nat := if needed ≤ blocks then 0 else s.macRate n / 1000

/-- A frame has no grant to wait for: it needs none, or it fits the capacity and no other deferred frame goes before it, when it is
deferred itself (R218). -/
def State.grantFits (s : State) (n len blocks needed : Nat) (waits : Bool) : Bool :=
  (len ≤ 2048 && needed ≤ blocks) || (s.get Reg.lcTxGranted + s.macRate n / 1000 ≤ s.get Reg.lcTxCapacity && !waits)

/-- The number prepared for an entry is used (R227). -/
def State.useNumber (s : State) (e : Entry) : State :=
  { s with prep := s.prep.filter (fun p => !(p.port = e.port && p.queue = e.queue && p.frame = e.frame)) }

/-- Another deferred frame is served before one of a port (R218): of higher rank, then of the earlier gate instant, then of
the lower port. -/
def State.deferredBefore (s : State) (e : Entry) : Bool :=
  let c := queueClass e.port e.queue
  s.entries.any (fun a => a.deferred && !a.inTx && a.port ≠ e.port &&
    (let k := queueClass a.port a.queue
     let ra := s.rankOf k
     let re := s.rankOf c
     let ta := s.get (Reg.gateOpenedAt a.port k)
     let te := s.get (Reg.gateOpenedAt e.port c)
     re < ra || (re = ra && (ta < te || (ta = te && a.port < e.port)))))

/-- The boundary settings of a port take force at a frame start (R187, R231, R245). -/
def State.frameBoundary (s : State) (n : Nat) : State :=
  s.latch ([Reg.schedPreemptMask n] ++ (if n < 37 then [Reg.lcTxChannel n, Reg.lcTxSciMode n] else []))

/-- How far the counter that a port's timestamp unit takes its time from is ahead of the master local counter: P32 to P36 take it from
the follower counter (R14, R80, R83). -/
def State.stampSkew (s : State) (port : Nat) : Int :=
  if port < 32 then 0 else (s.get Reg.followerCounter : Int) - s.get Reg.localCounter

/-- The clocks of domains 0 to 3 and of the local counter at the message timestamp point of a frame that starts now at a port: by the
counter of the port, after its preamble and start delimiter, and moved by the board delay (R80, R93; log entry 156). -/
def State.txClocks (s : State) (port : Nat) : List Nat :=
  [0, 1, 2, 3, 4].map (fun d => (((s.clock d : Int) + s.stampSkew port + (s.octetPs port 8 * 16 / 1000 : Nat) +
    toSigned 16 (s.get (Reg.txDelay port))) %
    (2 ^ 68 : Int)).toNat)

/-- A frame goes on the wire (R161, R193, R225): its entry is in transmission, its number used, its grant taken. -/
def State.launch (s : State) (e : Entry) (f : Frame) (w : Wire) : State :=
  let s := (s.settle e.port).frameBoundary e.port
  let s : State := { s with
    entries := s.entries.map (fun a => if a.same e then { a with inTx := true, deferred := false } else a),
    wire := s.wire ++ [{ w with entry := { e with inTx := true, deferred := false }, start := s.now, since := s.now,
                                clocks := s.txClocks e.port }],
    prep := if w.encrypted then s.prep.filter (fun p => p.port ≠ e.port) else s.prep }
  let s := s.set Reg.lcTxGranted (s.get Reg.lcTxGranted + w.grant)
  let s := if w.encrypted then (s.count (Reg.lcTxProtected e.port)).count (Reg.saFrames w.slot) else s.count (Reg.lcTxClear e.port)
  let s := if f.cutThrough then s.count (Reg.scntCutThrough e.port) else s
  if w.express then (s.set (Reg.expressWaits e.port) 0).rehold e.port else s

/-- A deferred start is counted once for its frame (R218). -/
def State.defer (s : State) (e : Entry) : State :=
  if e.deferred then s
  else ({ s with entries := s.entries.map (fun a => if a.same e then { a with deferred := true } else a) } : State).count
    (Reg.lcTxDeferred e.port)

/-- The fabric cycles from a cold selection to the earliest start (R225). -/
abbrev coldCycles : Nat := 38

/-- A selected protected frame starts when its buffer holds what R225 asks and its grant is held; without a prepared buffer
it reserves now and starts later. -/
def State.startSecure (s : State) (e : Entry) (f : Frame) (slot : Nat) (express : Bool) : State :=
  let len := (egressBytes e f).length
  match s.prep.find? (fun p => p.port = e.port) with
  | none =>
    if 2 ≤ (s.wire.filter (fun w => w.entry.port = e.port && w.encrypted)).length then s
    else (s.reserve e slot (s.now + s.fabricPs coldCycles)).count (Reg.lcTxColdStarts e.port)
  | some p =>
    let bound := p.queue = e.queue && p.frame = e.frame
    let s := if bound then s else (s.rebind e).count (Reg.lcTxSwaps e.port)
    let needed := s.blocksNeeded p.slot (len - 12)
    if s.now < p.coldAt ∨ p.blocks < min needed 33 then s
    else if ¬ s.grantFits e.port len p.blocks needed (e.deferred && s.deferredBefore e) then s.defer e
    else s.launch e f { entry := e, express := express, wireBytes := s.wireLength e f (.secure slot), encrypted := true,
                        slot := p.slot, pn := p.pn, blocks := p.blocks, needed := needed,
                        grant := s.grantFor e.port p.blocks needed,
                        octets := (fun b => b ++ fcsOf b) (s.wireBody e f (some (p.slot, p.pn))) }

/-- A selected frame starts, with what an error in the buffer structures makes of it (R162): 1 corrected, 2 cell data, 3 the
link word of cell `cell`, 4 its queue entry, 5 a descriptor whose chain is not trusted. -/
def State.startPicked (s : State) (e : Entry) (f : Frame) (g : Guard) (ecc cell : Nat) : State :=
  let express := s.isExpress e.port (queueClass e.port e.queue)
  let go := fun (s : State) => match g with
    | .secure slot => s.startSecure e f slot express
    | _ => s.launch e f { entry := e, express := express, wireBytes := s.wireLength e f g,
                          octets := (fun b => b ++ fcsOf b) (s.wireBody e f none) }
  match (if f.untrusted then 5 else ecc) with
  | 1 => go (s.count Reg.bufEccCorrected)
  | 2 => go ((s.eccReport e.port).updFrame e.frame (fun f => { f with stomp := true, stompCause := 1 }))
  | 3 =>
    let s := go (s.eccReport e.port)
    if s.wire.any (fun w => w.entry.same e) then
      let s := (s.entries.filter (fun a => a.frame = e.frame && !a.inTx)).foldl (fun s a => s.dropEntry a Reg.lcTxGapRemoved) s
      let kept := min (cell + 1) (cellsOf f.bytes.length)
      let tag := match g with | .secure _ => s.tagGrowth e.port - 16 | _ => 0
      let ends := 64 * kept + tag + (egressBytes e f).length - f.bytes.length
      let s : State := { s with wire := s.wire.map (fun w => if w.entry.same e then
        { w with broken := true, octets := cutShort w.octets ends } else w) }
      s.cutChain e.frame kept
    else s
  | 4 => ((s.eccReport e.port).dropEntry e Reg.lcTxGapRemoved).count (Reg.qcntErrorDrops e.port)
  | 5 =>
    (((s.eccReport e.port).loseChain e.frame).dropEntry e Reg.lcTxGapRemoved).count (Reg.qcntErrorDrops e.port)
  | _ => go s

/-- A port may start a frame: it is live, its link is up and no frame runs on its wire; an express frame may also preempt
one of a port with active preemption (R195, R226). The Chimney link carries the frames of P32 to P36 (R384). -/
def State.wireFree (s : State) (n : Nat) : Bool :=
  s.forwarding && (n < 32 || s.get Reg.chmState = 1 || s.get Reg.chmState = 3) && s.portLive n && s.linkUp n && !s.wire.any (fun w => w.entry.port = n && w.express) &&
  (s.preemptActive n || !s.wire.any (fun w => w.entry.port = n))

/-- A frame on the wire reached a byte whose keystream was not released (R225). -/
def Wire.starved (w : Wire) : Bool := w.encrypted && w.blocks < w.needed

/-- What a frame whose transmission ends put on the wire (R162, R225, R242): cut short at a failed link word or at a byte whose keystream
was not released, stomped, or whole. -/
def State.octetsSent (s : State) (w : Wire) (f : Frame) : List Byte :=
  if w.broken then w.octets
  else if w.starved then
    let user := w.octets.length - 4 - 12 - s.tagGrowth w.entry.port
    cutShort w.octets (12 + (s.tagGrowth w.entry.port - 16) + s.clearBytes w.slot user + 16 * (w.blocks - 1))
  else if f.stomp then stomped w.octets
  else w.octets

/-- What a frame put on the wire is what its port sent last; the gap behind it belongs to it (R197). -/
def State.sentOut (s : State) (w : Wire) (f : Frame) : State :=
  let n := w.entry.port
  { s.settleTo n (s.now + s.octetPs n 12) with
    egress := s.egress.filter (fun x => x.port ≠ n) ++ [⟨n, s.octetsSent w f, w.clocks⟩] }

/-- The counts of a frame whose transmission ends: whole, stomped by the cause of the stomp, starved or cut at a failed
link word (R123, R162, R202, R212, R225, R242). -/
def State.countSent (s : State) (w : Wire) (f : Frame) : State :=
  let n := w.entry.port
  let s := if w.split then s.count (Reg.pcntTxFragments n) else s
  let s := if w.overrun then s.count (Reg.scntOverruns n) else s
  if w.broken then s.count (Reg.pcntTxStomped n)
  else if w.starved then (s.count (Reg.lcTxStarved n)).count (Reg.pcntTxStomped n)
  else
    let s := (s.count (Reg.pcntTxFrames n)).count (Reg.pcntTxOctets n) 64 (w.wireBytes - 8)
    if f.stomp then
      let s := s.count (Reg.pcntTxStomped n)
      if f.stompCause = 1 then s.count (Reg.qcntErrorStomps n) else s.count (Reg.scntCutThroughStomps n)
    else s

/-- The verdict of a cut-through frame has yet to reach its descriptor, which it does before the read point of any copy (R18, R243). -/
def Frame.verdictDue (f : Frame) : Bool := f.cutThrough && !f.verdictDone

/-- A frame that runs on the wire of a port ends: its frame boundary, its octets, its counts and its end (R187, R218, R242). -/
def State.finish (s : State) (w : Wire) (f : Frame) : State :=
  ((((s.sentOut w f).countSent w f).endWire w).frameBoundary w.entry.port).rehold w.entry.port

/-- FRAME_TRANSMIT_END (R218): the frame that runs on the port's wire ends; its grant and buffer are released, its copy
ends, and a held frame goes on when nothing holds it. A cut-through frame ends after its verdict (R18, R243). -/
def execFrameTransmitEnd (port : Nat) (s : State) : Host.Outcome State Fault Refusal :=
  let s := s.holdDue port
  match s.wire.find? (fun w => w.entry.port = port && !w.held) with
  | some w =>
    match s.frame? w.entry.frame with
    | some f => .next (if f.verdictDue then s else s.finish w f)
    | none => .next ((s.endWire w).rehold port)
  | none => .next s

end Sys2Proof.Machine
end

