-- ==== Sys2Proof/Machine/Streams.lean ====
section
/-! DEFINITION. The stream stages (R199 to R208): identification, maximum size, stream gate, flow meter, recovery. -/
namespace Sys2Proof.Machine

/-- The VID of a frame at its ingress: the outer VID, or `Fdb.PortVid` when it is untagged; VID 1 for P37 (R177, R201). -/
def State.ingressVid (s : State) (port : Nat) (h : Hdr) : Nat :=
  if h.tagCount ≠ 0 then h.outerVid else if port = 37 then 1 else s.get (Reg.fdbPortVid port)

/-- The ingress VID from which the database learns: `Fdb.PortVid` for untagged and priority-tagged frames (R180, R184). -/
def State.learnVid (s : State) (port : Nat) (h : Hdr) : Nat :=
  if h.tagCount ≠ 0 ∧ h.outerVid ≠ 0 then h.outerVid else s.get (Reg.fdbPortVid port)

/-- Whether a stream identification row matches a frame (R201). -/
def State.sidMatches (s : State) (row port : Nat) (h : Hdr) : Bool :=
  let mv := s.get (Reg.sidMacVid row)
  let vid := field mv 59 48
  let vidOk := vid = 0 || vid = s.ingressVid port h
  let ip := s.get (Reg.sidIpHi row) * 2 ^ 64 + s.get (Reg.sidIpLo row)
  let l4 := s.get (Reg.sidL4 row)
  bitOf (s.get (Reg.sidPorts row)) port &&
  match s.get (Reg.sidType row) with
  | 1 => field mv 47 0 = h.da && vidOk
  | 2 => field mv 47 0 = h.sa && vidOk
  | 3 => (h.ipv4 || h.ipv6) && h.l4 && ip = h.dstIp && field l4 31 24 = h.proto && field l4 15 0 = h.dport
  | 4 => (h.ipv4 || h.ipv6) && ip = h.dstIp && field l4 23 18 = h.dscp
  | _ => false

/-- The stream of a frame: the matching row with the lowest index (R201). -/
def State.streamOf (s : State) (port : Nat) (h : Hdr) : Option Nat :=
  ((s.regs.filter (fun e => e.1.grp = .sid && e.1.sub = 0x10 && e.1.bank = 0)).map (·.1.row)).foldl
    (fun best r => if s.sidMatches r port h then
      match best with
      | none => some r
      | some b => some (min b r)
    else best) none

/-- The colours of the flow meter (R204). -/
inductive Colour where
  | green | yellow | red
deriving DecidableEq, Repr

/-- One byte in the units of the meter buckets: 1 kbit/s for one sixteenth of a nanosecond is one unit (R204). -/
abbrev bucketUnit : Nat := 128000000

/-- The two-rate three-colour meter on a frame (R204): the buckets fill for the time since the reference, at most to their
burst sizes; with coupling the overflow of C fills E. -/
def State.meter (s : State) (row ts len : Nat) : Colour × State :=
  let ref := s.get (Reg.fmRef 0 row)
  let dt := ts - ref
  let ctl := s.get (Reg.fmControl row)
  let capC := s.get (Reg.fmCbs row) * bucketUnit
  let capE := s.get (Reg.fmEbs row) * bucketUnit
  let c := s.get (Reg.fmC 0 row) + s.get (Reg.fmCir row) * dt
  let surplus := if bitOf ctl 0 then c - capC else 0
  let c := min c capC
  let e := min (s.get (Reg.fmE 0 row) + s.get (Reg.fmEir row) * dt + surplus) capE
  let l := len * bucketUnit
  let s := s.set (Reg.fmRef 0 row) (max ref ts)
  let marked := s.get (Reg.fmMarkedRed row) = 1
  if !marked && l ≤ c then
    (.green, (s.sets [(Reg.fmC 0 row, c - l), (Reg.fmE 0 row, e)]).count (Reg.fmGreen row))
  else if !marked && l ≤ e then
    (.yellow, (s.sets [(Reg.fmC 0 row, c), (Reg.fmE 0 row, e - l)]).count (Reg.fmYellow row))
  else
    let s := (s.sets [(Reg.fmC 0 row, c), (Reg.fmE 0 row, e)]).count (Reg.fmRed row)
    (.red, if bitOf ctl 2 then s.set (Reg.fmMarkedRed row) 1 else s)

/-- Whether the meter drops a colour: red always, yellow when bit 1 is set (R204). -/
def State.meterDrops (s : State) (row : Nat) (c : Colour) : Bool :=
  match c with
  | .red => true
  | .yellow => bitOf (s.get (Reg.fmControl row)) 1
  | .green => false

/-- A stream gate is open for a time of its domain (R203). -/
def State.gateOpen (s : State) (row : Nat) (f : Frame) : Bool :=
  let d := s.get (Reg.sgControl row) / 64
  s.get (Reg.sgClosedInvalid row) = 0 &&
  match s.get (Reg.sgMode row) with
  | 0 => true
  | 2 =>
    let t := (f.clocks.getD d 0 / 16 : Nat)
    let o := (((t : Int) - s.get (Reg.sgBaseTime row)) % (s.get (Reg.sgCycleTime row) : Int)).toNat
    s.get (Reg.domEnable d) = 1 && s.get (Reg.sgOpenOffset row) ≤ o &&
      o < s.get (Reg.sgOpenOffset row) + s.get (Reg.sgOpenLength row)
  | _ => false

/-- Zero bits of a history among bits `lo` to `hi - 1` that lie below a span (R206). -/
def lostBits (hist lo hi span : Nat) : Nat :=
  ((List.range hi).filter (fun b => lo ≤ b && b < span && !bitOf hist b)).length

/-- The reset timer of a recovery function runs anew (R206). -/
def State.srTimer (s : State) (row : Nat) : State :=
  s.set (Reg.srDeadline 0 row) (s.now + field (s.get (Reg.srConfig row)) 15 0 * ms)

/-- A recovery function passes or discards a sequence number (R206). -/
def State.recover (s : State) (row seq : Nat) : Bool × State :=
  let cfg := s.get (Reg.srConfig row)
  let len := field cfg 22 16
  let pass := fun (s : State) => (true, (s.count (Reg.srPassed row)).srTimer row)
  let rs := s.get (Reg.srRecovSeq row)
  if s.get (Reg.srLive 0 row) = 0 then
    pass (s.sets [(Reg.srRecovSeq row, seq), (Reg.srHistory row, 1), (Reg.srSpan 0 row, 1), (Reg.srLive 0 row, 1)])
  else
    let delta : Int := ((seq : Int) - rs + 32768) % 65536 - 32768
    if bitOf cfg 30 then
      if delta = 0 then (false, s.count (Reg.srDiscarded row))
      else
        let s := if delta ≠ 1 then s.count (Reg.srOutOfOrder row) else s
        pass (s.set (Reg.srRecovSeq row) seq)
    else if (len : Int) ≤ delta ∨ delta ≤ -(len : Int) then (false, s.count (Reg.srRogue row))
    else if delta ≤ 0 then
      let b := (-delta).toNat
      if bitOf (s.get (Reg.srHistory row)) b then (false, s.count (Reg.srDiscarded row))
      else pass ((s.set (Reg.srHistory row) (setBit (s.get (Reg.srHistory row)) b true)).count (Reg.srOutOfOrder row))
    else
      let d := delta.toNat
      let span := s.get (Reg.srSpan 0 row)
      let s := s.count (Reg.srLost row) 64 (lostBits (s.get (Reg.srHistory row)) (len - d) len span)
      let s := s.sets [(Reg.srHistory row, (s.get (Reg.srHistory row) * 2 ^ d + 1) % 2 ^ len),
        (Reg.srSpan 0 row, min len (span + d)), (Reg.srRecovSeq row, seq)]
      let s := if d ≠ 1 then s.count (Reg.srOutOfOrder row) else s
      pass s

/-- What the stream stages decide of a frame: dropped, or passed on with its stream and a class that a gate gave. -/
structure StreamResult where
  drop : Bool := false
  stream : Option Nat := none
  cls : Option Nat := none
  /-- The frame exceeds its stream's size: it is stomped if it goes cut-through (R202). -/
  oversize : Bool := false
deriving DecidableEq, Repr

/-- The recovery step of a frame (R206): passed, or discarded. -/
def State.recoverStep (s : State) (id row : Nat) (h : Hdr) : Bool × State :=
  let cfg := s.get (Reg.srConfig row)
  if !bitOf cfg 31 then (true, s)
  else if !h.rtag then (bitOf cfg 29, s.count (Reg.srTagless row))
  else
    let r := s.recover row h.rtagSeq
    if r.1 then
      (true, { r.2 with verdicts := r.2.verdicts.map (fun v => if v.frame = id then
        { v with recovered := true, recoveryRow := row, recoverySeq := h.rtagSeq, recoveryEpoch := r.2.get (Reg.srEpoch 0 row) }
        else v) })
    else r

/-- The meter step of a frame (R204). -/
def State.meterStep (s : State) (f : Frame) (row sid : Nat) : Bool × State :=
  let m := s.meter row (f.clocks.getD 4 0) (f.bytes.length + 4)
  if m.2.meterDrops row m.1 then (false, m.2.count (Reg.sidMeterDrops sid)) else (true, m.2)

/-- A frame exceeds the maximum SDU of a stream (R202). -/
def State.sduExceeded (s : State) (row : Nat) (f : Frame) : Bool :=
  let m := field (s.get (Reg.sidFilter row)) 15 0
  m ≠ 0 && m < f.bytes.length

/-- The stream has the express bit (R200). -/
def State.sidExpress (s : State) (row : Nat) : Bool := bitOf (s.get (Reg.sidControl row)) 31

/-- A frame of a stream is dropped or stomped by the SDU check or by the block (R202). -/
def State.sduFault (s : State) (row : Nat) (f : Frame) : State :=
  let s := s.count (Reg.sidSduDrops row)
  if s.sduExceeded row f && bitOf (s.get (Reg.sidFilter row)) 61 then s.set (Reg.sidBlocked row) 1 else s

/-- The stream stages of a frame, in their order (R199). The length of a cut-through frame is known only at its last byte:
with `late`, an express frame over its size passes and is marked (R202; log entry 13). -/
def State.streamStages (s : State) (late : Bool) (id : Nat) (f : Frame) (h : Hdr) : StreamResult × State :=
  match s.streamOf f.ingress h with
  | none => ({}, s)
  | some r =>
    let s := s.count (Reg.sidMatched r)
    let flt := s.get (Reg.sidFilter r)
    let tooLong := s.sduExceeded r f
    if s.get (Reg.sidBlocked r) = 1 ∨ (tooLong ∧ ¬ (late ∧ s.sidExpress r)) then
      ({ drop := true, stream := some r }, s.sduFault r f)
    else
      let g := field flt 49 40
      let gated := bitOf flt 63
      if gated ∧ ¬ s.gateOpen g f then
        let s := s.count (Reg.sidGateDrops r)
        ({ drop := true, stream := some r }, if bitOf (s.get (Reg.sgControl g)) 5 then s.set (Reg.sgClosedInvalid g) 1 else s)
      else
        let cls := if gated ∧ bitOf (s.get (Reg.sgControl g)) 4 then some (s.get (Reg.sgControl g) % 8) else none
        let m := if bitOf flt 62 then s.meterStep f (field flt 60 50) r else (true, s)
        if !m.1 then ({ drop := true, stream := some r }, m.2)
        else
          let ctl := m.2.get (Reg.sidControl r)
          let rec' := if bitOf ctl 30 then m.2.recoverStep id (field ctl 29 19) h else (true, m.2)
          ({ drop := !rec'.1, stream := some r, cls := cls, oversize := tooLong }, rec'.2)

/-- A recovery function goes to take-any (R205, R206). -/
def State.takeAny (s : State) (row : Nat) : State :=
  (s.sets [(Reg.srLive 0 row, 0), (Reg.srDeadline 0 row, 0)]).count (Reg.srEpoch 0 row)

/-- SR_RESET_TIMEOUT (R206): the reset timer runs out. -/
def execSrResetTimeout (row : Nat) (s : State) : Host.Outcome State Fault Refusal :=
  if s.get (Reg.srDeadline 0 row) ≠ 0 ∧ s.get (Reg.srDeadline 0 row) ≤ s.now then
    .next ((s.takeAny row).count (Reg.srResets row))
  else .next s

/-- A frame that a recovery function passed fails verification (R207). -/
def State.recoveryFailed (s : State) (f : Verdict) : State :=
  if f.recovered then
    let row := f.recoveryRow
    let s := s.count (Reg.srUnverified row)
    let cfg := s.get (Reg.srConfig row)
    let back := (((s.get (Reg.srRecovSeq row) : Int) - f.recoverySeq) % 65536).toNat
    if !bitOf cfg 30 && s.get (Reg.srEpoch 0 row) = f.recoveryEpoch && s.get (Reg.srLive 0 row) = 1 && back < field cfg 22 16 then
      s.set (Reg.srHistory row) (setBit (s.get (Reg.srHistory row)) back false)
    else s
  else s

/-- SCNT_CLEAR (R215, R124): clears every scheduling counter of the port. -/
def execScntClear (ctx : Ctx) (n value : Nat) (s : State) : Host.Outcome State Fault Refusal :=
  .next (s.cmdWrite ctx (0x2640 + n) 0x20 (s.hasPort n) false (onlyOne value) (fun s => s.clearRange .scnt n 0x01 0x1F))

end Sys2Proof.Machine
end

