-- ==== Sys2Proof/Machine/Classify.lean ====
section
/-! DEFINITION. The classifier and firewall (R126 to R157): masked search, actions, the connection table, the forwarding
database, the hand-off to the slow path, and one record through its parse pipeline. -/
namespace Sys2Proof.Machine

/-! ## Masked search (R134 to R136) -/

/-- The 512 bits of eight key or mask words of a row (R134). -/
def State.rowBits (s : State) (w : Nat → Reg) : Nat :=
  (List.range 8).foldl (fun n k => n + s.get (w k) * 2 ^ (64 * k)) 0

/-- Whether a row of a bank matches 512 key bits (R135). -/
def State.mmMatches (s : State) (b row key : Nat) : Bool :=
  let m := s.rowBits (fun k => Reg.mmMask b k row)
  (s.rowBits (fun k => Reg.mmKey b k row)) &&& m == key % 2 ^ 512 &&& m

/-- The valid rows of a bank. -/
def State.mmRows (s : State) (b : Nat) : List Nat :=
  (s.regs.filter (fun e => e.1.grp = .mm && e.1.inst = b && e.1.sub = 0x20 && e.1.bank = 0 && e.2 = 1)).map (·.1.row)

/-- A bank is the lower one of a chained pair, or the upper one (R136). -/
def State.chainLower (s : State) (b : Nat) : Bool := b % 2 = 0 && bitOf (s.get Reg.clsBankChain) (b / 2)
def State.chainUpper (s : State) (b : Nat) : Bool := b % 2 = 1 && bitOf (s.get Reg.clsBankChain) (b / 2)

/-- The banks searched for a port: bound by `Cls.PortBanks`, without the upper bank of a chained pair (R135, R136). -/
def State.banksOf (s : State) (port : Nat) : List Nat :=
  [0, 1, 2, 3].filter (fun b => bitOf (s.get (Reg.clsPortBanks port)) b && !s.chainUpper b)

/-- The winning row: of all matching rows in the bound banks, the one of the lowest global index (R135). -/
def State.searchRow (s : State) (port key upper pairKey : Nat) : Option (Nat × Nat) :=
  (s.banksOf port).foldl (fun best b => match best with
    | some w => some w
    | none =>
      (((s.mmRows b).filter (fun r =>
        if s.chainLower b then
          s.get (Reg.mmValid (b + 1) r) = 1 && s.mmMatches b r pairKey && s.mmMatches (b + 1) r upper
        else s.mmMatches b r key)).foldl
          (fun (m : Option Nat) r => some (match m with | none => r | some q => min q r)) none).map (fun r => (b, r))) none

/-! ## The connection table (R141 to R146) -/

/-- The connection tuple of a frame: endpoints A and B as (address, port), and whether A is the frame's source (R141). -/
structure Tuple where
  addrA : Nat
  portA : Nat
  addrB : Nat
  portB : Nat
  proto : Nat
  dom : Nat
  srcIsA : Bool
deriving DecidableEq, Repr

/-- The tuple of a frame (R141). -/
def State.tupleOf (s : State) (port : Nat) (h : Hdr) : Tuple :=
  let ported := h.l4 && (h.proto = 6 || h.proto = 17)
  let sp := if ported then h.sport else 0
  let dp := if ported then h.dport else 0
  let a := h.srcIp * 65536 + sp
  let b := h.dstIp * 65536 + dp
  let d := s.get (Reg.clsConnDomain port)
  if a ≤ b then { addrA := h.srcIp, portA := sp, addrB := h.dstIp, portB := dp, proto := h.proto, dom := d, srcIsA := true }
  else { addrA := h.dstIp, portA := dp, addrB := h.srcIp, portB := sp, proto := h.proto, dom := d, srcIsA := false }

/-- The hash input of a tuple (R141). -/
def Tuple.bytes (t : Tuple) : List Byte :=
  beBytes 16 t.addrA ++ beBytes 16 t.addrB ++ beBytes 2 t.portA ++ beBytes 2 t.portB ++ beBytes 1 t.proto ++
  beBytes 1 t.dom ++ beBytes 2 0

/-- CRC-32C with a given initial value. -/
def crcInit (init : Nat) (b : List Byte) : Nat := crc32cStep init b ^^^ 0xFFFFFFFF

/-- The eight ways of the two buckets of a tuple (R141). -/
def Tuple.buckets (t : Tuple) : List Nat × List Nat :=
  let h0 := crcInit 0xFFFFFFFF t.bytes % 4096
  let h1 := crcInit 0x3C6EF372 t.bytes % 4096
  ((List.range 8).map (fun w => 8 * h0 + w), (List.range 8).map (fun w => 32768 + 8 * h1 + w))

/-- A row of the connection table is valid (R142). -/
def State.connValid (s : State) (row : Nat) : Bool := bitOf (s.get (Reg.connControl row)) 7

/-- A valid row holds a tuple. -/
def State.connIs (s : State) (t : Tuple) (row : Nat) : Bool :=
  let c := s.get (Reg.connControl row)
  bitOf c 7 && s.get (Reg.connAddrAHi row) = t.addrA / 2 ^ 64 && s.get (Reg.connAddrALo row) = t.addrA % 2 ^ 64 &&
  s.get (Reg.connAddrBHi row) = t.addrB / 2 ^ 64 && s.get (Reg.connAddrBLo row) = t.addrB % 2 ^ 64 &&
  s.get (Reg.connPorts row) = t.portA * 65536 + t.portB && field c 31 24 = t.proto && field c 23 16 = t.dom

/-- The row of a tuple: the lowest of its positions that holds it (R141). -/
def State.connFind (s : State) (t : Tuple) : Option Nat := (t.buckets.1 ++ t.buckets.2).find? (s.connIs t)

/-- The present time as `Conn.LastSeen` holds it: bits 51–20 of the local counter (R142). -/
def State.seenNow (s : State) : Nat := field (s.get Reg.localCounter) 51 20

/-- A connection row emptied. -/
def State.connClear (s : State) (row : Nat) : State :=
  s.sets [(Reg.connAddrAHi row, 0), (Reg.connAddrALo row, 0), (Reg.connAddrBHi row, 0), (Reg.connAddrBLo row, 0),
    (Reg.connPorts row, 0), (Reg.connControl row, 0), (Reg.connLastSeen row, 0), (Reg.connFrames row, 0), (Reg.connFin row, 0)]

/-- The state after a frame hits a row (R142): established once both ends are seen; closing and closed by FINs. -/
def connNext (state : Nat) (fromInitiator fin : Bool) (fins mine : Nat) : Nat × Nat :=
  let st := if state = 1 ∧ ¬ fromInitiator then 2 else state
  if fin then
    let f := fins ||| mine
    (if st ≤ 2 then 3 else if f = 3 then 4 else st, f)
  else (st, fins)

/-- A hit updates the row; a TCP frame with RST removes a hardware entry (R142, R143). -/
def State.connHit (s : State) (row : Nat) (t : Tuple) (h : Hdr) : State :=
  let c := s.get (Reg.connControl row)
  let tcp := h.proto = 6 && h.l4
  if tcp ∧ bitOf h.tcpFlags 2 ∧ ¬ bitOf c 6 then s.connClear row
  else
    let mine := if t.srcIsA then 1 else 2
    let n := connNext (field c 15 12) (bitOf c 5 == t.srcIsA) (tcp && bitOf h.tcpFlags 0) (s.get (Reg.connFin row)) mine
    (s.sets [(Reg.connControl row, setField c 15 12 n.1), (Reg.connFin row, n.2), (Reg.connLastSeen row, s.seenNow)]).count
      (Reg.connFrames row)

/-- `Cls.ConnCount`: valid entries in the active table (R154). -/
def State.connCount (s : State) : Nat :=
  (s.regs.filter (fun e => e.1.grp = .conn && e.1.sub = 0x15 && e.1.bank = 0 && bitOf e.2 7)).length

/-- An insert (R144): into the less full bucket, or h0 when equal, at the lowest free way; none when both are full. -/
def State.connInsert (s : State) (t : Tuple) (profile : Nat) : Option State :=
  let b := t.buckets
  let full := fun (l : List Nat) => (l.filter s.connValid).length
  let bucket := if full b.1 ≤ full b.2 then b.1 else b.2
  match bucket.find? (fun r => !s.connValid r) with
  | none => none
  | some row =>
    let ctl := t.proto * 2 ^ 24 + t.dom * 2 ^ 16 + 0x1000 + profile * 256 + 0x80 + flag t.srcIsA * 32
    let s := s.sets [(Reg.connAddrAHi row, t.addrA / 2 ^ 64), (Reg.connAddrALo row, t.addrA % 2 ^ 64),
      (Reg.connAddrBHi row, t.addrB / 2 ^ 64), (Reg.connAddrBLo row, t.addrB % 2 ^ 64),
      (Reg.connPorts row, t.portA * 65536 + t.portB), (Reg.connControl row, ctl), (Reg.connLastSeen row, s.seenNow),
      (Reg.connFrames row, 0), (Reg.connFin row, 0)]
    let s := s.count Reg.clsConnInserts
    some (if s.get Reg.clsConnHighWater < s.connCount then s.set Reg.clsConnHighWater s.connCount else s)

/-- What the connection stage makes of a frame. -/
inductive ConnVerdict where
  | stands | drop | slow (reason : Nat)
deriving DecidableEq, Repr

/-- The connection stage (R143, R144). -/
def State.connStage (s : State) (port mode profile : Nat) (h : Hdr) : ConnVerdict × State :=
  if mode = 0 then (.stands, s)
  else if !h.ipv4 && !h.ipv6 then (.stands, s.count (Reg.ccntActionSkipped port))
  else
    let t := s.tupleOf port h
    match s.connFind t with
    | some row => (.stands, s.connHit row t h)
    | none =>
      if mode = 2 then
        if bitOf (s.get (Reg.clsOddPolicy port)) 3 then (.slow 0x08, s)
        else (.drop, s.count (Reg.ccntConnMissDrops port))
      else
        match s.connInsert t profile with
        | some s => (.stands, s)
        | none => (.slow 0x06, s.count Reg.clsConnOverflows)

/-- The idle time of a connection row in sixteenths of the local counter, in steps of 2^20 (R142, R146). -/
def State.connIdle (s : State) (row : Nat) : Nat :=
  (s.seenNow + 2 ^ 32 - s.get (Reg.connLastSeen row)) % 2 ^ 32 * 2 ^ 20

/-- Whether the scanner removes a row (R146). -/
def State.connExpired (s : State) (row : Nat) : Bool :=
  let c := s.get (Reg.connControl row)
  let st := field c 15 12
  let idleFor := fun (sec : Nat) => sec * 16000000000 < s.connIdle row
  bitOf c 7 &&
  if st ≤ 2 then !bitOf c 6 && s.get (Reg.clsIdleTimeout (field c 11 8)) ≠ 0 && idleFor (s.get (Reg.clsIdleTimeout (field c 11 8)))
  else (!bitOf c 6 || st = 4) && idleFor (s.get Reg.clsClosingTimeout)

/-- The scanner period that runs, counted from uptime 0, plus 1 (R146; log entry 158). -/
def State.scanPeriod (s : State) : Nat := s.now / (s.get Reg.clsScanPeriod * ms) + 1

/-- CONN_SCAN (R146): the scanner visits a row, once in each period, and removes it when its idle time exceeds its timeout. -/
def execConnScan (row : Nat) (s : State) : Host.Outcome State Fault Refusal :=
  if s.forwarding ∧ s.get (Reg.connScannedAt 0 row) ≠ s.scanPeriod then
    let s := s.set (Reg.connScannedAt 0 row) s.scanPeriod
    .next (if s.connExpired row then (s.connClear row).count Reg.clsConnExpiries else s)
  else .next s

/-! ## The forwarding database (R177 to R180) -/

/-- The two buckets of a key (R178). -/
def fdbBuckets (vid mac : Nat) : List Nat × List Nat :=
  let b := beBytes 8 (vid * 2 ^ 48 + mac)
  let h0 := crcInit 0xFFFFFFFF b % 2048
  let h1 := crcInit 0x3C6EF372 b % 2048
  ((List.range 8).map (fun w => 8 * h0 + w), (List.range 8).map (fun w => 16384 + 8 * h1 + w))

/-- A row is valid, and holds a key. -/
def State.fdbValid (s : State) (row : Nat) : Bool := bitOf (s.get (Reg.fdbControl row)) 31
def State.fdbIs (s : State) (vid mac row : Nat) : Bool := s.fdbValid row && s.get (Reg.fdbKey row) = vid * 2 ^ 48 + mac

/-- The row of a key: the lowest of its positions that holds it (R178). -/
def State.fdbFind (s : State) (vid mac : Nat) : Option Nat :=
  ((fdbBuckets vid mac).1 ++ (fdbBuckets vid mac).2).find? (s.fdbIs vid mac)

/-- An uncorrectable error in a database row: its valid bit is cleared and a report is raised (R162). -/
def State.fdbEcc (s : State) (row : Nat) : State :=
  ((s.set (Reg.fdbControl row) (setBit (s.get (Reg.fdbControl row)) 31 false)).count Reg.bufEccUncorrected).reportObj 1 0 0x2500 0x21 row

/-- The targets of a permitted frame and the class an override gives (R177). -/
def State.fdbLookup (s : State) (port vid : Nat) (h : Hdr) (ecc : Nat) : List Nat × Option Nat × State :=
  let s := if ecc = 1 then s.count Reg.bufEccCorrected else s
  let s := match s.fdbFind vid h.da with
    | some row => if ecc = 2 then s.fdbEcc row else s
    | none => s
  let reflect := fun (l : List Nat) (s : State) =>
    let t := l.filter (fun p => p ≠ port)
    (t, if t.isEmpty ∧ ¬ l.isEmpty then s.count (Reg.qcntReflectDrops port) else s)
  match s.fdbFind vid h.da with
  | some row =>
    let c := s.get (Reg.fdbControl row)
    let s := s.count (Reg.fdbHits row)
    let cls := if bitOf c 28 then some (field c 27 25) else none
    if bitOf c 24 then ([], cls, s)
    else
      let r := reflect (if bitOf c 29 then bitsOf 38 (s.get (Reg.fdbPortMask row)) else [c % 64]) s
      (r.1, cls, r.2)
  | none =>
    if port = 37 then ([], none, s.count (Reg.qcntFdbMissDrops 37))
    else
      let m := s.get (Reg.fdbUnknownMask port)
      if m = 0 then ([], none, s.count (Reg.qcntFdbMissDrops port))
      else
        let r := reflect (bitsOf 38 m) (s.count (Reg.qcntFdbMissFloods port))
        (r.1, none, r.2)

/-- A learn is made: one of pipeline 0 is noted with its cycle (R127, R180). -/
def State.fdbNote (s : State) (port row : Nat) : State := if port % 2 = 0 then s.set (Reg.fdbLearnedAt 0 row) (s.now + 1) else s

/-- Learning from the source of a permitted frame; a learn of pipeline 1 in the cycle of one of pipeline 0 for the same key is not made
(R180). -/
def State.fdbLearn (s : State) (port vid mac : Nat) : State :=
  match s.fdbFind vid mac with
  | some row =>
    let c := s.get (Reg.fdbControl row)
    if bitOf c 30 ∨ (port % 2 = 1 ∧ s.get (Reg.fdbLearnedAt 0 row) = s.now + 1) then s
    else if c % 64 = port then s.fdbNote port row
    else ((s.set (Reg.fdbControl row) (setField c 5 0 port)).count Reg.fdbMoves).fdbNote port row
  | none =>
    let b := fdbBuckets vid mac
    let full := fun (l : List Nat) => (l.filter s.fdbValid).length
    let bucket := if full b.1 ≤ full b.2 then b.1 else b.2
    match bucket.find? (fun r => !s.fdbValid r) with
    | some row => (s.sets [(Reg.fdbKey row, vid * 2 ^ 48 + mac), (Reg.fdbControl row, 2 ^ 31 + port),
        (Reg.fdbPortMask row, 0), (Reg.fdbHits row, 0)]).fdbNote port row
    | none => s.count Reg.fdbLearnFull

/-! ## The hand-off to the slow path (R148, R149, R270, R279) -/

/-- The cells of the slow-path queue. -/
def State.slowCells (s : State) : Nat :=
  (s.slow.map (fun g => match s.frame? g.frame with | some f => cellsOf f.bytes.length | none => 0)).sum

/-- A frame enters the slow-path queue with its reason, or is dropped for its limits (R149, R270); a reclassified
output may not enter again (R279). -/
def State.slowEnter (s : State) (id reason : Nat) : State :=
  match s.frame? id with
  | none => s
  | some f =>
    if f.reclassified then s.count Reg.spLoopDrops
    else if 1024 ≤ s.slow.length ∨ s.get Reg.spMaxCells < s.slowCells + cellsOf f.bytes.length then
      s.count (Reg.ccntSlowPathFull f.ingress)
    else
      ((({ s with slow := s.slow ++ [{ frame := id, reason := reason }] } : State).updFrame id
        (fun f => { f with refs := f.refs + 1 })).count (Reg.ccntToSlowPath f.ingress))

/-! ## Actions (R137 to R140) -/

/-- The frame's decided targets go to admission, or to its staging queue in Partition mode (R164, R174). -/
def State.decide (s : State) (id : Nat) (targets : List (Nat × Nat × Bool)) : State :=
  if s.partitionMode ∧ targets ≠ [] then
    { s with staging := s.staging.map (fun g => if g.frame = id then { g with decided := true, targets := targets } else g) }
  else ({ s with staging := s.staging.filter (fun g => g.frame ≠ id) } : State).admitAll id targets

/-- The lookahead of an express frame on the Beacon path began at admission (R224): where its entry is the only one of its queue and the
port has a keystream buffer free, the number is reserved as the entry is linked. -/
def State.peekEntry (s : State) (f : Frame) (e : Entry) : State :=
  if e.port < 37 ∧ s.depthFrames e.port e.queue = 1 ∧ ¬ s.prep.any (fun p => p.port = e.port) ∧
      (s.wire.filter (fun w => w.entry.port = e.port && w.encrypted)).length < 2 then
    match s.guard e.port f with
    | .secure slot => s.reserve e slot s.now
    | _ => s
  else s

/-- The entries of a cut-through frame as they are linked (R224). -/
def State.peek (s : State) (id : Nat) : State :=
  match s.frame? id with
  | some f => if f.cutThrough then (s.entries.filter (fun e => e.frame = id)).foldl (fun s e => s.peekEntry f e) s else s
  | none => s

/-- What follows the admission of a frame: the number of its R-tag and the lookahead of an express frame (R208, R224). -/
def State.admitted (s : State) (id : Nat) : State := (s.numberRtag id).peek id

/-- STAGING_GRANT (R174): a partition grants a write slot to a staging head, which then passes admission. -/
def execStagingGrant (part : Nat) (s : State) : Host.Outcome State Fault Refusal :=
  if s.forwarding ∧ s.partitionMode then
    match s.grantOf part with
    | some g =>
      let s := ({ s with staging := s.staging.filter (fun h => h.frame ≠ g.frame) } : State).set
        (Reg.grantNext part) ((g.ingress + 1) % 38)
      .next ((s.admitAll g.frame g.targets).admitted g.frame)
    | none => .next s
  else .next s

/-- The queue of a class on a port (R161). -/
def classQueue (port cls : Nat) : Nat := if port = 37 then 4 * cls else cls

/-- Cut-through is allowed for a frame of an express stream at its targets (R209). -/
def State.cutThroughOk (s : State) (ingress : Nat) (targets : List (Nat × Nat × Bool)) : Bool :=
  ingress < 37 && !targets.isEmpty && targets.all (fun t => t.1 ≠ 37 && s.get (Reg.schedCutThrough t.1) = 1 &&
    s.macRate t.1 ≤ s.macRate ingress)

/-- The VLAN operation that stands, and whether one was skipped (R139). -/
def vlanStands (op tags : Nat) : Nat := if (op = 1 ∧ 2 ≤ tags) ∨ ((op = 2 ∨ op = 3) ∧ tags = 0) then 0 else op

/-- The R-tag operation that stands (R139). -/
def rtagStands (op : Nat) (stream has : Bool) : Nat :=
  if (op = 1 ∧ (¬ stream ∨ has)) ∨ (op = 2 ∧ ¬ has) then 0 else op

/-- The VID a permitted frame carries at egress (R177). -/
def State.egressVid (s : State) (port : Nat) (h : Hdr) (op vid : Nat) : Nat :=
  let v := if op = 1 ∨ op = 3 then vid else if op = 2 then (if 2 ≤ h.tagCount then h.innerVid else 0)
    else if h.tagCount ≠ 0 then h.outerVid else 0
  if v = 0 then (if port = 37 then 1 else s.get (Reg.fdbPortVid port)) else v

/-- The class a frame arrived with: the PCP of its outer tag, or 0 (R138). -/
def arrivalClass (h : Hdr) : Nat := if h.tagCount = 0 then 0 else h.outerPcp

/-- The copies that an action word makes besides its verdict (R138). -/
def State.copiesOf (s : State) (a cls : Nat) : List (Nat × Nat × Bool) :=
  (if bitOf a 55 then [(37, field a 54 50, true)] else []) ++
  (if bitOf a 49 then
    let m := s.get (Reg.clsMirrorPort (field a 48 47))
    if m = 0xFF then [] else [(m, classQueue m cls, true)]
  else [])

/-- The order in which the admission stage takes targets: ascending port, then queue (R164). -/
def sortTargets (l : List (Nat × Nat × Bool)) : List (Nat × Nat × Bool) :=
  l.foldl (fun acc t =>
    acc.takeWhile (fun u => u.1 < t.1 || (u.1 = t.1 && u.2.1 ≤ t.2.1)) ++ [t] ++
    acc.dropWhile (fun u => u.1 < t.1 || (u.1 = t.1 && u.2.1 ≤ t.2.1))) []

/-- The last steps for a decided frame: cut-through, the size of a cut-through frame, admission, and the number of a pushed R-tag
(R202, R208, R209). -/
def State.resolve (s : State) (id : Nat) (r : StreamResult) (targets : List (Nat × Nat × Bool)) (g : Frame → Frame) : State :=
  match s.frame? id with
  | none => s
  | some f =>
    let express := r.stream.any s.sidExpress
    let ct := express && s.cutThroughOk f.ingress targets
    let stomp := ct && r.oversize
    let s := if express && !ct && !targets.isEmpty then s.count (Reg.scntCutThroughDeclined f.ingress) else s
    let s := match r.stream with
      | some k => if stomp then s.sduFault k f else s
      | none => s
    let s := s.updFrame id (fun f => let f := g f
      { f with cutThrough := ct, stomp := f.stomp || stomp, stompCause := if stomp then 2 else f.stompCause })
    (s.decide id (sortTargets targets)).admitted id

/-- The copies of a frame whose verdict gives no target of its own: a drop or a slow-path hand-off (R138). -/
def State.onlyCopies (s : State) (id : Nat) (r : StreamResult) (copies : List (Nat × Nat × Bool)) (cls : Nat) : State :=
  s.resolve id r copies (fun f => { f with cls := cls })

/-- Counters of the copies made (R156). -/
def State.countCopies (s : State) (port : Nat) (copies : List (Nat × Nat × Bool)) (a : Nat) : State :=
  let s := if bitOf a 55 then s.count (Reg.ccntCopiedToHost port) else s
  if copies.length = flag (bitOf a 55) then s else s.count (Reg.ccntMirrored port)

/-- The police action of a row: whether the meter drops the frame (R138, R155). -/
def State.police (s : State) (f : Frame) (a : Nat) : Bool × State :=
  let polRow := field a 45 35
  if bitOf a 46 then
    let m := s.meter polRow (f.clocks.getD 4 0) (f.bytes.length + 4)
    (m.2.meterDrops polRow m.1, m.2)
  else (false, s)

/-- The targets of a frame that a row forwards, the class that the database gives it, if any: the port of a redirect, or what the
database finds, which learns from the frame for the lookups that follow (R138, R139, R178 to R180). -/
def State.findTargets (s : State) (port : Nat) (h : Hdr) (a vop ecc : Nat) : List Nat × Option Nat × State :=
  if field a 63 62 = 2 then ([field a 61 56], none, s)
  else
    let look := s.fdbLookup port (s.egressVid port h vop (field a 11 0)) h ecc
    (look.1, look.2.1, if port < 37 && look.2.2.get (Reg.fdbLearn port) = 1 && !groupAddr h.sa then
        look.2.2.fdbLearn port (s.learnVid port h) h.sa else look.2.2)

/-- A frame that a row permits or redirects is sent to its targets with the row's edits, and copied (R138, R139). -/
def State.forward (s : State) (id port : Nat) (h : Hdr) (r : StreamResult) (a cls ecc : Nat) : State :=
  let vop := vlanStands (field a 30 29) h.tagCount
  let rop := rtagStands (field a 28 27) r.stream.isSome h.rtag
  let s := if vop ≠ field a 30 29 then s.count (Reg.ccntActionSkipped port) else s
  let s := if rop ≠ field a 28 27 then s.count (Reg.ccntActionSkipped port) else s
  let look := s.findTargets port h a vop ecc
  let s := look.2.2
  let cls := look.2.1.getD cls
  let queueOf := fun p => if field a 63 62 = 2 ∧ p = 37 then field a 54 50 else classQueue p cls
  let own := look.1.map (fun p => (p, queueOf p, false))
  let copies := s.copiesOf a cls
  (s.countCopies port copies a).resolve id r (own ++ copies) (fun f =>
    { f with cls := cls, vlanOp := vop, rtagOp := rop, rewrite := bitOf a 26, profile := field a 25 19,
             rwOps := s.get (Reg.rwOps (field a 25 19)), rwDa := s.get (Reg.rwDa (field a 25 19)),
             rwSa := s.get (Reg.rwSa (field a 25 19)), rwDscp := s.get (Reg.rwDscp (field a 25 19)),
             vid := field a 11 0, handle := r.stream.getD 0, matched := r.stream.isSome })

/-- A frame that goes to the slow path alone, with the copies of its row (R138). -/
def State.toSlowPath (s : State) (id port : Nat) (r : StreamResult) (a reason base : Nat) (copies : List (Nat × Nat × Bool)) : State :=
  ((s.countCopies port copies a).slowEnter id reason).onlyCopies id r copies base

/-- The actions of the winning row, or of the default action, in the order of R138. -/
def State.applyAction (s : State) (id port : Nat) (h : Hdr) (r : StreamResult) (a : Nat) (byDefault : Bool) (ecc : Nat) :
    State :=
  match s.frame? id with
  | none => s
  | some f =>
    let pol := s.police f a
    if pol.1 then pol.2.decide id []
    else
      let conn := pol.2.connStage port (field a 17 16) (field a 15 12) h
      let s := conn.2
      let base := (r.cls.getD (arrivalClass h))
      let cls := if bitOf a 34 then field a 33 31 else base
      let copies := s.copiesOf a cls
      match conn.1 with
      | .drop => (s.countCopies port copies a).onlyCopies id r copies cls
      | .slow reason => s.toSlowPath id port r a reason base (s.copiesOf a base)
      | .stands =>
        if field a 63 62 = 1 then
          let s := s.count (if byDefault then Reg.ccntDefaultDrops port else Reg.ccntRuleDrops port)
          (s.countCopies port copies a).onlyCopies id r copies cls
        else if field a 63 62 = 3 then s.toSlowPath id port r a 0x01 base (s.copiesOf a base)
        else if bitOf a 26 && bitOf (s.get (Reg.rwOps (field a 25 19))) 3 && (h.ipv4 || h.ipv6) && h.ttl ≤ 1 then
          s.toSlowPath id port r a 0x07 cls copies
        else s.forward id port h r a cls ecc

/-- The default action of a port as an action word: permit, drop or slow path (R135, R138). -/
def defaultWord (v : Nat) : Nat := match v with | 0 => 0 | 1 => 2 ^ 62 | _ => 3 * 2 ^ 62

/-- What the odd-frame policy makes of a frame before the search (R148). -/
inductive OddVerdict where
  | search | drop | slow (reason : Nat)
deriving DecidableEq, Repr

/-- The four cases of R148 that are decided before the search, in the order of its table. -/
def oddVerdict (policy : Nat) (h : Hdr) : OddVerdict :=
  if h.fragment then (if bitOf policy 0 then .drop else .slow 0x02)
  else if h.options ∧ ¬ bitOf policy 1 then .slow 0x03
  else if h.truncated ∧ ¬ bitOf policy 2 then .slow 0x04
  else if h.tagCount = 3 ∧ ¬ bitOf policy 1 then .slow 0x05
  else .search

/-- One frame through classification and admission (R128, R138, R148); with `late`, an express frame over its stream's size
passes the SDU check as a cut-through frame does. -/
def State.classifyAs (s : State) (late : Bool) (id port ecc : Nat) : State :=
  match s.frame? id with
  | none => s
  | some f =>
    let h := parseFrame f.bytes
    if h.error then (s.count (Reg.ccntHeaderErrors port)).decide id []
    else
      let st := s.streamStages late id f h
      let r := st.1
      let s := st.2
      let s := s.updFrame id (fun f => { f with handle := r.stream.getD 0, matched := r.stream.isSome })
      if r.drop then s.decide id []
      else
        let chan := if f.protectedRx then some f.channel else none
        let key := searchKey h port (f.hostTag.getD (s.get (Reg.clsPortProfile port))) chan r.stream
        let s := s.updFrame id (fun f => { f with key := key })
        match oddVerdict (s.get (Reg.clsOddPolicy port)) h with
        | .drop => (s.count (Reg.ccntRuleDrops port)).decide id []
        | .slow reason => (s.slowEnter id reason).onlyCopies id r [] (r.cls.getD (arrivalClass h))
        | .search =>
          let s := s.count (Reg.ccntSearched port)
          let ws := (List.range 8).map (fun k => s.get (Reg.clsWindowField k))
          let pairKey := if ws.any (windowBeyond h) then setBit key 497 true else key
          let upper := chainedKey f.bytes h ws
          let s := if (s.banksOf port).any s.chainLower then
              s.updFrame id (fun f => { f with key := upper * 2 ^ 512 + pairKey, wideKey := true }) else s
          match s.searchRow port key upper pairKey with
          | some (b, row) => (s.count (Reg.mmHits b row)).applyAction id port h r (s.get (Reg.mmAction b row)) false ecc
          | none => (s.count (Reg.ccntDefaultHits port)).applyAction id port h r
              (defaultWord (s.get (Reg.clsDefaultAction port))) true ecc

/-- A cut-through frame whose keystream came too late, or that found no free cell, is stomped (R170, R236). -/
def State.stompFailing (s : State) (id : Nat) : State :=
  s.updFrame id (fun f => if f.failing = 0 then f else { f with stomp := true, stompCause := if f.stomp then f.stompCause else 2 })

/-- Another such frame is dropped with its verdict and counted (R170, R236). -/
def State.dropFailing (s : State) (f : Frame) : State :=
  (({ s with verdicts := s.verdicts.filter (fun v => v.frame ≠ f.id) } : State).dropFrame f.id Reg.lcTxGapRemoved).count
    (if f.failing = 1 then Reg.lcRxKeystreamDrops f.ingress else Reg.qcntNoCellDrops f.ingress)

/-- One frame through classification and admission: an express frame over its stream's size goes on only where it goes
cut-through, and is dropped by the SDU check where it is stored and forwarded (R202, R209; log entry 13). -/
def State.classify (s : State) (id port ecc : Nat) : State :=
  let s' := s.classifyAs true id port ecc
  if (s'.frame? id).any (·.cutThrough) then s'.stompFailing id
  else match s.frame? id with
    | some f => if f.failing ≠ 0 then s.dropFailing f else s.classifyAs false id port ecc
    | none => s

/-- The bank whose hand-over pauses admission: of those that wait, the one committed first, then the lowest (R153). -/
def State.bankInPause (s : State) : Option Nat :=
  [0, 1, 2, 3].foldl (fun best b =>
    let t := s.get (Reg.bankPause b)
    if t = 0 then best
    else match best with
      | some a => if t < s.get (Reg.bankPause a) then some b else best
      | none => some b) none

/-- The admission of a port's records is stopped by the hand-over of a bank it is bound to (R152, R153). -/
def State.portPaused (s : State) (port : Nat) : Bool :=
  s.bankInPause.any (fun b => bitOf (s.get (Reg.clsPortBanks port)) b)

/-- The ingress port of the head record of a parse queue: another than the queue's for a reclassified output (R278). -/
def State.headIngress (s : State) (p : Nat) : Option Nat :=
  (s.records.find? (fun r => r.1 == p)).map (fun r => match s.frame? r.2 with | some f => f.ingress | none => p)

/-- The port that a parse pipeline serves next: round-robin over its ports with a record whose admission is not stopped
(R127). -/
def State.parseTurn (s : State) (pipe : Nat) : Option Nat :=
  let next := s.get (Reg.parseNext pipe)
  ((List.range 38).map (fun k => (next + k) % 38)).find? (fun p =>
    p % 2 = pipe && (s.headIngress p).any (fun i => !s.portPaused i))

/-- PARSE_PIPELINE_ENTRY (R128): a pipeline takes its next waiting record through extraction, the stream stages, search,
connection stage, action resolution and admission. `ecc` is 1 for a corrected and 2 for an uncorrectable error in the
database row looked up (R162). -/
def execParsePipelineEntry (pipe ecc : Nat) (s : State) : Host.Outcome State Fault Refusal :=
  if s.running then
    match s.parseTurn pipe with
    | some port =>
      match takeFirst (fun r => r.1 == port) s.records with
      | some ((_, id), rest) =>
        .next ((({ s with records := rest } : State).set (Reg.parseNext pipe) ((port + 1) % 38)).classify id ((s.headIngress port).getD port) ecc)
      | none => .next s
    | none => .next s
  else .next s

/-- CCNT_CLEAR (R156, R124): clears every classifier counter of the port. -/
def execCcntClear (ctx : Ctx) (n value : Nat) (s : State) : Host.Outcome State Fault Refusal :=
  .next (s.cmdWrite ctx (0x2740 + n) 0x20 (s.hasPort n) false (onlyOne value) (fun s => s.clearRange .ccnt n 0x01 0x1F))

end Sys2Proof.Machine
end

