-- ==== Sys2Proof/Machine/Cipher.lean ====
section
/-! DEFINITION. The line cipher path (R216 to R246): the reception of a frame, its checks and verdict, speculation,
transmit lookahead, and the inverse check. -/
namespace Sys2Proof.Machine

/-! ## Reception -/

/-- The SecTAG checks of R221, but for the number 0, whose suite the lookup gives. -/
def badTag (t : SecTag) (user : Nat) : Bool :=
  t.v || t.scb || (t.es && t.sc) || t.e != t.c || 48 ≤ t.sl || (t.sl ≠ 0 && t.sl ≠ user)

/-- The SCI of a received frame: of its SecTAG, of its source address, or implicit; none makes a bad tag (R221). -/
def State.rxSci (s : State) (port : Nat) (b : List Byte) (t : SecTag) : Option Nat :=
  if t.sc then some t.sci
  else if t.es then some (beAt b 6 6 * 65536 + 1)
  else if s.get (Reg.lcRxImplicitSci port) = 0 then none else some (s.get (Reg.lcRxImplicitSci port))

/-- The open receive channel of an SCI on a port (R264). -/
def State.rxChannel (s : State) (port sci : Nat) : Option Nat :=
  (List.range 4096).find? (fun c => s.get (Reg.chOpen c) = 1 && s.get (Reg.chRx c) = 1 && s.get (Reg.chSci c) = sci &&
    bitOf (s.get (Reg.chPorts c)) port)

/-- The slot of a receive channel that accepts an AN: in state 3, 4 or 5 (R264). -/
def State.rxSlot (s : State) (c an : Nat) : Option Nat :=
  [2 * c, 2 * c + 1].find? (fun r => 3 ≤ s.get (Reg.saState r) && s.slotAn r = an)

/-- The number of a received frame: under XPN the upper half follows the lowest acceptable number (R235). -/
def State.rxPn (s : State) (slot low : Nat) : Nat :=
  if s.slotXpn slot then
    let l := s.get (Reg.saNextPn slot)
    let up := l / 2 ^ 32
    (if 2 ^ 31 ≤ l % 2 ^ 32 ∧ low < 2 ^ 31 then up + 1 else up) % 2 ^ 32 * 2 ^ 32 + low
  else low

/-- The speculation window of a port moved to the four numbers after one; entries that remain are kept (R232). -/
def State.moveWindow (s : State) (port slot pn : Nat) : State :=
  let old := match s.spec.find? (fun w => w.port = port && w.slot = slot) with
    | some w => w.entries
    | none => []
  let es := [pn + 1, pn + 2, pn + 3, pn + 4].map (fun p => (p, ((old.find? (fun e => e.1 = p)).map (·.2)).getD 0))
  { s with spec := s.spec.filter (fun w => w.port ≠ port) ++ [{ port := port, slot := slot, entries := es }] }

/-- A frame hits speculation: its number is in the window of its slot and usable, J0 and block 1 released (R233). -/
def State.specHit (s : State) (port slot pn : Nat) : Bool :=
  s.get (Reg.lcRxSpeculate port) = 1 &&
  s.spec.any (fun w => w.port = port && w.slot = slot && w.entries.any (fun e => e.1 = pn && 2 ≤ e.2))

/-- What the receive half of the cipher makes of a frame. -/
inductive RxCipher where
  | discard (s : State)
  | pass (s : State) (bytes : List Byte) (v : Verdict)

/-- A frame that takes the miss path (R234). -/
def State.specMiss (s : State) (port : Nat) : State := s.count (Reg.lcRxSpecMisses port)

/-- The receive half of the line cipher, in the order of R235; of an exhausted slot every number is below the lowest acceptable one, which
its register may be too short to show (R255, R265). -/
def State.rxCipher (s : State) (port : Nat) (b : List Byte) (fcsBad : Bool) : RxCipher :=
  if beAt b 12 2 ≠ 0x88E5 then
    if s.get (Reg.lcRxProtect port) = 1 ∧ beAt b 12 2 ≠ 0x888E then .discard (s.count (Reg.lcRxUntaggedDrops port))
    else .pass s b { port := port, frame := 0, fcsBad := fcsBad }
  else
    let t := secTagOf b
    let user := b.length - 12 - t.len - 16
    if b.length < 12 + t.len + 16 ∨ badTag t user then .discard (s.count (Reg.lcRxBadTag port))
    else match s.rxSci port b t with
      | none => .discard (s.count (Reg.lcRxBadTag port))
      | some sci => match s.rxChannel port sci with
        | none => .discard ((s.specMiss port).count (Reg.scpRxUnknownSci port))
        | some c => match s.rxSlot c t.an with
          | none => .discard ((s.specMiss port).count (Reg.scpRxNoSa port))
          | some slot =>
            if !s.slotXpn slot && t.pn = 0 then .discard ((s.specMiss port).count (Reg.lcRxBadTag port))
            else
              let pn := s.rxPn slot t.pn
              let hit := s.specHit port slot pn
              let s := if hit then s.count (Reg.lcRxSpecHits port) else s.specMiss port
              if pn < s.get (Reg.saNextPn slot) ∨ s.get (Reg.saState slot) = 5 then
                .discard ((s.count (Reg.lcRxLate port)).count (Reg.saRejected slot))
              else
                let o := s.unseal slot pn b t.len
                .pass (s.moveWindow port slot pn) o.1
                  { port := port, frame := 0, protectedRx := true, slot := slot, pn := pn, fcsBad := fcsBad, icvBad := !o.2 }

/-- The clocks of domains 0 to 3 and of the local counter at the message timestamp point of a frame that arrives now (R93): by the
counter of the port, at an instant within its cycle that a free value gives in sixteenths (R82), less the port's receive delay. -/
def State.rxStamp (s : State) (port : Nat) : List Nat × State :=
  let d := s.draw (if port < 32 then 5 else 6)
  ([0, 1, 2, 3, 4].map (fun k => (((s.clock k : Int) + s.stampSkew port + d.1 - toSigned 16 (s.get (Reg.rxDelay port))) %
    (2 ^ 68 : Int)).toNat), d.2)

/-- The fill of a port's ingress write FIFO after a frame has arrived, and since when every FIFO is at most 16 cells full (R175,
R176). -/
def State.fifoFill (s : State) (port backlog : Nat) : State :=
  let s := s.sets [(Reg.wrFifo port, min backlog 48), (Reg.fifoFrame port, s.get Reg.nextFrame + 1)]
  if 16 < backlog then s.set Reg.floorQuietAt s.now else s

/-- Cells of a port's staging queue (R173, R174). -/
def State.stagedCells (s : State) (port : Nat) : Nat :=
  ((s.staging.filter (fun g => g.ingress = port)).map (fun g => match s.frame? g.frame with
    | some f => cellsOf f.bytes.length
    | none => 0)).sum

/-- What a frame carries from its reception: its timestamp, whether its keystream came too late, and the fill of its port's write FIFO
(R14, R175, R236). -/
structure Arrival where
  clocks : List Nat
  tsValid : Bool
  late : Bool
  backlog : Nat
deriving DecidableEq, Repr

/-- A deciphered frame is written to cells and its record enters the parse queue, or it is dropped by the write FIFO, the
staging queue or the parse queue (R126, R127, R158, R174, R175). One whose keystream came too late, or that finds too few free cells, is
marked: it is dropped, or stomped when it goes cut-through (R170, R236). -/
def State.writeFrame (s : State) (port : Nat) (b : List Byte) (v : Verdict) (at' : Arrival) : State :=
  let backlog := at'.backlog
  let cells := cellsOf b.length
  let gone : State := { s with verdicts := s.verdicts ++ [{ v with frame := s.get Reg.nextFrame }] }
  let gone := gone.set Reg.nextFrame (s.get Reg.nextFrame + 1)
  let s := if s.partitionMode then s else s.fifoFill port backlog
  let gone := if s.partitionMode then gone else gone.fifoFill port backlog
  if !s.partitionMode && s.get Reg.bufThrottleStep = 4 && 48 < backlog then gone.count (Reg.qcntThrottleDrops port)
  else if s.partitionMode && s.get Reg.bufStagingCells.latched < s.stagedCells port + cells then
    gone.count (Reg.qcntStagingDrops port)
  else if 32 ≤ (s.records.filter (fun r => r.1 = port)).length then gone.count (Reg.ccntParseQueueDrops port)
  else
    let f : Frame := { id := 0, ingress := port, bytes := b, protectedRx := v.protectedRx, channel := v.slot / 2, slot := v.slot,
                       pn := v.pn, clocks := at'.clocks, tsValid := at'.tsValid,
                       failing := if v.protectedRx && at'.late then 1 else if s.get Reg.bufFreeCells < cells then 2 else 0 }
    let r := s.storeFrame f
    let id := r.2
    let s := r.1
    let s : State := { s with
      records := s.records ++ [(port, id)],
      verdicts := s.verdicts ++ [{ v with frame := id }],
      staging := if s.partitionMode then s.staging ++ [{ frame := id, ingress := port, since := s.now }] else s.staging }
    if s.portPaused port then s.count (Reg.ccntPauseHeld port) else s

/-- The FCS of a received frame is bad, or P36 saw RX_ER (R118, R123). -/
def badAtRx (port : Nat) (rx : RxFrame) : Bool :=
  (port = 36 && rx.rxEr) || fcsOf (rx.bytes.take (rx.bytes.length - 4)) != rx.bytes.drop (rx.bytes.length - 4)

/-- The length and the check of a frame on the wire are counted (R118, R123). -/
def State.rxCount (s : State) (port : Nat) (rx : RxFrame) : State :=
  let len := rx.bytes.length
  let s := if badAtRx port rx then s.count (Reg.pcntRxFcsErrors port) else s
  if len < 64 then s.count (Reg.pcntRxUndersize port)
  else if s.get (Reg.portMaxFrame port) < len then s.count (Reg.pcntRxOversize port)
  else if badAtRx port rx then s
  else (s.count (Reg.pcntRxFrames port)).count (Reg.pcntRxOctets port) 64 len

/-- A frame of this length goes on (R123; log entry 15). -/
def State.rxLengthOk (s : State) (port len : Nat) : Bool := 64 ≤ len && len ≤ s.get (Reg.portMaxFrame port)

/-- A frame that has reached the Lantern die is deciphered and written to cells (R14, R17). -/
def State.frameIn (s : State) (port : Nat) (bad : Bool) (rx : RxFrame) (at' : Arrival) : State :=
  match s.rxCipher port (rx.bytes.take (rx.bytes.length - 4)) bad with
  | .discard s => s
  | .pass s b v => s.writeFrame port b v at'

/-- A frame with its timestamp goes on to the Lantern die: a frame of P32 to P36 waits for the end of a retrain, and is dropped at the
attachment while the Chimney link is down (R14, R384, R568). -/
def State.frameOn (s : State) (port : Nat) (rx : RxFrame) : State :=
  let bad := badAtRx port rx
  let z := s.rxStamp port
  let s := z.2
  let valid : Bool := port < 32 || s.get Reg.followerInvalid = 0
  if 32 ≤ port ∧ s.get Reg.chmState = 3 then s.count Reg.chmFramesLost
  else if 32 ≤ port ∧ s.get Reg.chmState = 2 then
    { s with crossing := s.crossing ++ [⟨port, bad, rx, z.1, valid, 0⟩] }
  else s.frameIn port bad rx ⟨z.1, valid, rx.late, rx.backlog⟩

/-- The frames that waited at the attachment are dropped: the link is down (R384). -/
def State.loseCrossing (s : State) : State :=
  s.crossing.foldl (fun s _ => s.count Reg.chmFramesLost) { s with crossing := [] }

/-- FRAME_RECEIVE (R17): a port receives a frame, counts it, deciphers it and writes it to cells. PAUSE and priority flow
control frames have a command of their own, and frames of EtherType 0x8808 go no further here (log entry 153). -/
def execFrameReceive (port : Nat) (rx : RxFrame) (s : State) : Host.Outcome State Fault Refusal :=
  if s.running ∧ s.portLive port ∧ s.linkUp port then
    let s := (s.count (Reg.pcntFecCorrected port) 64 rx.fecCorrected).count (Reg.pcntFecUncorrected port) 64 rx.fecUncorrected
    let s := if port < 32 then s.count (Reg.pcntRxFragments port) 64 rx.fragments else s
    match rx.merge with
    | 1 => .next (s.count (Reg.pcntRxAssemblyErrors port))
    | 2 => .next (s.count (Reg.pcntRxSmdErrors port))
    | 3 => .next (s.verifyRequest port)
    | 4 => .next (s.verifyResponse port)
    | _ =>
      let ok := s.rxLengthOk port rx.bytes.length
      let s := s.rxCount port rx
      if ok ∧ beAt rx.bytes 12 2 ≠ 0x8808 then .next (s.frameOn port rx) else .next s
  else .next s

/-! ## Verdicts (R235, R240 to R243, R264 to R266) -/

/-- A receive slot accepts a number (R264, R265, R266): the other active slot that is older is superseded, the replay state
moves, the threshold and exhaustion events are queued. -/
def State.acceptRx (s : State) (port slot pn : Nat) : State :=
  let other := if slot % 2 = 0 then slot + 1 else slot - 1
  let s := s.count (Reg.saFrames slot)
  let s := if s.get (Reg.saState slot) = 4 then s.count (Reg.scpRxSuperseded port) else s
  let s :=
    if s.get (Reg.saState slot) = 3 ∧ s.get (Reg.saState other) = 3 ∧
        s.get (Reg.slotActiveAt 0 other) < s.get (Reg.slotActiveAt 0 slot) then
      s.sets [(Reg.saState other, 4), (Reg.slotOverlapAt 0 other, s.now + 1)]
    else s
  let highest := max (s.get (Reg.slotHighest 0 slot)) (pn + 1)
  let next := max (max (s.get (Reg.saNextPn slot)) (highest - s.get (Reg.saReplayWindow slot))) 1
  let s := s.sets [(Reg.slotHighest 0 slot, highest), (Reg.saNextPn slot, min next (2 ^ 64 - 1))]
  let s := if s.get (Reg.slotThresholdMet 0 slot) = 0 ∧ s.get (Reg.saPnThreshold slot) ≤ pn then
      (s.set (Reg.slotThresholdMet 0 slot) 1).saEvent 1 slot else s
  if s.lastPn slot < next ∧ s.get (Reg.saState slot) ≠ 5 then (s.set (Reg.saState slot) 5).saEvent 2 slot else s

/-- What becomes of a frame whose verdict fails (R171, R241): a store-and-forward frame is removed, a cut-through frame stomped. -/
def State.verdictFrame (s : State) (v : Verdict) : State :=
  match s.frame? v.frame with
  | none => s
  | some f =>
    if f.cutThrough then
      (s.updFrame v.frame (fun f => { f with stomp := true, stompCause := if f.stomp then f.stompCause else 2, verdictDone := true })).count
        (Reg.lcRxStompsRaised v.port)
    else s.dropFrame v.frame Reg.lcTxGapRemoved

/-- A number that its slot took already, at the final replay update: late, as at the preliminary check (R235, R265; log entry 159). -/
def State.verdictLate (s : State) (v : Verdict) : State :=
  ((s.count (Reg.lcRxLate v.port)).count (Reg.saRejected v.slot)).verdictFrame v

/-- A verdict that fails (R171, R207, R212, R241): a store-and-forward frame is removed, a cut-through frame stomped. A failed
ICV, and any failure of a cut-through frame, is a failed verification for the recovery function. A bad FCS alone of a frame that waits in
its queues counts in `Pcnt.RxFcsErrors` only (R171; log entry 139). -/
def State.verdictFails (s : State) (v : Verdict) : State :=
  let kept := s.entries.any (·.frame = v.frame) && !(s.frame? v.frame).any (·.cutThrough)
  let s := if v.protectedRx && (v.icvBad || v.checkBad || !kept) then
      (s.count (if v.checkBad then Reg.lcRxCheckDrops v.port else Reg.lcRxInvalid v.port)).count (Reg.saRejected v.slot)
    else s
  (if v.icvBad || v.checkBad || (s.frame? v.frame).any (·.cutThrough) then s.recoveryFailed v else s).verdictFrame v

/-- With a replay window of 0 a verified number is taken only when it exceeds the last one taken, though it passed the preliminary check
(R265; log entry 159). -/
def State.repeats (s : State) (v : Verdict) : Bool :=
  v.protectedRx && s.get (Reg.saReplayWindow v.slot) = 0 && v.pn < s.get (Reg.slotHighest 0 v.slot)

/-- RX_VERDICT (R241): the verdict of the oldest frame of a port whose verdict is still to come. -/
def execRxVerdict (port : Nat) (s : State) : Host.Outcome State Fault Refusal :=
  match takeFirst (fun v => v.port == port) s.verdicts with
  | some (v, rest) =>
    let s : State := { s with verdicts := rest }
    if v.fcsBad || v.icvBad || v.checkBad then .next (s.verdictFails v)
    else if s.repeats v then .next (s.verdictLate v)
    else
      let s := s.updFrame v.frame (fun f => { f with eligible := true, verdictDone := true })
      let s := if v.protectedRx then s.count (Reg.lcRxOk port) else s
      if v.protectedRx ∧ 3 ≤ s.get (Reg.saState v.slot) then .next (s.acceptRx port v.slot v.pn) else .next s
  | none => .next s

/-! ## Transmit lookahead (R223 to R226) -/

/-- The candidate of a port: the eligible head of the highest class with an open gate, or else of the class whose gate opens
first within the next 640 ns (R223). -/
def State.candidate (s : State) (n : Nat) : Option Entry :=
  match s.readyAmong n (s.get (Reg.gclOperGates n)) with
  | some e => some e
  | none => (s.rowsAhead n 640).findSome? (fun r => s.readyAmong n r.gates)

/-- LOOKAHEAD_RESERVE (R224): a free keystream buffer takes the candidate and reserves its number; a prepared buffer whose
candidate changed is bound anew (R226); a candidate without a usable association is held or removed (R262). -/
def execLookaheadReserve (port : Nat) (s : State) : Host.Outcome State Fault Refusal :=
  if s.forwarding ∧ port < 37 ∧ s.portLive port then
    match s.candidate port with
    | none => .next s
    | some e => match s.frame? e.frame with
      | none => .next s
      | some f => match s.guardNow port f with
        | .clear => .next s
        | .secure slot =>
          match s.prep.find? (fun p => p.port = port) with
          | some p => if p.queue = e.queue ∧ p.frame = e.frame then .next s else .next (s.rebind e)
          | none =>
            if 2 ≤ (s.wire.filter (fun w => w.entry.port = port && w.encrypted)).length then .next s
            else .next (s.reserve e slot s.now)
        | g => .next (s.removeHead e g)
  else .next s

/-! ## The inverse check (R237 to R239) -/

/-- The keystream capacities at the present throttle step, in Mbit/s (R217). -/
def State.recapacity (s : State) : State :=
  let step := s.get Reg.bufThrottleStep
  s.sets [(Reg.lcTxCapacity, 20000 * step * s.get Reg.lcTxPipesInService),
    (Reg.lcRxCapacity, 20000 * step * s.get Reg.lcRxPipesInService)]

/-- A pipeline pair is retired (R238): the mask, the pairs in service, a report and the event line. -/
def State.retirePair (s : State) (tx : Bool) (pair : Nat) : State :=
  let mask := if tx then Reg.lcTxRetiredMask else Reg.lcRxRetiredMask
  let pipes := if tx then Reg.lcTxPipesInService else Reg.lcRxPipesInService
  let s := (s.set mask (setBit (s.get mask) pair true)).uncount pipes
  (s.recapacity.reportObj 3 1 0x2801 (if tx then 3 else 4) pair).pulse 0x06 0

/-- A unit that failed twice is retired (R238, R239). -/
def State.retireUnit (s : State) (unit port pair : Nat) : State :=
  match unit with
  | 3 => ((s.set Reg.lcFallbackRetired (setBit (s.get Reg.lcFallbackRetired) port true)).reportObj 3 1 0x2801 0x0A port).pulse 0x06 0
  | _ => s.retirePair (unit = 0) pair

/-- The units out of service that a start tests again (R238, R239): a free value gives for each whether it fails anew, and one that fails
is retired as R238 says (log entry 160). -/
def State.testUnits (s : State) (unit mask : Nat) : State :=
  if mask = 0 then s
  else
    let d := s.draw 64
    ((List.range 37).filter (fun k => bitOf mask k && bitOf d.1 k)).foldl (fun s k => s.retireUnit unit k k) d.2

/-- A block goes to the started frame of a port that still needs one, or else to its prepared buffer (R218, R237). -/
def State.releaseTx (s : State) (port : Nat) : State :=
  match s.wire.find? (fun w => w.entry.port = port && w.encrypted && w.blocks < w.needed) with
  | some w =>
    let last := w.blocks + 1 = w.needed
    let s := if last then s.set Reg.lcTxGranted (s.get Reg.lcTxGranted - w.grant) else s
    { s with wire := s.wire.map (fun v => if v.entry.same w.entry then
        { v with blocks := w.blocks + 1, grant := if last then 0 else w.grant } else v) }
  | none => { s with prep := s.prep.map (fun p => if p.port = port && p.blocks < 129 then { p with blocks := p.blocks + 1 } else p) }

/-- A block goes to the first entry of a speculation window that lacks one: J0 and 16 blocks each (R216, R232). -/
def fillEntry : List (Nat × Nat) → List (Nat × Nat)
  | [] => []
  | (p, k) :: t => if k < 17 then (p, k + 1) :: t else (p, k) :: fillEntry t

/-- A block released where it was asked for: 0 transmit, 1 the speculation store; blocks of a frame under reception were
used as they came (R237, R239). -/
def State.releaseBlock (s : State) (unit port : Nat) : State :=
  match unit with
  | 0 => s.releaseTx port
  | 1 => { s with spec := s.spec.map (fun w => if w.port = port then { w with entries := fillEntry w.entries } else w) }
  | _ => s

/-- A frame under reception whose block failed its check fails its verdict (R239). -/
def State.checkFails (s : State) (port : Nat) : State :=
  { s with verdicts := s.verdicts.map (fun v => if v.port = port && v.protectedRx &&
      some v.frame = ((s.verdicts.filter (fun w => w.port = port)).getLast?).map (·.frame) then { v with checkBad := true } else v) }

/-- Whether a unit that computes blocks is in service: a pipeline pair of a direction, or the fall-back unit of a port. -/
def State.unitServes (s : State) (unit port pair : Nat) : Bool :=
  match unit with
  | 0 => pair < 10 && !bitOf (s.get Reg.lcTxRetiredMask) pair
  | 1 => pair < 10 && !bitOf (s.get Reg.lcRxRetiredMask) pair
  | 2 => pair < 10 && !bitOf (s.get Reg.lcRxRetiredMask) pair
  | 3 => port < 37 && !bitOf (s.get Reg.lcFallbackRetired) port
  | _ => false

/-- KEYSTREAM_BLOCK_RESULT (R237): a forward result passes the inverse check and is released, or is computed again by the
same unit; a second failure retires the unit, and another computes the block. `unit` is 0 for a transmit pair, 1 for a
receive pair filling the speculation store, 2 for a receive pair serving the frame under reception, 3 for a fall-back unit. -/
def execKeystreamBlockResult (unit port pair : Nat) (ok1 ok2 : Bool) (s : State) : Host.Outcome State Fault Refusal :=
  if s.forwarding ∧ port < 37 ∧ s.unitServes unit port pair then
    if ok1 then .next (s.releaseBlock unit port)
    else
      let s := if 2 ≤ unit then s.checkFails port else s
      let s := (s.count Reg.lcCheckMismatches).count Reg.lcRecomputes
      if ok2 then .next (s.releaseBlock unit port)
      else .next (((s.count Reg.lcCheckMismatches).retireUnit unit port pair).releaseBlock unit port)
  else .next s

/-- LC_CLEAR (R246, R124): clears every cipher counter of the port. -/
def execLcClear (ctx : Ctx) (n value : Nat) (s : State) : Host.Outcome State Fault Refusal :=
  .next (s.cmdWrite ctx (0x2880 + n) 0x20 (s.hasPort n && n < 37) false (onlyOne value) (fun s => s.clearRange .lcCnt n 0x01 0x1F))

end Sys2Proof.Machine
end

