-- ==== Sys2Proof/Machine/Hostport.lean ====
section
/-! DEFINITION. Frames of the Wick die and of host software at P37: how one enters the classifier with ingress port 37, and
how a unit takes frames out of a P37 host queue (R119, R279, R290, R416, R417, R496). -/
namespace Sys2Proof.Machine

/-- A whole frame without FCS enters the classifier through the parse queue of P37, with an ingress port of its own. No verdict
is awaited; it needs room in the buffer and in the parse queue (R126, R170, R174). `tag` takes the place of the port's
profile. -/
def State.ingressFrame (s : State) (port : Nat) (tag : Option Nat) (reclassified : Bool) (clocks : List Nat) (b : List Byte) :
    State :=
  if ¬ s.running then s
  else if s.partitionMode && s.get Reg.bufStagingCells.latched < s.stagedCells port + cellsOf b.length then
    s.count (Reg.qcntStagingDrops port)
  else if s.get Reg.bufFreeCells < cellsOf b.length then s.count (Reg.qcntNoCellDrops port)
  else if 32 ≤ (s.records.filter (fun r => r.1 = 37)).length then s.count (Reg.ccntParseQueueDrops 37)
  else
    let f : Frame := { id := 0, ingress := port, bytes := b, clocks := clocks, eligible := true, verdictDone := true,
                       hostTag := tag, reclassified := reclassified }
    let r := s.storeFrame f
    let s := r.1
    let s : State := { s with
      records := s.records ++ [(37, r.2)],
      staging := if s.partitionMode then s.staging ++ [{ frame := r.2, ingress := port, since := s.now }] else s.staging }
    if s.portPaused port then s.count (Reg.ccntPauseHeld port) else s

/-- A frame that a Wick unit or host software sends enters the classifier at P37. -/
def State.hostFrame (s : State) (tag : Option Nat) (b : List Byte) : State :=
  s.ingressFrame 37 tag false ([0, 1, 2, 3, 4].map s.clock) b

/-- A frame of the gateway or of the twin stream crosses the Chimney link and enters the classifier: it waits for the end of a retrain,
and is dropped while the link is down (R16, R384, R416, R496). -/
def State.wickSend (s : State) (tag : Nat) (b : List Byte) : State :=
  if s.get Reg.chmState = 3 then s.count Reg.chmFramesLost
  else if s.get Reg.chmState = 2 then { s with crossing := s.crossing ++ [⟨37, false, { bytes := b }, [], true, tag⟩] }
  else s.hostFrame (some tag) b

/-- The frames that waited for the end of a retrain reach the Lantern die (R384, R568). -/
def State.crossOver (s : State) : State :=
  s.crossing.foldl (fun s x => if x.port = 37 then s.hostFrame (some x.tag) x.rx.bytes
    else s.frameIn x.port x.bad x.rx ⟨x.clocks, x.tsValid, x.rx.late, x.rx.backlog⟩) { s with crossing := [] }

/-- Bytes padded with zeros to whole words. -/
def padWords (b : List Byte) : List Byte := padTo ((b.length + 3) / 4 * 4) b

/-- The place of the next record: the next 64-byte boundary, which is the end of the ring when none is left in it (R290). -/
def ringNext (off : Nat) : Nat := (off + 63) / 64 * 64

/-- A host queue delivers to its receive ring: not queue 31, nor the queue of the gateway or of the twin (R289, R417, R496). -/
def State.ringQueue (s : State) (q : Nat) : Bool :=
  q < 31 && s.get Reg.gwInboundQueue ≠ q && s.get Reg.twRxQueue ≠ q

/-- Where a record of `n` bytes goes: its offset, and whether a wrap word is written first, for which the ring needs a place (R290). -/
def ringPlace (produce consume size n : Nat) : Option (Nat × Bool) :=
  let off := ringNext produce
  if consume ≤ produce then
    if off + n < size ∨ (off + n = size ∧ consume ≠ 0) then some (off, false)
    else if n < consume then some (0, off < size) else none
  else if off + n < consume then some (off, false) else none

/-- The bytes that an input descriptor and its frame take (R272). -/
def inputLength (f : Frame) (b : List Byte) : Nat := 24 + (if f.wideKey then 128 else 64) + (padWords b).length

/-- What a P37 queue feeds takes a record of `n` bytes now: the Coath endpoint, the gateway, the twin, or a ring with room
(R150, R289, R290, R417, R496). -/
def State.hostTakes (s : State) (q n : Nat) : Bool :=
  if q = 31 then s.running
  else if s.get Reg.gwInboundQueue = q then s.forwarding && s.get Reg.chmState ≠ 3
  else if s.get Reg.twRxQueue = q then s.get Reg.twEnable.latched = 1 && s.get Reg.chmState = 1
  else s.get (Reg.rxRingEnable q) = 1 &&
    (ringPlace (s.get (Reg.rxRingProduce q)) (s.get (Reg.rxRingConsume q)) (2 ^ s.get (Reg.rxRingSizeLog2 q).latched) n).isSome

/-- The head of a P37 queue takes part in the choice of the next frame but for R194: it is eligible, the gate of its class is
open and a shaped class has a credit of 0 or more (R193, R198). -/
def State.hostWaits (s : State) (q : Nat) : Option (Entry × Frame) :=
  match (s.queueEntries 37 q).head? with
  | some e =>
    match s.frame? e.frame with
    | some f =>
      if f.eligible && s.gateIsOpen 37 (q / 4) &&
          !(s.get (Reg.cbsIdleSlope 37 (q / 4)) ≠ 0 && toSigned 32 (s.get (Reg.cbsCredit 37 (q / 4))) < 0) then some (e, f)
      else none
    | none => none
  | none => none

/-- The head of a P37 queue may leave: it fits before its gate closes, and what the queue feeds takes it (R194, R290). -/
def State.hostReady (s : State) (q : Nat) : Bool :=
  (s.hostWaits q).any (fun (e, f) =>
    s.fitsGate 37 (q / 4) (egressBytes e f).length && s.hostTakes q (inputLength f (egressBytes e f)))

/-- The queue that P37 serves next: of the highest class that takes part, its four queues in turn (R193). -/
def State.hostTurn (s : State) : Option Nat :=
  [7, 6, 5, 4, 3, 2, 1, 0].findSome? (fun c =>
    ((List.range 4).map (fun k => 4 * c + (s.get (Reg.hostNext c) + k) % 4)).find? s.hostReady)

/-- The bytes of the head frame of the P37 queue whose turn it is, as P37 hands it out: with the edits of its action unless it is
a plain copy (R138, R139, R193). -/
def State.hostHead (s : State) (queue : Nat) : Option (Entry × List Byte) :=
  if s.hostTurn = some queue then (s.hostWaits queue).map (fun (e, f) => (e, egressBytes e f)) else none

/-- A head that does not fit before the gate of its class closes is counted once in a gate opening (R194). -/
def State.hostPass (s : State) (q : Nat) : State :=
  match s.hostWaits q with
  | some (e, f) => if s.fitsGate 37 (q / 4) (egressBytes e f).length then s else s.countNoFit 37 (q / 4)
  | none => s

/-- The credit of a shaped class of P37 pays for a frame at the idle slope less the rate of P37 (R119, R197; log entry 140): one
bit takes 5 ps, and one kbit/s for one picosecond is 10^-9 bit. -/
def State.hostCharge (s : State) (c bytes : Nat) : State :=
  let slope := s.get (Reg.cbsIdleSlope 37 c)
  if slope = 0 then s
  else
    let total : Int := toSigned 32 (s.get (Reg.cbsCredit 37 c)) * 1000000000 + s.get (Reg.cbsFrac 37 c) +
      ((slope : Int) - s.macRate 37) * (bytes * 40 : Nat)
    let total := max (-(2 ^ 31) * 1000000000) (min total ((2 ^ 31 - 1) * 1000000000))
    s.sets [(Reg.cbsCredit 37 c, ofSigned 32 (total / 1000000000)), (Reg.cbsFrac 37 c, (total % 1000000000).toNat)]

/-- The head entry of a P37 queue is taken away, its frame handed over; the next queue of its class is served after it
(R193). -/
def State.takeHost (s : State) (e : Entry) : State :=
  let bytes := match s.frame? e.frame with
    | some f => (egressBytes e f).length
    | none => 0
  let s := (s.settle 37).hostCharge (e.queue / 4) bytes
  let s := ({ s with entries := removeEntry e s.entries } : State).unref e.frame
  (s.settle 37).set (Reg.hostNext (e.queue / 4)) ((e.queue + 1) % 4)

/-- The consequence of an error that the read of the P37 entry whose turn it is meets (R162): 1 corrected, 2 cell data, 3 the link word of
cell `cell`, 4 the queue entry, 5 a descriptor whose chain is not trusted. P37 has no FCS to corrupt (R119). -/
def State.hostError (s : State) (e : Entry) (ecc cell : Nat) : State :=
  match ecc with
  | 1 => s.count Reg.bufEccCorrected
  | 2 => ((s.eccReport 37).updFrame e.frame (fun f => { f with stomp := true, stompCause := 1 })).count (Reg.qcntErrorStomps 37)
  | 3 =>
    let s := s.eccReport 37
    ((s.entries.filter (fun a => a.frame = e.frame && !a.inTx && !a.same e)).foldl (fun s a => s.dropEntry a Reg.lcTxGapRemoved) s).cutChain
      e.frame (cell + 1)
  | 4 => ((s.eccReport 37).dropEntry e Reg.lcTxGapRemoved).count (Reg.qcntErrorDrops 37)
  | 5 => (((s.eccReport 37).loseChain e.frame).dropEntry e Reg.lcTxGapRemoved).count (Reg.qcntErrorDrops 37)
  | _ => s

/-- The P37 queue whose turn it is meets an error in the buffer structures (R162). -/
def State.hostMeets (s : State) (ecc cell : Nat) : State :=
  match s.hostTurn.bind s.hostWaits with
  | some (e, _) => if s.running then s.hostError e ecc cell else s
  | none => s

/-- FRAME_TRANSMIT_START (R193): the port selects the head of the highest class that takes part and starts it, or reserves,
defers, holds or removes it. An express frame waits until the MAC has preempted the frame in transmission (R195). `ecc` and `cell` say
what the reads of the buffer structures meet (R162); on P37, which other commands serve, that is all. -/
def execFrameTransmitStart (port ecc cell : Nat) (s : State) : Host.Outcome State Fault Refusal :=
  if s.wireFree port then
    let s := s.rehold port
    match s.pick port [7, 6, 5, 4, 3, 2, 1, 0] with
    | (.start e f g, s) =>
      if 32 ≤ port ∧ s.get Reg.chmState = 3 then .next (((s.useNumber e).dropEntry e Reg.lcTxGapRemoved).count Reg.chmFramesLost)
      else if s.wire.any (fun w => w.entry.port = port && !w.held) then .next ((s.set (Reg.expressWaits port) 1).rehold port)
      else .next (s.startPicked e f g ecc cell)
    | (.turned e g, s) => .next (s.removeHead e g)
    | (_, s) => .next ((s.set (Reg.expressWaits port) 0).rehold port)
  else if port = 37 then .next (s.hostMeets ecc cell)
  else .next s

end Sys2Proof.Machine
end

