-- ==== Sys2Proof/Machine/Outputs.lean ====
section
/-! DEFINITION. The output stages, the contactor drivers with ramp-before-open, claim arbitration and the twin (R426 to R430,
R483 to R498): what every event of the Wick die leaves in them. -/
namespace Sys2Proof.Machine

/-! ## Contactor drivers and the state-C switch (R428 to R430) -/

/-- The latest totaliser sample is fresh and shows a current below the limit of a driver (R429). -/
def State.lowSample (s : State) (k : Nat) : Bool :=
  0 < s.get Reg.totSampleAt && s.now < s.get Reg.totSampleAt - 1 + s.get Reg.totSampleTimeout * us &&
  (toSigned 32 (s.get Reg.totCurrent)).natAbs < s.get (Reg.cdOpenCurrentLimit k)

/-- The pilot is in state A, E or F (R429). -/
def State.pilotOff (s : State) : Bool := s.get Reg.cpState = 1 || s.get Reg.cpState = 5 || s.get Reg.cpState = 6

/-- The ramp request stands while a driver is opening (R426, R429). -/
def State.rampSettle (s : State) : State :=
  s.set Reg.chgRampRequest (flag ([0, 1, 2, 3].any (fun k => s.get (Reg.cdState k) = 2)))

/-- A driver opens now; the open-load bit stands only while it is on (R428; log entry 29). -/
def State.cdOpenNow (s : State) (k : Nat) : State :=
  (s.sets [(Reg.cdState k, 0), (Reg.outDrive (16 + k), 0), (Reg.cdFaults k, setBit (s.get (Reg.cdFaults k)) 0 false)]).rampSettle

/-- The switch CP_S2 (R426). -/
def State.s2Switch (s : State) (v : Nat) : State :=
  s.sets [(Reg.cpStatus, setBit (s.get Reg.cpStatus) 3 (v = 1)), (Reg.outDrive 20, v)]

/-- A driver is to open (R429, R430). One that is open, or in its fault state, stays as it is; the wait of a first open
goes on. -/
def State.cdOpen (s : State) (k : Nat) : State :=
  if s.get (Reg.cdState k) ≠ 1 then s
  else if s.get (Reg.cdRole k) ≠ 1 ∨ s.pilotOff then s.cdOpenNow k
  else
    let s := s.set Reg.chgRampRequest 1
    let s := if s.get Reg.chgRampOpensS2 = 1 then (s.s2Switch 0).set Reg.s2Ramped 1 else s
    if s.lowSample k then s.cdOpenNow k
    else s.sets [(Reg.cdState k, 2), (Reg.cdOpenAt k, s.now + s.get (Reg.cdRampWait k) * ms)]

/-- A driver is to close: a pending open is cancelled; a driver in its fault state stays off (R428, R430, R431). -/
def State.cdClose (s : State) (k : Nat) : State :=
  if s.get (Reg.cdState k) = 3 then s
  else (s.sets [(Reg.cdState k, 1), (Reg.outDrive (16 + k), 1)]).rampSettle

/-- Drivers whose wait has ended by a low fresh sample, or by the pilot, open (R429, R430). -/
def State.cdSettle (s : State) : State :=
  [0, 1, 2, 3].foldl (fun s k =>
    if s.get (Reg.cdState k) = 2 ∧ (s.pilotOff ∨ s.lowSample k) then s.cdOpenNow k else s) s

/-! ## Output stages (R483, R488) -/

/-- The outputs of a group that the variant has: GO0 to GO15, CD0 to CD3 and CP_S2 (R483, R502). -/
def State.outputsOf (s : State) (g : Nat) : List Nat :=
  (List.range 21).filter (fun o => s.get (Reg.outGroup o) = g && (o < 16 || s.fuses.variant.hasInlet))

/-- An output is driven to 0 or 1, or released (2). -/
def State.drive (s : State) (o v : Nat) : State :=
  if o < 16 then s.set (Reg.outDrive o) v
  else if o < 20 then (if v = 1 then s.cdClose (o - 16) else s.cdOpen (o - 16))
  else s.s2Switch (if v = 1 then 1 else 0)

/-- The value that the latest accepted write gave an output. -/
def State.commanded (s : State) (o : Nat) : Nat :=
  if o < 16 then s.get (Reg.outCommand o) else if o < 20 then s.get (Reg.cdCommand (o - 16)) else s.get Reg.cpS2

/-- The outputs of a group take their safe states (R488). -/
def State.driveSafe (s : State) (g : Nat) : State :=
  (s.outputsOf g).foldl (fun s o => s.drive o (s.get (Reg.outSafeState o))) s

/-- The outputs of a group are released (R488). -/
def State.driveRelease (s : State) (g : Nat) : State := (s.outputsOf g).foldl (fun s o => s.drive o 2) s

/-- The value of an output in the latest valid twin frame (R497). -/
def State.twinValue (s : State) (o : Nat) : Nat :=
  if o < 16 then flag (bitOf (s.get Reg.twGo) o) else flag (bitOf (s.get Reg.twCd) (o - 16))

/-- A group is taken over: the frame's values drive every output that the owner has not written since it appeared, and the
owner's writes the others (R491). -/
def State.driveTaken (s : State) (g : Nat) : State :=
  (s.outputsOf g).foldl (fun s o =>
    s.drive o (if s.get (Reg.outWritten o) = 1 then s.commanded o else s.twinValue o)) s

/-! ## Claims (R485 to R491) -/

/-- A cluster is alive (R486). -/
def State.alive (s : State) (c : Nat) : Bool := s.get (if c = 0 then Reg.hbStateA else Reg.hbStateB) = 1

/-- The counted claims of Lamplighter A and B, and their maximum (R487). -/
def State.claimOf (s : State) (c g : Nat) : Nat :=
  if s.alive c then s.get (if c = 0 then Reg.cgClaimA g else Reg.cgClaimB g) else 0
/-- The local claim on a group (R487). -/
def State.localClaim (s : State) (g : Nat) : Nat := max (s.claimOf 0 g) (s.claimOf 1 g)
/-- The counted claim of the twin (R486). -/
def State.twinClaim (s : State) (g : Nat) : Nat :=
  if s.get (Reg.cgTwinShared g) = 1 ∧ s.get Reg.twState = 2 then s.get (Reg.cgClaimTwin g) else 0

/-- The owner of a group: 0 none, 1 A, 2 B, 3 the twin (R487). -/
def State.ownerOf (s : State) (g : Nat) : Nat :=
  let ca := s.claimOf 0 g
  let cb := s.claimOf 1 g
  let ct := s.twinClaim g
  let l := s.localClaim g
  let lo := if cb ≤ ca ∧ 0 < ca then 1 else if 0 < cb then 2 else 0
  if l = 0 ∧ ct = 0 then 0
  else if ct < l ∨ (l = ct ∧ s.get Reg.twUnit.latched = 0) then lo
  else 3

/-- The twin can still hand a group over: it is alive or has sent a release frame (R491, R498). -/
def State.twinThere (s : State) : Bool := s.get Reg.twState = 2 || s.get Reg.twState = 4

/-- A group enters a state of R488, with what its outputs do there. -/
def State.groupEnter (s : State) (g st : Nat) : State :=
  let old := s.get (Reg.cgState g)
  let s := s.set (Reg.cgState g) st
  match st with
  | 1 => if old = 2 ∨ old = 4 then s.driveTaken g else s
  | 2 => s.driveRelease g
  | 4 => s.driveRelease g
  | 5 => s.set (Reg.cgHoldAt g) s.now
  | 6 => s.driveSafe g
  | _ => s

/-- The state that the owner asks of an arbitrated group (R488, R489, R491; log entry 20). -/
def State.groupNext (s : State) (g : Nat) : Nat :=
  let st := s.get (Reg.cgState g)
  match s.get (Reg.cgOwner g) with
  | 0 => if st = 0 ∨ st = 1 ∨ st = 3 then 5 else if st = 2 then 4 else st
  | 3 => if st = 0 ∨ st = 1 ∨ st = 5 then 3 else if st = 2 ∨ st = 6 then 4 else st
  | _ => if (st = 2 ∨ st = 4) ∧ s.twinThere then 2 else 1

/-- The owner of an arbitrated group is decided; a change pulses, is counted, and as the effect of a loss counts as a
takeover (R487, R499). -/
def State.decideGroup (s : State) (loss : Bool) (g : Nat) : State :=
  if s.get (Reg.cgArbitrated g) ≠ 1 then s
  else
    let o := s.ownerOf g
    let s :=
      if o = s.get (Reg.cgOwner g) then s
      else
        let s := ((s.set (Reg.cgOwner g) o).count (Reg.cgOwnerChanges g) 32).pulse 0x08 g
        let s := if loss then s.count Reg.hbTakeovers 32 else s
        (s.outputsOf g).foldl (fun s k => s.set (Reg.outWritten k) 0) s
    let n := s.groupNext g
    if n = s.get (Reg.cgState g) then s else s.groupEnter g n

/-- The owner of every group is decided (R487). -/
def State.decideOwners (s : State) (loss : Bool := false) : State := (List.range 16).foldl (fun s g => s.decideGroup loss g) s

/-- A write of a path context is accepted for a group: always while it is open, from its owner while it is arbitrated
(R484). -/
def State.claimAccepts (s : State) (ctx : Ctx) (g : Nat) : Bool :=
  s.get (Reg.cgArbitrated g) ≠ 1 || (s.get (Reg.cgOwner g) = 1 && ctx = .lampA) || (s.get (Reg.cgOwner g) = 2 && ctx = .lampB)

/-- An accepted write to an output drives it in the states that obey writes, and is kept for the take-over in state 2
(R488, R491). -/
def State.outputWrite (s : State) (o v : Nat) : State :=
  let st := s.get (Reg.cgState (s.get (Reg.outGroup o)))
  let s := s.set (Reg.outWritten o) 1
  if st = 0 ∨ st = 1 then s.drive o v else s

/-! ## Twin frames (R496 to R498) -/

/-- Twin mode runs (R496). -/
def State.twinOn (s : State) : Bool := s.get Reg.twEnable.latched = 1

/-- A driving bit is set in states 0, 1, 3 and 5, and a yielded bit in states 3 and 4 (R497). -/
def markOf (st : Nat) : Nat := flag (st = 0 || st = 1 || st = 3 || st = 5) * 2 + flag (st = 3 || st = 4)

/-- Bytes 0 to 38 of a twin frame of a type: 1 periodic, 2 change, 3 release (R497, R498). -/
def State.twinBytes (s : State) (type : Nat) : List Byte :=
  let claim := fun g => if type = 3 then 0 else s.localClaim g
  [BitVec.ofNat 8 0x5C, BitVec.ofNat 8 (type * 16 + s.mode.code * 2 + s.get Reg.twUnit.latched)] ++
  beBytes 2 (s.get Reg.twSeq) ++
  (List.range 16).flatMap (fun g => [BitVec.ofNat 8 (claim g), BitVec.ofNat 8 (markOf (s.get (Reg.cgState g)))]) ++
  beBytes 2 (maskOf ((List.range 16).filter (fun o => s.get (Reg.outDrive o) = 1))) ++
  [BitVec.ofNat 8 (maskOf ([0, 1, 2, 3, 4].filter (fun k => s.get (Reg.outDrive (16 + k)) = 1)))]

/-- An Ethernet frame of the Wick die: destination, source, a tag when bit 12 of its word is set, and type (R416, R496). -/
def wickFrame (dest src vlan type : Nat) (payload : List Byte) : List Byte :=
  beBytes 6 dest ++ beBytes 6 src ++
  (if bitOf vlan 12 then beBytes 2 0x8100 ++ beBytes 2 (setBit vlan 12 false) else []) ++
  beBytes 2 type ++ padTo (max 46 payload.length) payload

/-- A twin frame goes out on the claim link and, while the Lantern die and the Chimney link are up, as a frame of the twin
stream (R496, R497). -/
def State.sendTwin (s : State) (type : Nat) : State :=
  if ¬ s.twinOn ∨ ¬ (s.running ∨ s.mode = .snuffed) then s
  else
    let b := s.twinBytes type
    let s := (s.setBlob Reg.claimTx (b ++ beBytes 2 (crc16 b))).set Reg.twSeq ((s.get Reg.twSeq + 1) % 65536)
    if ¬ s.running then s
    else s.wickSend (s.get Reg.twProfileTag)
      (wickFrame (s.get Reg.twDestMac) (s.get Reg.gwSourceMac) (s.get Reg.twVlan) 0x88B5 b)

/-- What a change frame reports of the shared groups: claim, state and values (R496). -/
def State.twinSummary (s : State) : List (Nat × Nat × List Nat) :=
  ((List.range 16).filter (fun g => s.get (Reg.cgTwinShared g) = 1)).map (fun g =>
    (s.localClaim g, s.get (Reg.cgState g), (s.outputsOf g).map (fun o => s.get (Reg.outDrive o))))

/-- A change of a shared group sends a frame at once; in Snuffed every frame is a release frame (R496, R498). -/
def State.twinChange (old s : State) : State :=
  if old.twinSummary ≠ s.twinSummary then s.sendTwin (if s.mode = .snuffed then 3 else 2) else s

/-! ## Loss of both clusters and release (R490, R498) -/

/-- The claim of a cluster on a group as every context reads it, and as its own path context wrote it (R501). -/
abbrev Reg.cgClaimOf (c g : Nat) : Reg := if c = 0 then Reg.cgClaimA g else Reg.cgClaimB g
abbrev Reg.cgClaimBy (c g : Nat) : Reg := (Reg.cgClaim g).of (if c = 0 then .lampA else .lampB)

/-- Every claim of a cluster is 0 (R486). -/
def State.claimsGone (s : State) (c : Nat) : State :=
  (List.range 16).foldl (fun s g => s.sets [(Reg.cgClaimOf c g, 0), (Reg.cgClaimBy c g, 0)]) s

/-- The claims that a cluster wrote while it was dead count when it is alive again (R486, R487; log entry 177). -/
def State.claimsBack (s : State) (c : Nat) : State :=
  (List.range 16).foldl (fun s g => s.set (Reg.cgClaimOf c g) (s.get (Reg.cgClaimBy c g))) s

/-- A cluster leaves state 1 for another state of R499. -/
def State.clusterLeaves (s : State) (c st : Nat) : State :=
  (s.set (if c = 0 then Reg.hbStateA else Reg.hbStateB) st).claimsGone c

/-- Entry to Snuffed, a crank or overvoltage entry, a requested entry to Ember, and reset assertion: neither cluster is alive,
open groups hold, and arbitrated groups go as R487 and R488 give (R490, R513). -/
def State.outputsLose (s : State) : State :=
  let s := [0, 1].foldl (fun s c => if s.alive c then (s.clusterLeaves c 2).pulse 0x09 c else s) s
  let s := (List.range 16).foldl (fun s g =>
    if s.get (Reg.cgArbitrated g) = 1 then s else if s.get (Reg.cgState g) = 0 then s.groupEnter g 5 else s) s
  (s.decideOwners true).sendTwin 3

end Sys2Proof.Machine
end

