-- ==== Sys2Proof/Machine/Halt.lean ====
section
/-! DEFINITION. Changes of the mode and entry to Snuffed (R458, R482, R510, R511). -/
namespace Sys2Proof.Machine

/-- The device enters a mode: the previous one is kept, and the mode line pulses on a change (R478, R482). -/
def State.enterMode (s : State) (m : Mode) : State :=
  if s.mode = m then s
  else (({ s with mode := m } : State).sets [(Reg.pwrPreviousMode, s.mode.code), (Reg.modeAt, s.now)]).pulse 0x0B 0

/-- The step in force: the lower of the step that VBAT gives and `Thr.Ceiling`, and 4/8 while the Chimney link is down
(R474, R475). -/
def State.stepNow (s : State) : Nat :=
  if s.get Reg.chmState = 3 then 4 else min (s.get Reg.thrStep) (s.get Reg.thrCeiling)

/-- The fabric takes the step in force: a change is counted when it falls, and its line pulses (R217, R475, R482). -/
def State.applyStep (s : State) : State :=
  let n := s.stepNow
  let old := s.get Reg.bufThrottleStep
  if n = old then s
  else
    let s := (s.set Reg.bufThrottleStep n).recapacity
    let s := if n < old then s.count Reg.thrStepDowns 32 else s
    let s := if 5 ≤ n then s.setFloor 0 else s
    s.pulse 0x0C 0

/-- Entry to Snuffed (R511): a transition under way is abandoned, ports signal, the outputs lose both clusters, the release
frame goes out, and the class 4 or 5 record is reported with its halt and Snuffed bits. -/
def State.snuff (s : State) (cls unit code address inst : Nat) (detail : List Byte) : State :=
  let s := s.enterMode .snuffed
  let s := s.sets [(Reg.snuffAt, s.now + 1), (Reg.rstHaltCause, cls), (Reg.pwrTarget, 0), (Reg.wakeLatched, 0),
    (Reg.supRailStatus, 0x15)]
  let s := if s.get Reg.pwrOutcome = outBusy then s.set Reg.pwrOutcome outAborted else s
  let old := s
  let s := (s.portsSnuff).outputsLose
  let s := State.twinChange old s
  s.report { cls := cls, code := code, unit := unit, flags := 3, address := address, inst := inst, detail := detail }

end Sys2Proof.Machine
end

