-- ==== Sys2Proof/Machine/Mem.lean ====
section
/-! DEFINITION. Bytes of memory in canonical form, the guarded windows of DRAM and flash, and the one way an initiator reads
or writes them (R348 to R362). Lines are held in plain form, with the KeyID and key under which a line was written (log entry 19). -/
namespace Sys2Proof.Machine

/-! ## Bytes -/

abbrev flashBase : Nat := 0x50000000
abbrev dramBase : Nat := 0x80000000

/-- What an unlisted address reads as: an erased byte in the flash window, 0 elsewhere (R350, R354; log entry 21). -/
def memDflt (a : Nat) : Byte := if flashBase ≤ a ∧ a < 0x60000000 then 0xFF else 0

/-- One byte of memory. -/
def Mem.get (l : List Host.Cell) (a : Nat) : Byte :=
  match l with
  | [] => memDflt a
  | (k, b) :: t => if k = a then b else Mem.get t a

/-- One byte of memory removed. -/
def Mem.del (l : List Host.Cell) (a : Nat) : List Host.Cell := l.filter (fun c => c.1 ≠ a)

/-- One byte of memory inserted, addresses rising. -/
def Mem.ins (l : List Host.Cell) (a : Nat) (b : Byte) : List Host.Cell :=
  match l with
  | [] => [(a, b)]
  | (k, c) :: t => if k = a then (a, b) :: t else if a < k then (a, b) :: (k, c) :: t else (k, c) :: Mem.ins t a b

/-- One byte of memory written: an entry equal to what an unlisted address reads as is not kept. -/
def Mem.put (l : List Host.Cell) (a : Nat) (b : Byte) : List Host.Cell :=
  if b = memDflt a then Mem.del l a else Mem.ins l a b

/-- The canonical form: addresses strictly rising, and no entry equal to what an unlisted address reads as. -/
def Mem.wf : List Host.Cell → Bool
  | [] => true
  | (k, b) :: t => b != memDflt k && (t.all (fun c => k < c.1)) && Mem.wf t

/-- `n` bytes from an address on. -/
def State.bytesAt (s : State) (a n : Nat) : List Byte := (List.range n).map (fun k => Mem.get s.mem (a + k))

/-- Bytes written from an address on. -/
def Mem.putAll (l : List Host.Cell) (a : Nat) : List Byte → List Host.Cell
  | [] => l
  | b :: t => Mem.putAll (Mem.put l a b) (a + 1) t

/-- Bytes written from an address on. -/
def State.setBytes (s : State) (a : Nat) (b : List Byte) : State := { s with mem := Mem.putAll s.mem a b }

/-- Every byte of a range reads as an unlisted one again. -/
def State.eraseBytes (s : State) (a n : Nat) : State :=
  { s with mem := s.mem.filter (fun c => !(a ≤ c.1 && c.1 < a + n)) }

/-! ## Windows, regions and keys (R348, R355 to R360, R525) -/

/-- The physical sizes in force (R365). -/
def State.dramSize (s : State) : Nat := 2 ^ 29 * 2 ^ s.get Reg.xmDramSize.latched
def State.flashSize (s : State) : Nat := 2 ^ 25 * 2 ^ s.get Reg.xmFlashSize.latched

/-- Seven eighths of a memory are visible (R348). -/
def visible (c : Nat) : Nat := 7 * c / 8

/-- The slot size of an image (R525). -/
def State.imageSlotSize (s : State) : Nat :=
  match s.get Reg.xmFlashSize.latched with
  | 0 => 6 * 2 ^ 20 | 1 => 16 * 2 ^ 20 | 2 => 40 * 2 ^ 20 | _ => 96 * 2 ^ 20

/-- The end of the device area of the flash, as an address (R525). -/
def State.deviceEnd (s : State) : Nat := flashBase + 0x1000000 + 2 * s.imageSlotSize

/-- A range lies in the data window of the DRAM, or of the flash. -/
def State.inDram (s : State) (a n : Nat) : Bool := dramBase ≤ a && a + n ≤ dramBase + visible s.dramSize
def State.inFlash (s : State) (a n : Nat) : Bool := flashBase ≤ a && a + n ≤ flashBase + visible s.flashSize

/-- An enabled region holds a range whole. -/
def State.inRegion (s : State) (r a n : Nat) : Bool :=
  s.get (Reg.rgEnable r) = 1 && s.get (Reg.rgBase r) ≤ a && a + n ≤ s.get (Reg.rgLimit r)

/-- The KeyID of a range: 15 in the device area, or that of the enabled region that holds it. -/
def State.kidOf (s : State) (a n : Nat) : Option Nat :=
  if flashBase ≤ a ∧ a + n ≤ s.deviceEnd then some 15
  else ((List.range 16).find? (fun r => s.inRegion r a n)).map (fun r => s.get (Reg.rgKeyId r))

/-- The key loaded into a KeyID. -/
def State.kidKey (s : State) (k : Nat) : List Byte :=
  match s.kidKeys.find? (fun e => e.1 == k) with
  | some e => e.2
  | none => []

/-- The rights of an initiator on a KeyID: 0 none, 1 read, 3 read and write (R355, R356, R358). -/
def State.rightsOn (s : State) (k init : Nat) : Nat :=
  if k = 15 then (if init = 7 then 3 else 0)
  else if init ≤ 5 then field (s.get (Reg.kidRights k)) (2 * init + 1) (2 * init) else 0

/-- What refuses an access: a bus error alone, or one that a counter of R365 counts. -/
inductive Refused where
  | bus
  | counted (r : Reg)
deriving DecidableEq, Repr

/-- The lines that a range touches, by their first addresses. -/
def linesOf (a n : Nat) : List Nat := (List.range ((a + n + 63) / 64 - a / 64)).map (fun k => (a / 64 + k) * 64)

/-- A flash line is erased (R350). -/
def State.lineErased (s : State) (l : Nat) : Bool := !s.flashLines.any (fun f => f.line = l)

/-- A range cut at the 64 KiB to which windows, regions and sectors are aligned: addresses and lengths. -/
def spansOf (a n : Nat) : List (Nat × Nat) :=
  (List.range ((a + n - 1) / 65536 + 1 - a / 65536)).map (fun k =>
    (max a ((a / 65536 + k) * 65536), min (a + n) ((a / 65536 + k + 1) * 65536) - max a ((a / 65536 + k) * 65536)))

/-- The checks of R359 on a range within 64 KiB, in its order. A close command's own write-back passes the third. -/
def State.spanCheck (s : State) (init : Nat) (write closing : Bool) (a n : Nat) : Option Refused :=
  if ¬ (s.inDram a n ∨ s.inFlash a n) then some .bus
  else match s.kidOf a n with
    | none => some (.counted Reg.xmNoRegion)
    | some k =>
      if ¬ (s.get (Reg.kidState k) = 1 ∨ (closing ∧ s.get (Reg.kidState k) = 2)) then some (.counted Reg.xmKeyIdRefused)
      else if ¬ (if write then s.rightsOn k init = 3 else s.rightsOn k init ≠ 0) then some (.counted Reg.xmRightsRefused)
      else if s.inFlash a n ∧ 0 < s.get Reg.flashErasing ∧ (linesOf a n).any (fun l => l / 65536 = (s.get Reg.flashErasing - 1) / 65536) then
        (if write then some (.counted Reg.xmFlashRejects) else some .bus)
      else if s.inFlash a n ∧ write ∧ ¬ (a % 64 = 0 ∧ n % 64 = 0 ∧ (linesOf a n).all s.lineErased) then
        some (.counted Reg.xmFlashRejects)
      else none

/-- The checks of R359 on a range: it may lie in several regions, and its first refused part refuses it whole. -/
def State.memCheck (s : State) (init a n : Nat) (write closing : Bool) : Option Refused :=
  if n = 0 then some .bus else (spansOf a n).findSome? (fun p => s.spanCheck init write closing p.1 p.2)

/-- The KeyID under which a line stands. -/
def State.lineKid (s : State) (l : Nat) : Nat := (s.kidOf l 64).getD 0

/-- The granule of a DRAM address (R354). -/
def granuleOf (a : Nat) : Nat := (a - dramBase) / 65536

/-- The granule of a number, when it is initialised. -/
def State.granule? (s : State) (g : Nat) : Option Granule := s.granules.find? (fun e => e.idx = g)

/-- A granule placed in a list by rising number. -/
def insertGranule (n : Granule) : List Granule → List Granule
  | [] => [n]
  | a :: t => if n.idx < a.idx then n :: a :: t else a :: insertGranule n t

/-- A granule is initialised: its 1,024 lines are zero bytes with valid tags under the KeyID of its region (R354). -/
def State.initGranule (s : State) (g : Nat) : State :=
  if (s.granule? g).isSome then s
  else
    let k := s.lineKid (dramBase + g * 65536)
    { (s.eraseBytes (dramBase + g * 65536) 65536) with granules := insertGranule ⟨g, k, s.kidKey k, []⟩ s.granules }

/-- The KeyID and key under which the tag of a written line stands (R349). -/
def State.lineTag (s : State) (l : Nat) : Option FlashLine :=
  if dramBase ≤ l then
    (s.granule? (granuleOf l)).map (fun g => (g.lines.find? (fun f => f.line = l)).getD ⟨l, g.kid, g.key⟩)
  else s.flashLines.find? (fun f => f.line = l)

/-- A line of an initialised granule written under the KeyID of its region (R352). -/
def State.tagLine (s : State) (l : Nat) : State :=
  let k := s.lineKid l
  { s with granules := s.granules.map (fun g =>
      if g.idx = granuleOf l then
        { g with lines := g.lines.filter (fun f => f.line ≠ l) ++
            (if g.kid = k ∧ g.key = s.kidKey k then [] else [⟨l, k, s.kidKey k⟩]) }
      else g) }

/-- A line is read from memory and checked: not a line of an uninitialised granule, nor an erased flash line (R351, R354). -/
def State.lineChecked (s : State) (l : Nat) : Bool :=
  if dramBase ≤ l then (s.granule? (granuleOf l)).isSome else !s.lineErased l

/-- The tag of a line stands under another KeyID or key than that of its region (R349, R351). -/
def State.tagBad (s : State) (l : Nat) : Bool :=
  (s.lineTag l).any (fun f => f.kid ≠ s.lineKid l || f.key ≠ s.kidKey (s.lineKid l))

/-- The first line of a range whose tag fails; `tamper` says that the first checked line was altered on the bus. -/
def State.failingLine (s : State) (lines : List Nat) (tamper : Bool) : Option Nat :=
  let c := lines.filter s.lineChecked
  if tamper then c.head? else c.find? s.tagBad

/-- A tag failure (R351, R365): the failure is recorded and the device enters Snuffed. -/
def State.tagFailure (s : State) (line kind k init : Nat) : State :=
  let info := kind * 2 ^ 24 + k * 2 ^ 20 + init * 2 ^ 16
  let s := s.sets [(Reg.xmLastFailAddress, line), (Reg.xmLastFailInfo, info), (Reg.xmLastFailTime, s.timeNs 4)]
  s.snuff 4 2 kind line 0 (leBytes 4 info)

/-- The bytes of a range as memory holds them; an uninitialised granule reads as zeros (R354). -/
def State.rangeBytes (s : State) (a n : Nat) : List Byte :=
  (List.range n).map (fun i =>
    if dramBase ≤ a + i ∧ (s.granule? (granuleOf (a + i))).isNone then 0 else Mem.get s.mem (a + i))

/-- A refused access is counted. -/
def State.refuseAccess (s : State) : Refused → State
  | .bus => s
  | .counted r => s.count r

/-- An initiator reads external memory: the bytes, or none for a bus error (R351, R359). -/
def State.memRead (s : State) (init a n : Nat) (tamper : Bool := false) : Option (List Byte) × State :=
  match s.memCheck init a n false false with
  | some r => (none, s.refuseAccess r)
  | none =>
    match s.failingLine (linesOf a n) tamper with
    | some l => (none, s.tagFailure l 1 (s.lineKid l) init)
    | none => (some (s.rangeBytes a n), s)

/-- The lines that a write covers only in part (R352). -/
def partLines (a n : Nat) : List Nat := (linesOf a n).filter (fun l => !(a ≤ l && l + 64 ≤ a + n))

/-- An initiator writes external memory: whether it was done, or a bus error (R352 to R354, R359). -/
def State.memWrite (s : State) (init a : Nat) (b : List Byte) (tamper : Bool := false) (closing : Bool := false) : Bool × State :=
  let n := b.length
  match s.memCheck init a n true closing with
  | some r => (false, s.refuseAccess r)
  | none =>
    let parts := partLines a n
    match s.failingLine parts tamper with
    | some l => (false, s.tagFailure l 2 (s.lineKid l) init)
    | none =>
      let s := if parts.isEmpty then s else s.count Reg.xmPartialWrites
      if s.inDram a n then
        let s := (linesOf a n).foldl (fun s l => (s.initGranule (granuleOf l)).tagLine l) s
        (true, s.setBytes a b)
      else
        (true, { (s.setBytes a b) with flashLines := s.flashLines ++ (linesOf a n).map (fun l =>
          ⟨l, s.lineKid l, s.kidKey (s.lineKid l)⟩) })

/-! ## Lines as the memories hold them (R348 to R350) -/

/-- A product by the primitive element of XTS. -/
def xtsNext (t : Nat) : Nat := (t * 2 % 2 ^ 128) ^^^ (if bitOf t 127 then 0x87 else 0)

/-- The blocks of a line encrypted under AES-XTS-256, the tweak in `t`. -/
def xtsBlocks (key : List Byte) : Nat → Nat → List Byte → List Byte
  | 0, _, _ => []
  | n + 1, t, b =>
    let tw := leBytes 16 t
    let p := (b.take 16).zipWith (· ^^^ ·) tw
    let c := (beBytes 16 (aesBytes key (ofBe p))).zipWith (· ^^^ ·) tw
    c ++ xtsBlocks key n (xtsNext t) (b.drop 16)

/-- The ciphertext of a 64-byte line under the 96 bytes of a KeyID's key (R349). -/
def lineCipher (key : List Byte) (line : Nat) (plain : List Byte) : List Byte :=
  xtsBlocks (key.take 32) 4 (ofLe (beBytes 16 (aesBytes (slice key 32 32) (ofBe (leBytes 16 line))))) (padTo 64 plain)

/-- The tag word of a line: the leading 56 bits of the CMAC in bits 63–8, and the format 0x5A (R349, R350). -/
def tagWord (key : List Byte) (line k : Nat) (cipher : List Byte) : Nat :=
  ofBe ((cmac (slice key 64 32) (beBytes 8 line ++ [BitVec.ofNat 8 k] ++ List.replicate 7 0 ++ cipher)).take 7) * 256 + 0x5A

end Sys2Proof.Machine
end

