-- ==== Sys2Proof/Machine/Vault.lean ====
section
/-! DEFINITION. The Lanthorn key vault (R291 to R318): slots, commands in the order of R302, random numbers, attestation
and the life cycle. -/
namespace Sys2Proof.Machine

/-- A slot that the variant does not have (R318). -/
def State.slotAbsent (s : State) (n : Nat) : Bool := !s.fuses.variant.hasInlet && (n = 14 || (1016 ≤ n && n ≤ 1023))

/-- `Vlt.KeyData` of a path context, which no path reads (R297). -/
abbrev Reg.vltKeyDataOf (ctx : Ctx) : Reg := ⟨.vlt, 0, 0x06, 0, ctxBank ctx⟩

/-! ## Slots (R291 to R296) -/

/-- The key in a slot. -/
def State.keyAt (s : State) (n : Nat) : Option VaultSlot := s.vault.find? (fun k => k.slot == n)

/-- A key placed in its slot, the slots kept in ascending order. -/
def putKey (k : VaultSlot) : List VaultSlot → List VaultSlot
  | [] => [k]
  | a :: t => if k.slot < a.slot then k :: a :: t else if k.slot = a.slot then k :: t else a :: putKey k t

/-- A key placed in its slot. -/
def State.placeKey (s : State) (k : VaultSlot) : State := { s with vault := putKey k s.vault }

/-- A slot emptied. -/
def State.emptyKey (s : State) (n : Nat) : State := { s with vault := s.vault.filter (fun k => k.slot ≠ n) }

/-- The class of the keys that a slot may hold; 0 for slot 15, which never holds one (R291). -/
def slotClass (n : Nat) : Nat :=
  if n = 0 then 1 else if n = 1 then 7 else if n < 8 then 2 else if n < 14 then 3 else if n = 14 then 6
  else if n = 15 then 0 else if n < 1016 then 4 else 5

/-- The classes that a command may create in a life-cycle state (R291). -/
def classAllowed (cls life : Nat) : Bool :=
  match cls with
  | 2 => life ≤ 1
  | 3 => life ≤ 1
  | 4 => life = 1 || life = 2
  | 5 => life = 1 || life = 2
  | _ => false

/-- A class that some command creates in some life-cycle state (R291). -/
def classMade (cls : Nat) : Bool := 2 ≤ cls && cls ≤ 5

/-- Bytes of a private scalar of a curve, of its coordinates, and the length of an Ed448 private key (R299, R306). -/
def algBytes (alg : Nat) : Nat :=
  match alg with
  | 0x01 => 16
  | 0x02 => 32
  | 0x10 => 32
  | 0x11 => 48
  | 0x12 => 66
  | 0x13 => 57
  | _ => 0

/-- An algorithm of R292. -/
def algKnown (alg : Nat) : Bool := alg = 0x01 || alg = 0x02 || alg = 0x03 || (0x10 ≤ alg && alg ≤ 0x13)
/-- An asymmetric algorithm. -/
def algAsym (alg : Nat) : Bool := 0x10 ≤ alg && alg ≤ 0x13
/-- An AES algorithm. -/
def algAes (alg : Nat) : Bool := alg = 0x01 || alg = 0x02
/-- A curve with points: P-256, P-384 and P-521. -/
def algCurve (alg : Nat) : Bool := 0x10 ≤ alg && alg ≤ 0x12

/-- The length of a public key (R306). -/
def publicLen (alg : Nat) : Nat :=
  match alg with
  | 0x10 => 65
  | 0x11 => 97
  | 0x12 => 133
  | 0x13 => 57
  | _ => 0

/-- The public key of a private key. -/
def publicOf (alg : Nat) (priv : List Byte) : List Byte :=
  if algAsym alg then padTo (publicLen alg) (Config.publicKey alg priv) else []

/-- The byte string of a key that import and export carry (R299). -/
def keyString (alg : Nat) (key : List Byte) : List Byte :=
  if alg = 0x03 then BitVec.ofNat 8 key.length :: key else key

/-- The key in a byte string: none when its length, stated secret length or value breaks the table of R299. -/
def keyOfString (alg : Nat) (b : List Byte) : Option (List Byte) :=
  if alg = 0x03 then
    let n := beAt b 0 1
    if (n = 32 ∨ n = 48 ∨ n = 66) ∧ n < b.length then some (slice b 1 n) else none
  else if algAes alg ∨ alg = 0x13 then (if algBytes alg ≤ b.length then some (b.take (algBytes alg)) else none)
  else if algCurve alg then
    let k := b.take (algBytes alg)
    if algBytes alg ≤ b.length ∧ 1 ≤ ofBe k ∧ ofBe k < Config.curveOrder alg then some k else none
  else none

/-- The length of a wrapped byte string; a P-521 private key wraps into 72 bytes, as R299 states (log entry 16). -/
def wrappedLen (n : Nat) : Nat := if n = 66 then 72 else (n + 7) / 8 * 8 + 8

/-- Whether a length is that of a wrapped key of an algorithm. -/
def wrappedFits (alg len : Nat) : Bool :=
  if alg = 0x03 then len = wrappedLen 33 || len = wrappedLen 49 || len = wrappedLen 67 else len = wrappedLen (algBytes alg)

/-! ## Random numbers (R308) -/

/-- The DRBG is reseeded. -/
def State.reseed (s : State) : State := (s.set Reg.drbgRequests 0).count Reg.vltDrbgReseeds 32

/-- One request of the DRBG, with the reseed after every 65,536. -/
def State.drbgRequest (s : State) : State :=
  let n := s.get Reg.drbgRequests + 1
  if n = 65536 then s.reseed else s.set Reg.drbgRequests n

/-- Random bytes from the DRBG: a free value. -/
def State.random (s : State) (n : Nat) : List Byte × State :=
  let r := s.drbgRequest.draw (8 * n)
  (beBytes n r.1, r.2)

/-- A new key of an algorithm, from the DRBG: a scalar lies in 1 to n − 1; a secret has one of its three lengths. -/
def State.newKey (s : State) (alg : Nat) : List Byte × State :=
  if algCurve alg then
    let r := s.random (algBytes alg)
    (beBytes (algBytes alg) (1 + ofBe r.1 % (Config.curveOrder alg - 1)), r.2)
  else if alg = 0x03 then
    let c := s.draw 2
    c.2.random (if c.1 = 0 then 32 else if c.1 = 1 then 66 else 48)
  else s.random (algBytes alg)

/-! ## Commands (R297 to R311) -/

/-- Reserved policy bits, and bits 7 and 15, which the device alone sets (R293). -/
def policyBad (p : Nat) : Bool := p &&& 0xBF80 ≠ 0

/-- The command names its auxiliary slot (R298). -/
def usesAux (code : Nat) : Bool := code = 3 || code = 4 || code = 9 || code = 10 || code = 11

/-- The command creates a key, and in which slot. -/
def VaultCmd.creates (c : VaultCmd) : Option Nat :=
  match c.code with
  | 1 => some c.slot
  | 2 => some c.slot
  | 3 => some c.slot
  | 9 => some c.aux
  | 10 => some c.aux
  | 11 => some c.aux
  | _ => none

/-- The command uses no slot (R298). -/
def usesNoSlot (code : Nat) : Bool := code = 8 || code = 12

/-- The parameter checks of a command (R299, R306, R309: code 0x45). -/
def VaultCmd.paramsBad (c : VaultCmd) : Bool :=
  (c.creates.isSome && policyBad c.policy) ||
  match c.code with
  | 1 => !algKnown c.alg
  | 2 => !algKnown c.alg || (keyOfString c.alg c.keyData).isNone
  | 3 => !algKnown c.alg || !wrappedFits c.alg c.inLen
  | 5 => c.policy &&& 0x3F00 ≠ 0
  | 8 => !(algKnown c.alg || (0x20 ≤ c.alg && c.alg ≤ 0x23)) ||
    (algCurve c.alg && c.inLen ≠ 2 * algBytes c.alg) || (c.alg = 0x13 && c.inLen < 114) ||
    (0x20 ≤ c.alg && (beAt c.keyData 4 2 < 256 || 512 < beAt c.keyData 4 2 || c.inLen ≠ beAt c.keyData 4 2))
  | 10 => !algKnown c.alg || c.inLen < 2 || c.inLen < 2 + beAt c.input 0 2
  | 11 => !algKnown c.alg || 8 ≤ c.kdf
  | 12 => c.inLen = 0 || 640 < c.inLen
  | _ => false

/-- The key that a command uses lacks the policy bit it needs (R293, R298). -/
def State.policyDenied (s : State) (c : VaultCmd) : Bool :=
  let has := fun (n b : Nat) => (s.keyAt n).any (fun k => bitOf k.policy b)
  match c.code with
  | 3 => !has c.aux 3
  | 4 => !(has c.slot 6 && has c.aux 3)
  | 7 => !has c.slot 0
  | 9 => !has c.slot 1
  | 10 => !has c.slot 2
  | 11 => !has c.slot 2
  | _ => false

/-- The algorithm of a key does not suit the command or its input (R300: code 0x43). -/
def State.algMismatch (s : State) (c : VaultCmd) : Bool :=
  let alg := fun (n : Nat) => ((s.keyAt n).map (·.alg)).getD 0
  match c.code with
  | 3 => !algAes (alg c.aux)
  | 4 => !algAes (alg c.aux)
  | 7 => !algAsym (alg c.slot)
  | 8 => !(algAsym c.alg || 0x20 ≤ c.alg)
  | 9 => !algCurve (alg c.slot)
  | 10 => algAsym (alg c.slot) || algAsym c.alg
  | 11 => algAsym (alg c.slot) || algAsym c.alg
  | _ => false

/-- The length of a peer point in the input suits the slot's curve (R306); it is a parameter of ECDH. -/
def State.pointLengthBad (s : State) (c : VaultCmd) : Bool :=
  c.code = 9 && (s.keyAt c.slot).any (fun k => algCurve k.alg && c.inLen ≠ publicLen k.alg)

/-- The command needs random values (R308). -/
def State.needsRandom (s : State) (c : VaultCmd) : Bool :=
  c.code = 1 || c.code = 9 || c.code = 12 || c.code = 13 ||
    (c.code = 7 && (s.keyAt c.slot).any (fun k => algCurve k.alg))

/-- The checks of a command before its operation, in the order of R301; 0x46 of ATTEST follows the slot's contents, as R310
names no other place for it. A class that no command creates fails at the class step, and ATTEST uses slot 0 too. -/
def State.vaultChecks (s : State) (c : VaultCmd) : List (Option Nat) :=
  let life := s.get Reg.vltLifeCycle
  let occupied := fun n => (s.keyAt n).isSome
  [need (life ≠ 4 && !(c.code = 13 && 3 ≤ life)) 0x04,
   need (c.creates.isNone || !classMade c.cls || classAllowed c.cls life) 0x47,
   need (usesNoSlot c.code || !s.slotAbsent c.slot) 0x03,
   need (!usesAux c.code || !s.slotAbsent c.aux) 0x03,
   need (!c.paramsBad && !s.pointLengthBad c) 0x45,
   need (usesNoSlot c.code || c.creates = some c.slot || occupied c.slot) 0x41,
   need (!(c.code = 3 || c.code = 4) || occupied c.aux) 0x41,
   need (c.code ≠ 13 || occupied 0) 0x41,
   need (!c.creates.any occupied) 0x40,
   need (c.code ≠ 13 || (s.keyAt c.slot).any (fun k => k.generated && !bitOf k.policy 6)) 0x46,
   need (!c.creates.any (fun n => !classMade c.cls || slotClass n ≠ c.cls || (9 ≤ c.code && c.cls ≠ 4))) 0x47,
   need (!(c.code = 6 && (c.slot = 0 || c.slot = 1 || c.slot = 14))) 0x47,
   need (!s.policyDenied c) 0x42,
   need (!s.algMismatch c) 0x43,
   need (!(c.code = 13 && s.get Reg.vltAttestCounter = 0xFFFFFFFF)) 0x02,
   need (!(s.needsRandom c && s.get Reg.drbgStopped = 1)) 0x48]

/-- The output objects of a path context (R297). -/
def State.vaultOutput (s : State) (ctx : Ctx) (b : List Byte) : State :=
  (s.setBlob (Reg.vltOutput.of ctx) (padTo 640 b)).set (Reg.vltOutputLength.of ctx) b.length

/-- Every Cresset context loaded from a slot is unloaded, and running jobs of it lose their key (R305, R324). -/
def State.crUnloadSlot (s : State) (n : Nat) : State :=
  { s with crContexts := s.crContexts.filter (fun k => k.slot ≠ n),
           crJobs := s.crJobs.map (fun j => if !j.done && j.context.any (fun k => k.slot = n) then
             { j with outcome := 0x43, done := true } else j) }

/-- A key that a command makes in a slot. -/
def VaultCmd.make (c : VaultCmd) (n alg : Nat) (generated : Bool) (key : List Byte) : VaultSlot :=
  { slot := n, cls := c.cls, alg := alg, policy := c.policy, generated := generated, key := key, pub := publicOf alg key }

/-- The attestation statement of a slot before its signature (R311). -/
def State.statement (s : State) (k : VaultSlot) (nonce : List Byte) : List Byte :=
  beBytes 4 0x4C4E5448 ++ [0x01, BitVec.ofNat 8 (s.get Reg.vltLifeCycle)] ++ beBytes 2 s.fuses.variant.partCode ++
  [BitVec.ofNat 8 (s.get Reg.devStepping), 0] ++ beBytes 2 k.slot ++ beBytes 4 (s.fuses.serial % 2 ^ 32) ++
  beBytes 4 (s.get Reg.vltAttestCounter) ++ [BitVec.ofNat 8 k.cls, BitVec.ofNat 8 k.alg] ++ beBytes 2 k.policy ++
  [0x01, 0x00] ++ beBytes 2 k.pub.length ++ padTo 32 nonce ++
  (if algAsym k.alg then digest 384 k.pub else hmac 384 k.key (padTo 32 nonce)) ++ k.pub

/-- The length of the secret that ECDH makes (R292, R298). -/
def State.derivedLen (s : State) (alg : Nat) : Nat × State :=
  if alg = 0x03 then
    let c := s.draw 2
    (if c.1 = 0 then 32 else if c.1 = 1 then 66 else 48, c.2)
  else (algBytes alg, s)

/-- The operation of a command that passed its checks, with its outcome. -/
def State.vaultOperate (s : State) (c : VaultCmd) : Nat × State :=
  let key := (s.keyAt c.slot).getD { slot := c.slot, cls := 0, alg := 0, policy := 0, generated := false, key := [] }
  let aux := ((s.keyAt c.aux).map (·.key)).getD []
  let input := c.input.take c.inLen
  match c.code with
  | 1 =>
    let r := s.reseed.newKey c.alg
    (outDone, r.2.placeKey (c.make c.slot c.alg true r.1))
  | 2 =>
    match keyOfString c.alg c.keyData with
    | some k => (outDone, s.placeKey (c.make c.slot c.alg false k))
    | none => (0x45, s)
  | 3 =>
    match Config.unwrap aux input with
    | none => (0x4A, s)
    | some b => match keyOfString c.alg b with
      | some k => if (keyString c.alg k).length = b.length then (outDone, s.placeKey (c.make c.slot c.alg false k)) else (0x45, s)
      | none => (0x45, s)
  | 4 =>
    let b := keyString key.alg key.key
    (outDone, s.vaultOutput c.ctx (padTo (wrappedLen b.length) (Config.wrap aux b)))
  | 5 =>
    let p := key.policy &&& c.policy
    let s := s.placeKey { key with policy := p }
    (outDone, if bitOf key.policy 5 ∧ ¬ bitOf p 5 then s.crUnloadSlot c.slot else s)
  | 6 => (outDone, (s.emptyKey c.slot).crUnloadSlot c.slot)
  | 7 =>
    if key.alg = 0x13 then (outDone, s.vaultOutput c.ctx (padTo 114 (Config.sign 0x13 key.key input [])))
    else
      let n := algBytes key.alg
      let r := s.random n
      (outDone, r.2.vaultOutput c.ctx (padTo (2 * n) (Config.sign key.alg key.key (c.digest.take (min n 64)) r.1)))
  | 8 =>
    if 0x20 ≤ c.alg then
      let n := beAt c.keyData 4 2
      (if Config.rsaVerify c.alg (beAt c.keyData 0 4) (slice c.keyData 6 n) c.digest input then outDone else 0x44, s)
    else
      let pub := c.keyData.take (publicLen c.alg)
      if algAsym c.alg ∧ ¬ Config.onCurve c.alg pub then (0x49, s)
      else if c.alg = 0x13 then
        (if Config.verify 0x13 pub (input.take (c.inLen - 114)) (input.drop (c.inLen - 114)) then outDone else 0x44, s)
      else (if Config.verify c.alg pub (c.digest.take (min (algBytes c.alg) 64)) input then outDone else 0x44, s)
  | 9 =>
    let s := s.reseed.drbgRequest
    if Config.onCurve key.alg input then
      (outDone, s.placeKey (c.make c.aux 0x03 key.generated (padTo (algBytes key.alg) (Config.shared key.alg key.key input))))
    else (0x49, s)
  | 10 =>
    let n := beAt input 0 2
    let l := s.derivedLen c.alg
    (outDone, l.2.placeKey (c.make c.aux c.alg key.generated (hkdf key.key (slice input 2 n) (input.drop (2 + n)) l.1)))
  | 11 =>
    let l := s.derivedLen c.alg
    (outDone, l.2.placeKey (c.make c.aux c.alg key.generated (kdfCtr key.alg key.key input c.kdf l.1)))
  | 12 =>
    let r := s.random c.inLen
    (outDone, r.2.vaultOutput c.ctx r.1)
  | 13 =>
    let s := s.set Reg.vltAttestCounter (s.get Reg.vltAttestCounter + 1)
    let m := s.statement key c.input
    let id := ((s.keyAt 0).map (·.key)).getD []
    let r := s.random 48
    (outDone, r.2.vaultOutput c.ctx (m ++ padTo 96 (Config.sign 0x11 id (digest 384 m) r.1)))
  | _ => (outDone, s)

/-- A command through its checks and its operation (R301). -/
def State.vaultRun (s : State) (c : VaultCmd) : Nat × State :=
  match firstAbort (s.vaultChecks c) with
  | some code => (code, s)
  | none => s.vaultOperate c

/-! ## The order of service (R302, R304, R313) -/

/-- The object that reports the outcome of what the vault carries out. -/
def VaultReq.outcome : VaultReq → Reg
  | .command c => Reg.vltOutcome.of c.ctx
  | .install i => Reg.scOutcome.of i.ctx
  | .crLoad ctx _ _ _ _ _ _ => Reg.crOutcome.of ctx
  | .gwKey k _ => Reg.gwKeyOutcome k
  | .keyId k => Reg.kidOutcome k
  | .countersign j => Reg.msOutcome.of j.ctx
  | .sealClose ctx => Reg.msOutcome.of ctx

/-- A request ends with an outcome; the key data of a command is zeroised (R297), and a closure that did not close leaves the
seal open (R441). -/
def State.vaultFinish (s : State) (r : VaultReq) (code : Nat) : State :=
  let s := s.set r.outcome code
  match r with
  | .command c => s.clearBlob (Reg.vltKeyDataOf c.ctx)
  | .sealClose _ => if s.get Reg.msSealState = 1 then s.set Reg.msSealState 0 else s
  | _ => s

/-- A request given to the vault: it waits its turn, or ends at once with 0x07 when the vault is out of service and with
0x04 during a transition (R302, R304, R313). -/
def State.vaultSubmit (s : State) (r : VaultReq) : State :=
  match s.get Reg.vltState with
  | 2 => s.vaultFinish r outFaulted
  | 3 => s.vaultFinish r outMode
  | _ =>
    let s := s.set r.outcome outBusy
    match r with
    | .install i => { s with installs := s.installs ++ [i] }
    | r => { s with vaultWaiting := s.vaultWaiting ++ [r] }

/-- The vault goes out of service: what runs and all that waits ends with 0x07 (R304). -/
def State.vaultFails (s : State) : State :=
  let s := (s.vaultRunning.toList ++ s.vaultWaiting ++ s.installs.map VaultReq.install).foldl (fun s r => s.vaultFinish r outFaulted) s
  ({ s with vaultRunning := none, vaultWaiting := [], installs := [] } : State).set Reg.vltState 2

/-- The vault takes a request. -/
def State.vaultTake (s : State) (r : VaultReq) : State := ({ s with vaultRunning := some r } : State).set Reg.vltState 1

/-- The request the vault takes next (R302): an install, unless it served 16 in a row while a dictionary command waited. -/
def State.vaultNext (s : State) : State :=
  match s.installs, s.vaultWaiting with
  | i :: is, [] => ({ s with installs := is } : State).vaultTake (.install i)
  | i :: is, r :: rs =>
    if s.get Reg.vltInstallsInRow < 16 then
      (({ s with installs := is } : State).set Reg.vltInstallsInRow (s.get Reg.vltInstallsInRow + 1)).vaultTake (.install i)
    else (({ s with vaultWaiting := rs } : State).set Reg.vltInstallsInRow 0).vaultTake r
  | [], r :: rs => (({ s with vaultWaiting := rs } : State).set Reg.vltInstallsInRow 0).vaultTake r
  | [], [] => s

/-- VAULT_COMMAND_START (R302): an idle vault takes the next waiting command or install. -/
def execVaultCommandStart (s : State) : Host.Outcome State Fault Refusal :=
  if s.running ∧ s.get Reg.vltState = 0 ∧ s.vaultRunning = none then .next s.vaultNext else .next s

/-- The vault is free again. -/
def State.vaultIdle (s : State) : State :=
  let s : State := { s with vaultRunning := none }
  if s.get Reg.vltState = 1 then s.set Reg.vltState 0 else s

/-- A load of a Cresset context (R323): refused, or the context is bound to the key. -/
def State.crLoad (s : State) (context slot mode field start last : Nat) : Nat × State :=
  let family := mode % 16
  let prot := mode / 64
  if s.slotAbsent slot then (outAbsent, s)
  else if s.crContexts.any (fun k => k.idx = context) then (0x46, s)
  else if field ≥ 2 ^ 32 ∨ mode / 16 % 4 ≠ 0 ∨ family = 0 ∨ 6 < family ∨ prot = 0 ∨ prot = 3 ∨ last < start then (0x45, s)
  else match s.keyAt slot with
    | some k =>
      if bitOf k.policy 5 ∧ (if family ≤ 3 then algAes k.alg else k.alg = 0x03) then
        let c : CrContext := ⟨context, mode, slot, k.alg, k.key, field, start, last, false⟩
        (outDone, { s with crContexts := s.crContexts ++ [c] })
      else (0x43, s)
    | none => (0x43, s)

/-- A load of a gateway key (R418): refused, or the key replaces the one in use; slot 0xFFFF leaves none. -/
def State.gwKeyLoad (s : State) (k slot : Nat) : Nat × State :=
  let rest := s.gwKeys.filter (fun e => e.1 ≠ k)
  if slot = 0xFFFF then (outDone, { s with gwKeys := rest })
  else if s.slotAbsent slot then (outAbsent, s)
  else match s.keyAt slot with
    | some v => if bitOf v.policy 5 ∧ algAes v.alg then (outDone, { s with gwKeys := rest ++ [(k, v.alg, v.key)] }) else (0x40, s)
    | none => (0x40, s)

/-- VAULT_COMMAND_DONE (R303): the running command, context load or gateway key load ends with its outcome and outputs. -/
def execVaultCommandDone (s : State) : Host.Outcome State Fault Refusal :=
  match s.vaultRunning with
  | some (.command c) =>
    let r := s.vaultRun c
    .next ((r.2.vaultFinish (.command c) r.1).vaultIdle)
  | some (.crLoad ctx n slot mode field start last) =>
    let r := s.crLoad n slot mode field start last
    .next ((r.2.vaultFinish (.crLoad ctx n slot mode field start last) r.1).vaultIdle)
  | some (.gwKey k slot) =>
    let r := s.gwKeyLoad k slot
    .next ((r.2.vaultFinish (.gwKey k slot) r.1).vaultIdle)
  | _ => .next s

/-- A vault command as its context's objects spell it (R297). -/
def State.vaultCmd (s : State) (ctx : Ctx) (code : Nat) : VaultCmd :=
  { ctx := ctx, code := code, slot := s.get (Reg.vltSlot.of ctx), aux := s.get (Reg.vltAuxSlot.of ctx),
    cls := s.get (Reg.vltClass.of ctx), alg := s.get (Reg.vltAlgorithm.of ctx), policy := s.get (Reg.vltPolicy.of ctx),
    keyData := padTo 520 (s.blob (Reg.vltKeyDataOf ctx)), digest := padTo 64 (s.blob (Reg.vltDigest.of ctx)),
    input := padTo 1024 (s.blob (Reg.vltInput.of ctx)), inLen := s.get (Reg.vltInputLength.of ctx),
    kdf := s.get (Reg.vltKdfFormat.of ctx) }

/-- A write of a command code to `Vlt.Command` (R297): refused while the context's outcome reads BUSY. -/
def State.vaultWrite (s : State) (ctx : Ctx) (code : Nat) : State :=
  s.cmdWrite ctx 0x2900 0x0B true false [need (s.get (Reg.vltOutcome.of ctx) ≠ outBusy) 0x08000022]
    (fun s => s.vaultSubmit (.command (s.vaultCmd ctx code)))

/-- VAULT_GENERATE (R298): command 0x01 waits for the vault. -/
def execVaultGenerate (ctx : Ctx) (s : State) : Host.Outcome State Fault Refusal := .next (s.vaultWrite ctx 1)
/-- VAULT_IMPORT_CLEAR (R298, R299): command 0x02. -/
def execVaultImportClear (ctx : Ctx) (s : State) : Host.Outcome State Fault Refusal := .next (s.vaultWrite ctx 2)
/-- VAULT_IMPORT_WRAPPED (R298, R299): command 0x03. -/
def execVaultImportWrapped (ctx : Ctx) (s : State) : Host.Outcome State Fault Refusal := .next (s.vaultWrite ctx 3)
/-- VAULT_EXPORT_WRAPPED (R298, R299): command 0x04. -/
def execVaultExportWrapped (ctx : Ctx) (s : State) : Host.Outcome State Fault Refusal := .next (s.vaultWrite ctx 4)
/-- VAULT_NARROW_POLICY (R294): command 0x05. -/
def execVaultNarrowPolicy (ctx : Ctx) (s : State) : Host.Outcome State Fault Refusal := .next (s.vaultWrite ctx 5)
/-- VAULT_DESTROY (R305): command 0x06. -/
def execVaultDestroy (ctx : Ctx) (s : State) : Host.Outcome State Fault Refusal := .next (s.vaultWrite ctx 6)
/-- VAULT_SIGN (R306): command 0x07. -/
def execVaultSign (ctx : Ctx) (s : State) : Host.Outcome State Fault Refusal := .next (s.vaultWrite ctx 7)
/-- VAULT_VERIFY (R306): command 0x08. -/
def execVaultVerify (ctx : Ctx) (s : State) : Host.Outcome State Fault Refusal := .next (s.vaultWrite ctx 8)
/-- VAULT_ECDH (R306): command 0x09. -/
def execVaultEcdh (ctx : Ctx) (s : State) : Host.Outcome State Fault Refusal := .next (s.vaultWrite ctx 9)
/-- VAULT_HKDF (R309): command 0x0A. -/
def execVaultHkdf (ctx : Ctx) (s : State) : Host.Outcome State Fault Refusal := .next (s.vaultWrite ctx 10)
/-- VAULT_KDF_CTR (R309): command 0x0B. -/
def execVaultKdfCtr (ctx : Ctx) (s : State) : Host.Outcome State Fault Refusal := .next (s.vaultWrite ctx 11)
/-- VAULT_RANDOM (R308): command 0x0C. -/
def execVaultRandom (ctx : Ctx) (s : State) : Host.Outcome State Fault Refusal := .next (s.vaultWrite ctx 12)
/-- VAULT_ATTEST (R310, R311): command 0x0D. -/
def execVaultAttest (ctx : Ctx) (s : State) : Host.Outcome State Fault Refusal := .next (s.vaultWrite ctx 13)

/-! ## Entropy (R308) -/

/-- The vault core is powered: Glow, Flame or Trim (R304). -/
def State.vaultUp (s : State) : Bool := s.mode = .glow || s.mode = .flame || s.mode = .trim

/-- ENTROPY_FAILURE (R308): a health test fails; the DRBG stops, the failure is counted and reported. -/
def execEntropyFailure (s : State) : Host.Outcome State Fault Refusal :=
  if s.vaultUp then
    .next (((s.sets [(Reg.drbgStopped, 1), (Reg.drbgWindows, 0)]).count Reg.vltEntropyFailures 32).reportObj 9 3 0x2901 0x0A)
  else .next s

/-- ENTROPY_RECOVER (R308): a test window passes; after 16 in a row the stopped DRBG is reseeded and serves again. -/
def execEntropyRecover (s : State) : Host.Outcome State Fault Refusal :=
  if s.vaultUp ∧ s.get Reg.drbgStopped = 1 then
    let n := s.get Reg.drbgWindows + 1
    if n < 16 then .next (s.set Reg.drbgWindows n)
    else .next ((s.sets [(Reg.drbgStopped, 0), (Reg.drbgWindows, 0)]).reseed)
  else .next s

/-! ## Life cycle (R312 to R315) -/

/-- The transitions of R312's table. -/
def transitionAllowed (src dst : Nat) : Bool :=
  match src, dst with
  | 0, 1 => true | 0, 4 => true | 1, 2 => true | 1, 4 => true | 2, 3 => true | 2, 4 => true | 3, 4 => true
  | _, _ => false

/-- The classes of keys that entry to a state destroys (R312). -/
def destroyedOn (target cls : Nat) : Bool :=
  match target with
  | 2 => cls = 2 || cls = 3
  | 3 => cls = 4 || cls = 5 || cls = 6 || cls = 7
  | 4 => true
  | _ => false

/-- Association slots in use, active or pending. -/
def State.liveSlots (s : State) : List Nat :=
  ((s.regs.filter (fun e => e.1.grp = .saRow && e.1.sub = 0x10)).map (·.1.row)) ++
  ((s.pend.filter (fun e => e.1.grp = .saRow && e.1.sub = 0x10)).map (·.1.row))

/-- Every association slot is zeroised, in both copies. -/
def State.zeroiseSlots (s : State) : State :=
  let rows := s.liveSlots
  let s := rows.foldl (fun s r => s.sets [(Reg.saState r, 0), (Reg.slotKey 0 r, 0), (Reg.slotSalt 0 r, 0)]) s
  { s with pend := s.pend.filter (fun e => e.1.grp ≠ .saRow && e.1.grp ≠ .iSlot), spec := [], prep := [] }

/-- The keys of a transition are destroyed (R312, R314): with entry to Return also every association slot and Cresset
context. -/
def State.destroyFor (s : State) (target : Nat) : State :=
  let s : State := { s with vault := s.vault.filter (fun k => !destroyedOn target k.cls) }
  if 3 ≤ target then
    { (s.clearBlob Reg.updOwnerKey).zeroiseSlots with crContexts := [], crJobs := s.crJobs.map (fun j =>
        if !j.done && j.context.isSome then { j with outcome := 0x43, done := true } else j) }
  else s

/-- A journal record: kind 1 intent or 2 done, source and target state (R314); what the rule leaves open of its bytes, 5 to 7, reads 0 (log
entry 183). -/
def journalRecord (kind src dst seq : Nat) : List Byte :=
  let b := leBytes 2 0x4A52 ++ leBytes 1 kind ++ leBytes 1 src ++ leBytes 4 dst ++ leBytes 4 seq ++ List.replicate 16 0
  b ++ leBytes 4 (crc32c b)

/-- A journal record is written twice, in two separate flash sectors (R314). -/
def State.writeJournal (s : State) (kind src dst : Nat) : State :=
  let n := s.get Reg.journalSeq + 1
  let b := journalRecord kind src dst n
  ((s.set Reg.journalSeq n).setBlob (Reg.journalCopy 0) b).setBlob (Reg.journalCopy 1) b

/-- The target of the transition whose intent is the newest valid record: no done record follows it (R315). -/
def State.journalOpen (s : State) : Option Nat :=
  (([s.blob (Reg.journalCopy 0), s.blob (Reg.journalCopy 1)].find? recordWhole).filter
    (fun b => ofLe (slice b 2 1) = 1)).map (fun b => ofLe (slice b 4 1))

/-- LIFE_CYCLE_TRANSITION (R304, R313, R314): a write to `Vlt.Transition`. In Trim, with an allowed target and a matching
confirmation, the transition starts: the waiting commands end with 0x04, the intent is recorded and the keys of the classes
to be destroyed are zeroised (log entry 17). -/
def execLifeCycleTransition (ctx : Ctx) (value : Nat) (s : State) : Host.Outcome State Fault Refusal :=
  .next (s.cmdWrite ctx 0x2901 3 true false [need (value ≤ 4) 0x06090031] (fun s =>
    let ok := transitionAllowed (s.get Reg.vltLifeCycle) value && s.get Reg.vltConfirm = s.fuses.serial % 2 ^ 32
    if s.mode ≠ .trim ∨ s.get Reg.vltState = 3 then s.set Reg.vltTransitionOutcome outMode
    else if s.get Reg.vltState = 2 then s.set Reg.vltTransitionOutcome outFaulted
    else if ¬ ok then s.set Reg.vltTransitionOutcome 0x4B
    else
      let s := s.vaultWaiting.foldl (fun s r => s.vaultFinish r outMode) s
      let s := s.installs.foldl (fun s i => s.vaultFinish (.install i) outMode) s
      let s : State := { s with vaultWaiting := [], installs := [] }
      ((s.sets [(Reg.vltState, 3), (Reg.vltTransitionOutcome, outBusy), (Reg.vltConfirm, 0),
        (Reg.journalIntent, value + 1)]).writeJournal 1 (s.get Reg.vltLifeCycle) value).destroyFor value))

/-- TRANSITION_COMPLETE (R314): the erasure, the fuse and the done record finish and the new state is reported. -/
def execTransitionComplete (s : State) : Host.Outcome State Fault Refusal :=
  if s.get Reg.vltState = 3 ∧ 0 < s.get Reg.journalIntent ∧ s.vaultRunning = none then
    let t := s.get Reg.journalIntent - 1
    .next (((s.destroyFor t).writeJournal 2 (s.get Reg.vltLifeCycle) t).sets [(Reg.vltLifeCycle, t), (Reg.journalIntent, 0),
      (Reg.vltState, 0), (Reg.vltTransitionOutcome, outDone)])
  else .next s

end Sys2Proof.Machine
end

