-- ==== Sys2Proof/Machine/Guard.lean ====
section
/-! DEFINITION. Commands of the guarded external memory: accesses, KeyIDs, flash erase, the initialisation sweep, and the
cache maintenance of the Lamplighters (R348 to R365, R385). -/
namespace Sys2Proof.Machine

/-- The answer of an access that a bus error ends. -/
def State.busError (s : State) (a : Nat) (cause : Nat := 0) : State :=
  { s with bus := { fault := true, cause := cause, tval := if cause = 0 then 0 else a } }

/-- The answer of an access that completed. -/
def State.busOk (s : State) (b : List Byte := []) : State := { s with bus := { value := ofLe (b.take 8), data := b } }

/-- The mcause of a core's refused load or store; 0 for an initiator that is no core (R359). -/
def accessCause (init : Nat) (store : Bool) : Nat := if 2 ≤ init then 0 else if store then 7 else 5

/-! ## The interrupt controller's registers (R36; layout of the RISC-V PLIC specification, log entry 22) -/

abbrev plicBase : Nat := 0x0C000000

/-- Whether an address is a register of the interrupt controller's window. -/
def inPlic (a : Nat) : Bool := plicBase ≤ a && a < 0x10000000

/-- The word of 32 sources from a word number on: bit k of word w stands for source 32 w + k. -/
def sourceWord (w : Nat) (f : Nat → Nat) : Nat :=
  maskOf ((List.range 32).filter (fun k => 1 ≤ 32 * w + k && 32 * w + k ≤ 64 && f (32 * w + k - 1) = 1))

/-- The context whose claim and completion register stands at an offset. -/
def plicClaim (off : Nat) : Option Nat :=
  if 0x200000 ≤ off ∧ off < 0x204000 ∧ off % 0x1000 = 4 then some ((off - 0x200000) / 0x1000) else none

/-- A register of the interrupt controller read, but for the claim registers. -/
def State.plicRead (s : State) (off : Nat) : Nat :=
  if off < 0x1000 then (if 1 ≤ off / 4 ∧ off / 4 ≤ 64 then s.get (Reg.irqPriority (off / 4 - 1)) else 0)
  else if off < 0x1080 then sourceWord ((off - 0x1000) / 4) (fun k => s.get (Reg.irqPending k))
  else if 0x2000 ≤ off ∧ off < 0x2200 then
    sourceWord ((off - 0x2000) % 0x80 / 4) (fun k => s.get (Reg.irqEnabled k ((off - 0x2000) / 0x80)))
  else if 0x200000 ≤ off ∧ off < 0x204000 ∧ off % 0x1000 = 0 then s.get (Reg.irqThreshold ((off - 0x200000) / 0x1000))
  else 0

/-- A load of a register of the interrupt controller, which for a claim register claims (R36). -/
def State.plicLoad (s : State) (off : Nat) : Nat × State :=
  match plicClaim off with
  | some t => s.irqTake t
  | none => (s.plicRead off, s)

/-- A register of the interrupt controller written; a completion register completes (R36). -/
def State.plicWrite (s : State) (off v : Nat) : State :=
  if (plicClaim off).isSome then s.irqGive ((plicClaim off).getD 0) v
  else if off < 0x1000 then (if 1 ≤ off / 4 ∧ off / 4 ≤ 64 then s.set (Reg.irqPriority (off / 4 - 1)) (v % 8) else s)
  else if 0x2000 ≤ off ∧ off < 0x2200 then
    (List.range 32).foldl (fun s k =>
      let n := 32 * ((off - 0x2000) % 0x80 / 4) + k
      if 1 ≤ n ∧ n ≤ 64 then s.set (Reg.irqEnabled (n - 1) ((off - 0x2000) / 0x80)) (flag (bitOf v k)) else s) s
  else if 0x200000 ≤ off ∧ off < 0x204000 ∧ off % 0x1000 = 0 then s.set (Reg.irqThreshold ((off - 0x200000) / 0x1000)) (v % 8)
  else s

/-! ## Accesses (R351 to R354, R357 to R359) -/

/-- The line that a cluster's caches hold. -/
def State.cacheLine (s : State) (core line : Nat) : Option CacheLine := s.cache.find? (fun c => c.core = core && c.line = line)

/-- MEMORY_READ (R351): an initiator of R358 reads; `cached` says that a Lamplighter read goes through its caches, which a
miss of one line fills; `tamper` that the first checked line was altered on the bus. A Lamplighter reads the interrupt
controller's registers here as well. -/
def execMemoryRead (init addr len : Nat) (cached tamper : Bool) (s : State) : Host.Outcome State Fault Refusal :=
  if ¬ s.running then .next s
  else if init < 2 ∧ inPlic addr then
    let r := s.plicLoad (addr - plicBase)
    .next (r.2.busOk (leBytes 4 r.1))
  else
    let line := addr / 64 * 64
    let whole := cached && init < 2 && 0 < len && addr + len ≤ line + 64
    match (if whole then s.cacheLine init line else none) with
    | some c => .next (s.busOk (slice c.data (addr - line) len))
    | none =>
      let r := if whole then s.memRead init line 64 tamper else s.memRead init addr len tamper
      match r.1 with
      | some b =>
        if whole then
          .next (({ r.2 with cache := r.2.cache ++ [⟨init, line, s.lineKid line, false, b⟩] } : State).busOk
            (slice b (addr - line) len))
        else .next (r.2.busOk b)
      | none => .next (r.2.busError addr (accessCause init false))

/-- MEMORY_WRITE (R352): an initiator of R358 writes; a cached write of a Lamplighter to a line that its caches hold stays
there until it is written back. A Lamplighter writes the interrupt controller's registers here as well. -/
def execMemoryWrite (init addr : Nat) (data : List Byte) (cached tamper : Bool) (s : State) : Host.Outcome State Fault Refusal :=
  if ¬ s.running then .next s
  else if init < 2 ∧ inPlic addr then .next ((s.plicWrite (addr - plicBase) (ofLe (data.take 4))).busOk)
  else
    let line := addr / 64 * 64
    let whole := cached && init < 2 && addr + data.length ≤ line + 64 && (s.cacheLine init line).isSome
    if whole then
      .next (({ s with cache := s.cache.map (fun c => if c.core = init ∧ c.line = line then
        { c with dirty := true, data := patch c.data (addr - line) data } else c) } : State).busOk)
    else
      let r := s.memWrite init addr data tamper
      .next (if r.1 then r.2.busOk else r.2.busError addr (accessCause init true))

/-! ## Cache maintenance (R385) -/

/-- A dirty line of a cluster is written back: whether the guard admitted it. -/
def State.writeBack (s : State) (c : CacheLine) (closing : Bool) : Bool × State :=
  if c.dirty then s.memWrite c.core c.line c.data false closing else (true, s)

/-- A line leaves the caches of a cluster. -/
def State.dropLine (s : State) (core line : Nat) : State :=
  { s with cache := s.cache.filter (fun c => !(c.core = core && c.line = line)) }

/-- A line is written back, and stays valid or is invalidated. -/
def State.cboWrite (s : State) (core addr : Nat) (keep : Bool) : State :=
  let line := addr / 64 * 64
  match s.cacheLine core line with
  | none => s.busOk
  | some c =>
    let r := s.writeBack c false
    let s := r.2
    let s : State := if keep then { s with cache := s.cache.map (fun d => if d.core = core ∧ d.line = line then
        { d with dirty := d.dirty && !r.1 } else d) } else s.dropLine core line
    if r.1 then s.busOk else s.busError addr 7

/-- CBO_CLEAN (R385): the line is written back and stays valid. -/
def execCboClean (core addr : Nat) (s : State) : Host.Outcome State Fault Refusal :=
  if s.running ∧ core < 2 then .next (s.cboWrite core addr true) else .next s

/-- CBO_FLUSH (R385): the line is written back and invalidated. -/
def execCboFlush (core addr : Nat) (s : State) : Host.Outcome State Fault Refusal :=
  if s.running ∧ core < 2 then .next (s.cboWrite core addr false) else .next s

/-- CBO_INVAL (R385): the line is invalidated without write-back when CBIE is 0b11 and flushed when it is 0b01. With another
CBIE the instruction is illegal to the core (log entry 23). -/
def execCboInval (core addr cbie : Nat) (s : State) : Host.Outcome State Fault Refusal :=
  if ¬ (s.running ∧ core < 2) then .next s
  else if cbie = 3 then .next ((s.dropLine core (addr / 64 * 64)).busOk)
  else if cbie = 1 then .next (s.cboWrite core addr false)
  else .next (s.busError addr 2)

/-! ## KeyIDs (R355 to R357) -/

/-- The checks of `Kid.Command`: KeyID 15 takes none, and none is taken while the outcome reads BUSY (R356). -/
def State.kidChecks (s : State) (k : Nat) : List (Option Nat) :=
  [need (k ≠ 15) 0x08000022, need (s.get (Reg.kidOutcome k) ≠ outBusy) 0x08000022]

/-- KEYID_PROGRAM (R357): a free KeyID asks the vault for its key; its source objects take force. -/
def execKeyidProgram (ctx : Ctx) (k : Nat) (s : State) : Host.Outcome State Fault Refusal :=
  .next (s.cmdWrite ctx (0x2F20 + k) 4 (k < 16) false (s.kidChecks k) (fun s =>
    if s.get (Reg.kidState k) ≠ 0 then s.set (Reg.kidOutcome k) 0x41
    else (s.sets [((Reg.kidSource k).latched, s.get (Reg.kidSource k)),
      ((Reg.kidVaultSlot k).latched, s.get (Reg.kidVaultSlot k))]).vaultSubmit (.keyId k)))

/-- The key of a KeyID under its source (R355): the code, the bytes and the state after the vault made it. -/
def State.kidMake (s : State) (k : Nat) : Nat × List Byte × State :=
  if s.get (Reg.kidSource k).latched = 0 then
    if s.get Reg.drbgStopped = 1 then (0x48, [], s)
    else
      let r := s.random 96
      (outDone, r.1, r.2)
  else if s.slotAbsent (s.get (Reg.kidVaultSlot k).latched) then (outAbsent, [], s)
  else match s.keyAt (s.get (Reg.kidVaultSlot k).latched) with
    | some v =>
      if bitOf v.policy 2 then (outDone, hkdf v.key [] (asciiBytes "KVT XMG" ++ [BitVec.ofNat 8 k]) 96, s)
      else (0x44, [], s)
    | none => (0x44, [], s)

/-- A key is loaded into a KeyID, which reads programmed. -/
def State.kidLoad (s : State) (k : Nat) (key : List Byte) : State :=
  ({ s with kidKeys := s.kidKeys.filter (fun e => e.1 ≠ k) ++ [(k, key)] } : State).set (Reg.kidState k) 1

/-- KEYID_PROGRAM_DONE (R357): the vault delivers the key, or refuses. -/
def execKeyidProgramDone (s : State) : Host.Outcome State Fault Refusal :=
  match s.vaultRunning with
  | some (.keyId k) =>
    let r := s.kidMake k
    let s := (r.2.2.vaultFinish (.keyId k) r.1).vaultIdle
    if r.1 = outDone then .next ((s.kidLoad k r.2.1).count (Reg.kidPrograms k) 32) else .next s
  | _ => .next s

/-- KEYID_CLOSE (R357): a programmed KeyID refuses new accesses from now on. -/
def execKeyidClose (ctx : Ctx) (k : Nat) (s : State) : Host.Outcome State Fault Refusal :=
  .next (s.cmdWrite ctx (0x2F20 + k) 4 (k < 16) false (s.kidChecks k) (fun s =>
    if s.get (Reg.kidState k) = 1 then s.sets [(Reg.kidState k, 2), (Reg.kidOutcome k, outBusy)]
    else s.set (Reg.kidOutcome k) 0x41))

/-- KEYID_CLOSE_DONE (R357): every cache line that carries the KeyID has been written back and invalidated. -/
def execKeyidCloseDone (k : Nat) (s : State) : Host.Outcome State Fault Refusal :=
  if k < 15 ∧ s.running ∧ s.get (Reg.kidState k) = 2 then
    let t := (s.cache.filter (fun c => c.kid = k)).foldl (fun s c => (s.writeBack c true).2) s
    .next (({ t with cache := t.cache.filter (fun c => c.kid ≠ k) } : State).sets
      [(Reg.kidState k, 3), (Reg.kidOutcome k, outDone)])
  else .next s

/-- An enabled region names a KeyID, in its active or its pending copy (R358). -/
def State.kidNamed (s : State) (k : Nat) : Bool :=
  (List.range 16).any (fun r =>
    (s.get (Reg.rgEnable r) = 1 && s.get (Reg.rgKeyId r) = k) || (s.pendGet (Reg.rgEnable r) = 1 && s.pendGet (Reg.rgKeyId r) = k))

/-- KEYID_RETIRE (R357): a closed KeyID that no enabled region names loses its key and is free. -/
def execKeyidRetire (ctx : Ctx) (k : Nat) (s : State) : Host.Outcome State Fault Refusal :=
  .next (s.cmdWrite ctx (0x2F20 + k) 4 (k < 16) false (s.kidChecks k) (fun s =>
    if s.get (Reg.kidState k) ≠ 3 then s.set (Reg.kidOutcome k) 0x41
    else if s.kidNamed k then s.set (Reg.kidOutcome k) 0x40
    else ({ s with kidKeys := s.kidKeys.filter (fun e => e.1 ≠ k) } : State).sets
      [(Reg.kidState k, 0), (Reg.kidOutcome k, outDone)]))

/-! ## Flash erase and the sweep (R353, R354) -/

/-- FLASH_ERASE (R353): the erase of a sector of an enabled customer region starts; its journal record is written (R519). -/
def execFlashErase (ctx : Ctx) (addr : Nat) (s : State) : Host.Outcome State Fault Refusal :=
  .next (s.cmdWrite ctx 0x2F00 0x0D true false [need (s.get Reg.xmFlashEraseOutcome ≠ outBusy) 0x08000022, fits 8 addr] (fun s =>
    if addr % 65536 = 0 ∧ s.inFlash addr 65536 ∧ (List.range 16).any (fun r => s.inRegion r addr 65536) then
      s.sets [(Reg.flashErasing, addr + 1), (Reg.xmFlashEraseOutcome, outBusy)]
    else s.set Reg.xmFlashEraseOutcome 0x45))

/-- A flash range is erased, lines and tag words. -/
def State.eraseFlash (s : State) (a n : Nat) : State :=
  { (s.eraseBytes a n) with flashLines := s.flashLines.filter (fun f => !(a ≤ f.line && f.line < a + n)) }

/-- FLASH_ERASE_DONE (R353): the erase ends and the sector reads erased. -/
def execFlashEraseDone (s : State) : Host.Outcome State Fault Refusal :=
  if s.running ∧ 0 < s.get Reg.flashErasing then
    .next ((s.eraseFlash (s.get Reg.flashErasing - 1) 65536).sets [(Reg.flashErasing, 0), (Reg.xmFlashEraseOutcome, outDone)])
  else .next s

/-- The granules of an enabled DRAM region. -/
def State.regionGranules (s : State) (r : Nat) : List Nat :=
  let b := s.get (Reg.rgBase r)
  let l := s.get (Reg.rgLimit r)
  if s.get (Reg.rgEnable r) = 1 ∧ dramBase ≤ b then (List.range ((l - b) / 65536)).map (fun k => granuleOf b + k) else []

/-- Granules of enabled DRAM regions whose bit is clear (R365). -/
def State.uninitGranules (s : State) : List Nat :=
  ((List.range 16).flatMap s.regionGranules).filter (fun g => (s.granule? g).isNone)

/-- INIT_SWEEP_GRANULE (R354): the sweep initialises the lowest uninitialised granule of the enabled DRAM regions. Without a
programmed KeyID there is no key for its tags, and the sweep goes on to the next. -/
def execInitSweepGranule (s : State) : Host.Outcome State Fault Refusal :=
  if s.running ∧ s.get Reg.xmInitSweep = 1 then
    let ok := s.uninitGranules.filter (fun g =>
      (s.kidOf (dramBase + g * 65536) 65536).any (fun k => s.get (Reg.kidState k) = 1))
    match ok.foldl (fun b g => some (match b with | none => g | some m => min m g)) none with
    | some g => .next (s.initGranule g)
    | none => .next s
  else .next s

end Sys2Proof.Machine
end

