-- ==== Sys2Proof/Machine/Chimney.lean ====
section
/-! DEFINITION. The Chimney link: reads with retry and hold, posted writes, the reservation semaphore, head-on transfers,
fences, and loss of the link (R366 to R387). -/
namespace Sys2Proof.Machine

/-! ## Targets (R371, R372) -/

/-- The Lantern mailbox, which the Pilot core addresses at 0x4000_0000 (R372); the model keeps it above the address space. -/
abbrev lanternMailbox : Nat := 2 ^ 40

/-- The window of the Wick die. -/
def inWindow (a : Nat) : Bool := 0x60000000 ≤ a && a < 0x64000000
/-- The customer retention area, the Pilot mailbox and the Pilot hook memory. -/
def inRetention (a n : Nat) : Bool := 0x60000000 ≤ a && a + n ≤ 0x60008000
def inMailbox (a n : Nat) : Bool := 0x61000000 ≤ a && a + n ≤ 0x61001000
def inHooks (a n : Nat) : Bool := 0x62000000 ≤ a && a + n ≤ 0x62004000

/-- A piece has a target on the Wick die. -/
def wickTarget (a n : Nat) : Bool := inRetention a n || inMailbox a n || inHooks a n

/-- Why a piece that crosses to the Wick die fails there: 1 no target, 2 refused by the target, 0 when it does not (R371,
R387). -/
def State.wickFault (s : State) (a n : Nat) : Nat :=
  if inHooks a n then (if s.mode = .trim then 0 else 2) else if wickTarget a n then 0 else 1

/-- An access cut at 64-byte boundaries (R373): the first address and length of each piece. -/
def piecesOf (a n : Nat) : List (Nat × Nat) :=
  (linesOf a n).map (fun l => (max a l, min (a + n) (l + 64) - max a l))

/-- A core's access is naturally aligned and at most 8 bytes wide (R371). -/
def coreAligned (a n : Nat) : Bool := (n = 1 || n = 2 || n = 4 || n = 8) && a % n = 0

/-- The initiator is a Lamplighter, or the debug port, whose accesses must be aligned (R371, R372). -/
def isCore (init : Nat) : Bool := init = 0 || init = 1
/-- A Lantern-die initiator that may use the window: a Lamplighter, a DMA channel or the debug port (R371, R372). -/
def onLantern (init : Nat) : Bool := isCore init || (0x20 ≤ init && init < 0x40) || init = 0x40

/-- The bit of `Chm.PendingFaults` of an initiator (R386). -/
def faultBit (init : Nat) : Nat :=
  if init = 0x80 then 2 else if init = 0x81 then 3 else if 0x20 ≤ init ∧ init < 0x40 then 32 + (init - 0x20) else init

/-- The Chimney link carries traffic. -/
def State.linkRuns (s : State) : Bool := s.running && s.get Reg.chmState = 1

/-! ## Posted writes and their failures (R373, R378, R381, R383) -/

/-- A write reaches a granule: a reservation on it is broken (R378). -/
def State.touchGranule (s : State) (a n : Nat) : State :=
  match s.semaphore with
  | some m => if (linesOf a n).contains m.granule then { s with semaphore := some { m with touched := true } } else s
  | none => s

/-- A posted piece fails late: the pending-fault bit, the counter and a record, or a lost record (R383, R387). -/
def State.lateFault (s : State) (p : Posted) (kind : Nat) : State :=
  let b := faultBit p.initiator
  let s := (s.set Reg.chmPendingFaults (setBit (s.get Reg.chmPendingFaults) b true)).count Reg.chmLateFaults
  let n := s.get Reg.chmFaultRecords
  if 16 ≤ n then s.count Reg.chmFaultsLost 32
  else
    let s := s.sets [(Reg.cfAddress n, p.addr), (Reg.cfInitiator n, p.initiator), (Reg.cfKind n, kind),
      (Reg.cfSize n, p.data.length), (Reg.cfTime n, s.timeNs 4), (Reg.chmFaultRecords, n + 1)]
    if s.get (Reg.chmFirstFault b) = 0 then s.set (Reg.chmFirstFault b) (p.addr + 1) else s

/-- A piece is applied at its target, or fails there: in the window, in the Lantern mailbox for the Pilot core, and in external
memory, as initiator 7, for the device-internal Wick initiators (R371 to R373). -/
def State.applyPiece (s : State) (p : Posted) : State :=
  if p.initiator = 0x81 then
    if s.inDram p.addr p.data.length ∨ s.inFlash p.addr p.data.length then
      let r := s.memWrite 7 p.addr p.data
      if r.1 then r.2 else r.2.lateFault p 2
    else s.lateFault p 1
  else if p.initiator = 0x80 then
    if 0x40000000 ≤ p.addr ∧ p.addr + p.data.length ≤ 0x40001000 then
      s.setBytes (lanternMailbox + (p.addr - 0x40000000)) p.data
    else s.lateFault p 1
  else
    match s.wickFault p.addr p.data.length with
    | 0 =>
      let s := s.setBytes p.addr p.data
      if s.semaphore.any (fun m => m.hart ≠ p.initiator) then s.touchGranule p.addr p.data.length else s
    | k => s.lateFault p k

/-- A write is posted in pieces; the fetch entries of its initiator for a granule that it reaches fetch again (R373, R377). -/
def State.postWrite (s : State) (init a : Nat) (b : List Byte) : State :=
  let ps := (piecesOf a b.length).map (fun p => (⟨init, p.1, slice b (p.1 - a) p.2⟩ : Posted))
  let hit := fun (f : Fetch) => f.initiator = init && (linesOf f.addr f.size).any (fun l => (linesOf a b.length).contains l)
  if s.get Reg.chmState = 3 then ps.foldl (fun s p => s.lateFault p 3) s
  else { s with posted := s.posted ++ ps,
                fetches := s.fetches.map (fun f => if hit f then { f with ready := false, data := [] } else f) }

/-- After four back-offs of one request the Lantern half takes no new request (R380). -/
def State.lanternBarred (s : State) : Bool := s.wickRead.any (fun w => 4 ≤ w.backoffs)

/-- CHIMNEY_POSTED_WRITE (R371 to R373): a write of a Lantern initiator to the window, or of a Wick initiator. A core's access
that is not aligned takes an access fault; the debug port's write is not posted and fails at the access; the Pilot core's
writes to its own die are applied at once. -/
def execChimneyPostedWrite (init addr : Nat) (data : List Byte) (s : State) : Host.Outcome State Fault Refusal :=
  let n := data.length
  if ¬ s.running ∨ n = 0 then .next s
  else if onLantern init then
    if ¬ inWindow addr then .next s
    else if (isCore init ∨ init = 0x40) ∧ ¬ coreAligned addr n then .next (s.busError addr (accessCause init true))
    else if s.lanternBarred then .next { s with bus := { held := true } }
    else if init = 0x40 then
      if s.linkRuns ∧ s.wickFault addr n = 0 then .next (((s.setBytes addr data).touchGranule addr n).busOk)
      else .next (s.busError addr)
    else .next (((s.touchGranule addr n).postWrite init addr data).busOk)
  else if init = 0x80 ∧ wickTarget addr n then .next (((s.setBytes addr data).touchGranule addr n).busOk)
  else if init = 0x80 ∨ init = 0x81 then .next ((s.postWrite init addr data).busOk)
  else .next s

/-- Two posted pieces of one initiator lie in one granule, which keeps their order (R381). -/
def sameGranule (p q : Posted) : Bool := p.initiator = q.initiator && p.addr / 64 = q.addr / 64

/-- A Wick-side request that stands holds the Wick port, which requests from the Lantern die need (R380). -/
def State.wickPortHeld (s : State) : Bool := s.wickRead.any (fun w => w.withdrawn = 0)

/-- The port of the half that a piece reaches is held: by a Pilot read on the Wick die, by a held read on the Lantern die (R380). -/
def State.pieceHeld (s : State) (p : Posted) : Bool := if 0x80 ≤ p.initiator then s.heldRead.isSome else s.wickPortHeld

/-- WRITE_ACK (R383): piece `k` of those under way is applied or fails at its target, and its acknowledgement returns. Earlier
pieces of its initiator in its granule come first. -/
def execWriteAck (k : Nat) (s : State) : Host.Outcome State Fault Refusal :=
  match s.posted[k]? with
  | some p =>
    if s.linkRuns ∧ ¬ s.pieceHeld p ∧ ¬ (s.posted.take k).any (sameGranule p) then
      .next (({ s with posted := s.posted.eraseIdx k } : State).applyPiece p)
    else .next s
  | none => .next s

/-! ## Reads (R374 to R377) -/

/-- A retry response (R374). -/
def State.retry (s : State) : State := ({ s with bus := { retry := true } } : State).count Reg.chmReadRetries

/-- The read takes the hold slot, or a retry response when it is occupied (R375). -/
def State.holdRead (s : State) (f : Fetch) : State :=
  if s.heldRead.isSome then s.retry
  else ({ s with heldRead := some { f with since := s.now }, bus := { held := true } } : State).count Reg.chmHoldFallbacks

/-- CHIMNEY_READ (R374, R375): a read of the window, issued or reissued. -/
def execChimneyRead (init addr size : Nat) (s : State) : Host.Outcome State Fault Refusal :=
  if ¬ s.running ∨ ¬ onLantern init ∨ ¬ inWindow addr ∨ size = 0 then .next s
  else if (isCore init ∨ init = 0x40) ∧ ¬ coreAligned addr size then .next (s.busError addr (accessCause init false))
  else if s.get Reg.chmState = 3 then .next (s.busError addr (accessCause init false))
  else match s.fetches.find? (fun f => f.initiator = init && f.addr = addr && f.size = size) with
    | some f =>
      if f.ready then
        let s : State := { s with fetches := s.fetches.filter (fun g => g ≠ f) }
        .next (if f.fault then s.busError addr (accessCause init false) else s.busOk f.data)
      else .next s.retry
    | none =>
      if s.lanternBarred then .next { s with bus := { held := true } }
      else
        let f : Fetch := { initiator := init, addr := addr, size := size }
        if init = 0x40 ∨ 16 ≤ s.fetches.length then .next (s.holdRead f)
        else .next (({ s with fetches := s.fetches ++ [f] } : State).retry)

/-- A read may complete: the link runs, the Wick port is free, and every earlier write of the initiator to a granule of the
read is acknowledged (R377, R381). -/
def State.fetchFree (s : State) (f : Fetch) : Bool :=
  s.linkRuns && !s.wickPortHeld &&
  !s.posted.any (fun p => p.initiator = f.initiator && (linesOf f.addr f.size).contains (p.addr / 64 * 64))

/-- Every piece of a read has a target (R373). -/
def fetchSound (f : Fetch) : Bool := (piecesOf f.addr f.size).all (fun p => wickTarget p.1 p.2)

/-- CHIMNEY_FETCH_DONE (R374, R375): the data of fetch entry `k`, or of the held read, arrives. -/
def execChimneyFetchDone (held : Bool) (k : Nat) (s : State) : Host.Outcome State Fault Refusal :=
  if held then
    match s.heldRead with
    | some f =>
      if s.fetchFree f then
        let t : State := { s with heldRead := none }
        .next (if fetchSound f then t.busOk (s.bytesAt f.addr f.size) else t.busError f.addr (accessCause f.initiator false))
      else .next s
    | none => .next s
  else
    match s.fetches[k]? with
    | some f =>
      if s.fetchFree f ∧ ¬ f.ready then
        .next { s with fetches := s.fetches.set k { f with ready := true, doneAt := s.now, fault := !fetchSound f,
                                                           data := s.bytesAt f.addr f.size } }
      else .next s
    | none => .next s

/-- FETCH_STALE (R374): data that waited 4 µs without a reissue is discarded. -/
def execFetchStale (k : Nat) (s : State) : Host.Outcome State Fault Refusal :=
  match s.fetches[k]? with
  | some f =>
    if f.ready ∧ f.doneAt + 4 * us ≤ s.now then
      .next (({ s with fetches := s.fetches.eraseIdx k } : State).count Reg.chmStaleFetches 32)
    else .next s
  | none => .next s

/-! ## Exclusive reservations (R378, R379) -/

/-- An LR or SC may stand in the window: in the customer retention area, of 4 or 8 bytes, aligned (R378). -/
def exclusiveOk (a n : Nat) : Bool := inRetention a n && (n = 4 || n = 8) && a % n = 0

/-- LR (R378): takes a free semaphore, or moves the hart's own to the new granule, and reads under the hold. -/
def execLr (hart addr size : Nat) (s : State) : Host.Outcome State Fault Refusal :=
  if ¬ s.running ∨ 2 ≤ hart ∨ ¬ inWindow addr then .next s
  else if ¬ exclusiveOk addr size ∨ s.get Reg.chmState = 3 then .next (s.busError addr 5)
  else if s.heldRead.isSome then .next s.retry
  else if s.lanternBarred then .next { s with bus := { held := true } }
  else
    let g := addr / 64 * 64
    let s : State := match s.semaphore with
      | none => { s with semaphore := some { hart := hart, granule := g, taken := s.now } }
      | some m => if m.hart = hart then { s with semaphore := some { m with granule := g, touched := false } } else s
    .next (s.holdRead { initiator := hart, addr := addr, size := size, lr := true })

/-- SC (R378): succeeds when its hart holds the semaphore for the granule and no write has reached it; its write is posted. -/
def execSc (hart addr : Nat) (data : List Byte) (s : State) : Host.Outcome State Fault Refusal :=
  if ¬ s.running ∨ 2 ≤ hart ∨ ¬ inWindow addr then .next s
  else if ¬ exclusiveOk addr data.length then .next (s.busError addr 7)
  else
    let own := s.semaphore.any (fun m => m.hart = hart)
    let ok := s.semaphore.any (fun m => m.hart = hart && m.granule = addr / 64 * 64 && !m.touched)
    let s : State := if own then { s with semaphore := none } else s
    if ok then .next ({ (s.postWrite hart addr data) with bus := { value := 0 } })
    else .next (({ s with bus := { value := 1 } } : State).count Reg.chmScFailures 32)

/-- SEMAPHORE_TIMEOUT (R378): the semaphore is released 2 µs after it was taken. -/
def execSemaphoreTimeout (s : State) : Host.Outcome State Fault Refusal :=
  match s.semaphore with
  | some m =>
    if m.taken + 2 * us ≤ s.now then .next (({ s with semaphore := none } : State).count Reg.chmSemaphoreTimeouts 32)
    else .next s
  | none => .next s

/-! ## Head-on transfers (R376, R380) -/

/-- A Pilot read of the Lantern mailbox completes with its data; elsewhere it meets a bus error (R372, R376). -/
def State.pilotData (s : State) (addr size : Nat) : State :=
  let s : State := { s with wickRead := none }
  if 0x40000000 ≤ addr ∧ addr + size ≤ 0x40001000 then s.busOk (s.bytesAt (lanternMailbox + (addr - 0x40000000)) size)
  else s.busError addr 5

/-- PILOT_READ (R376): the read completes while the Lantern port is free, and else stands and holds the Wick port. -/
def execPilotRead (addr size : Nat) (s : State) : Host.Outcome State Fault Refusal :=
  if ¬ s.running ∨ s.wickRead.isSome ∨ size = 0 then .next s
  else if s.get Reg.chmState = 3 then .next (s.busError addr 5)
  else if s.linkRuns ∧ s.heldRead.isNone then .next (s.pilotData addr size)
  else .next { s with wickRead := some { addr := addr, size := size, since := s.now }, bus := { held := true } }

/-- Eight link cycles of 1 GHz, in ps (R366, R380). -/
abbrev backoffWait : Nat := 8000

/-- WICK_BACKOFF (R380): both halves have held a request for 8 link cycles; the Wick half withdraws its own. -/
def execWickBackoff (s : State) : Host.Outcome State Fault Refusal :=
  match s.wickRead with
  | some w =>
    if s.linkRuns ∧ s.heldRead.any (fun f => f.since + backoffWait ≤ s.now) ∧ w.withdrawn = 0 ∧ w.since + backoffWait ≤ s.now then
      .next (({ s with wickRead := some { w with withdrawn := s.now, backoffs := w.backoffs + 1 } } : State).count
        Reg.chmWickBackoffs 32)
    else .next s
  | none => .next s

/-- BACKOFF_REISSUE (R380): 256 link cycles later the request is reissued, and completes while the Lantern port is free. -/
def execBackoffReissue (s : State) : Host.Outcome State Fault Refusal :=
  match s.wickRead with
  | some w =>
    if s.linkRuns ∧ 0 < w.withdrawn ∧ w.withdrawn + 256000 ≤ s.now then
      if s.heldRead.isNone then .next (s.pilotData w.addr w.size)
      else .next { s with wickRead := some { w with withdrawn := 0, since := s.now } }
    else .next s
  | none => .next s

/-! ## Fences (R382) -/

/-- FENCE (R382): a fence of a core starts waiting; `writes` says that its predecessor set holds w or o, `reads` r or i. -/
def execFence (init : Nat) (writes reads : Bool) (s : State) : Host.Outcome State Fault Refusal :=
  if s.running ∧ (isCore init ∨ init = 0x80) then
    .next { s with fences := s.fences.filter (fun f => f.initiator ≠ init) ++ [⟨init, writes, reads⟩] }
  else .next s

/-- Nothing that a fence waits for is under way (R382). -/
def State.fenceMet (s : State) (f : Fence) : Bool :=
  !(f.writes && s.posted.any (fun p => p.initiator = f.initiator)) &&
  !(f.reads && (s.fetches.any (fun g => g.initiator = f.initiator) || s.heldRead.any (fun g => g.initiator = f.initiator) ||
    (f.initiator = 0x80 && s.wickRead.isSome)))

/-- A fence completes: whether with FAULTED, and the address plus 1 of the first record made since the previous fence, 0 when there is
none; the pending-fault bit is cleared (R382). -/
def State.fenceEnd (s : State) (init : Nat) : Bool × Nat × State :=
  let b := faultBit init
  let bad := bitOf (s.get Reg.chmPendingFaults) b
  let first := s.get (Reg.chmFirstFault b)
  (bad, first, (s.set Reg.chmPendingFaults (setBit (s.get Reg.chmPendingFaults) b false)).set (Reg.chmFirstFault b) 0)

/-- FENCE_COMPLETE (R382): the fence completes, with a store access fault when the pending-fault bit is set. Its address is a free value
when the fault left no record, since all were full (R383; log entry 175). -/
def execFenceComplete (init : Nat) (s : State) : Host.Outcome State Fault Refusal :=
  match s.fences.find? (fun f => f.initiator = init) with
  | some f =>
    if s.fenceMet f then
      let r := ({ s with fences := s.fences.filter (fun g => g.initiator ≠ init) } : State).fenceEnd init
      if ¬ r.1 then .next (r.2.2.busOk)
      else if r.2.1 = 0 then
        let d := r.2.2.draw 64
        .next { d.2 with bus := { fault := true, cause := 7, tval := d.1 } }
      else .next { r.2.2 with bus := { fault := true, cause := 7, tval := r.2.1 - 1 } }
    else .next s
  | none => .next s

/-! ## Link errors and loss (R384, R386) -/

/-- A pulse is on its way over the event sideband. -/
def Pulse.onSideband : Pulse → Bool
  | .sideband _ _ _ _ => true
  | _ => false

/-- The event sideband is lost with the link, and what is on its way over it (R366). -/
def State.loseSideband (s : State) : State := { s with pulses := s.pulses.filter (fun p => !p.onSideband) }

/-- The link retrains: its traffic pauses and is not lost. -/
def State.retrain (s : State) : State := (s.sets [(Reg.chmState, 2), (Reg.chmReplayRun, 0)]).count Reg.chmRetrains 32

/-- A flit of the link (R366, R367): the fields of its header, its payload of 28 bytes and its CRC. -/
structure Flit where
  channel : Nat
  seq : Nat
  acked : Nat
  ackValid : Bool
  payload : List Byte
  crc : Nat
deriving DecidableEq, Repr

/-- The flit that 32 bytes carry (R366, R367; the byte order is log entry 176's). -/
def flitOf (b : List Byte) : Flit :=
  let h := beAt b 0 2
  { channel := field h 15 13, seq := field h 12 7, acked := field h 6 1, ackValid := bitOf h 0, payload := slice b 2 28, crc := beAt b 30 2 }

/-- The header of a flit, as its two bytes hold it (R367). -/
def Flit.header (f : Flit) : Nat := f.channel * 2 ^ 13 + f.seq * 2 ^ 7 + f.acked * 2 + flag f.ackValid

/-- A flit fails its CRC, which covers the header and the payload (R367). -/
def Flit.bad (f : Flit) : Bool := crc16 (beBytes 2 f.header ++ f.payload) != f.crc

/-- FLIT_CRC_ERROR (R384): a flit that fails its CRC is replayed from the retry buffer. A flit that passes its CRC is no error. -/
def execFlitCrcError (f : FlitHeard) (s : State) : Host.Outcome State Fault Refusal :=
  if s.linkRuns ∧ (flitOf f.bytes).bad then
    .next (((s.count Reg.chmCrcErrors).count Reg.chmReplays).set Reg.chmReplayRun (if f.again then s.get Reg.chmReplayRun + 1 else 1))
  else .next s

/-- CHIMNEY_LOCK_LOSS (R384): loss of lock, or 8 consecutive replays, start a retrain. -/
def execChimneyLockLoss (lockLost : Bool) (s : State) : Host.Outcome State Fault Refusal :=
  if s.linkRuns ∧ (lockLost ∨ 8 ≤ s.get Reg.chmReplayRun) then .next s.retrain else .next s

/-- The link is down (R384, R475): unacknowledged writes are recorded, reads meet bus errors, the step falls to 4/8 and an
error is reported. -/
def State.chimneyDown (s : State) : State :=
  let s := (s.loseSideband.set Reg.chmState 3).loseCrossing
  let ps := s.posted
  let s := ps.foldl (fun s p => s.lateFault p 3) ({ s with posted := [] } : State)
  let held := s.heldRead.isSome || s.wickRead.isSome
  let a := match s.heldRead with | some f => f.addr | none => 0
  let s : State := { s with heldRead := none, wickRead := none, fetches := [] }
  let s := if held then s.busError a else s
  (s.reportObj 6 9 0x2300 0x01).applyStep

/-- A Pilot read that stands completes when the Lantern port is free (R376). -/
def State.pilotResume (s : State) : State :=
  match s.wickRead with
  | some w => if w.withdrawn = 0 ∧ s.heldRead.isNone then s.pilotData w.addr w.size else s
  | none => s

/-- RETRAIN_RESULT (R384, R568): a retrain ends, and the traffic that it paused goes on; the fourth failure in a row takes the link
down. -/
def execRetrainResult (ok : Bool) (s : State) : Host.Outcome State Fault Refusal :=
  if s.running ∧ s.get Reg.chmState = 2 then
    if ok then .next (((s.sets [(Reg.chmState, 1), (Reg.chmFailedTrains, 0)]).applyStep).crossOver.pilotResume)
    else
      let n := s.get Reg.chmFailedTrains + 1
      if n < 4 then .next ((s.set Reg.chmFailedTrains n).retrain)
      else .next ((s.set Reg.chmFailedTrains 0).chimneyDown)
  else .next s

/-- CHM_RETRAIN (R386): retrains a link that is down. -/
def execChmRetrain (ctx : Ctx) (value : Nat) (s : State) : Host.Outcome State Fault Refusal :=
  .next (s.cmdWrite ctx 0x2300 2 true false (need (s.get Reg.chmState = 3) 0x08000022 :: onlyOne value) (fun s =>
    (s.set Reg.chmFailedTrains 0).retrain))

/-- CHM_FAULT_CLEAR (R383, R386): every record is cleared; pending-fault bits are not changed. -/
def execChmFaultClear (ctx : Ctx) (value : Nat) (s : State) : Host.Outcome State Fault Refusal :=
  .next (s.cmdWrite ctx 0x2300 0x0F true false (onlyOne value) (fun s =>
    (List.range 16).foldl (fun s k => s.sets [(Reg.cfAddress k, 0), (Reg.cfInitiator k, 0), (Reg.cfKind k, 0),
      (Reg.cfSize k, 0), (Reg.cfTime k, 0)]) (s.set Reg.chmFaultRecords 0)))

end Sys2Proof.Machine
end

