-- ==== Sys2Proof/Machine/Claims.lean ====
section
/-! DEFINITION. Commands of the claims, heartbeats and the twin (R484 to R499). -/
namespace Sys2Proof.Machine

/-- The cluster of a path context: 0 Lamplighter A, 1 Lamplighter B. -/
def clusterOf : Ctx → Option Nat
  | .lampA => some 0
  | .lampB => some 1
  | _ => none

/-- The state of a cluster's monitor (R499). -/
abbrev Reg.hbState (c : Nat) : Reg := if c = 0 then Reg.hbStateA else Reg.hbStateB

/-- HB_BEAT (R493, R499): the heartbeat arrives through the mailbox, which needs the Chimney link, and on the pilot line. A
lost cluster whose heartbeats resume is alive again; one out of service, under restart, or during a requested entry to Ember
is not (R486, R490, R517). -/
def execHbBeat (ctx : Ctx) (value : Nat) (mailbox pilotLine : Bool) (s : State) : Host.Outcome State Fault Refusal :=
  .next (s.cmdWrite ctx 0x2E00 1 true true [need (clusterOf ctx).isSome 0x08000022, fits 4 value] (fun s =>
    let c := (clusterOf ctx).getD 0
    if s.get (Reg.clusterRestart c) ≠ 0 ∨ s.get Reg.pwrTarget = 2 then s
    else
      let m := mailbox && s.get Reg.chmState = 1
      let s' := if m then s.set (Reg.hbMailAt c) (s.now + 1) else s
      let s' := if pilotLine then s'.set (Reg.hbPilotAt c) (s.now + 1) else s'
      if (m || pilotLine) ∧ (s.get (Reg.hbState c) = 0 ∨ s.get (Reg.hbState c) = 2) then
        State.twinChange s (((s'.set (Reg.hbState c) 1).claimsBack c).decideOwners)
      else s'))

/-- A monitor of periods has met none since the period of its latest arrival: three periods and the grace are over
(R493, R498). An arrival at the deadline itself still counts (R492). -/
def monitorOver (now last period grace : Nat) : Bool := ((last - 1) / period + 4) * period + grace < now

/-- HEARTBEAT_TIMEOUT (R493, R486): three unmet periods and 40 µs without a heartbeat declare a cluster lost. -/
def execHeartbeatTimeout (c : Nat) (s : State) : Host.Outcome State Fault Refusal :=
  if c < 2 ∧ s.running ∧ s.alive c ∧
      monitorOver s.now (max (s.get (Reg.hbMailAt c)) (s.get (Reg.hbPilotAt c))) (100 * us) (40 * us) then
    let t := (((s.clusterLeaves c 2).count Reg.hbLosses 32).pulse 0x09 c).reportObj 7 (7 + c) 0x2E00 (2 + c) c
    .next (State.twinChange s (t.decideOwners true))
  else .next s

/-- HEARTBEAT_PATH_FAULT (R493): one path alone misses three periods in a row; its bit is set and an error is reported. -/
def execHeartbeatPathFault (c : Nat) (pilotLine : Bool) (s : State) : Host.Outcome State Fault Refusal :=
  let b := 2 * c + flag pilotLine
  let own := s.get (if pilotLine then Reg.hbPilotAt c else Reg.hbMailAt c)
  let other := s.get (if pilotLine then Reg.hbMailAt c else Reg.hbPilotAt c)
  if c < 2 ∧ s.running ∧ s.alive c ∧ ¬ bitOf (s.get Reg.hbPathFaults) b ∧ monitorOver s.now own (100 * us) 0 ∧
      ¬ monitorOver s.now other (100 * us) 0 then
    .next ((s.set Reg.hbPathFaults (setBit (s.get Reg.hbPathFaults) b true)).reportObj 7 (7 + c) 0x2E00 4 b)
  else .next s

/-- LOCKSTEP_FAULT (R23, R304, R493): unit 0 or 1 is a Lamplighter, which goes out of service; unit 2 is the vault, which
refuses further commands until the next start. -/
def execLockstepFault (unit : Nat) (s : State) : Host.Outcome State Fault Refusal :=
  if ¬ s.running then .next s
  else if unit < 2 then
    if s.get (Reg.hbState unit) = 3 then .next s
    else
      let t := (((s.clusterLeaves unit 3).count Reg.hbLosses 32).pulse 0x09 unit).reportObj 2 (7 + unit) 0x2E00 (2 + unit) unit
      .next (State.twinChange s (t.decideOwners true))
  else if unit = 2 then
    if s.get Reg.vltState = 2 then .next s
    else .next (s.vaultFails.reportObj 2 3 0x2901 0x05)
  else .next s

/-- CG_CLAIM (R485, R492): sets the claim of the writing claimant; that of a dead cluster counts when it is alive (R486, R487; log
entry 177). -/
def execCgClaim (ctx : Ctx) (g value : Nat) (s : State) : Host.Outcome State Fault Refusal :=
  .next (s.rwWrite ctx (0x2E10 + g) 3 (g < 16) true [need (clusterOf ctx).isSome 0x08000022, fits 1 value] (fun s =>
    let c := (clusterOf ctx).getD 0
    let t := s.set ((Reg.cgClaim g).of ctx) value
    let t := if s.alive c then t.set (Reg.cgClaimOf c g) value else t
    State.twinChange s t.decideOwners))

/-- OUT_COMMAND (R484, R488): a GO output takes the level, when claim arbitration accepts the write. -/
def execOutCommand (ctx : Ctx) (o value : Nat) (s : State) : Host.Outcome State Fault Refusal :=
  .next (s.rwWrite ctx (0x2E40 + o) 1 (o < 16) true
    [need (value ≤ 1) 0x06090030, need (s.claimAccepts ctx (s.get (Reg.outGroup o))) 0x08000021]
    (fun s => State.twinChange s ((s.set (Reg.outCommand o) value).outputWrite o value)))

/-- HOLD_EXPIRE (R488, R489): the hold window of a group is over and it takes its safe states; an owner that appears as it ends wins. -/
def execHoldExpire (g : Nat) (s : State) : Host.Outcome State Fault Refusal :=
  if g < 16 ∧ s.mode ≠ .dormant ∧ s.get (Reg.cgState g) = 5 ∧
      s.get (Reg.cgHoldAt g) + s.get (Reg.cgHoldTime g) * us < s.now then
    .next (State.twinChange s ((s.groupEnter g 6).count (Reg.cgSafeEntries g) 32))
  else .next s

/-! ## The twin (R496 to R498) -/

/-- The claim link runs: Glow, Flame, Trim and Snuffed (R496). -/
def State.claimLink (s : State) : Bool := s.twinOn && (s.running || s.mode = .snuffed)

/-- Frames of the claim link are heard: while it runs, and while groups hand over at a reset (R513). -/
def State.claimHeard (s : State) : Bool :=
  s.claimLink || (s.twinOn && s.starting && s.mode ≠ .dormant && s.mode ≠ .ember)

/-- TWIN_FRAME_PERIODIC (R496, R498): 250 µs after the latest one, a frame is sent; in Snuffed it is a release frame. -/
def execTwinFramePeriodic (s : State) : Host.Outcome State Fault Refusal :=
  if s.claimLink ∧ (s.get Reg.twSentAt = 0 ∨ s.get Reg.twSentAt - 1 + 250 * us ≤ s.now) then
    .next ((s.set Reg.twSentAt (s.now + 1)).sendTwin (if s.mode = .snuffed then 3 else 1))
  else .next s

/-- Bytes 0 to 38 of a received twin frame that is valid (R497): on the claim link under its CRC, on the twin stream as
payload of EtherType 0x88B5. -/
def State.twinValid (s : State) (stream : Bool) (b : List Byte) : Option (List Byte) :=
  let off := if beAt b 12 2 = 0x8100 then 18 else 14
  let p := if stream then (b.drop off).take 39 else b.take 39
  let sound := if stream then beAt b (off - 2) 2 = 0x88B5 && p.length = 39 else b.length = 41 && crc16 p = beAt b 39 2
  if sound ∧ beAt p 0 1 = 0x5C ∧ beAt p 1 1 % 2 ≠ s.get Reg.twUnit.latched then some p else none

/-- The claims, values and state of the twin as a valid frame reports them (R486, R491, R498). -/
def State.twinApply (s : State) (stream : Bool) (p : List Byte) : State :=
  let release := beAt p 1 1 / 16 = 3
  let s := (s.count Reg.twFramesRx).set (if stream then Reg.twStreamAt else Reg.twLinkAt) (s.now + 1)
  let s := s.sets [(Reg.twGo, beAt p 36 2), (Reg.twCd, beAt p 38 1)]
  let s := (List.range 16).foldl (fun s g => s.set (Reg.cgClaimTwin g) (if release then 0 else beAt p (4 + 2 * g) 1)) s
  let st := if release then 4 else 2
  if s.get Reg.twState = st then s else (s.set Reg.twState st).pulse 0x0A 0

/-- The marks of a frame take effect after the owners are decided: a taking group that the twin marks yielded is driven, and
a yielding group that the twin marks driving is released (R491). -/
def State.twinMarks (s : State) (p : List Byte) : State :=
  (List.range 16).foldl (fun s g =>
    let m := beAt p (5 + 2 * g) 1
    if s.get (Reg.cgTwinShared g) ≠ 1 then s
    else if s.get (Reg.cgState g) = 2 ∧ bitOf m 0 then s.groupEnter g 1
    else if s.get (Reg.cgState g) = 3 ∧ bitOf m 1 then s.groupEnter g 4
    else s) s

/-- TWIN_FRAME_RECEIVE (R496, R497): a frame arrives on the claim link, or is taken from the P37 queue of the twin
stream; an invalid one is discarded and counted. -/
def execTwinFrameReceive (stream : Bool) (bytes : List Byte) (s : State) : Host.Outcome State Fault Refusal :=
  let take := fun (s : State) (b : List Byte) =>
    match s.twinValid stream b with
    | some p => State.twinChange s (((s.twinApply stream p).decideOwners).twinMarks p)
    | none => s.count Reg.twFrameErrors
  if ¬ s.claimHeard then .next s
  else if stream then
    if ¬ s.running ∨ s.get Reg.chmState ≠ 1 ∨ s.get Reg.twRxQueue = 0xFF then .next s
    else match s.hostHead (s.get Reg.twRxQueue) with
      | some (e, b) => .next (take (s.takeHost e) b)
      | none => .next (s.hostPass (s.get Reg.twRxQueue))
  else .next (take s bytes)

/-- TWIN_TIMEOUT (R498): three periods of 250 µs and 150 µs without a valid frame declare the twin lost. -/
def execTwinTimeout (s : State) : Host.Outcome State Fault Refusal :=
  if s.claimLink ∧ s.get Reg.twState = 2 ∧
      monitorOver s.now (max (s.get Reg.twLinkAt) (s.get Reg.twStreamAt)) (250 * us) (150 * us) then
    let t := (((s.set Reg.twState 3).pulse 0x0A 0).count Reg.twLosses 32).reportObj 8 14 0x2E08 7
    .next (State.twinChange s (t.decideOwners true))
  else .next s

/-- TWIN_PATH_FAULT (R498): one path alone misses its frames; its bit is set and an error is reported. -/
def execTwinPathFault (stream : Bool) (s : State) : Host.Outcome State Fault Refusal :=
  let b := if stream then 4 else 5
  let own := s.get (if stream then Reg.twStreamAt else Reg.twLinkAt)
  let other := s.get (if stream then Reg.twLinkAt else Reg.twStreamAt)
  if s.claimLink ∧ s.get Reg.twState = 2 ∧ ¬ bitOf (s.get Reg.hbPathFaults) b ∧ monitorOver s.now own (250 * us) 0 ∧
      ¬ monitorOver s.now other (250 * us) 0 then
    .next ((s.set Reg.hbPathFaults (setBit (s.get Reg.hbPathFaults) b true)).reportObj 8 14 0x2E00 4 b)
  else .next s

end Sys2Proof.Machine
end

