-- ==== Sys2Proof/Machine/Values.lean ====
section
/-! DEFINITION. The owners of an object index, and what the chapters ask of single values beside the ranges of the object tables (R32,
R44, R50). A write of the dictionary and a record of the configuration image are both held against it. -/
namespace Sys2Proof.Machine

/-! ## Owners -/

/-- The owner of an object index on a variant (R64, R135, R186, R345, R360, R405, R535). -/
def ownerAt (v : Variant) (idx : Nat) : Option Owner :=
  if idx = 0x3000 then some ⟨.upd, 0⟩
  else if 0x2B10 ≤ idx ∧ idx < 0x2B30 then some ⟨.dma, idx - 0x2B10⟩
  else if 0x2C80 ≤ idx ∧ idx < 0x2D00 then some ⟨.cyc, idx - 0x2C80⟩
  else if 0x2F40 ≤ idx ∧ idx < 0x2F50 then some ⟨.rg, idx - 0x2F40⟩
  else if 0x4000 ≤ idx ∧ idx ≤ 0x4003 then some ⟨.mm, idx - 0x4000⟩
  else if 0x4200 ≤ idx ∧ idx < 0x4226 ∧ v.hasPort (idx - 0x4200) then some ⟨.gcl, idx - 0x4200⟩
  else match idx with
    | 0x4010 => some ⟨.conn, 0⟩
    | 0x4100 => some ⟨.saRow, 0⟩
    | 0x4300 => some ⟨.sid, 0⟩
    | 0x4301 => some ⟨.sg, 0⟩
    | 0x4302 => some ⟨.fm, 0⟩
    | 0x4303 => some ⟨.sr, 0⟩
    | 0x4400 => some ⟨.cxr, 0⟩
    | 0x4402 => some ⟨.fv, 0⟩
    | 0x4500 => some ⟨.fdb, 0⟩
    | _ => none

/-- The index of an owner, which its Kindle's producer code carries (R33). -/
def Owner.index (o : Owner) : Nat :=
  match o.grp with
  | .upd => 0x3000
  | .dma => 0x2B10 + o.inst
  | .cyc => 0x2C80 + o.inst
  | .rg => 0x2F40 + o.inst
  | .mm => 0x4000 + o.inst
  | .gcl => 0x4200 + o.inst
  | .conn => 0x4010
  | .saRow => 0x4100
  | .sid => 0x4300
  | .sg => 0x4301
  | .fm => 0x4302
  | .sr => 0x4303
  | .cxr => 0x4400
  | .fv => 0x4402
  | .fdb => 0x4500
  | _ => 0

/-- The commit modes that an owner accepts (R50; R147, R151, R179, R189, R200, R203 to R205, R256, R345, R360, R399, R405, R413,
R535). -/
def Owner.modes (o : Owner) : List Nat :=
  match o.grp with
  | .gcl => [2]
  | .dma => [0, 1, 2]
  | .conn => [0]
  | .rg => [0]
  | .fv => [0]
  | _ => [0, 2]

/-- The channels a variant has (R247). -/
def State.channels (s : State) : Nat := s.fuses.variant.slots / 2

/-! ## Values outside what an object takes (R44: the value step) -/

/-- A producer code names a unit of the variant and an instance in its range (R32, R33). -/
def producerExists (v : Variant) (unit inst : Nat) : Bool :=
  match unit with
  | 0x01 => inst < 32
  | 0x02 => inst < 8
  | 0x03 => inst < 38 && v.hasPort inst
  | 0x04 => inst < 37 && v.hasPort inst
  | 0x05 => inst = 0
  | 0x06 => inst = 0
  | 0x07 => (ownerAt v inst).any (fun o => o.modes.contains 2)
  | 0x08 => inst < 16
  | 0x09 => inst < 2
  | 0x0A => inst = 0
  | 0x0B => inst = 0
  | 0x0C => inst = 0
  | 0x0D => inst = 0
  | 0x0E => inst = 0
  | 0x0F => inst < 4
  | 0x10 => inst < v.engines
  | 0x11 => inst = 0 && v.hasInlet
  | 0x12 => inst < 4 && v.hasInlet
  | 0x13 => inst = 0 && v.hasInlet
  | 0x14 => inst = 0
  | 0x15 => inst < 31
  | 0x16 => inst < 16
  | _ => false

/-- The codes of `Port.Mode` that a port has (R103). -/
def portModes (n : Nat) : List Nat :=
  if n < 8 then [1, 2, 3, 4] else if n < 24 then [3, 4, 5, 6, 7] else if n < 32 then [6, 7, 8] else if n < 36 then [0x10] else [0x11]

/-- The bits of `Port.LaneCfg` that a port has (R108). -/
def laneBits (n : Nat) : Nat := if n < 8 then 0x1F else if n < 32 then 0x0A else 0

/-- A bit rate in kbit/s is attainable with up to `most` time quanta (R391). -/
def attainable (rate most : Nat) : Bool :=
  0 < rate && 160000 % rate = 0 &&
  (List.range 32).any (fun p => (160000 / rate) % (p + 1) = 0 && 8 ≤ 160000 / rate / (p + 1) && 160000 / rate / (p + 1) ≤ most)

/-- A port mask names no port of an absent unit (R184, R200, R215). -/
def Variant.maskPresent (v : Variant) (mask : Nat) : Bool := (bitsOf 38 mask).all v.hasPort

/-- A port number names a port of the variant. -/
def Variant.portPresent (v : Variant) (n : Nat) : Bool := n ≤ 37 && v.hasPort n

/-- The checks of single values that the chapters state beside the ranges of the object tables. -/
def State.valueAbort (s : State) (r : Reg) (v : Nat) : Option Nat :=
  let fv := s.fuses.variant
  match r.grp with
  | .evProducer => need (v = 0 || producerExists fv (v / 0x1000000) (v % 0x1000000)) 0x06090030
  | .port =>
    if r.sub = 0x02 then need ((portModes r.inst).contains v) 0x06090030
    else if r.sub = 0x04 then need (subsetBits v (laneBits r.inst)) 0x06090030
    else none
  | .cls => if 0x28 ≤ r.sub then need (v = 0xFF || fv.portPresent v) 0x06090030 else none
  | .fdb =>
    if r.sub = 0x11 then need (fv.portPresent (field v 5 0)) 0x06090030
    else if r.sub = 0x12 then need (fv.maskPresent v) 0x06090030
    else none
  | .q => if r.sub = 0x08 then need (fv.maskPresent v) 0x06090030 else none
  | .sid => if r.sub = 0x15 then need (fv.maskPresent v) 0x06090030 else none
  | .mm =>
    if r.sub = 0x21 then
      need (fv.portPresent (field v 61 56) && !bitOf v 18 && field v 28 27 ≠ 3 && field v 17 16 ≠ 3 && field v 11 0 ≠ 0xFFF) 0x06090030
    else none
  | .conn => if r.sub = 0x15 then need (field v 15 12 ≤ 4 && (bitOf v 7 → 1 ≤ field v 15 12)) 0x06090030 else none
  | .sr => need (!bitOf v 31 || (2 ≤ field v 22 16 && field v 22 16 ≤ 64 && field v 15 0 ≠ 0)) 0x06090030
  | .sp => if 0x11 ≤ r.sub then need (fv ≠ .kvt6408 || field v 9 6 = 0) 0x06090030 else none
  | .rxRing => if r.sub = 0x01 then need (v % 2 ^ s.get (Reg.rxRingSizeLog2 r.inst) = 0) 0x06090030 else none
  | .txRing => if r.sub = 0x01 then need (v % 2 ^ s.get Reg.txRingSizeLog2 = 0) 0x06090030 else none
  | .crq => if r.sub = 0x01 then need (v % 2 ^ s.get (Reg.crqSizeLog2 r.inst) = 0) 0x06090030 else none
  | .kid => if r.sub = 0x03 then need ((List.range 6).all (fun i => field v (2 * i + 1) (2 * i) ≠ 2)) 0x06090030 else none
  | .sc => if r.sub = 0x07 then need (field v 29 28 ≠ 3) 0x06090030 else none
  | .can =>
    match r.sub with
    | 0x03 => need (attainable v 160) 0x06090030
    | 0x04 => need (attainable v 80) 0x06090030
    | 0x05 => need (attainable v 80 && (r.inst < 8 || v ≤ 10000)) 0x06090030
    | 0x06 => need ([31, 23, 15].all (fun h => 50 ≤ field v h (h - 7) && field v h (h - 7) ≤ 90)) 0x06090030
    | _ => none
  | .cxr => if r.sub = 0x14 then need (field v 25 24 ≠ 3 || field v 23 13 ≠ 2047) 0x06090030 else none
  | .fv =>
    if r.sub = 0x10 then need (field v 23 21 ≤ 4 && 4 ≤ field v 20 16 && field v 20 16 ≤ 16) 0x06090030
    else if r.sub = 0x11 then need (v ≠ 0) 0x06090030
    else none
  | .cyc => if r.sub = 0x03 then need (field v 15 0 ≤ 2048) 0x06090030 else none
  | .wk =>
    if r.sub = 0x08 then need ((List.range 6).all (fun k => 2 ≤ field v (2 * k + 1) (2 * k))) 0x06090030 else none
  | .outp => if r.sub = 0x03 then need (v ≤ 1 || (v = 2 && r.inst < 16)) 0x06090030 else none
  | .vlt => if r.sub = 0x0B then need (1 ≤ v && v ≤ 13) 0x06090030 else none
  | .lcPort => if r.sub = 0x01 then need (v = 0xFFFF || v < s.channels) 0x06090031 else none
  | _ => none

end Sys2Proof.Machine
end

