-- ==== Sys2Proof/Machine/Secure.lean ====
section
/-! DEFINITION. Secure channels and association slots (R247 to R269): channel commands, installs, the hand-over of slot rows,
overlap, exhaustion hold and the event queue. -/
namespace Sys2Proof.Machine

/-- A live slot is in any state but free: in its active copy, or installed and still pending (R248, R255). -/
def State.slotLive (s : State) (row : Nat) : Bool := s.get (Reg.saState row) ≠ 0 || s.pendGet (Reg.saState row) ≠ 0

/-- The channel is open (R251). -/
def State.channelOpen (s : State) (c : Nat) : Bool := c < s.channels && s.get (Reg.chOpen c) = 1

/-- The lowest closed channel (R248). -/
def State.closedChannel (s : State) : Option Nat := (List.range s.channels).find? (fun c => s.get (Reg.chOpen c) = 0)

/-- The open channels. -/
def State.openChannels (s : State) : List Nat := (List.range s.channels).filter (fun c => s.get (Reg.chOpen c) = 1)

/-- An SCI is in use for a direction and ports (R251: code 0x43). -/
def State.sciInUse (s : State) (rx : Bool) (sci ports : Nat) : Bool :=
  s.openChannels.any (fun c => s.get (Reg.chSci c) = sci && (s.get (Reg.chRx c) = 1) == rx &&
    (!rx || s.get (Reg.chPorts c) &&& ports ≠ 0))

/-- Channels opened to be retained across Ember (R267). -/
def State.retained (s : State) : Nat := (s.openChannels.filter (fun c => bitOf (s.get (Reg.chFlags c)) 2)).length

/-- The outcome for a channel that is not open: its slots are absent, or it is just closed (R7, R251). -/
def State.noChannel (s : State) (c : Nat) : Nat := if s.channels ≤ c then outAbsent else 0x40

/-- A port mask names a port of an absent unit (R7). -/
def State.portsAbsent (s : State) (ports : Nat) : Bool := (List.range 37).any (fun n => bitOf ports n && !s.hasPort n)

/-- A channel command of a path context (R250): refused while its outcome reads BUSY; it reports an outcome and a result. A
command that neither opens nor installs gives back the result as it stands. -/
def State.scWrite (s : State) (ctx : Ctx) (act : State → Nat × Nat × State) : State :=
  s.cmdWrite ctx 0x2800 0x0D true false [need (s.get (Reg.scOutcome.of ctx) ≠ outBusy) 0x08000022] (fun s =>
    let r := act s
    let s := r.2.2.set (Reg.scOutcome.of ctx) r.1
    if r.1 = outDone then s.set (Reg.scResult.of ctx) r.2.1 else s)

/-- The open parameters of a context are refused (R250, R251). -/
def State.openBad (s : State) (ctx : Ctx) : Bool :=
  let f := s.get (Reg.scFlags.of ctx)
  let p := s.get (Reg.scPorts.of ctx)
  8 ≤ f || 2 ^ 37 ≤ p || (!bitOf f 0 && p ≠ 0)

/-- SC_OPEN (R248): the lowest closed channel opens with its direction, SCI, ports and flags. -/
def execScOpen (ctx : Ctx) (s : State) : Host.Outcome State Fault Refusal :=
  .next (s.scWrite ctx (fun s =>
    let f := s.get (Reg.scFlags.of ctx)
    let sci := s.get (Reg.scSci.of ctx)
    let ports := s.get (Reg.scPorts.of ctx)
    if s.portsAbsent ports then (outAbsent, 0, s)
    else match s.closedChannel with
    | none => (outFull, 0, s)
    | some c =>
      if bitOf f 2 ∧ 512 ≤ s.retained then (outFull, 0, s)
      else if s.openBad ctx then (0x45, 0, s)
      else if s.sciInUse (bitOf f 0) sci ports then (0x43, 0, s)
      else (outDone, c, (s.sets [(Reg.chOpen c, 1), (Reg.chRx c, f % 2), (Reg.chSci c, sci), (Reg.chPorts c, ports),
        (Reg.chFlags c, f), (Reg.saChannelsOpen, s.get Reg.saChannelsOpen + 1)]))))

/-- The pending entries of a slot row leave the pending copy. -/
def State.dropPendRow (s : State) (row : Nat) : State :=
  { s with pend := s.pend.filter (fun e => !((e.1.grp = .saRow || e.1.grp = .iSlot) && e.1.row = row)) }

/-- A slot is deactivated in both copies and its key zeroised (R253). -/
def State.deactivate (s : State) (row : Nat) : State :=
  let s : State := { s with spec := s.spec.filter (fun w => w.slot ≠ row), prep := s.prep.filter (fun p => p.slot ≠ row) }
  (s.dropPendRow row).sets [(Reg.saState row, 0), (Reg.saControl row, 0), (Reg.slotKey 0 row, 0), (Reg.slotSalt 0 row, 0),
    (Reg.slotRetiring 0 row, 0)]

/-- A port names a transmit channel (R249, R251). -/
def State.channelNamed (s : State) (c : Nat) : Bool := (List.range 37).any (fun n => s.get (Reg.lcTxChannel n) = c)

/-- SC_CLOSE (R253): both slots are deactivated and zeroised, and the channel is free. -/
def execScClose (ctx : Ctx) (s : State) : Host.Outcome State Fault Refusal :=
  .next (s.scWrite ctx (fun s =>
    let c := s.get (Reg.scChannel.of ctx)
    if ¬ s.channelOpen c then (s.noChannel c, 0, s)
    else if s.get (Reg.chRx c) = 0 ∧ s.channelNamed c then (0x44, 0, s)
    else
      let s := (s.deactivate (2 * c)).deactivate (2 * c + 1)
      (outDone, s.get (Reg.scResult.of ctx), s.sets [(Reg.chOpen c, 0), (Reg.chRx c, 0), (Reg.chSci c, 0), (Reg.chPorts c, 0), (Reg.chFlags c, 0),
        (Reg.chHolding c, 0), (Reg.chHoldOver c, 0), (Reg.saChannelsOpen, s.get Reg.saChannelsOpen - 1)])))

/-- The target slot of an install, and whether the install retires it (R248, R259). -/
def State.installTarget (s : State) (c : Nat) : Option (Nat × Bool) :=
  let a := 2 * c
  let b := 2 * c + 1
  if !s.slotLive a then some (a, false)
  else if !s.slotLive b then some (b, false)
  else if s.get (Reg.chRx c) = 0 then none
  else
    let worn := fun r => s.get (Reg.saState r) = 4 || s.get (Reg.saState r) = 5
    if worn a && worn b then
      some (if s.get (Reg.slotActiveAt 0 b) < s.get (Reg.slotActiveAt 0 a) then b else a, true)
    else if worn a then some (a, true) else if worn b then some (b, true) else none

/-- The AN of a slot's next association: that of the pending copy (R251). -/
def State.pendAn (s : State) (row : Nat) : Nat := field (s.pendGet (Reg.saParams row)) 25 24

/-- The install parameters of a context are refused (R250, R251: code 0x45). -/
def State.installBad (s : State) (ctx : Ctx) (c : Nat) : Bool :=
  let p := s.get (Reg.scInstallParams.of ctx)
  let w := padTo 40 (s.blob (Reg.scWrapped.of ctx))
  let other := fun (r : Nat) => if r % 2 = 0 then r + 1 else r - 1
  bitOf p 26 || p % 2 ^ 22 ≠ 0 || field p 29 28 = 3 || (bitOf p 27 && field p 29 28 ≠ 0) ||
  bitOf p 30 == (ofLe (w.drop 24) = 0 : Bool) || s.get (Reg.scStartPn.of ctx) = 0 ||
  (bitOf p 31 && s.get (Reg.scSsci.of ctx) = 0) ||
  (match s.installTarget c with
    | some (r, _) => s.slotLive (other r) && s.pendAn (other r) = field p 25 24
    | none => false)

/-- SC_INSTALL (R259): the wrapped SAK and its parameters go to the vault, and the outcome reads BUSY. -/
def execScInstall (ctx : Ctx) (s : State) : Host.Outcome State Fault Refusal :=
  .next (s.cmdWrite ctx 0x2800 0x0D true false [need (s.get (Reg.scOutcome.of ctx) ≠ outBusy) 0x08000022] (fun s =>
    let c := s.get (Reg.scChannel.of ctx)
    if ¬ s.channelOpen c then s.set (Reg.scOutcome.of ctx) (s.noChannel c)
    else if s.installBad ctx c then s.set (Reg.scOutcome.of ctx) 0x45
    else match s.installTarget c with
      | none => s.set (Reg.scOutcome.of ctx) outFull
      | some (r, _) =>
        s.vaultSubmit (.install {
          ctx := ctx, channel := c, target := r, kek := s.get (Reg.scKekSlot.of ctx),
          wrapped := padTo 40 (s.blob (Reg.scWrapped.of ctx)), params := s.get (Reg.scInstallParams.of ctx),
          startPn := s.get (Reg.scStartPn.of ctx), ssci := s.get (Reg.scSsci.of ctx),
          salt := padTo 12 (s.blob (Reg.scSalt.of ctx)), threshold := s.get (Reg.scPnThreshold.of ctx),
          window := s.get (Reg.scReplayWindow.of ctx) })))

/-- When a slot became active, for the order of two; 0 for one that carries no traffic (R255). -/
def State.slotSince (s : State) (row : Nat) : Nat := if 3 ≤ s.get (Reg.saState row) then s.get (Reg.slotActiveAt 0 row) else 0

/-- The non-current slot of a channel (R250): of a transmit channel the live slot beside the current one, which may be
exhausted (R262); of a receive channel the live slot beside the one that became active last (log entry 18). -/
def State.otherSlot (s : State) (c : Nat) : Option Nat :=
  let a := 2 * c
  let b := 2 * c + 1
  let pick := fun (cur : Nat) => let o := if cur = a then b else a; if s.slotLive o then some o else none
  if s.get (Reg.chRx c) = 0 then
    match s.currentSlot c with
    | some cur => pick cur
    | none => match s.exhaustedSlot c with
      | some cur => pick cur
      | none => if s.slotLive a then some a else if s.slotLive b then some b else none
  else if s.slotLive a && s.slotLive b then (if s.slotSince a < s.slotSince b then some a else some b)
  else none

/-- What a channel command or an install puts into the pending copy of the slots: a free value says whether it lands in the fabric cycle of
a hand-over of the same time-base cycle, and is then taken late (R54, R257). -/
def State.pendSlot (s : State) (l : List (Reg × Nat)) : State :=
  let f := s.draw 1
  (l.foldl (fun s e => s.pendSet e.1 e.2) f.2).takeLate ⟨.saRow, 0⟩ (f.1 = 1)

/-- SC_RETIRE (R250, R255): the retirement of the non-current slot is written to the pending copy. -/
def execScRetire (ctx : Ctx) (s : State) : Host.Outcome State Fault Refusal :=
  .next (s.scWrite ctx (fun s =>
    let c := s.get (Reg.scChannel.of ctx)
    if ¬ s.channelOpen c then (s.noChannel c, 0, s)
    else match s.otherSlot c with
      | some r => (outDone, s.get (Reg.scResult.of ctx), s.pendSlot [(Reg.saState r, 0)])
      | none => (outDone, s.get (Reg.scResult.of ctx), s)))

/-! ## The hand-over of slot rows (R255, R256, R260) -/

/-- The rows of the slot table written since the previous hand-over. -/
def State.pendRows (s : State) : List Nat :=
  ((s.pend.filter (fun e => e.1.grp = .saRow && e.1.sub < 0xF0)).map (·.1.row)).eraseDups

/-- A slot of a transmit channel. -/
def State.slotTx (s : State) (row : Nat) : Bool := s.get (Reg.chRx (row / 2)) = 0

/-- One row is handed over (R255, R256, R260): an installed slot becomes active, current or standby; a retirement, or bit 29
in state 2 or 3, frees it, and one that was only installed too; bit 31 makes a standby slot current; a new threshold is still to be
reached (R266). -/
def State.handRow (s : State) (row : Nat) : State :=
  let was := s.get (Reg.saState row)
  let wrote := Assoc.get? s.pend (Reg.saState row)
  let es := s.pend.filter (fun e => (e.1.grp = .saRow || e.1.grp = .iSlot) && e.1.row = row && e.1 ≠ Reg.saState row)
  let installed := es.any (fun e => e.1 = Reg.slotKey 0 row)
  let s := (s.dropPendRow row).sets es
  let s := if es.any (fun e => e.1 = Reg.saPnThreshold row) then s.set (Reg.slotThresholdMet 0 row) 0 else s
  let ctl := s.get (Reg.saControl row)
  match wrote with
  | some 1 =>
    if s.slotTx row then (if bitOf ctl 31 then s.makeCurrent row else s.set (Reg.saState row) 2)
    else s.slotActive row
  | some 0 => if was = 0 && !installed then s else (s.prepHandover (row / 2) (if row % 2 = 0 then row + 1 else row - 1)).retireSlot row
  | _ =>
    if (was = 2 ∨ was = 3) ∧ bitOf ctl 29 then
      (s.prepHandover (row / 2) (if row % 2 = 0 then row + 1 else row - 1)).retireSlot row
    else if was = 2 ∧ bitOf ctl 31 then s.makeCurrent row
    else if was = 3 ∧ bitOf ctl 31 then s.set (Reg.saControl row) (setBit ctl 31 false)
    else s

/-- The rows of slots handed over in one cycle: those that become active do so under one number (R256, R264). -/
def State.handRows (s : State) (rows : List Nat) : State :=
  rows.foldl State.handRow (s.set Reg.slotOrder (s.get Reg.slotOrder + 1))

/-- SC_ACTIVATE (R258): the pending rows of one channel are handed over at once, and an armed commit stays armed. -/
def execScActivate (ctx : Ctx) (s : State) : Host.Outcome State Fault Refusal :=
  .next (s.scWrite ctx (fun s =>
    let c := s.get (Reg.scChannel.of ctx)
    if ¬ s.channelOpen c then (s.noChannel c, 0, s)
    else
      let rows := s.pendRows.filter (fun r => r / 2 = c)
      if rows.isEmpty then (outDone, s.get (Reg.scResult.of ctx), s)
      else (outDone, s.get (Reg.scResult.of ctx), (s.handRows rows).handedOver ⟨.saRow, 0⟩)))

/-! ## Installs (R252, R257, R259) -/

/-- The key-encrypting key of an install, when its slot serves (R251: code 0x42). -/
def State.kekOf (s : State) (n : Nat) : Option (List Byte) :=
  (s.keyAt n).bind (fun k => if bitOf k.policy 4 && algAes k.alg then some k.key else none)

/-- The threshold of an installed slot: 0 stands for the default of its suite (R250). -/
def installThreshold (params t : Nat) : Nat :=
  if t = 0 then (if bitOf params 31 then 0xC000000000000000 else 0xC0000000) else t

/-- An unwrapped key goes into the pending copy of its target slot (R254, R259). -/
def State.writeInstall (s : State) (i : Install) (r : Nat) (key : List Byte) : State :=
  let rx := s.get (Reg.chRx i.channel)
  let p := i.params
  s.pendSlot [(Reg.saState r, 1), (Reg.saControl r, flag (bitOf p 23) * 2 ^ 31 + flag (bitOf p 22) * 2 ^ 30),
   (Reg.saParams r, p / 2 ^ 20 * 2 ^ 20 + i.channel * 256 + rx * 128), (Reg.saNextPn r, i.startPn),
   (Reg.saPnThreshold r, installThreshold p i.threshold), (Reg.saReplayWindow r, i.window), (Reg.saSsci r, i.ssci),
   (Reg.saChannelSci r, s.get (Reg.chSci i.channel)), (Reg.saChannelPorts r, s.get (Reg.chPorts i.channel)),
   (Reg.saFrames r, 0), (Reg.saRejected r, 0), (Reg.saGaps r, 0), (Reg.saExhaustDrops r, 0),
   (Reg.slotKey 0 r, ofBe key), (Reg.slotSalt 0 r, ofBe i.salt), (Reg.slotHighest 0 r, 0),
   (Reg.slotThresholdMet 0 r, 0)]

/-- An install through the vault (R252, R259): the key-encrypting key, the unwrap and its length, the target. -/
def State.runInstall (s : State) (i : Install) : Nat × Nat × State :=
  if s.slotAbsent i.kek then (outAbsent, 0, s)
  else match s.kekOf i.kek with
  | none => (0x42, 0, s)
  | some kek =>
    let n := if bitOf i.params 30 then 32 else 16
    match Config.unwrapSak kek (i.wrapped.take (n + 8)) with
    | none => (0x41, 0, s.count Reg.saUnwrapFailures 32)
    | some k =>
      if ¬ s.channelOpen i.channel then (0x40, 0, s)
      else match s.installTarget i.channel with
        | none => (outFull, 0, s)
        | some (r, worn) =>
          let s := if worn then s.retireSlot r else s
          (outDone, r, (s.writeInstall i r (padTo n k)).count Reg.saInstalls)

/-- INSTALL_DONE (R259): the association unwrap that the vault runs ends. -/
def execInstallDone (s : State) : Host.Outcome State Fault Refusal :=
  match s.vaultRunning with
  | some (.install i) =>
    let r := s.runInstall i
    let s := r.2.2.set (Reg.scOutcome.of i.ctx) r.1
    let s := if r.1 = outDone then s.set (Reg.scResult.of i.ctx) r.2.1 else s
    .next s.vaultIdle
  | _ => .next s

/-! ## Overlap, hold, events (R262, R264, R266, R269) -/

/-- RX_OVERLAP_EXPIRE (R264): a superseded slot, one exhausted since included, is retired when its overlap ends. -/
def execRxOverlapExpire (row : Nat) (s : State) : Host.Outcome State Fault Refusal :=
  if (s.get (Reg.saState row) = 4 ∨ s.get (Reg.saState row) = 5) ∧ s.get (Reg.slotOverlapAt 0 row) ≠ 0 ∧
      s.get (Reg.slotOverlapAt 0 row) + s.get Reg.saRxOverlap * us ≤ s.now + 1 then
    .next (s.retireSlot row)
  else .next s

/-- EXHAUST_HOLD_EXPIRE (R262): the hold of a channel ends; its protected frames are removed as they become candidates. -/
def execExhaustHoldExpire (c : Nat) (s : State) : Host.Outcome State Fault Refusal :=
  if s.get (Reg.chHolding c) = 1 ∧ s.get (Reg.chHoldAt c) + s.get Reg.saExhaustHold * us ≤ s.now then
    .next (s.sets [(Reg.chHolding c, 0), (Reg.chHoldOver c, 1)])
  else .next s

/-- SA_EVENT_FIFO_READ (R266): the oldest association event is read and removed; an empty queue reads 0. -/
def execSaEventFifoRead (ctx : Ctx) (s : State) : Host.Outcome State Fault Refusal :=
  .next (s.access ctx true false [] (fun s =>
    match s.saEvents with
    | e :: t => ({ s with saEvents := t } : State).reply ctx e
    | [] => s.reply ctx 0))

/-- SCP_CLEAR (R269, R124): clears every channel counter of the port. -/
def execScpClear (ctx : Ctx) (n value : Nat) (s : State) : Host.Outcome State Fault Refusal :=
  .next (s.cmdWrite ctx (0x28B0 + n) 0x20 (s.hasPort n && n < 37) false (onlyOne value) (fun s => s.clearRange .scp n 0x01 0x1F))

end Sys2Proof.Machine
end

