-- ==== Sys2Proof/Machine/Sconce.lean ====
section
/-! DEFINITION. The slow path (R270 to R290): dispatch, the packet extension of the engines, the collector, the reorder stage and
the host rings. -/
namespace Sys2Proof.Machine

/-! ## Boxes (R275) -/

/-- The boxes of an engine. -/
def State.box (s : State) (e : Nat) : EngineBox := (s.boxes.find? (fun b => b.engine == e)).getD { engine := e }

/-- The boxes of an engine set; empty ones are not kept. -/
def State.setBox (s : State) (b : EngineBox) : State :=
  let rest := s.boxes.filter (fun c => c.engine ≠ b.engine)
  if b = { engine := b.engine } then { s with boxes := rest }
  else { s with boxes := rest.filter (fun c => c.engine < b.engine) ++ b :: rest.filter (fun c => b.engine < c.engine) }

/-- Bytes of an inbox or an outbox. -/
abbrev boxBytes : Nat := 16384

/-- `Se.InboxBytes` (R288). -/
def EngineBox.inBytes (b : EngineBox) : Nat := (b.inbox.map List.length).sum + b.rest.length

/-- Bytes in the outbox. -/
def EngineBox.outBytes (b : EngineBox) : Nat := 4 * ((b.sent.map List.length).sum + b.words.length)

/-- An engine runs (R288). -/
def State.engineRuns (s : State) (e : Nat) : Bool :=
  e < s.fuses.variant.engines && s.get (Reg.seState e) = 1 && s.running

/-! ## Descriptors (R272, R277) -/

/-- The input descriptor and frame (R272). The timestamp is that of the local counter (log entry 24). -/
def inputRecord (tag gen reason : Nat) (f : Frame) (b : List Byte) : List Byte :=
  let t := f.clocks.getD 4 0
  beBytes 4 (tag * 2 ^ 20 + gen * 2 ^ 18 + flag f.wideKey * 2 ^ 17 + b.length) ++
  beBytes 4 (reason * 2 ^ 24 + f.ingress * 2 ^ 18 + f.cls * 2 ^ 15 + f.handle * 8 + flag f.matched * 4) ++
  beBytes 4 (if f.protectedRx then f.channel * 2 ^ 20 + 2 ^ 19 else 0) ++
  beBytes 4 (qualifierOf f.tsValid 4 t * 2 ^ 24) ++ beBytes 8 (t / 16) ++
  beBytes (if f.wideKey then 128 else 64) f.key ++ padWords b

/-- The fields of an output descriptor (R277). -/
structure OutWord where
  tag : Nat
  gen : Nat
  ordered : Bool
  more : Bool
  len : Nat
  disp : Nat
  ingress : Nat
  cls : Nat
  queue : Nat
  targets : Nat
  /-- Every reserved field is 0, and every field holds a value of its range. -/
  sound : Bool
deriving DecidableEq, Repr

/-- The output descriptor of four words (R277). -/
def outWord (w : List Nat) : OutWord :=
  let a := w.getD 0 0
  let b := w.getD 1 0
  let c := w.getD 3 0
  let len := a % 2 ^ 14
  { tag := field a 31 20, gen := field a 19 18, ordered := bitOf a 17, more := bitOf a 16, len := len, disp := field b 31 29,
    ingress := field b 28 23, cls := field b 22 20, queue := field b 19 15, targets := c * 2 ^ 32 + w.getD 2 0,
    sound := 4 ≤ w.length && field a 15 14 = 0 && field b 14 0 = 0 && field c 31 6 = 0 && field b 19 15 ≠ 31 &&
      14 ≤ len && len ≤ 9216 && field b 31 29 ≤ 4 && field b 28 23 ≤ 37 }

/-- The bytes of words. -/
def wordBytes (w : List Nat) : List Byte := w.flatMap (beBytes 4)

/-! ## Dispatch (R271, R273, R274) -/

/-- The engines of a reason's mode word that the variant has, ascending (R273, R288). -/
def State.reasonEngines (s : State) (reason : Nat) : List Nat :=
  bitsOf s.fuses.variant.engines (s.get (Reg.spReasonMode (reason - 1)))

/-- The bucket index h0 of a frame (R141, R274): with both ports 0 for a fragment. -/
def State.affinityHash (s : State) (f : Frame) : Nat :=
  let h := parseFrame f.bytes
  let h := if h.fragment then { h with l4 := false } else h
  crcInit 0xFFFFFFFF (s.tupleOf f.ingress h).bytes % 4096

/-- What the dispatcher does with the head frame. -/
inductive Choice where
  | hold | drop | engine (e : Nat)
deriving DecidableEq, Repr

/-- An engine takes a record whole (R273, R275). -/
def State.inboxRoom (s : State) (e n : Nat) : Bool := (s.box e).inBytes + n ≤ boxBytes

/-- The engine for a frame (R273, R274). -/
def State.chooseEngine (s : State) (f : Frame) (reason n : Nat) : Choice :=
  let l := s.reasonEngines reason
  if bitOf (s.get (Reg.spReasonMode (reason - 1))) 15 then
    match l[s.affinityHash f % l.length]? with
    | none => .drop
    | some e => if !s.engineRuns e then .drop else if s.inboxRoom e n then .engine e else .hold
  else
    let last := s.get Reg.spLastEngine
    match ((List.range 10).map (fun k => (last + k) % 10)).find? (fun e => l.contains e && s.engineRuns e && s.inboxRoom e n) with
    | some e => .engine e
    | none => .hold

/-- The next free tag, ascending with wrap (R271; log entry 25). -/
def State.freeTag (s : State) : Nat :=
  (((List.range 4096).map (fun k => (s.get Reg.spNextTag + k) % 4096)).find? (fun t => !s.spTags.any (fun g => g.tag = t))).getD 0

/-- SLOW_PATH_DISPATCH (R271, R273 to R275): the head frame of the slow-path queue gets a sequence tag and moves into an engine's
inbox, is held, or is dropped. -/
def execSlowPathDispatch (s : State) : Host.Outcome State Fault Refusal :=
  if ¬ s.running then .next s
  else match s.slow with
    | [] => .next s
    | g :: rest =>
      match s.frame? g.frame with
      | none => .next { s with slow := rest }
      | some f =>
        if ¬ f.eligible then .next s
        else if 4096 ≤ s.spTags.length then
          .next (if s.get Reg.spStallCounted = 1 then s else (s.count Reg.spDispatchStalls).set Reg.spStallCounted 1)
        else
          let tag := s.freeTag
          let gen := (s.get (Reg.spGeneration tag) + 1) % 4
          let r := inputRecord tag gen g.reason f f.bytes
          let gone := (({ s with slow := rest } : State).unref g.frame).set Reg.spStallCounted 0
          match s.chooseEngine f g.reason r.length with
          | .hold => .next s
          | .drop => .next (gone.count Reg.spNoEngineDrops)
          | .engine e =>
            let b := s.box e
            let t : SpTag := { tag := tag, gen := gen, engine := e, ingress := f.ingress, since := s.now }
            .next ((({ gone with spTags := s.spTags ++ [t] } : State).setBox { b with inbox := b.inbox ++ [r] }).sets
              [(Reg.spGeneration tag, gen), (Reg.spNextTag, (tag + 1) % 4096), (Reg.spLastEngine, e + 1),
               (Reg.spDispatched, (s.get Reg.spDispatched + 1) % 2 ^ 64)])

/-! ## The packet extension (R276) -/

/-- The result of an instruction in register rd; x0 stays 0. -/
def State.engineSet (s : State) (e rd v : Nat) : State := if rd % 32 = 0 then s else s.set (Reg.seX e (rd % 32)) (v % 2 ^ 32)

/-- The next word of the current packet, and the boxes after it was read. -/
def EngineBox.readWord (b : EngineBox) : Nat × EngineBox := (beAt b.rest 0 4, { b with rest := b.rest.drop 4 })

/-- SP_IN (R276): the next word of the current inbox packet. At a packet's end the next packet is entered when one is
present; else the read is beyond the end (log entry 26). The engine stalls while no packet is present. -/
def execSpIn (e rd : Nat) (s : State) : Host.Outcome State Fault Refusal :=
  if ¬ s.engineRuns e then .next s
  else
    let b := s.box e
    if b.begun ∧ b.rest ≠ [] then
      let r := b.readWord
      .next ((s.setBox r.2).engineSet e rd r.1)
    else match b.inbox with
      | p :: more =>
        let r := EngineBox.readWord { b with inbox := more, begun := true, rest := p }
        .next (((s.setBox r.2).count (Reg.sePacketsIn e)).engineSet e rd r.1)
      | [] => .next (if b.begun then (s.count (Reg.seInOverruns e)).engineSet e rd 0 else s)

/-- SP_LEFT (R276): the bytes of the current packet not yet read. -/
def execSpLeft (e rd : Nat) (s : State) : Host.Outcome State Fault Refusal :=
  .next (if s.engineRuns e then s.engineSet e rd (s.box e).rest.length else s)

/-- SP_DROP (R276, R288): the rest of the current packet is discarded, and counted when it holds a byte. -/
def execSpDrop (e : Nat) (s : State) : Host.Outcome State Fault Refusal :=
  if s.engineRuns e ∧ (s.box e).begun then
    let t := s.setBox { s.box e with begun := false, rest := [] }
    .next (if (s.box e).rest = [] then t else t.count (Reg.seDrops e))
  else .next s

/-- SP_OUT (R276): a word joins the outbox packet under construction; the engine stalls while the outbox is full. -/
def execSpOut (e rs1 : Nat) (s : State) : Host.Outcome State Fault Refusal :=
  let b := s.box e
  .next (if s.engineRuns e && b.outBytes + 4 ≤ boxBytes then s.setBox { b with words := b.words ++ [rs1 % 2 ^ 32] } else s)

/-- SP_SEND (R276): the outbox packet is closed and handed to the collector. -/
def execSpSend (e : Nat) (s : State) : Host.Outcome State Fault Refusal :=
  let b := s.box e
  .next (if s.engineRuns e then s.setBox { b with words := [], sent := b.sent ++ [b.words] } else s)

/-- A tag waits for its resolution under this generation (R281, R282). -/
def SpTag.waits (t : SpTag) (tag gen : Nat) : Bool := t.tag = tag && t.gen = gen && !t.resolved

/-- A tag is resolved, or the attempt is late (R281, R282). -/
def State.resolveTag (s : State) (tag gen : Nat) : State :=
  if s.spTags.any (fun t => t.waits tag gen) then
    { s with spTags := s.spTags.map (fun t => if t.waits tag gen then { t with resolved := true } else t) }
  else s.count Reg.spLateOutputs

/-- SP_RESOLVE (R276, R281, R282): a tag is resolved without output. -/
def execSpResolve (e rs1 : Nat) (s : State) : Host.Outcome State Fault Refusal :=
  .next (if s.engineRuns e then s.resolveTag (field rs1 31 20) (field rs1 19 18) else s)

/-- SP_CRC (R276): CRC-32C advanced over four bytes, the most significant first, without inversion. -/
def execSpCrc (e rd rs1 rs2 : Nat) (s : State) : Host.Outcome State Fault Refusal :=
  .next (if s.engineRuns e then s.engineSet e rd (crc32cStep (rs1 % 2 ^ 32) (beBytes 4 rs2)) else s)

/-- A sum folded to 16 bits with its carries. -/
def fold16 (n : Nat) : Nat := let a := n % 65536 + n / 65536; a % 65536 + a / 65536

/-- SP_CSUM (R276): the ones' complement sum of bits 15–0 of rs1 and both halves of rs2. -/
def execSpCsum (e rd rs1 rs2 : Nat) (s : State) : Host.Outcome State Fault Refusal :=
  .next (if s.engineRuns e then s.engineSet e rd (fold16 (rs1 % 65536 + field rs2 31 16 + rs2 % 65536)) else s)

/-- SP_TIME (R276): bits 31–0 of the local counter in nanoseconds. -/
def execSpTime (e rd : Nat) (s : State) : Host.Outcome State Fault Refusal :=
  .next (if s.engineRuns e then s.engineSet e rd (s.timeNs 4) else s)

/-! ## Release to the fabric (R278) -/

/-- An output is released by its disposition (R278). -/
def State.release (s : State) (o : SpOut) : State :=
  match o.frame with
  | none => s
  | some id =>
    match s.frame? id with
    | none => s
    | some f =>
      let s := s.count Reg.spReleased
      if o.disp = 4 then (s.freeFrame id).ingressFrame o.ingress none true f.clocks f.bytes
      else
        let s : State := if s.partitionMode then
            { s with staging := s.staging ++ [{ frame := id, ingress := o.ingress, since := s.now }] } else s
        if o.disp = 1 then
          let h := parseFrame f.bytes
          let r := s.fdbLookup o.ingress (s.egressVid o.ingress h 0 0) h 0
          let cls := r.2.1.getD f.cls
          (r.2.2.updFrame id (fun f => { f with cls := cls })).decide id (sortTargets (r.1.map (fun p => (p, classQueue p cls, true))))
        else if o.disp = 2 then
          s.decide id (sortTargets ((bitsOf 38 o.targets).map (fun p => (p, if p = 37 then o.queue else classQueue p f.cls, true))))
        else s.decide id [(37, o.queue, true)]

/-- The frame of an output stored in cells (R280): none for a drop. -/
def State.storeOut (s : State) (w : OutWord) (b : List Byte) : SpOut × State :=
  if w.disp = 0 then ({ disp := 0, ingress := w.ingress, queue := w.queue, targets := w.targets, frame := none }, s)
  else
    let r := s.storeFrame { id := 0, ingress := w.ingress, bytes := b, cls := w.cls, clocks := [0, 1, 2, 3, 4].map s.clock,
                            eligible := true, verdictDone := true }
    ({ disp := w.disp, ingress := w.ingress, queue := w.queue, targets := w.targets, frame := some r.2 }, r.1)

/-- An output packet is collected (R277, R281, R282): released at once when unordered, kept under its tag when ordered, or
discarded as late. -/
def State.collect (s : State) (w : OutWord) (b : List Byte) : State :=
  if ¬ w.ordered then
    let r := s.storeOut w b
    r.2.release r.1
  else if s.spTags.any (fun t => t.waits w.tag w.gen) then
    let r := s.storeOut w b
    { r.2 with spTags := s.spTags.map (fun t => if t.waits w.tag w.gen then
        { t with outputs := t.outputs ++ [r.1], resolved := !w.more } else t) }
  else s.count Reg.spLateOutputs

/-- The cells that the collector writes for a packet: none for a drop (R277, R278). -/
def OutWord.cells (w : OutWord) : Nat := if w.disp = 0 then 0 else cellsOf w.len

/-- OUTBOX_COLLECT (R277, R280): the collector takes the oldest closed packet of an engine when the free cells stay above the headroom
up to the writing of its last cell; a malformed one is discarded. -/
def execOutboxCollect (e : Nat) (s : State) : Host.Outcome State Fault Refusal :=
  match (s.box e).sent with
  | p :: rest =>
    let w := outWord p
    if s.running ∧ s.get Reg.bufHeadroomCells + max 1 w.cells ≤ s.get Reg.bufFreeCells then
      let s := s.setBox { s.box e with sent := rest }
      .next (if w.sound ∧ p.length = 4 + (w.len + 3) / 4 then
          (s.count (Reg.sePacketsOut e)).collect w ((wordBytes (p.drop 4)).take w.len)
        else s.count (Reg.seOutFormatErrors e))
    else .next s
  | [] => .next s

/-- TAG_RELEASE (R281): the oldest outstanding tag of an ingress port, once resolved, is released with its outputs in the order
of their collection. -/
def execTagRelease (port : Nat) (s : State) : Host.Outcome State Fault Refusal :=
  match takeFirst (fun (t : SpTag) => t.ingress == port) s.spTags with
  | some (t, rest) =>
    if t.resolved ∧ s.running then .next (t.outputs.foldl State.release { s with spTags := rest })
    else .next s
  | none => .next s

/-- REORDER_TIMEOUT (R282): a tag unresolved for `Sp.ReorderTimeout` since its dispatch is resolved as dropped. -/
def execReorderTimeout (tag : Nat) (s : State) : Host.Outcome State Fault Refusal :=
  match s.spTags.find? (fun t => t.tag == tag && !t.resolved) with
  | some t =>
    if t.since + s.get Reg.spReorderTimeout * us ≤ s.now then
      .next ((s.resolveTag tag t.gen).count Reg.spReorderTimeouts)
    else .next s
  | none => .next s

/-! ## Engines (R284 to R288) -/

/-- An engine halts (R284): its inbox and its packet under construction are discarded, whole packets stay, and its unresolved
tags are resolved as dropped. -/
def State.engineHalt (s : State) (e st : Nat) : State :=
  let b := s.box e
  let s := s.count (Reg.seStopDiscards e) 64 (b.inbox.length + flag (b.rest ≠ []))
  let s := s.setBox { engine := e, sent := b.sent }
  ({ s with spTags := s.spTags.map (fun t => if t.engine = e then { t with resolved := true } else t) } : State).set (Reg.seState e) st

/-- The mcause of an uncorrectable error on the scratchpad: the hardware error of the RISC-V architecture (log entry 162). -/
abbrev scratchpadCause : Nat := 19

/-- ENGINE_FAULT (R284, R285): an exception halts an engine in the faulted state; an uncorrectable error on its
scratchpad is reported as a memory error too (R504). -/
def execEngineFault (e cause pc : Nat) (s : State) : Host.Outcome State Fault Refusal :=
  if s.engineRuns e then
    let s := (s.engineHalt e 2).sets [(Reg.seFaultCause e, cause % 2 ^ 32), (Reg.seFaultPc e, pc % 2 ^ 32)]
    let s := if cause = scratchpadCause then s.reportObj 1 6 (0x24D0 + e) 0x07 e else s
    .next ((s.reportObj 3 6 (0x24D0 + e) 0x04 e (leBytes 4 cause ++ leBytes 4 pc)).pulse 0x10 e)
  else .next s

/-- SE_RUN (R286, R288): an engine starts at its entry address. It is refused while the engines are held in reset or
unpowered; an engine that runs goes on. -/
def execSeRun (ctx : Ctx) (e : Nat) (s : State) : Host.Outcome State Fault Refusal :=
  .next (s.rwWrite ctx (0x24D0 + e) 1 (e < s.fuses.variant.engines) false [need (s.get (Reg.seState e) ≠ 3) 0x08000022] (fun s =>
    s.sets [(Reg.seRun e, 1), (Reg.seState e, 1)]))

/-- SE_STOP (R284, R288): an engine stops at an instruction boundary; a faulted one reads stopped. -/
def execSeStop (ctx : Ctx) (e : Nat) (s : State) : Host.Outcome State Fault Refusal :=
  .next (s.rwWrite ctx (0x24D0 + e) 1 (e < s.fuses.variant.engines) false [] (fun s =>
    let s := s.set (Reg.seRun e) 0
    if s.get (Reg.seState e) = 1 then s.engineHalt e 0
    else if s.get (Reg.seState e) = 2 then s.set (Reg.seState e) 0 else s))

/-! ## Host rings (R289, R290) -/

/-- RING_RECEIVE_WRITE (R272, R290): the head frame of a P37 queue is written as a record into its receive ring, and only then
`Ring.Produce` advances. Without room, or where the memory refuses the write, the frame stays in its queue. -/
def execRingReceiveWrite (q : Nat) (s : State) : Host.Outcome State Fault Refusal :=
  if s.running ∧ s.ringQueue q ∧ s.get (Reg.rxRingEnable q) = 1 then
    match s.hostHead q with
    | none => .next (s.hostPass q)
    | some (e, b) =>
      match s.frame? e.frame with
      | none => .next s
      | some f =>
        let r := inputRecord 0 0 0 f b
        let size := 2 ^ s.get (Reg.rxRingSizeLog2 q).latched
        let base := s.get (Reg.rxRingBase q).latched
        match ringPlace (s.get (Reg.rxRingProduce q)) (s.get (Reg.rxRingConsume q)) size r.length with
        | none => .next s
        | some (off, wrap) =>
          let m := if wrap then s.memWrite 4 (base + ringNext (s.get (Reg.rxRingProduce q))) (beBytes 4 0xFFFFFFFF) else (true, s)
          if ¬ m.1 then .next m.2
          else
            let w := m.2.memWrite 4 (base + off) r
            if ¬ w.1 then .next w.2
            else .next (((w.2.takeHost e).set (Reg.rxRingProduce q) ((off + r.length) % size)).pulse 0x15 q)
  else .next s

/-- The records of the transmit ring from its consumer up to `Ring.Produce` (R290). A record that cannot be read ends the walk, and one
that does not end within the ring and before `Ring.Produce` is malformed. -/
def State.txRecords : Nat → State → State
  | 0, s => s
  | k + 1, s =>
    let size := 2 ^ s.get Reg.txRingSizeLog2.latched
    let base := s.get Reg.txRingBase.latched
    let at' := s.get Reg.txRingConsume
    let produce := (s.get Reg.txRingProduce + 3) / 4 * 4 % size
    let ahead := (produce + size - at') % size
    let gap := ringNext at' - at'
    let off := ringNext at' % size
    if ahead ≤ gap then s
    else match s.memRead 4 (base + off) 4 with
      | (none, s) => s
      | (some first, s) =>
        if ofBe first = 0xFFFFFFFF ∧ off ≠ 0 then State.txRecords k (s.set Reg.txRingConsume 0)
        else match s.memRead 4 (base + off) 16 with
          | (none, s) => s
          | (some d, s) =>
            let w := outWord ((List.range 4).map (fun i => beAt d (4 * i) 4))
            let last := off + 16 + (w.len + 3) / 4 * 4
            let cut := size < last || ahead < gap + (last - off)
            if ¬ w.sound ∨ w.ordered ∨ w.disp = 0 ∨ cut then
              State.txRecords k ((s.count (Reg.seOutFormatErrors 0)).set Reg.txRingConsume (if cut then produce else last % size))
            else match s.memRead 4 (base + off + 16) w.len with
              | (none, s) => s
              | (some b, s) =>
                let s := s.set Reg.txRingConsume (last % size)
                let s := if s.get Reg.bufFreeCells < cellsOf b.length then s.count (Reg.qcntNoCellDrops w.ingress) else s.collect w b
                State.txRecords k s

/-- TX_RING_PRODUCE (R290): new records of the transmit ring are handed to P37. -/
def execTxRingProduce (ctx : Ctx) (value : Nat) (s : State) : Host.Outcome State Fault Refusal :=
  .next (s.rwWrite ctx 0x24C1 4 true false [fits 4 value, need (value < 2 ^ s.get Reg.txRingSizeLog2.latched) 0x06090031] (fun s =>
    let s := s.set Reg.txRingProduce value
    if s.get Reg.txRingEnable = 1 then State.txRecords (2 ^ s.get Reg.txRingSizeLog2.latched / 16 + 1) s else s))

end Sys2Proof.Machine
end

