-- ==== Sys2Proof/Machine/Cresset.lean ====
section
/-! DEFINITION. The Cresset engines: contexts, job queues and jobs (R319 to R335, R347). -/
namespace Sys2Proof.Machine

/-! ## Contexts (R322 to R325) -/

/-- The context of a number, when it is loaded. -/
def State.crContext? (s : State) (n : Nat) : Option CrContext := s.crContexts.find? (fun k => k.idx = n)

/-- A change of one context. -/
def State.updContext (s : State) (n : Nat) (g : CrContext → CrContext) : State :=
  { s with crContexts := s.crContexts.map (fun k => if k.idx = n then g k else k) }

/-- The check of `Cr.Command`: refused while the context's outcome reads BUSY (R322). -/
def State.crIdle (s : State) (ctx : Ctx) : Option Nat := need (s.get (Reg.crOutcome.of ctx) ≠ outBusy) 0x08000022

/-- CR_LOAD (R323): the load waits for the vault. -/
def execCrLoad (ctx : Ctx) (s : State) : Host.Outcome State Fault Refusal :=
  .next (s.cmdWrite ctx 0x2A01 7 true false [s.crIdle ctx] (fun s =>
    s.vaultSubmit (.crLoad ctx (s.get (Reg.crContext.of ctx)) (s.get (Reg.crKeySlot.of ctx)) (s.get (Reg.crMode.of ctx))
      (s.get (Reg.crField.of ctx)) (s.get (Reg.crCounterStart.of ctx)) (s.get (Reg.crCounterEnd.of ctx)))))

/-- CR_UNLOAD (R324): the context is removed; its running jobs end with 0x43. -/
def execCrUnload (ctx : Ctx) (s : State) : Host.Outcome State Fault Refusal :=
  .next (s.cmdWrite ctx 0x2A01 7 true false [s.crIdle ctx] (fun s =>
    let n := s.get (Reg.crContext.of ctx)
    if (s.crContext? n).isNone then s.set (Reg.crOutcome.of ctx) 0x40
    else ({ s with crContexts := s.crContexts.filter (fun k => k.idx ≠ n),
                   crJobs := s.crJobs.map (fun j => if !j.done && j.context.any (fun k => k.idx = n) then
                     { j with outcome := 0x43, done := true } else j) } : State).set (Reg.crOutcome.of ctx) outDone))

/-! ## Queues (R326 to R328) -/

/-- The size in force of a queue's ring. -/
def State.crqSize (s : State) (q : Nat) : Nat := 2 ^ s.get (Reg.crqSizeLog2 q).latched

/-- CRQ_PRODUCE (R326): new job descriptors are available up to the offset. -/
def execCrqProduce (ctx : Ctx) (q value : Nat) (s : State) : Host.Outcome State Fault Refusal :=
  .next (s.rwWrite ctx (0x2A20 + q) 4 (q < 8) false [fits 4 value, need (value % 64 = 0 && value < s.crqSize q) 0x06090030]
    (fun s => s.set (Reg.crqProduce q) value))

/-- The address of a queue's head descriptor, when there is one. -/
def State.crHead (s : State) (q : Nat) : Option Nat :=
  if s.get (Reg.crqEnable q) = 1 ∧ s.get (Reg.crqTaken q) ≠ s.get (Reg.crqProduce q) then
    some (s.get (Reg.crqBase q).latched + s.get (Reg.crqTaken q))
  else none

/-- The 64-bit words of bytes, least significant byte first. -/
def wordsOf (b : List Byte) : List Nat := (List.range (b.length / 8)).map (fun k => ofLe (slice b (8 * k) 8))

/-- The descriptor words as memory holds them, when the Cresset initiator may read them (R358). -/
def State.crPeek (s : State) (a : Nat) : Option (List Nat) :=
  if (s.memCheck 3 a 64 false false).isSome then none else some (wordsOf (s.rangeBytes a 64))

/-- The head job waits for a start pulse: its wait bit is set, and no pulse is there for it (R328). -/
def State.crWaiting (s : State) (q : Nat) : Bool :=
  s.get (Reg.crqReleased q) = 0 && s.get (Reg.crqPendingStarts q) = 0 &&
  ((s.crHead q).bind s.crPeek).any (fun w => bitOf (w.getD 0 0) 47)

/-- CRESSET_START_PULSE (R328): a pulse on its way to a queue's start line releases the job that waits at the head, and else is kept
for a later job, or lost beyond 255. -/
def execCressetStartPulse (q : Nat) (s : State) : Host.Outcome State Fault Refusal :=
  match takeFirst (fun p => p == Pulse.cressetStart q) s.pulses with
  | some (_, rest) =>
    let s : State := { s with pulses := rest }
    if s.crWaiting q then .next (s.set (Reg.crqReleased q) 1)
    else if s.get (Reg.crqPendingStarts q) < 255 then .next (s.set (Reg.crqPendingStarts q) (s.get (Reg.crqPendingStarts q) + 1))
    else .next (s.count (Reg.crqLostStarts q) 32)
  | none => .next s

/-! ## The descriptor (R329, R330, R335) -/

/-- The fields of a job descriptor. -/
structure CrFields where
  op : Nat
  ctx : Nat
  wait : Bool
  notify : Bool
  explicitNonce : Bool
  dual : Bool
  tagLen : Nat
  soft : Nat
  src : Nat
  dst : Nat
  aadLen : Nat
  aad : Nat
  len : Nat
  tagAddr : Nat
  result : Nat
  field : Nat
  counter : Nat
deriving DecidableEq, Repr

/-- The fields of the eight words (R329). -/
def crFields (w : List Nat) : CrFields :=
  let w0 := w.getD 0 0
  { op := field w0 63 56, ctx := field w0 55 48, wait := bitOf w0 47, notify := bitOf w0 46, explicitNonce := bitOf w0 45,
    dual := bitOf w0 44, tagLen := field w0 39 32, soft := field w0 31 0, src := field (w.getD 1 0) 39 0,
    dst := field (w.getD 2 0) 39 0, aadLen := field (w.getD 3 0) 63 48, aad := field (w.getD 3 0) 39 0,
    len := field (w.getD 4 0) 63 40, tagAddr := field (w.getD 4 0) 39 0, result := field (w.getD 5 0) 39 0,
    field := field (w.getD 6 0) 31 0, counter := w.getD 7 0 }

/-- A hash operation, an encrypting, and a decrypting or verifying one (R330). -/
def crHash (op : Nat) : Bool := 9 ≤ op && op ≤ 11
def crEncrypts (op : Nat) : Bool := op = 1 || op = 3
def crDecrypts (op : Nat) : Bool := op = 2 || op = 4
/-- The operation checks a tag. -/
def crVerifies (op : Nat) : Bool := op = 2 || op = 4 || op = 6 || op = 8

/-- The context family suits the operation (R330). -/
def crFamilyFits (op family : Nat) : Bool :=
  match op with
  | 1 => family = 1 | 2 => family = 1 | 3 => family = 2 | 4 => family = 2 | 5 => family = 3 | 6 => family = 3
  | 7 => 4 ≤ family | 8 => 4 ≤ family | _ => true

/-- Reserved bits of the words are set, or the result address is not aligned (R329). -/
def crReserved (w : List Nat) (f : CrFields) : Bool :=
  field (w.getD 0 0) 43 40 ≠ 0 || (!crHash f.op && f.dual) || 2 ^ 40 ≤ w.getD 1 0 || 2 ^ 40 ≤ w.getD 2 0 ||
  field (w.getD 3 0) 47 40 ≠ 0 || 2 ^ 40 ≤ w.getD 5 0 || 2 ^ 32 ≤ w.getD 6 0 || f.result % 32 ≠ 0

/-- The digest bits of an HMAC family or a hash operation. -/
def crDigest (op family : Nat) : Nat :=
  let k := if crHash op then op - 9 else family - 4
  match k with
  | 0 => 256 | 1 => 384 | _ => 512

/-- The lengths of a job lie within R335. -/
def crLengths (f : CrFields) (family : Nat) : Bool :=
  match f.op with
  | 1 => 12 ≤ f.tagLen && f.tagLen ≤ 16
  | 2 => 12 ≤ f.tagLen && f.tagLen ≤ 16
  | 3 => 4 ≤ f.tagLen && f.tagLen ≤ 16 && f.tagLen % 2 = 0
  | 4 => 4 ≤ f.tagLen && f.tagLen ≤ 16 && f.tagLen % 2 = 0
  | 5 => f.aadLen = 0 && 4 ≤ f.tagLen && f.tagLen ≤ 16
  | 6 => f.aadLen = 0 && 4 ≤ f.tagLen && f.tagLen ≤ 16
  | 7 => f.aadLen = 0 && 16 ≤ f.tagLen && f.tagLen ≤ crDigest f.op family / 8
  | 8 => f.aadLen = 0 && 16 ≤ f.tagLen && f.tagLen ≤ crDigest f.op family / 8
  | _ => f.aadLen = 0 && f.tagLen = 0

/-- The checks of a job in the order of R335: 0 when it passes. -/
def State.crCheck (s : State) (w : List Nat) : Nat :=
  let f := crFields w
  let c := if crHash f.op then none else s.crContext? f.ctx
  let family := (c.map (fun k => k.mode % 16)).getD 0
  let nonce := if crDecrypts f.op then f.explicitNonce else !f.explicitNonce
  if f.op = 0 ∨ 11 < f.op ∨ crReserved w f ∨ (c.isSome ∧ ¬ crFamilyFits f.op family) ∨ ¬ nonce then 0x45
  else if (crHash f.op ∧ f.ctx ≠ 0) ∨ (¬ crHash f.op ∧ c.isNone) then 0x40
  else if ¬ crLengths f family then 0x44
  else if crEncrypts f.op ∧ c.any (fun k => k.spent || k.last < k.next) then 0x41
  else 0

/-! ## Cores (R319 to R321, R327) -/

/-- Cores in service that no running job holds. -/
def State.crFree (s : State) : List Nat :=
  [0, 1, 2, 3].filter (fun k => !bitOf (s.get Reg.crRetiredMask) k && !s.crJobs.any (fun j => !j.done && bitOf j.cores k))

/-- Cores that fail are retired: the mask, the cores in service and a report (R321). -/
def State.crRetire (s : State) (cores : Nat) : State :=
  ((s.set Reg.crRetiredMask (s.get Reg.crRetiredMask ||| cores)).set Reg.crCoresInService
    (s.get Reg.crCoresInService - (bitsOf 4 cores).length)).reportObj 3 4 0x2A00 0x02 cores

/-- The cores out of service that a start tests (R321): a free value gives those that fail anew, which are retired again (log
entry 160). -/
def State.crTest (s : State) (mask : Nat) : State :=
  if mask = 0 then s
  else
    let d := s.draw 4
    if mask &&& d.1 = 0 then d.2 else d.2.crRetire (mask &&& d.1)

/-- A job runs in dual mode: by its context, or by bit 44 of a hash job (R320). -/
def State.crDual (s : State) (f : CrFields) : Bool :=
  if crHash f.op then f.dual else (s.crContext? f.ctx).any (fun k => k.mode / 64 = 1)

/-- Too few cores are in service for a job (R321). -/
def State.crShort (s : State) (dual : Bool) : Bool := s.get Reg.crCoresInService < (if dual then 2 else 1)

/-- The head job of a queue may start: it stands there, has its start pulse, and its cores are free or not to be had. -/
def State.crReady (s : State) (q : Nat) : Bool :=
  match s.crHead q with
  | none => false
  | some a => match s.crPeek a with
    | none => true
    | some w =>
      let f := crFields w
      let dual := s.crDual f
      (!f.wait || s.get (Reg.crqReleased q) = 1 || 0 < s.get (Reg.crqPendingStarts q)) &&
      (s.crCheck w ≠ 0 || s.crShort dual || (if dual then 2 else 1) ≤ s.crFree.length)

/-! ## Results (R330 to R333) -/

/-- The output of a keyed or hash operation, its tag or digest, and whether a tag to check matches. -/
def crCompute (f : CrFields) (key : List Byte) (family fld ctr : Nat) (aad src given : List Byte) : List Byte × List Byte × Bool :=
  let iv := fld * 2 ^ 64 + ctr
  match f.op with
  | 1 =>
    let c := gcmData (keyBits key) (ofBe key) iv src
    (c, (gcmTag (keyBits key) (ofBe key) iv aad c).take f.tagLen, true)
  | 2 => (gcmData (keyBits key) (ofBe key) iv src, [],
      (gcmTag (keyBits key) (ofBe key) iv aad src).take f.tagLen == given)
  | 3 => (ccmCrypt key iv src.length 1 src, ccmTag key iv aad src f.tagLen, true)
  | 4 =>
    let p := ccmCrypt key iv src.length 1 src
    (p, [], ccmTag key iv aad p f.tagLen == given)
  | 5 => ([], (cmac key src).take f.tagLen, true)
  | 6 => ([], [], (cmac key src).take f.tagLen == given)
  | 7 => ([], (hmac (crDigest f.op family) key src).take f.tagLen, true)
  | 8 => ([], [], (hmac (crDigest f.op family) key src).take f.tagLen == given)
  | _ => ([], digest (crDigest f.op family) src, true)

/-- A job read from memory: its additional data, payload and tag to check; none when an access failed (R334: 0x47). -/
def State.crRead (s : State) (a n : Nat) : Option (List Byte) × State := if n = 0 then (some [], s) else s.memRead 3 a n

/-- A job that passed its checks starts on its cores: it takes its counter, reads its memory and is computed. -/
def State.crStart (s : State) (q off : Nat) (w : List Nat) (cores : Nat) : State :=
  let f := crFields w
  let c := if crHash f.op then none else s.crContext? f.ctx
  let n : Nat × Nat := if crEncrypts f.op then ((c.map (·.field)).getD 0, (c.map (·.next)).getD 0)
    else if crDecrypts f.op then (f.field, f.counter) else (0, 0)
  let s := if crEncrypts f.op then s.updContext f.ctx (fun k => { k with next := k.next + 1 }) else s
  let j : CrJob := { queue := q, offset := off, words := w, cores := cores, field := n.1, counter := n.2, context := c }
  let aad := s.crRead f.aad f.aadLen
  let src := aad.2.crRead f.src f.len
  let tag := src.2.crRead f.tagAddr (if crVerifies f.op then f.tagLen else 0)
  let s := tag.2
  match aad.1, src.1, tag.1 with
  | some ad, some sr, some tg =>
    let o := crCompute f ((c.map (·.key)).getD []) ((c.map (fun k => k.mode % 16)).getD 0) n.1 n.2 ad sr tg
    { s with crJobs := s.crJobs ++ [{ j with output := o.1, tag := o.2.1, matched := o.2.2 }] }
  | _, _, _ => { s with crJobs := s.crJobs ++ [{ j with outcome := 0x47, done := true }] }

/-- A job with the wait bit consumes one pulse when it starts: the one that released it, or else a kept one (R328). -/
def State.crTakePulse (s : State) (q : Nat) : State :=
  if s.get (Reg.crqReleased q) = 1 then s.set (Reg.crqReleased q) 0 else s.uncount (Reg.crqPendingStarts q)

/-- CRESSET_JOB_START (R327): the scheduler takes the head job of the next queue whose job can start. -/
def execCressetJobStart (s : State) : Host.Outcome State Fault Refusal :=
  if ¬ s.running then .next s
  else match ((List.range 8).map (fun k => (s.get Reg.crRobin + k) % 8)).find? s.crReady with
    | none => .next s
    | some q =>
      match s.crHead q with
      | none => .next s
      | some a =>
        let off := s.get (Reg.crqTaken q)
        let r := s.memRead 3 a 64
        let s := r.2.sets [(Reg.crRobin, (q + 1) % 8), (Reg.crqTaken q, (off + 64) % s.crqSize q)]
        match r.1 with
        | none => .next { s with crJobs := s.crJobs ++ [{ queue := q, offset := off, words := [], outcome := 0x47, done := true }] }
        | some b =>
          let w := wordsOf b
          let f := crFields w
          let s := if f.wait then s.crTakePulse q else s
          let code := s.crCheck w
          let dual := s.crDual f
          let s := if code = 0x41 then s.updContext f.ctx (fun k => { k with spent := true }) else s
          if code ≠ 0 then
            .next { s with crJobs := s.crJobs ++ [{ queue := q, offset := off, words := w, outcome := code, done := true }] }
          else if s.crShort dual then
            .next { s with crJobs := s.crJobs ++ [{ queue := q, offset := off, words := w, outcome := outFaulted, done := true }] }
          else .next (s.crStart q off w (maskOf (s.crFree.take (if dual then 2 else 1))))

/-- A change of job `k`. -/
def State.setJob (s : State) (k : Nat) (j : CrJob) : State := { s with crJobs := s.crJobs.set k j }

/-- Output blocks are 4 KiB (R321). -/
abbrev crBlock : Nat := 4096

/-- A checked block of a job is written; a bus error ends the job (R321, R334). -/
def State.crWrite (s : State) (k : Nat) (j : CrJob) : State :=
  let b := slice j.output j.written crBlock
  let r := s.memWrite 3 ((crFields j.words).dst + j.written) b
  if r.1 then r.2.setJob k { j with written := j.written + b.length } else r.2.setJob k { j with outcome := 0x47, done := true }

/-- What a check that passes lets go: the next block, while output is left; a tag or digest waits for the end of the job. -/
def State.crRelease (s : State) (k : Nat) (j : CrJob) : State := if j.output.length ≤ j.written then s else s.crWrite k j

/-- CRESSET_BLOCK_DONE (R320, R321): the next block of job `k`, or the tag or digest after its last, is checked, `ok1` at the first and
`ok2` at the second try. -/
def execCressetBlockDone (k : Nat) (ok1 ok2 : Bool) (s : State) : Host.Outcome State Fault Refusal :=
  match s.crJobs[k]? with
  | some j =>
    if ¬ s.running ∨ j.done then .next s
    else if ok1 then .next (s.crRelease k j)
    else
      let s := (s.count Reg.crMismatches).count Reg.crRecomputes
      if ok2 then .next (s.crRelease k j)
      else
        .next (((s.count Reg.crMismatches).setJob k { j with outcome := outFaulted, done := true }).crRetire j.cores)
  | none => .next s

/-- The result of a job (R333). -/
def crResult (s : State) (j : CrJob) (code : Nat) : List Byte :=
  leBytes 8 (code * 2 ^ 56 + j.cores * 2 ^ 52 + (crFields j.words).soft) ++ leBytes 8 j.field ++ leBytes 8 j.counter ++
  leBytes 8 (s.timeNs 4)

/-- CRESSET_JOB_DONE (R330, R333): the oldest job of a queue has ended: its tag or digest is written or checked, a decrypting job
that failed has its output overwritten, the result is written, the queue advances and the completion line pulses. -/
def execCressetJobDone (q : Nat) (s : State) : Host.Outcome State Fault Refusal :=
  match s.crJobs.find? (fun j => j.queue = q) with
  | some j =>
    if ¬ s.running ∨ ¬ (j.done ∨ j.output.length ≤ j.written) then .next s
    else
      let f := crFields j.words
      let t : Nat × State := if j.outcome ≠ 0 then (j.outcome, s)
        else if crVerifies f.op then (if j.matched then outDone else 0x42, s)
        else
          let r := s.memWrite 3 f.tagAddr j.tag
          (if r.1 then outDone else 0x47, r.2)
      let code := t.1
      let s := if code ≠ outDone ∧ crDecrypts f.op ∧ 0 < j.written then
        (t.2.memWrite 3 f.dst (List.replicate j.written 0)).2 else t.2
      let s := if j.words = [] then s else (s.memWrite 3 f.result (crResult s j code)).2
      let s : State := { s with crJobs := s.crJobs.eraseP (fun i => i.queue = q) }
      let s := (s.set (Reg.crqConsume q) ((j.offset + 64) % s.crqSize q)).count (if code = outDone then Reg.crJobsDone else Reg.crJobsFailed)
      if f.notify then .next (s.pulse 0x02 q) else .next s
  | none => .next s

end Sys2Proof.Machine
end

