-- ==== Sys2Proof/Machine/Image.lean ====
section
/-! DEFINITION. Which objects a variant has, the values they take, and the configuration image: what it holds, how long it is,
and how its records are applied and migrated (R4, R5, R44, R466 to R469, R540, R541). -/
namespace Sys2Proof.Machine

/-! ## What the image holds (R468) -/

/-- A table row enters the image (R468). -/
def State.rowHeld (s : State) (r : Reg) : Bool :=
  match r.grp with
  | .mm => s.get (Reg.mmValid r.inst r.row) = 1
  | .conn => bitOf (s.get (Reg.connControl r.row)) 6
  | .fdb => bitOf (s.get (Reg.fdbControl r.row)) 31 && bitOf (s.get (Reg.fdbControl r.row)) 30
  | _ => true

/-- A register's active copy enters the image. -/
def State.regHeld (s : State) (r : Reg) : Bool :=
  r.bank = 0 && r.sub < 0xF8 &&
  match objOf r with
  | some o => o.held && s.fuses.variant.hasObject r.grp r.inst r.sub && s.instHeld r.grp r.inst r.sub && (!o.isRow || s.rowHeld r)
  | none => false

/-- `Cfg.CriticalRange` in force. -/
def State.criticalRanges (s : State) : List Nat := (List.range 16).map (fun k => s.get (Reg.cfgCriticalRange k))

/-! ## Its records and its header (R467) -/

/-- A length padded to a multiple of 8. -/
def pad8 (n : Nat) : Nat := (n + 7) / 8 * 8

/-- A record of the image: what it names, and its bytes. -/
structure ImageRecord where
  index : Nat
  sub : Nat
  row : Nat
  bytes : List Byte
deriving DecidableEq, Repr

/-- The bytes of an object record: index, subindex, 0x01, the length of the value, and the value padded to a multiple of 8. -/
def State.objectBytes (s : State) (o : Obj) (idx sub : Nat) : List Byte :=
  let r := o.reg idx sub 0
  let n := o.ty.bytes
  let v := if o.ty.isBytes then padTo n (s.blob r) else leBytes n (s.get r)
  leBytes 2 idx ++ leBytes 1 sub ++ leBytes 1 1 ++ leBytes 4 n ++ padTo (pad8 n) v

/-- The object records. -/
def State.objectRecords (s : State) : List ImageRecord :=
  (objectRows.filter (fun o => o.held && !o.isRow)).flatMap (fun o =>
    (List.range o.count).flatMap (fun i =>
      ((List.range (o.hi + 1 - o.lo)).filter (fun k =>
        s.fuses.variant.hasObject o.grp i (o.lo + k) && s.instHeld o.grp i (o.lo + k))).map
        (fun k => { index := o.base + i, sub := o.lo + k, row := 0, bytes := s.objectBytes o (o.base + i) (o.lo + k) })))

/-- The subindices of the fields that a row record of a table holds. -/
def rowFields (g : Grp) : List Nat :=
  (objectRows.filter (fun o => o.isRow && o.grp = g && o.held)).flatMap (fun o => (List.range (o.hi + 1 - o.lo)).map (o.lo + ·))

/-- The bytes of a row record: index, field count, 0x02 and the row, then a slot of 16 bytes for each field. -/
def State.rowBytes (s : State) (r : Reg) : List Byte :=
  let fs := rowFields r.grp
  leBytes 2 r.index ++ leBytes 1 fs.length ++ leBytes 1 2 ++ leBytes 4 r.row ++
    fs.flatMap (fun f => leBytes 8 f ++ leBytes 8 (s.get { r with sub := f }))

/-- The row records. -/
def State.rowRecords (s : State) : List ImageRecord :=
  (((s.regs.map (·.1)).filter (fun r => s.regHeld r && 0x4000 ≤ r.index)).map (fun r =>
    ({ index := r.index, sub := 0, row := r.row, bytes := s.rowBytes r } : ImageRecord))).eraseDups

/-- Where the critical section places a record (R468): its three fixed parts, then the ranges of `Cfg.CriticalRange` in order. -/
def criticalPart (ranges : List Nat) (r : ImageRecord) : Nat :=
  if isCritical [] r.index r.row then
    if 0x4000 ≤ r.index then 2 else if 0x2F20 ≤ r.index then 3 else 1
  else 4 + ranges.findIdx (fun w => isCritical [w] r.index r.row)

/-- A record goes ahead of another in the image (R468). -/
def recordAhead (ranges : List Nat) (a b : ImageRecord) : Bool :=
  let key := fun (r : ImageRecord) => (((criticalPart ranges r) * 2 ^ 16 + r.index) * 2 ^ 8 + r.sub) * 2 ^ 32 + r.row
  key a ≤ key b

/-- A record placed in a list that is in order. -/
def placeRecord (ranges : List Nat) (r : ImageRecord) : List ImageRecord → List ImageRecord
  | [] => [r]
  | x :: xs => if recordAhead ranges r x then r :: x :: xs else x :: placeRecord ranges r xs

/-- The records of one section, in the order of R468. -/
def State.section (s : State) (critical : Bool) : List ImageRecord :=
  let ranges := s.criticalRanges
  let l := (s.objectRecords ++ s.rowRecords).filter (fun r => isCritical ranges r.index r.row == critical)
  l.foldr (placeRecord (if critical then ranges else [])) []

/-- The header of an image: magic, format, part, sequence, lengths, record count and the three checking sums. -/
def imageHeader (format part seq : Nat) (crit rest : List ImageRecord) : List Byte :=
  let c := crit.flatMap (·.bytes)
  let m := rest.flatMap (·.bytes)
  let h := ([0x4B, 0x43, 0x46, 0x47] : List Byte) ++ leBytes 2 format ++ leBytes 2 part ++ leBytes 4 seq ++
    leBytes 4 (64 + c.length + m.length) ++ leBytes 4 c.length ++ leBytes 4 (crit.length + rest.length) ++
    leBytes 4 (crc32c c) ++ leBytes 4 (crc32c m) ++ List.replicate 28 0
  h ++ leBytes 4 (crc32c h)

/-- The header of an image verifies (R469). -/
def headerWhole (h : List Byte) : Bool :=
  h.length = 64 && h.take 4 == [0x4B, 0x43, 0x46, 0x47] && ofLe (h.drop 60) = crc32c (h.take 60)

/-- The objects whose default is that of the variant or of the fuses; they stand in an image in any case (R183, R288, R542). -/
def ownDefaults : List Reg := Reg.bufMcastCells :: Reg.updTaperMac :: (List.range 8).map Reg.spReasonMode

/-- The values that an image holds. -/
def State.imageVals (s : State) : List (Reg × Nat) :=
  ownDefaults.foldl (fun l r => Assoc.put l r (s.get r)) (s.regs.filter (fun e => s.regHeld e.1))

/-- The image of the present configuration for a slot. -/
def State.imageNow (s : State) (slot seq format : Nat) : CfgImage :=
  let header := imageHeader format s.fuses.variant.partCode seq (s.section true) (s.section false)
  { slot := slot, seq := seq, format := format, header := header, bytes := ofLe (slice header 12 4), critBytes := ofLe (slice header 16 4),
    ranges := s.criticalRanges, vals := s.imageVals, texts := s.blobs.filter (fun e => s.regHeld e.1) }

/-! ## Migration (R540) -/

/-- One entry of a migration table: action 1 moves, 2 drops, 3 resets to default; old subindex 0xFF stands for all. -/
structure MigrationEntry where
  version : Nat
  oldIdx : Nat
  oldSub : Nat
  action : Nat
  newIdx : Nat
  newSub : Nat
deriving DecidableEq, Repr

/-- The entries that the bytes of a migration table hold. -/
def migrationEntries (b : List Byte) : List MigrationEntry :=
  (List.range (b.length / 16)).map (fun k =>
    let at' := fun off n => ofLe (slice b (16 * k + off) n)
    { version := at' 0 2, oldIdx := at' 2 2, oldSub := at' 4 1, action := at' 5 1, newIdx := at' 6 2, newSub := at' 8 1 })

/-- An entry names a record. -/
def MigrationEntry.names (e : MigrationEntry) (idx sub : Nat) : Bool := e.oldIdx = idx && (e.oldSub = 0xFF || e.oldSub = sub)

/-- A record after the entries of one version: kept under its index and subindex, moved, or gone. -/
def migrateName (es : List MigrationEntry) (idx sub : Nat) : Option (Nat × Nat) :=
  match es.find? (fun e => e.names idx sub) with
  | none => some (idx, sub)
  | some e => if e.action = 1 then some (e.newIdx, if e.oldSub = 0xFF then sub else e.newSub) else none

/-- A record after the entries of the versions from one on, over a number of versions. -/
def migrateFrom (es : List MigrationEntry) : Nat → Nat → Nat × Nat → Option (Nat × Nat)
  | 0, _, n => some n
  | k + 1, v, n =>
    match migrateName (es.filter (fun e => e.version = v)) n.1 n.2 with
    | some n' => migrateFrom es k (v + 1) n'
    | none => none

/-- The named entries of an image after migration; a record whose new name is no object stays out and counts as skipped. -/
def migrateEntries {α : Type} (v : Variant) (es : List MigrationEntry) (from' steps : Nat) (l : List (Reg × α)) :
    List (Reg × α) × Nat :=
  l.foldl (fun acc e =>
    match migrateFrom es steps from' (e.1.index, e.1.sub) with
    | none => acc
    | some n => match objAt v n.1 n.2 with
      | some o => (acc.1 ++ [(o.reg n.1 n.2 e.1.row, e.2)], acc.2)
      | none => (acc.1, acc.2 + 1)) ([], 0)

/-- The records that a migration drops: those an entry of action 2 names in a version that is passed through. -/
def State.droppedRecords (s : State) (es : List MigrationEntry) (from' steps : Nat) (img : CfgImage) : Nat :=
  let drops := es.filter (fun e => e.action = 2 && from' ≤ e.version && e.version < from' + steps)
  (s.objectRecords.filter (fun o => drops.any (fun e => e.names o.index o.sub))).length +
  (((img.vals.map (fun e => (e.1.index, e.1.row))).eraseDups).filter (fun r =>
    0x4000 ≤ r.1 && drops.any (fun e => e.oldIdx = r.1 && e.oldSub = 0xFF))).length

/-! ## Applying records (R469) -/

/-- A value that R44 would refuse (R469). The base of a ring is held against the size that stands beside it in the image, so that it is not
refused for the size that it meets while the records stream in (log entry 181). -/
def State.recordBad (s : State) (o : Obj) (r : Reg) (v : Nat) : Bool :=
  (o.valueAbort v).isSome || (!((r.grp = .rxRing || r.grp = .txRing || r.grp = .crq) && r.sub = 0x01) && (s.valueAbort r v).isSome)

/-- One record of a value applied to the active and pending copies together, or skipped. `Se.Run` is not taken from an image:
programs do not survive a start (R520). -/
def State.applyValue (s : State) (e : Reg × Nat) : State :=
  match objOf e.1 with
  | some o =>
    if s.fuses.variant.hasObject e.1.grp e.1.inst e.1.sub ∧ ¬ s.recordBad o e.1 e.2 then
      if e.1.grp = .se ∧ e.1.sub = 1 then s else s.set e.1 e.2
    else s.countSat Reg.cfgSkippedRecords
  | none => s.countSat Reg.cfgSkippedRecords

/-- One record of bytes applied, or skipped. `Upd.OwnerKey` is no part of an image: the vault keeps it (R530). -/
def State.applyText (s : State) (e : Reg × List Byte) : State :=
  match objOf e.1 with
  | some o =>
    if s.fuses.variant.hasObject e.1.grp e.1.inst e.1.sub ∧ e.2.length ≤ o.ty.bytes then
      if e.1 = Reg.updOwnerKey then s else s.setBlob e.1 e.2
    else s.countSat Reg.cfgSkippedRecords
  | none => s.countSat Reg.cfgSkippedRecords

/-- The critical section of an image, or its remainder, is applied. -/
def State.applySection (s : State) (critical : Bool) (img : CfgImage) : State :=
  let s := (img.vals.filter (fun e => isCritical img.ranges e.1.index e.1.row == critical)).foldl State.applyValue s
  (img.texts.filter (fun e => isCritical img.ranges e.1.index 0 == critical)).foldl State.applyText s

end Sys2Proof.Machine
end

