-- ==== Sys2Proof/Machine/Ivtas.lean ====
section
/-! DEFINITION. Ivtas images in the two firmware slots (R525 to R530): header, sections, signatures, and what the device reads from
the active image. -/
namespace Sys2Proof.Machine

/-- The bytes of the image in slot A (0) or B (1). -/
def State.ivtas (s : State) (slot : Nat) : List Byte := if slot = 0 then s.ivtasA else s.ivtasB

/-- The bytes of a slot replaced. -/
def State.setIvtas (s : State) (slot : Nat) (b : List Byte) : State :=
  if slot = 0 then { s with ivtasA := b } else { s with ivtasB := b }

/-- A little-endian field of an image. -/
def ivtasAt (b : List Byte) (off n : Nat) : Nat := ofLe (slice b off n)

/-- The anti-rollback version of an image (R527). -/
def ivtasVersion (b : List Byte) : Nat := ivtasAt b 8 8
/-- Its configuration-format version. -/
def ivtasFormat (b : List Byte) : Nat := ivtasAt b 20 2
/-- It raises the floor at its confirmation. -/
def ivtasRaises (b : List Byte) : Bool := ivtasAt b 5 1 % 2 = 1

/-- An entry of the section table (R528). -/
structure IvtasSection where
  type : Nat
  signer : Nat
  reserved : Nat
  offset : Nat
  length : Nat
  hash : List Byte
  entry : List Byte
deriving DecidableEq, Repr

/-- The section table of an image. -/
def ivtasSections (b : List Byte) : List IvtasSection :=
  (List.range (ivtasAt b 6 1)).map (fun k =>
    let e := slice b (128 + 64 * k) 64
    { type := ivtasAt e 0 1, signer := ivtasAt e 1 1, reserved := ivtasAt e 2 2 + ivtasAt e 12 4, offset := ivtasAt e 4 4,
      length := ivtasAt e 8 4, hash := slice e 16 48, entry := e })

/-- How many sections of a type there are. -/
def ivtasCount (l : List IvtasSection) (t : Nat) : Nat := (l.filter (fun x => x.type = t)).length

/-- The ranges of a list do not overlap one another. -/
def apart : List (Nat × Nat) → Bool
  | [] => true
  | (a, n) :: t => t.all (fun (b, m) => a + n ≤ b || b + m ≤ a) && apart t

/-- Header, table and section hashes of an image of L bytes hold (R527, R528). -/
def ivtasSound (b : List Byte) : Bool :=
  let l := b.length
  let n := ivtasAt b 6 1
  let secs := ivtasSections b
  b.take 4 = asciiBytes "IVTS" && ivtasAt b 4 1 = 1 && ivtasAt b 5 1 < 2 && 3 ≤ n && n ≤ 16 && ivtasAt b 7 1 = 0 &&
  ivtasAt b 16 4 = l && ivtasAt b 22 2 < 8 && ivtasAt b 25 7 = 0 && ivtasAt b 72 56 = 0 && 128 + 64 * n + 256 ≤ l &&
  secs.all (fun x => 1 ≤ x.type && x.type ≤ 6 && x.signer ≤ 1 && x.reserved = 0 && x.offset % 64 = 0 &&
    128 + 64 * n ≤ x.offset && x.offset + x.length ≤ l - 256 &&
    (x.type ≠ 3 || x.signer = 0) && (x.type ≠ 5 || x.signer = 0) && (!([1, 2, 4].contains x.type) || x.signer = 1) &&
    digest 384 (slice b x.offset x.length) = x.hash) &&
  ivtasCount secs 1 = 1 && ivtasCount secs 3 = 1 && ivtasCount secs 5 = 1 && ivtasCount secs 6 ≤ 1 &&
  apart (secs.map (fun x => (x.offset, x.length)))

/-- The public part of the update key in the vault ROM (R529). -/
def updateKey : List Byte := Config.publicKey 0x11 (Config.fusedSecret 1)

/-- `Upd.OwnerKey`: all zero until it is written (R530). -/
def State.ownerKey (s : State) : List Byte := s.blob Reg.updOwnerKey (List.replicate 97 0)

/-- Both signatures of an image hold (R529). -/
def State.ivtasSigned (s : State) (b : List Byte) : Bool :=
  let l := b.length
  let sigs := slice b (l - 256) 256
  let orobenos := (ivtasSections b).filter (fun x => x.signer = 0)
  ofLe (sigs.drop 192) = 0 &&
  Config.verify 0x11 updateKey (digest 384 (orobenos.flatMap (fun x => x.entry))) (sigs.take 96) &&
  Config.verify 0x11 s.ownerKey (digest 384 (b.take (l - 256))) (slice sigs 96 96)

/-- The part and the stepping of the device are covered by an image (R527). -/
def State.ivtasFits (s : State) (b : List Byte) : Bool :=
  bitOf (ivtasAt b 22 2) (match s.fuses.variant with | .kvt6416 => 0 | .kvt6412 => 1 | .kvt6408 => 2) &&
  ivtasAt b 24 1 ≤ s.get Reg.devStepping

/-- The checks of a close in their order (R534): none when the image passes. -/
def State.ivtasVerdict (s : State) (b : List Byte) : Option Nat :=
  if ¬ ivtasSound b ∨ ¬ s.ivtasSigned b then some 0x42
  else if ¬ s.ivtasFits b then some 0x44
  else if ivtasVersion b < s.get Reg.updFloor then some 0x43
  else none

/-- The state of a slot: 0 unknown, 1 prepared, 2 receiving, 3 staged, 4 active, 5 trial, 6 previous, 7 invalid (R542). -/
abbrev Reg.slotState (slot : Nat) : Reg := if slot = 0 then Reg.updSlotStateA else Reg.updSlotStateB

/-- The image in force. -/
def State.activeIvtas (s : State) : List Byte := s.ivtas (s.get Reg.updActiveSlot)

/-- `Dev.ConfigFormat`, from the active image (R542). -/
def State.configFormat (s : State) : Nat := ivtasFormat s.activeIvtas

/-- The migration table of the active image (R540). -/
def State.migrationTable (s : State) : List MigrationEntry :=
  match (ivtasSections s.activeIvtas).find? (fun x => x.type = 6) with
  | some x => migrationEntries (slice s.activeIvtas x.offset x.length)
  | none => []

/-- A trial runs: the active slot reads 5 (R536). -/
def State.trial (s : State) : Bool := s.get (Reg.slotState (s.get Reg.updActiveSlot)) = 5

/-! ## The slot selector (R526) -/

/-- A selector record; what the rule leaves open of its bytes, 5 to 7, reads 0 (log entry 183). -/
def selectorRecord (active trial seq : Nat) : List Byte :=
  let b := leBytes 2 0x5353 ++ leBytes 1 active ++ leBytes 1 (1 - active) ++ leBytes 4 trial ++ leBytes 4 seq ++ List.replicate 16 0
  b ++ leBytes 4 (crc32c b)

/-- The valid selector record with the highest sequence. -/
def State.selector (s : State) : Option (List Byte) :=
  match [s.blob (Reg.selSector 0), s.blob (Reg.selSector 1)].filter recordWhole with
  | [a, b] => some (if ofLe (slice a 8 4) < ofLe (slice b 8 4) then b else a)
  | l => l.head?

/-- A selector record of the slots as they stand is written, in the two sectors by turns. -/
def State.writeSelector (s : State) : State :=
  let seq := match s.selector with
    | some b => ofLe (slice b 8 4) + 1
    | none => 0
  s.setBlob (Reg.selSector (seq % 2)) (selectorRecord (s.get Reg.updActiveSlot) (flag s.trial) seq)

/-- The latest selector record is torn (R526). -/
def State.tearSelector (s : State) : State :=
  match s.selector with
  | some b => let k := ofLe (slice b 8 4) % 2; s.setBlob (Reg.selSector k) (b.take 28)
  | none => s

/-- The Pilot ROM takes the active slot from the selector (R526); with no valid record it is slot A. An activation whose record was torn
has not taken place: the slots read as before its hand-over (R536). -/
def State.readSelector (s : State) : State :=
  let a := match s.selector with
    | some b => ofLe (slice b 2 1)
    | none => 0
  if s.get Reg.updActiveSlot = a then s
  else s.sets [(Reg.updActiveSlot, a), (Reg.slotState a, 4), (Reg.slotState (1 - a), 3), (Reg.updTrialAt, 0),
    (Reg.updStagedVersion, ivtasVersion (s.ivtas (1 - a)))]

/-- The previous slot is made active again (R538): none when its version lies below the floor or when it
was erased, and the device then stays on the trial image. Class 13 is recorded in either case. -/
def State.fallBack (s : State) : State × Bool :=
  let a := s.get Reg.updActiveSlot
  let p := 1 - a
  if s.get (Reg.slotState p) ≠ 6 ∨ ivtasVersion (s.ivtas p) < s.get Reg.updFloor then (s.reportObj 13 10 0x3000 0x0C, false)
  else
    ((((s.sets [(Reg.updActiveSlot, p), (Reg.slotState p, 4), (Reg.slotState a, 7), (Reg.updTrialAt, 0)]).writeSelector).count
      Reg.updFallbacks 32).reportObj 13 10 0x3000 0x0C, true)

end Sys2Proof.Machine
end

