-- ==== Sys2Proof/Machine/Gateway.lean ====
section
/-! DEFINITION. The gateway of the CAN and LIN buses (R388 to R420): channels, routing, authentication, transmit queues, cyclic
entries and ACF frames. -/
namespace Sys2Proof.Machine

/-! ## Modes (R420) -/

/-- The channels are on their buses: Glow, Flame, Trim and Snuffed. -/
def State.busOn (s : State) : Bool := s.running || (!s.starting && s.mode = .snuffed)

/-- The routing engine and the cyclic entries run: Glow, Flame and Snuffed. -/
def State.routing (s : State) : Bool := s.forwarding || (!s.starting && s.mode = .snuffed)

/-! ## Authentication (R409 to R413) -/

/-- The fields of a freshness row (R413). -/
structure FvRow where
  valid : Bool
  generates : Bool
  key : Nat
  fBytes : Nat
  mBytes : Nat
  dataId : Nat
deriving DecidableEq, Repr

/-- A freshness row of the active table (R413). -/
def State.fvRow (s : State) (row : Nat) : FvRow :=
  let c := s.get (Reg.fvConfig row)
  { valid := bitOf c 31, generates := bitOf c 30, key := field c 29 26, fBytes := field c 23 21, mBytes := field c 20 16,
    dataId := field c 15 0 }

/-- The bytes of a gateway key in use (R418). -/
def State.gwKeyBytes (s : State) (k : Nat) : Option (List Byte) := (s.gwKeys.find? (fun e => e.1 == k)).map (fun e => e.2.2)

/-- The leading bytes of the CMAC over data identifier, user data and freshness value (R409). -/
def FvRow.tag (r : FvRow) (key user : List Byte) (v : Nat) : List Byte :=
  (cmac key (beBytes 2 r.dataId ++ user ++ beBytes 8 v)).take r.mBytes

/-- The smallest value above `v` whose low bits are those received (R410). -/
def fvCandidate (v fBytes low : Nat) : Nat :=
  let m := 256 ^ fBytes
  let c := v / m * m + low
  if v < c then c else c + m

/-- A message verified and stripped (R410, R412): the user data, or none when it is discarded. V is recorded to flash when it passes a
multiple of the step; in Snuffed flash is not written (R420). -/
def State.fvVerify (s : State) (row : Nat) (d : List Byte) : Option (List Byte) × State :=
  let r := s.fvRow row
  match s.gwKeyBytes r.key with
  | none => (none, s.count (Reg.fvRejected row))
  | some key =>
    if ¬ r.valid ∨ r.generates ∨ d.length < r.fBytes + r.mBytes then (none, s.count (Reg.fvRejected row))
    else
      let n := d.length - r.fBytes - r.mBytes
      let v := s.get (Reg.fvValue row)
      let c := fvCandidate v r.fBytes (beAt d n r.fBytes)
      if v + s.get (Reg.fvWindow row) < c ∨ 2 ^ 64 ≤ c then (none, s.count (Reg.fvStale row))
      else if r.tag key (d.take n) c ≠ d.drop (n + r.fBytes) then (none, s.count (Reg.fvRejected row))
      else
        let step := s.get Reg.gwFvReserveStep
        let s := (s.set (Reg.fvValue row) c).count (Reg.fvAccepted row)
        (some (d.take n), if v / step ≠ c / step ∧ s.running then s.set (Reg.fvReserve 0 row) c else s)

/-- A message authenticated (R411, R412): the data with its freshness and tag, or none when the row generates nothing. In
Snuffed no reservation is written (R420). -/
def State.fvGenerate (s : State) (row : Nat) (user : List Byte) : Option (List Byte) × State :=
  let r := s.fvRow row
  match s.gwKeyBytes r.key with
  | none => (none, s.count (Reg.fvRejected row))
  | some key =>
    if ¬ r.valid ∨ ¬ r.generates then (none, s.count (Reg.fvRejected row))
    else
      let v := s.get (Reg.fvValue row)
      let reserved := v < s.get (Reg.fvReserve 0 row)
      if v = 2 ^ 64 - 1 ∨ (¬ reserved ∧ ¬ s.running) then (none, s.count (Reg.fvExhausted row))
      else
        let s := if reserved then s else s.set (Reg.fvReserve 0 row) (min (v + s.get Reg.gwFvReserveStep) (2 ^ 64 - 1))
        (some (user ++ beBytes r.fBytes v ++ r.tag key user v),
          (s.set (Reg.fvValue row) (v + 1)).count (Reg.fvAccepted row))

/-! ## Transmit queues (R400, R402, R403) -/

/-- The order of arbitration: the lower value wins the bus (R402). -/
def arbOrder (m : BusMsg) : Nat := m.id / 2 ^ 18 * 2 ^ 19 + flag m.ext * 2 ^ 18 + (if m.ext then m.id % 2 ^ 18 else 0)

/-- Bytes that a format carries (R400, R405). -/
def fmtBytes (f : Nat) : Nat := match f with | 1 => 64 | 2 => 2048 | _ => 8

/-- The next permitted size of a format (R400). -/
def fmtSize (f n : Nat) : Nat :=
  match f with
  | 1 => if n ≤ 8 then n else if n ≤ 12 then 12 else if n ≤ 16 then 16 else if n ≤ 20 then 20 else if n ≤ 24 then 24
    else if n ≤ 32 then 32 else if n ≤ 48 then 48 else 64
  | 2 => max n 1
  | _ => n

/-- A channel has a format enabled (R390, R393). -/
def State.canCarries (s : State) (ch f : Nat) : Bool :=
  f ≤ 2 && bitOf (s.get (Reg.canFormats ch).latched) f && (f ≠ 2 || 8 ≤ ch || s.get (Reg.canTransceiver ch).latched = 2)

/-- A message takes a large entry (R402). -/
def CanEntry.large (e : CanEntry) : Bool := 64 < e.msg.data.length

/-- The entries of a channel of one size. -/
def State.canOfSize (s : State) (ch : Nat) (large : Bool) : List CanEntry :=
  s.canQueue.filter (fun e => e.ch = ch && e.large == large)

/-- The lowest-priority routed message of a size that is not in transmission, unless it was taken for transmission in this very cycle
(R403; log entry 157). -/
def State.canVictim (s : State) (ch : Nat) (large : Bool) : Option CanEntry :=
  (s.canOfSize ch large).foldl (fun best e =>
    if e.cyc.isSome || (e.inTx && e.takenAt ≠ s.now) then best
    else match best with
      | none => some e
      | some b => if arbOrder b.msg ≤ arbOrder e.msg then some e else best) none

/-- The last element equal to a value removed. -/
def removeLast {α : Type} [DecidableEq α] (a : α) (l : List α) : List α := (l.reverse.erase a).reverse

/-- A message enters the queue of a channel, evicts one, or is refused (R400, R402, R403). -/
def State.canSend (s : State) (ch : Nat) (m : BusMsg) (cyc : Option Nat) : State :=
  if ¬ s.canCarries ch m.fmt ∨ fmtBytes m.fmt < m.data.length then s.count (Reg.canFormatDrops ch)
  else
    let m := { m with data := padTo (fmtSize m.fmt m.data.length) m.data }
    let e : CanEntry := { ch := ch, msg := m, cyc := cyc, since := s.now }
    if (s.canOfSize ch e.large).length < (if e.large then 4 else 64) then { s with canQueue := s.canQueue ++ [e] }
    else match s.canVictim ch e.large with
      | some v =>
        if cyc.isNone ∧ arbOrder m < arbOrder v.msg ∧ ¬ v.inTx then
          ({ s with canQueue := removeLast v s.canQueue ++ [e] } : State).count (Reg.canPushOuts ch)
        else s.count (Reg.canQueueDrops ch)
      | none => s.count (Reg.canQueueDrops ch)

/-! ## LIN instances (R408) -/

/-- A master channel sends its waiting instances one at a time: a header, and the data when the entry publishes. A header
without published data stays at the head until its response or its timeout. -/
def State.linPump : Nat → Nat → State → State
  | 0, _, s => s
  | k + 1, l, s =>
    match s.linQueue.find? (fun e => e.l == l) with
    | none => s
    | some e =>
      if e.sent then s
      else
        let rest := s.linQueue.erase e
        let s := (s.count (Reg.linTxMessages l) 64 (1 + flag e.publish)).count (Reg.cycSent e.cyc)
        if e.publish then State.linPump k l { s with linQueue := rest }
        else { s with linQueue := { e with sent := true } :: rest }

/-- An instance enters a master channel; an unsent one of the same entry is replaced (R406). -/
def State.linSend (s : State) (e : LinEntry) : State :=
  let old := s.linQueue.filter (fun f => f.l = e.l && f.cyc = e.cyc && !f.sent)
  let s := if old.isEmpty then s else s.count (Reg.cycSlips e.cyc)
  let q := s.linQueue.filter (fun f => !(f.l = e.l && f.cyc = e.cyc && !f.sent)) ++ [e]
  State.linPump (q.length) e.l { s with linQueue := q }

/-! ## ACF frames (R414 to R416) -/

/-- An ACF message, without timestamp it is none of this device's; its length in quadlets (R414, R415; log entry 27). -/
def acfMessage (m : BusMsg) (bus stamp xlType : Nat) : List Byte :=
  let pad := (4 - m.data.length % 4) % 4
  let data := m.data ++ List.replicate pad 0
  let head := fun (type size : Nat) => beBytes 2 (type * 512 + (size + data.length) / 4)
  match m.fmt with
  | 2 => head xlType 20 ++ beBytes 1 (pad * 64 + flag m.sec * 32 + bus % 32) ++ beBytes 1 m.sdt ++ beBytes 1 m.vcid ++ beBytes 1 0 ++
      beBytes 2 (m.id / 2 ^ 18) ++ beBytes 4 m.acceptance ++ beBytes 8 stamp ++ data
  | 3 => head 3 12 ++ beBytes 1 (pad * 64 + 32 + bus % 32) ++ beBytes 1 m.id ++ beBytes 8 stamp ++ data
  | f => head 1 16 ++ beBytes 1 (pad * 64 + 32 + flag m.ext * 8 + flag m.brs * 4 + flag (f = 1) * 2 + flag m.esi) ++
      beBytes 1 (bus % 32) ++ beBytes 8 stamp ++ beBytes 4 (if m.ext then m.id else m.id / 2 ^ 18) ++ data

/-- The AVTP header and payload of a stream's frame (R414; log entry 27). -/
def acfFrame (subtype seq streamId stamp : Nat) (p : List Byte) : List Byte :=
  if subtype = 0x05 then
    beBytes 1 0x05 ++ beBytes 1 0x81 ++ beBytes 1 seq ++ beBytes 1 0 ++ beBytes 8 streamId ++ beBytes 4 (stamp % 2 ^ 32) ++
    beBytes 4 0 ++ beBytes 2 p.length ++ beBytes 2 0 ++ p
  else beBytes 1 0x82 ++ beBytes 2 (0x8000 + p.length) ++ beBytes 1 seq ++ beBytes 8 streamId ++ p

/-- The frame under construction of a stream is closed and sent (R416). -/
def State.acfSend (s : State) (st : Nat) : State :=
  match s.acfPacks.find? (fun p => p.stream == st) with
  | none => s
  | some p =>
    let seq := s.get (Reg.acfSeqTx st)
    let b := wickFrame (s.get (Reg.acfDestMac st)) (s.get Reg.gwSourceMac) (s.get (Reg.acfVlan st)) 0x22F0
      (acfFrame (s.get (Reg.acfSubtype st)) seq (s.get (Reg.acfStreamId st)) p.stamp p.payload)
    let s : State := { s with acfPacks := s.acfPacks.filter (fun q => q.stream ≠ st) }
    let s := (s.set (Reg.acfSeqTx st) ((seq + 1) % 256)).count (Reg.acfFrames st)
    s.wickSend (s.get Reg.gwProfileTag) b

/-- A message joins the frame of a stream in direction 1; one that does not fit closes the frame first (R416). -/
def State.acfPack (s : State) (st bus : Nat) (m : BusMsg) (stamp : List Nat) : State :=
  if s.get (Reg.acfDirection st) ≠ 1 then s
  else
    let t := stamp.getD (s.get (Reg.acfDomain st)) 0 / 16 % 2 ^ 64
    let b := acfMessage m bus t (s.get Reg.gwAcfXlType)
    let room := s.get (Reg.acfMaxBytes st)
    if room < b.length then s
    else
      let full := (s.acfPacks.find? (fun p => p.stream == st)).any (fun p => room < p.payload.length + b.length)
      let s := if full then s.acfSend st else s
      let s := s.count (Reg.acfMessages st)
      if s.acfPacks.any (fun p => p.stream == st) then
        { s with acfPacks := s.acfPacks.map (fun p => if p.stream = st then { p with payload := p.payload ++ b } else p) }
      else { s with acfPacks := s.acfPacks ++ [{ stream := st, since := s.now, stamp := t, payload := b }] }

/-! ## Routing (R396 to R400) -/

/-- The routing key of a message (R396). -/
def routeKey (m : BusMsg) (stream bus : Nat) : Nat :=
  m.fmt * 2 ^ 62 + flag m.ext * 2 ^ 61 + m.id * 2 ^ 32 + m.vcid * 2 ^ 24 + m.sdt * 2 ^ 16 + stream * 2 ^ 11 + bus * 2 ^ 6

/-- A row matches a source and key (R398). -/
def State.cxrMatches (s : State) (src key row : Nat) : Bool :=
  s.get (Reg.cxrValid row) = 1 && bitOf (s.get (Reg.cxrSources row)) src &&
  (s.get (Reg.cxrKey row)) &&& (s.get (Reg.cxrMask row)) == key &&& (s.get (Reg.cxrMask row))

/-- The rows of the active routing table that are valid. -/
def State.cxrRows (s : State) : List Nat :=
  (s.regs.filter (fun e => e.1.grp = .cxr && e.1.sub = 0x13 && e.1.bank = 0 && e.2 = 1)).map (·.1.row)

/-- The winning row: the lowest that matches (R398). -/
def State.cxrFind (s : State) (src key : Nat) : Option Nat :=
  (s.cxrRows.filter (s.cxrMatches src key)).foldl
    (fun (m : Option Nat) r => some (match m with | none => r | some q => min q r)) none

/-- A message after a rewrite word (R400). -/
def rewriteMsg (m : BusMsg) (w : Nat) : BusMsg :=
  let out := field w 63 62
  let m := if bitOf w 31 then { m with ext := bitOf w 61, id := field w 60 32 } else m
  if out = 0 then m
  else { m with fmt := out - 1, brs := if out = 2 then bitOf w 30 else m.brs }

/-- A cyclic entry's held data (R405). -/
def State.cycHeld (s : State) (e : Nat) : List Byte := s.blob (Reg.cycData e) (List.replicate 2048 0)

/-- The user data length of a cyclic entry (R405). -/
def State.cycLength (s : State) (e : Nat) : Nat := field (s.get (Reg.cycParams e)) 15 0

/-- The held data of an entry as it stood before the writes of this Pilot cycle (R407; log entry 157). -/
def State.cycBefore (s : State) (e : Nat) : List Byte :=
  if s.get (Reg.cycDataAt e) = s.now + 1 then s.blob (Reg.cycPrev e) (List.replicate 2048 0) else s.cycHeld e

/-- The held data of an entry replaced; the update is counted and dated (R405, R407). -/
def State.cycUpdate (s : State) (e : Nat) (d : List Byte) : State :=
  (((s.setBlob (Reg.cycPrev e) (s.cycBefore e)).setBlob (Reg.cycData e) d).set (Reg.cycDataAt e) (s.now + 1)).count (Reg.cycUpdates e)

/-- A route update is accepted: in an open group, under an owner of this device, or while the group is yielded (R484, R491). -/
def State.routeAccepts (s : State) (g : Nat) : Bool :=
  s.get (Reg.cgArbitrated g) ≠ 1 || s.get (Reg.cgOwner g) = 1 || s.get (Reg.cgOwner g) = 2 || s.get (Reg.cgState g) = 4

/-- A route updates a cyclic entry with the message's data (R399, R407). -/
def State.routeCyclic (s : State) (e : Nat) (d : List Byte) : State :=
  if s.routeAccepts (s.get (Reg.cycGroup e)) then
    (s.cycUpdate e (patch (s.cycHeld e) 0 (padTo (s.cycLength e) d))).set (Reg.cycRouteAt e) (s.now + 1)
  else s

/-- The data that a write leaves: a route update of the same Pilot cycle is applied after it (R407). -/
def State.cycWritten (s : State) (e : Nat) (d : List Byte) : List Byte :=
  if s.get (Reg.cycRouteAt e) = s.now + 1 then patch d 0 ((s.cycHeld e).take (s.cycLength e)) else d

/-- The authentication step of a route (R399, R409): the data for the cyclic entry, and the data for the destinations. -/
def State.routeAuth (s : State) (auth f : Nat) (d : List Byte) : Option (List Byte × List Byte) × State :=
  let v := if auth = 1 ∨ auth = 3 then s.fvVerify f d else (some d, s)
  match v.1 with
  | none => (none, v.2)
  | some user =>
    if auth = 2 ∨ auth = 3 then
      let g := v.2.fvGenerate (if auth = 3 then f + 1 else f) user
      (g.1.map (fun out => (user, out)), g.2)
    else (some (user, user), v.2)

/-- A message that became valid is looked up once and goes where the winning row sends it (R396 to R400). -/
def State.route (s : State) (src stream bus : Nat) (m : BusMsg) (stamp : List Nat) : State :=
  match s.cxrFind src (routeKey m stream bus) with
  | none => s.count Reg.gwRouteMisses
  | some row =>
    let a := s.get (Reg.cxrAction row)
    let r := (s.count (Reg.cxrHits row)).routeAuth (field a 25 24) (field a 23 13) m.data
    match r.1 with
    | none => r.2
    | some (user, out) =>
      let m' := { m with data := out }
      let m' := if bitOf a 12 then rewriteMsg m' (s.get (Reg.cxrRewrite row)) else m'
      let s := ((List.range 16).filter (fun n => bitOf a (48 + n) && n ≠ src)).foldl (fun s n => s.canSend n m' none) r.2
      let s := if ¬ bitOf a 39 then s
        else if s.mode = .snuffed then s.count Reg.gwAcfDropped
        else s.acfPack (field a 38 34) (if src = 24 then bus else if 16 ≤ src then src - 16 else src) m' stamp
      if bitOf a 33 then s.routeCyclic (field a 32 26) user else s

/-- The clocks of domains 0 to 3 and of the local counter as a message that the gateway unpacks has them. -/
def State.stampNow (s : State) : List Nat := [0, 1, 2, 3, 4].map s.clock

/-- The clocks of domains 0 to 3 and of the local counter at the start-of-message bit of a message that began `age` ns ago, against the
Wick follower counter and within 250 ns, which a free value gives (R81, R392; log entry 179). -/
def State.busStamp (s : State) (age : Nat) : List Nat × State :=
  let d := s.draw 64
  ([0, 1, 2, 3, 4].map (fun k => (((s.clock k : Int) + s.stampSkew 32 - (16 * age : Nat) + (d.1 % 8001 : Nat) - 4000) %
    (2 ^ 68 : Int)).toNat), d.2)

/-! ## CAN channels (R393) -/

/-- The error state in bits 1–0 of `Can.Status`. -/
def State.canState (s : State) (ch : Nat) : Nat := s.get (Reg.canStatus ch) % 4

/-- Bits 1–0 of `Can.Status` replaced. -/
def State.canEnter (s : State) (ch st : Nat) : State := s.set (Reg.canStatus ch) (setField (s.get (Reg.canStatus ch)) 1 0 st)

/-- Traffic on the bus ends the integration of a channel (R393; log entry 28). -/
def State.canIntegrated (s : State) (ch : Nat) : State := s.set (Reg.canStatus ch) (setBit (s.get (Reg.canStatus ch)) 2 false)

/-- A channel is on its bus: on, and not bus-off. -/
def State.canOn (s : State) (ch : Nat) : Bool := ch < 16 && s.busOn && s.canState ch < 2

/-- A channel that is on its bus takes a message of one of its formats: of a CAN0 to CAN7 the XL format only in transceiver mode 2 (R390). -/
def State.canTakes (s : State) (ch : Nat) (m : BusMsg) : Bool := s.canOn ch && s.canCarries ch m.fmt

/-- CANSTBn of CAN8 to CAN15 is pulled low: while the channel is enabled in Flame, Glow, Trim or Snuffed; otherwise it is released (R390). -/
def State.canStandbyLow (s : State) (ch : Nat) : Bool := 8 ≤ ch && ch < 16 && s.busOn && s.get (Reg.canEnable ch) = 1

/-- Transmit and receive error counts set, and the error state that they give (ISO 11898-1). -/
def State.canCounts (s : State) (ch tec rec : Nat) : State :=
  (s.set (Reg.canErrorCounters ch) (tec * 65536 + rec)).canEnter ch (if 127 < tec ∨ 127 < rec then 1 else 0)

/-- The transmit and receive error counts. -/
def State.canTec (s : State) (ch : Nat) : Nat := s.get (Reg.canErrorCounters ch) / 65536
def State.canRec (s : State) (ch : Nat) : Nat := s.get (Reg.canErrorCounters ch) % 65536

/-- A message received valid on a channel (ISO 11898-1): the channel has integrated, and its receive error count falls. -/
def State.canHeard (s : State) (ch : Nat) : State :=
  (s.canIntegrated ch).canCounts ch (s.canTec ch) (if 127 < s.canRec ch then 127 else s.canRec ch - 1)

/-- A message received valid that is not for the SDO server (R389, R390, R393): a remote message is discarded; the others are routed
in the modes in which the routing engine runs. -/
def State.canReceive (s : State) (ch : Nat) (m : BusMsg) (stamp : List Nat) : State :=
  let s := s.canHeard ch
  if m.remote then s.count (Reg.canRemoteDrops ch)
  else
    let s := s.count (Reg.canRxMessages ch)
    if s.routing then s.route ch 0 0 m stamp else s

/-- The entry a channel offers: of those that wait, the first to win arbitration, in arrival order among equals (R402). -/
def State.canBest (s : State) (ch : Nat) : Option CanEntry :=
  (s.canQueue.filter (fun e => e.ch = ch && !e.inTx)).foldl (fun best e =>
    match best with
    | none => some e
    | some b => if arbOrder e.msg < arbOrder b.msg then some e else best) none

/-- Messages older than `Can.TxMaxAge` are discarded as they are about to be offered (R404). -/
def State.canOffer : Nat → Nat → State → Option CanEntry × State
  | 0, _, s => (none, s)
  | k + 1, ch, s =>
    match s.canBest ch with
    | none => (none, s)
    | some e =>
      let age := s.get (Reg.canTxMaxAge ch)
      if age ≠ 0 ∧ e.since + age * us < s.now then
        State.canOffer k ch (({ s with canQueue := s.canQueue.erase e } : State).count (Reg.canAgeDrops ch))
      else (some e, s)

/-- CAN_ARBITRATION (R402, R404): a channel offers its first message; when it wins, the message is in transmission. A channel
in listen-only or restricted operation offers nothing. -/
def execCanArbitration (ch : Nat) (won : Bool) (s : State) : Host.Outcome State Fault Refusal :=
  let f := s.get (Reg.canFormats ch).latched
  if ¬ s.canOn ch ∨ s.get (Reg.canEnable ch) = 0 ∨ bitOf f 3 ∨ bitOf f 4 ∨ s.canQueue.any (fun e => e.ch = ch && e.inTx) then .next s
  else
    let r := State.canOffer (s.canQueue.length + 1) ch (s.canIntegrated ch)
    match r.1 with
    | some e =>
      .next (if won then { r.2 with canQueue := r.2.canQueue.map (fun x => if x = e then { x with inTx := true, takenAt := s.now } else x) } else r.2)
    | none => .next r.2

/-- A channel that was disabled leaves its bus with the message in transmission (R393). -/
def State.canQuit (s : State) (ch : Nat) : State := if s.get (Reg.canEnable ch) = 0 then s.canEnter ch 3 else s

/-- CAN_TX_DONE (R393, R402): the message in transmission is sent and acknowledged; a channel that was disabled leaves its
bus. -/
def execCanTxDone (ch : Nat) (s : State) : Host.Outcome State Fault Refusal :=
  match s.canQueue.find? (fun e => e.ch == ch && e.inTx) with
  | some e =>
    if s.canOn ch then
      let s := (({ s with canQueue := s.canQueue.erase e } : State).count (Reg.canTxMessages ch)).canCounts ch (s.canTec ch - 1) (s.canRec ch)
      let s := match e.cyc with
        | some c => s.count (Reg.cycSent c)
        | none => s
      .next (s.canQuit ch)
    else .next s
  | none => .next s

/-- CAN_ERROR (R393): the controller detects an error as transmitter or receiver; `severe` is a dominant bit after a receiver's
error flag. The message in transmission is offered again, unless the channel was disabled and leaves its bus (log entry 178). -/
def execCanError (ch : Nat) (transmitter severe : Bool) (s : State) : Host.Outcome State Fault Refusal :=
  if s.canOn ch then
    let tec := if transmitter then min (s.canTec ch + 8) 0xFFFF else s.canTec ch
    let rec' := if transmitter then s.canRec ch else min (s.canRec ch + (if severe then 8 else 1)) 0xFFFF
    .next (({ s with canQueue := s.canQueue.map (fun e => if e.ch = ch then { e with inTx := false } else e) } : State).count
      (Reg.canErrors ch) |>.canCounts ch tec rec' |>.canQuit ch)
  else .next s

/-- CAN_BUS_OFF (R393): a transmit error count above 255 takes the controller off the bus; its queue stays. -/
def execCanBusOff (ch : Nat) (s : State) : Host.Outcome State Fault Refusal :=
  if s.canOn ch ∧ 255 < s.canTec ch then
    let s : State := { s with canQueue := s.canQueue.map (fun e => if e.ch = ch then { e with inTx := false } else e) }
    .next (((s.canEnter ch 2).count (Reg.canBusOffs ch)).set (Reg.canRecovering ch) (flag (bitOf (s.get (Reg.canFormats ch).latched) 5)))
  else .next s

/-- CAN_RECOVER (R393): starts bus-off recovery. -/
def execCanRecover (ctx : Ctx) (ch value : Nat) (s : State) : Host.Outcome State Fault Refusal :=
  .next (s.cmdWrite ctx (0x2C10 + ch) 0x0C (ch < 16) false (need (s.canState ch = 2) 0x08000022 :: onlyOne value) (fun s =>
    s.set (Reg.canRecovering ch) 1))

/-- CAN_BUSOFF_RECOVERY (R393): 128 occurrences of 11 recessive bits end a recovery that was started. -/
def execCanBusoffRecovery (ch : Nat) (s : State) : Host.Outcome State Fault Refusal :=
  if ch < 16 ∧ s.busOn ∧ s.canState ch = 2 ∧ s.get (Reg.canRecovering ch) = 1 then
    .next ((s.canCounts ch 0 0).set (Reg.canRecovering ch) 0)
  else .next s

/-- CAN_ENABLE (R393): 1 makes a channel that is off integrate with its boundary settings; 0 lets it complete the message in
transmission and leave its bus. -/
def execCanEnable (ctx : Ctx) (ch value : Nat) (s : State) : Host.Outcome State Fault Refusal :=
  .next (s.rwWrite ctx (0x2C10 + ch) 1 (ch < 16) false [need (value ≤ 1) 0x06090030] (fun s =>
    let was := s.get (Reg.canEnable ch)
    let s := s.set (Reg.canEnable ch) value
    if was = value then s
    else if value = 0 then
      if s.canState ch < 2 ∧ s.canQueue.any (fun e => e.ch = ch && e.inTx) then s
      else s.sets [(Reg.canStatus ch, 3), (Reg.canRecovering ch, 0)]
    else
      let s := [Reg.canFormats ch, Reg.canNominalRate ch, Reg.canDataRate ch, Reg.canXlDataRate ch, Reg.canSamplePoints ch,
        Reg.canTransceiver ch].foldl (fun s r => s.set r.latched (s.get r)) s
      s.sets [(Reg.canStatus ch, 4 + flag (bitOf (s.get (Reg.canFormats ch)) 4) * 8), (Reg.canErrorCounters ch, 0),
        (Reg.canRecovering ch, 0)]))

/-- CAN_CLEAR (R393, R124): clears every counter of the channel. -/
def execCanClear (ctx : Ctx) (ch value : Nat) (s : State) : Host.Outcome State Fault Refusal :=
  .next (s.cmdWrite ctx (0x2C10 + ch) 0x30 (ch < 16) false (onlyOne value) (fun s => s.clearRange .can ch 0x20 0x28))

/-! ## LIN channels (R394, R395, R408) -/

/-- A LIN channel runs, and in which role: true for a master (R395). -/
def State.linOn (s : State) (l : Nat) : Bool := l < 8 && s.busOn && s.get (Reg.linEnable l) = 1
def State.linMaster (s : State) (l : Nat) : Bool := s.get (Reg.linRole l).latched = 1

/-- The header in progress on a master channel ends, and the next instance follows (R408). -/
def State.linNext (s : State) (l : Nat) : State :=
  match s.linQueue.find? (fun e => e.l == l && e.sent) with
  | some e => State.linPump s.linQueue.length l { s with linQueue := s.linQueue.erase e }
  | none => s

/-- The protected identifier: bits 5–0 the identifier, bit 6 the parity of its bits 0, 1, 2 and 4, bit 7 the inverted parity of bits 1,
3, 4 and 5 (ISO 17987; log entry 180). -/
def linProtected (id : Nat) : Nat :=
  id % 64 + 64 * ((flag (bitOf id 0) + flag (bitOf id 1) + flag (bitOf id 2) + flag (bitOf id 4)) % 2) +
  128 * ((flag (bitOf id 1) + flag (bitOf id 3) + flag (bitOf id 4) + flag (bitOf id 5) + 1) % 2)

/-- The inverted sum with carry of bytes (ISO 17987; log entry 180). -/
def linSum (l : List Nat) : Nat := 255 - l.foldl (fun a b => if a + b < 256 then a + b else a + b - 255) 0

/-- The checksum of a response: the classic one, over the data, for identifiers from 60 on and those of `Lin.ClassicIds`, and else the
enhanced one, over the protected identifier as well (R394). -/
def State.linChecksum (s : State) (l id : Nat) (data : List Byte) : Nat :=
  let d := data.map BitVec.toNat
  linSum (if 60 ≤ id ∨ bitOf (s.get (Reg.linClassicIds l)) id then d else linProtected id :: d)

/-- LIN_RESPONSE_RECEIVE (R392, R394, R408): a response with a good checksum is routed with source code 16 + l; a bad one is counted. -/
def execLinResponseReceive (l id : Nat) (data : List Byte) (e : LinEnd) (s : State) : Host.Outcome State Fault Refusal :=
  if ¬ s.linOn l then .next s
  else if e.check ≠ s.linChecksum l (id % 64) (data.take 8) then .next ((s.count (Reg.linChecksumErrors l)).linNext l)
  else
    let z := ((s.count (Reg.linRxMessages l)).linNext l).busStamp e.age
    .next (if z.2.routing then z.2.route (16 + l) 0 0 { fmt := 3, id := id % 64, data := data.take 8 } z.1 else z.2)

/-- LIN_RESPONSE_TIMEOUT (R394, R395): a header sent as master gets no complete response. -/
def execLinResponseTimeout (l : Nat) (s : State) : Host.Outcome State Fault Refusal :=
  if s.linOn l ∧ s.linQueue.any (fun e => e.l = l && e.sent) then .next ((s.count (Reg.linNoResponse l)).linNext l) else .next s

/-- LIN_CLEAR (R395, R124): clears every counter of the channel. -/
def execLinClear (ctx : Ctx) (l value : Nat) (s : State) : Host.Outcome State Fault Refusal :=
  .next (s.cmdWrite ctx (0x2C20 + l) 0x30 (l < 8) false (onlyOne value) (fun s => s.clearRange .lin l 0x20 0x24))

/-- LIN_SEND_WAKE (R395): drives a dominant wake-up signal for 1 ms. -/
def execLinSendWake (ctx : Ctx) (l value : Nat) (s : State) : Host.Outcome State Fault Refusal :=
  .next (s.cmdWrite ctx (0x2C20 + l) 6 (l < 8) false (onlyOne value) (fun s => s.set (Reg.linWakeUntil l) (s.now + ms)))

/-! ## Cyclic entries (R405 to R408, R488, R491) -/

/-- What a cyclic entry does at a release, by the state of its group (R488, R491). -/
inductive CycTurn where
  | send (data : List Byte) | slip | nothing
deriving DecidableEq, Repr

/-- The data an entry releases, if any: as it stood before a write of the same Pilot cycle (R407). -/
def State.cycTurn (s : State) (e : Nat) : CycTurn :=
  let n := s.cycLength e
  match s.get (Reg.cgState (s.get (Reg.cycGroup e))) with
  | 2 => .slip
  | 3 => .slip
  | 4 => .nothing
  | 6 => match s.get (Reg.cysSafeMode e) with
    | 1 => .send ((s.blob (Reg.cysSafeData e) (List.replicate 64 0)).take n)
    | 2 => .send ((s.cycBefore e).take n)
    | _ => .nothing
  | _ => .send ((s.cycBefore e).take n)

/-- The user data with its authenticator, where the entry is authenticated (R405, R406). -/
def State.cycSeal (s : State) (e : Nat) (d : List Byte) : Option (List Byte) × State :=
  let p := s.get (Reg.cycParams e)
  if bitOf p 29 then s.fvGenerate (field p 28 18) d else (some d, s)

/-- The message of an entry (R405). -/
def State.cycMsg (s : State) (e : Nat) (d : List Byte) : BusMsg :=
  let k := s.get (Reg.cycKey e)
  { fmt := field k 63 62, ext := bitOf k 61, id := field k 60 32, vcid := field k 31 24, sdt := field k 23 16,
    brs := bitOf (s.get (Reg.cycParams e)) 31, data := d }

/-- An instance enters the queue of its target; an unsent one of the same entry is replaced (R406). -/
def State.cycQueue (s : State) (e : Nat) (d : List Byte) : State :=
  let t := s.get (Reg.cycTarget e)
  let m := s.cycMsg e d
  if t < 16 then
    let old := s.canQueue.filter (fun x => x.cyc = some e && !x.inTx)
    let s := if old.isEmpty then s else s.count (Reg.cycSlips e)
    ({ s with canQueue := s.canQueue.filter (fun x => !(x.cyc = some e && !x.inTx)) } : State).canSend t m (some e)
  else if t < 24 ∧ s.linOn (t - 16) ∧ s.linMaster (t - 16) then
    s.linSend { l := t - 16, cyc := e, id := m.id % 64, publish := bitOf (s.get (Reg.cycParams e)) 30, data := d }
  else s

/-- The latest release instant of an entry at or before the present clock of its domain, in ns (R406). -/
def State.cycInstant (s : State) (e : Nat) : Nat :=
  let p := s.get (Reg.cycPeriod e) * 1000
  let o := s.get (Reg.cycOffset e) * 1000
  let t := s.timeNs (s.get (Reg.cycDomain e))
  if t < o then 0 else (t - o) / p * p + o

/-- A release instant of an entry has come that it has not served yet (R406). -/
def State.cycDue (s : State) (e : Nat) : Bool :=
  let d := s.get (Reg.cycDomain e)
  e < 128 && s.routing && s.get (Reg.cycTarget e) ≠ 0xFF && s.get (Reg.cycPeriod e) ≠ 0 && s.get (Reg.domEnable d) = 1 &&
  s.get (Reg.cycOffset e) * 1000 ≤ s.timeNs d && s.get (Reg.cycSeen e) ≤ s.cycInstant e

/-- A due entry of the same target releases before another: at an earlier instant, or at the same one with a lower number (R407). -/
def State.cycAhead (s : State) (a b : Nat) : Bool :=
  s.cycDue a && s.get (Reg.cycTarget a) = s.get (Reg.cycTarget b) && s.get (Reg.cycDomain a) = s.get (Reg.cycDomain b) &&
  (s.cycInstant a < s.cycInstant b || (s.cycInstant a = s.cycInstant b && Nat.blt a b))

/-- CYCLIC_RELEASE (R406, R407, R488): a due entry releases an instance, skips it, or releases nothing. -/
def execCyclicRelease (e : Nat) (s : State) : Host.Outcome State Fault Refusal :=
  if s.cycDue e ∧ ¬ (List.range 128).any (fun a => s.cycAhead a e) then
    let s := s.set (Reg.cycSeen e) (s.timeNs (s.get (Reg.cycDomain e)) + 1)
    match s.cycTurn e with
    | .slip => .next (s.count (Reg.cycSlips e))
    | .nothing => .next s
    | .send d =>
      let r := s.cycSeal e d
      match r.1 with
      | some b => .next (r.2.cycQueue e b)
      | none => .next r.2
  else .next s

/-- LIN_HEADER_RECEIVE (R394, R408): a slave channel answers a header with the data that the entry of its identifier holds. -/
def execLinHeaderReceive (l id : Nat) (s : State) : Host.Outcome State Fault Refusal :=
  if ¬ s.linOn l ∨ s.linMaster l ∨ ¬ s.routing then .next s
  else match (List.range 128).find? (fun e => s.get (Reg.cycTarget e) = 16 + l && bitOf (s.get (Reg.cycParams e)) 30 &&
      field (s.get (Reg.cycKey e)) 37 32 = id) with
    | none => .next s
    | some e => match s.cycTurn e with
      | .send d =>
        let r := s.cycSeal e d
        match r.1 with
        | some b => .next (((r.2.setBlob (Reg.linResp l) b).count (Reg.linTxMessages l)).count (Reg.cycSent e))
        | none => .next r.2
      | _ => .next s

/-- CYC_DATA_WRITE (R407, R484, R491): a dictionary write replaces the held data when claim arbitration accepts it; a yielded
group takes the writes of its local clusters. -/
def execCycDataWrite (ctx : Ctx) (e : Nat) (data : List Byte) (s : State) : Host.Outcome State Fault Refusal :=
  let g := s.get (Reg.cycGroup e)
  .next (s.rwWrite ctx (0x2C80 + e) 7 (e < 128) false
    [need (2048 ≤ data.length) 0x06070013, need (data.length ≤ 2048) 0x06070012,
     need (s.claimAccepts ctx g || (s.get (Reg.cgState g) = 4 && (clusterOf ctx).isSome)) 0x08000021]
    (fun s => s.cycUpdate e (s.cycWritten e data)))

/-! ## Unpacking (R414, R415, R417) -/

/-- One ACF message of a payload: none for a type that is skipped (R414, R415). -/
def acfParse (b : List Byte) (type xlType : Nat) : Option (Nat × BusMsg) :=
  let c := beAt b 2 1
  let body := fun (off : Nat) => (b.drop off).take (b.length - off - c / 64)
  let can := fun (off : Nat) =>
    let ext := bitOf c 3
    let id := beAt b off 4 % 2 ^ 29
    some (beAt b 3 1 % 32, ({ fmt := flag (bitOf c 1), ext := ext, id := if ext then id else id % 2048 * 2 ^ 18, brs := bitOf c 2,
                              esi := bitOf c 0, data := body (off + 4) } : BusMsg))
  if type = 1 ∧ 16 ≤ b.length ∧ ¬ bitOf c 4 then can 12
  else if type = 2 ∧ 8 ≤ b.length ∧ ¬ bitOf c 4 then can 4
  else if type = 3 ∧ 12 ≤ b.length then some (c % 32, { fmt := 3, id := beAt b 3 1 % 64, data := body 12 })
  else if type = xlType ∧ 20 ≤ b.length then
    some (c % 32, { fmt := 2, id := beAt b 6 2 % 2048 * 2 ^ 18, vcid := beAt b 4 1, sdt := beAt b 3 1, sec := bitOf c 5,
                    acceptance := beAt b 8 4, data := body 20 })
  else none

/-- The messages of a payload, one after another: a stated length beyond the payload ends the unpacking (R414). -/
def State.acfWalk : Nat → Nat → List Byte → State → State
  | 0, _, _, s => s
  | k + 1, st, b, s =>
    if b = [] then s
    else
      let w := beAt b 0 2
      let n := w % 512 * 4
      if b.length < 4 ∨ n < 4 ∨ b.length < n then s.count (Reg.acfMalformed st)
      else match acfParse (b.take n) (w / 512) (s.get Reg.gwAcfXlType) with
        | some (bus, m) => State.acfWalk k st (b.drop n) ((s.count (Reg.acfMessages st)).route 24 st bus m s.stampNow)
        | none => State.acfWalk k st (b.drop n) (s.count (Reg.acfMalformed st))

/-- A frame at the inbound queue (R417): its stream is found by its identifier, its sequence checked, its messages routed. -/
def State.acfTake (s : State) (b : List Byte) : State :=
  let off := if beAt b 12 2 = 0x8100 then 18 else 14
  let p := b.drop off
  let tscf := beAt p 0 1 = 0x05
  let head := if tscf then 24 else 12
  if beAt b (off - 2) 2 ≠ 0x22F0 ∨ ¬ (tscf ∨ beAt p 0 1 = 0x82) ∨ p.length < head then s.count Reg.gwUnknownStreams
  else match (List.range 32).find? (fun st => s.get (Reg.acfDirection st) = 2 && s.get (Reg.acfStreamId st) = beAt p 4 8) with
    | none => s.count Reg.gwUnknownStreams
    | some st =>
      let seq := if tscf then beAt p 2 1 else beAt p 3 1
      let last := s.get (Reg.acfSeqRx st)
      let s := if last ≠ 0 ∧ seq ≠ last % 256 then s.count (Reg.acfSeqErrors st) else s
      let s := (s.set (Reg.acfSeqRx st) (seq + 1)).count (Reg.acfFrames st)
      let n := if tscf then beAt p 20 2 else beAt p 1 2 % 2048
      State.acfWalk p.length st ((p.drop head).take n) s

/-- ACF_UNPACK (R384, R417, R420): the frame at the head of the inbound queue is taken and unpacked; it waits while the
Chimney link retrains, and is dropped and counted while the link is down. -/
def execAcfUnpack (s : State) : Host.Outcome State Fault Refusal :=
  if s.forwarding ∧ s.get Reg.chmState ≠ 2 ∧ s.get Reg.gwInboundQueue ≠ 0xFF then
    match s.hostHead (s.get Reg.gwInboundQueue) with
    | some (e, b) => .next (if s.get Reg.chmState = 3 then (s.takeHost e).count Reg.chmFramesLost else (s.takeHost e).acfTake b)
    | none => .next (s.hostPass (s.get Reg.gwInboundQueue))
  else .next s

/-- ACF_MAX_WAIT_EXPIRE (R416): `Acf.MaxWait` since the first packed message closes and sends the frame. -/
def execAcfMaxWaitExpire (stream : Nat) (s : State) : Host.Outcome State Fault Refusal :=
  match s.acfPacks.find? (fun p => p.stream == stream) with
  | some p => if p.since + s.get (Reg.acfMaxWait stream) * 1000 ≤ s.now ∧ s.running then .next (s.acfSend stream) else .next s
  | none => .next s

/-- ACF_CLEAR (R417, R124): clears every counter of the stream. -/
def execAcfClear (ctx : Ctx) (stream value : Nat) (s : State) : Host.Outcome State Fault Refusal :=
  .next (s.cmdWrite ctx (0x2C40 + stream) 0x30 (stream < 32) false (onlyOne value) (fun s => s.clearRange .acf stream 0x20 0x23))

/-- GW_KEY_LOAD (R418): a write to `Gw.KeySlot` starts a load of a gateway key from the vault. -/
def execGwKeyLoad (ctx : Ctx) (k value : Nat) (s : State) : Host.Outcome State Fault Refusal :=
  .next (s.rwWrite ctx 0x2C00 (0x10 + k) (k < 16) false [fits 2 value] (fun s =>
    let s := s.set (Reg.gwKeySlot k) value
    if s.running then s.vaultSubmit (.gwKey k value) else s.set (Reg.gwKeyOutcome k) outMode))

end Sys2Proof.Machine
end

