-- ==== Sys2Proof/Machine/Inlet.lean ====
section
/-! DEFINITION. The charging-inlet front end, the contactor drivers and the energy totaliser (R421 to R437). -/
namespace Sys2Proof.Machine

/-- The front end is present and its rules run: in every mode in which the Wick die is up. -/
def State.inletOn (s : State) : Bool := s.fuses.variant.hasInlet && s.busOn

/-! ## Control pilot and proximity (R422 to R426) -/

/-- The state of a level in mV (R422): F stands for a steady level alone. -/
def pilotClass (mv : Int) (oscillating : Bool) : Nat :=
  if 10500 < mv then 1 else if 7500 < mv then 2 else if 4500 < mv then 3 else if 1500 < mv then 4
  else if -1500 ≤ mv then 5 else if mv < -10500 ∧ ¬ oscillating then 6 else 0

/-- A level still belongs to the state held when it lies within 0.3 V of its range (R422). -/
def pilotHeld (st : Nat) (mv : Int) (oscillating : Bool) : Bool :=
  match st with
  | 1 => 10200 < mv
  | 2 => 7200 < mv && mv ≤ 10800
  | 3 => 4200 < mv && mv ≤ 7800
  | 4 => 1200 < mv && mv ≤ 4800
  | 5 => -1800 ≤ mv && mv ≤ 1800
  | 6 => mv < -10200 && !oscillating
  | _ => false

/-- CP_STATE_CHANGE (R422, R423, R430): a level in mV, alike for `count` periods while the pilot oscillates and for `count`
microseconds while it is steady, is accepted as a new state after three periods or 3 ms. -/
def execCpStateChange (level : Int) (count : Nat) (s : State) : Host.Outcome State Fault Refusal :=
  let osc := bitOf (s.get Reg.cpStatus) 0
  let st := s.get Reg.cpState
  let n := pilotClass level osc
  if s.inletOn ∧ (if osc then 3 ≤ count else 3000 ≤ count) ∧ n ≠ st ∧ ¬ pilotHeld st level osc then
    .next (((s.set Reg.cpState n).pulse 0x11 0).cdSettle)
  else .next s

/-- CP_PERIOD_MEASURE (R423): frequency in Hz, duty in 0.05 % and negative plateau in mV of a period, or no oscillation. -/
def execCpPeriodMeasure (oscillating : Bool) (frequency duty : Nat) (negative : Int) (s : State) : Host.Outcome State Fault Refusal :=
  if s.inletOn then
    let inBand := 950 ≤ frequency && frequency ≤ 1050
    let st := setBit (setBit (setBit (s.get Reg.cpStatus) 0 oscillating) 1 (oscillating && !inBand)) 2 (oscillating && decide (-10500 < negative))
    .next (s.sets [(Reg.cpStatus, st), (Reg.cpFrequency, if oscillating then frequency % 65536 else 0),
      (Reg.cpDuty, if oscillating && inBand then min duty 2000 else 0)])
  else .next s

/-- PP_MEASURE (R424): the resistance at PP_IN. -/
def execPpMeasure (ohms : Nat) (s : State) : Host.Outcome State Fault Refusal :=
  .next (if s.fuses.variant.hasInlet && s.running then s.set Reg.ppOhms (if 10000 < ohms then 0xFFFF else ohms) else s)

/-- CP_S2_WRITE (R426, R484): closes or opens the state-C switch, when claim arbitration accepts the write. -/
def execCpS2Write (ctx : Ctx) (value : Nat) (s : State) : Host.Outcome State Fault Refusal :=
  .next (s.rwWrite ctx 0x2D00 5 s.fuses.variant.hasInlet false
    [need (value ≤ 1) 0x06090030, need (s.claimAccepts ctx (s.get (Reg.outGroup 20))) 0x08000021]
    (fun s => State.twinChange s ((s.set Reg.cpS2 value).outputWrite 20 value)))

/-! ## Inlet temperature (R427) -/

/-- The fixed point in which logarithms are formed. -/
abbrev lnOne : Nat := 2 ^ 64

/-- Terms of the series of ln((1 + y) / (1 − y)) / 2 from an odd power on. -/
def lnSeries : Nat → Nat → Nat → Nat → Nat
  | 0, _, _, _ => 0
  | k + 1, i, p, y2 => p / (2 * i + 1) + lnSeries k (i + 1) (p * y2 / lnOne) y2

/-- The natural logarithm of a ratio of at least 1 and below 2, in fixed point. -/
def lnSmall (n d : Nat) : Nat :=
  let y := (n - d) * lnOne / (n + d)
  2 * lnSeries 24 0 y (y * y / lnOne)

/-- The natural logarithm of a ratio of at least 1, in fixed point. -/
def lnUp (n d : Nat) : Nat :=
  let e := Nat.log2 (n / d)
  e * lnSmall 2 1 + lnSmall n (d * 2 ^ e)

/-- The natural logarithm of a ratio, in fixed point. -/
def lnRatio (n d : Nat) : Int := if d ≤ n then (lnUp n d : Nat) else -(lnUp d n : Nat)

/-- The temperature in 0.1 °C of a thermistor by the beta equation, to the nearest value and within INTEGER16 (R427; log
entry 30). -/
def betaTemp (ohms nominal beta : Nat) : Int :=
  let den : Int := 20 * lnOne * beta + 5963 * lnRatio ohms nominal
  let num : Int := 10 * 5963 * lnOne * beta
  if den ≤ 0 then 32767
  else min ((4 * num - 5463 * 2 * den + 2 * den) / (4 * den)) 32767

/-- INLET_TEMP_SAMPLE (R427): an inlet temperature is converted; an open input gives none. A temperature that reaches the trip
limit trips: a report, a pulse, and the load path opens. A thermistor without resistance or constants gives a free value. -/
def execInletTempSample (t : Nat) (ohms : Option Nat) (s : State) : Host.Outcome State Fault Refusal :=
  if t < 4 ∧ s.inletOn then
    let nominal := s.get (Reg.tinNominal t)
    let beta := s.get (Reg.tinBeta t)
    let r : Int × State := match ohms with
      | none => (-32768, s)
      | some o =>
        if o = 0 ∨ nominal = 0 ∨ beta = 0 then let d := s.draw 16; (toSigned 16 d.1, d.2) else (betaTemp o nominal beta, s)
    let s := r.2.set (Reg.tinTemp t) (ofSigned 16 r.1)
    let limit := toSigned 16 (s.get (Reg.tinTripLimit t))
    let hot : Bool := ohms.isSome && limit ≤ r.1
    let was := s.get (Reg.tinTripped t)
    let s := s.set (Reg.tinTripped t) (flag hot)
    if hot ∧ was = 0 then
      let s := (s.reportObj 11 13 (0x2D04 + t) 0x03 t).pulse 0x12 t
      .next (if s.get (Reg.tinTripOpen t) = 1 then
          [0, 1, 2, 3].foldl (fun s k => if s.get (Reg.cdRole k) = 1 then s.cdOpen k else s) s
        else s)
    else .next s
  else .next s

/-! ## Contactor drivers (R428 to R431) -/

/-- CD_COMMAND (R428, R429, R484): closes a driver or asks it to open, when claim arbitration accepts the write. -/
def execCdCommand (ctx : Ctx) (k value : Nat) (s : State) : Host.Outcome State Fault Refusal :=
  .next (s.rwWrite ctx (0x2D10 + k) 1 (s.fuses.variant.hasInlet && k < 4) false
    [need (value ≤ 1) 0x06090030, need (s.claimAccepts ctx (s.get (Reg.outGroup (16 + k)))) 0x08000021]
    (fun s => State.twinChange s ((s.set (Reg.cdCommand k) value).outputWrite (16 + k) value)))

/-- RAMP_WAIT_EXPIRE (R429): the ramp wait of a driver passes and it is forced open. -/
def execRampWaitExpire (k : Nat) (s : State) : Host.Outcome State Fault Refusal :=
  if k < 4 ∧ s.get (Reg.cdState k) = 2 ∧ s.get (Reg.cdOpenAt k) ≤ s.now then
    .next (State.twinChange s ((s.cdOpenNow k).count (Reg.cdForcedOpens k) 32))
  else .next s

/-- CD_OVERCURRENT (R428, R504): a driver that is on and carries more than 600 mA switches off, its fault latched and reported. -/
def execCdOvercurrent (k current : Nat) (s : State) : Host.Outcome State Fault Refusal :=
  if k < 4 ∧ (s.get (Reg.cdState k) = 1 ∨ s.get (Reg.cdState k) = 2) ∧ 600 < current then
    let t := (s.cdOpenNow k).sets [(Reg.cdState k, 3), (Reg.cdFaults k, 2)]
    .next (State.twinChange s (t.reportObj 11 13 (0x2D10 + k) 0x06 k))
  else .next s

/-- CD_OPEN_LOAD (R428): a driver that is on and carries less than 8 mA for 10 ms sets its open-load bit. -/
def execCdOpenLoad (k current micros : Nat) (s : State) : Host.Outcome State Fault Refusal :=
  if k < 4 ∧ (s.get (Reg.cdState k) = 1 ∨ s.get (Reg.cdState k) = 2) ∧ current < 8 ∧ 10000 ≤ micros then
    .next (s.set (Reg.cdFaults k) (setBit (s.get (Reg.cdFaults k)) 0 true))
  else .next s

/-- CD_CLEAR_FAULT (R431): clears the overcurrent bit; a driver in its fault state is open again. -/
def execCdClearFault (ctx : Ctx) (k value : Nat) (s : State) : Host.Outcome State Fault Refusal :=
  .next (s.cmdWrite ctx (0x2D10 + k) 8 (s.fuses.variant.hasInlet && k < 4) false (onlyOne value) (fun s =>
    let s := s.set (Reg.cdFaults k) (setBit (s.get (Reg.cdFaults k)) 1 false)
    if s.get (Reg.cdState k) = 3 then s.set (Reg.cdState k) 0 else s))

/-! ## The energy totaliser (R434 to R437) -/

/-- Units of the exact totals in 1 mWh: 10 mV × 1 mA × 1/16 ns is 6.25 × 10^-16 J. -/
abbrev unitsPerMwh : Nat := 5760000000000000

/-- A flag of R436 is set in the open session. -/
def State.sessionFlag (s : State) (b : Nat) : State :=
  if s.get Reg.msSessionState = 1 then
    { s with sessions := s.sessions.map (fun x => if x.number = s.get Reg.msSessionNumber then { x with flags := setBit x.flags b true } else x) }
  else s

/-- A message is a sample of the totaliser (R434). -/
def State.isSample (s : State) (ch : Nat) (m : BusMsg) : Bool :=
  s.fuses.variant.hasInlet && s.get Reg.totChannel = ch && !m.remote &&
  s.get Reg.totIdentifier = m.fmt * 2 ^ 62 + flag m.ext * 2 ^ 61 + m.id * 2 ^ 32

/-- Energy added to a total: the exact units, and the value reported in mWh (R435). -/
def State.addEnergy (s : State) (units total : Reg) (n : Nat) : State :=
  let u := s.get units + n
  s.sets [(units, u), (total, u / unitsPerMwh % 2 ^ 64)]

/-- A sample of voltage and current in its raw bytes (R434, R435): the interval since the previous one, by their receive stamps, adds
energy, or is a gap; a low current may end the wait of a driver (R429). -/
def State.takeSample (s : State) (d : List Byte) (stamp : List Nat) : State :=
  if d.length < 8 then s
  else
    let v := beAt d 0 4
    let i := toSigned 32 (beAt d 4 4)
    let t := stamp.getD 4 0
    let last := s.get Reg.totStamp
    let dt := t - (last - 1)
    let s :=
      if last = 0 then s
      else
        let s := if s.get Reg.totResumed = 1 then (s.set Reg.totResumed 0).sessionFlag 4 else s
        if s.get Reg.totSampleTimeout * 16000 < dt then (s.count Reg.totGaps 32).sessionFlag 1
        else if 0 < i then s.addEnergy Reg.totImportUnits Reg.totImportMwh (v * i.natAbs * dt)
        else s.addEnergy Reg.totExportUnits Reg.totExportMwh (v * i.natAbs * dt)
    (s.sets [(Reg.totVoltage, v), (Reg.totCurrent, beAt d 4 4), (Reg.totStamp, t + 1), (Reg.totSampleAt, s.now + 1)]).cdSettle

/-- A sample message is verified, when a row is named, and taken; one that fails is ignored and counted (R434). -/
def State.sampleMessage (s : State) (m : BusMsg) (stamp : List Nat) : State :=
  let row := s.get Reg.totFvRow
  if row = 0xFFFF then s.takeSample m.data stamp
  else
    let r := s.fvVerify row m.data
    match r.1 with
    | some d => r.2.takeSample d stamp
    | none => (r.2.count Reg.totAuthFailures 32).sessionFlag 2

/-- TOTALISER_SAMPLE (R434, R435): the totaliser's part in the reception of a message on a CAN channel. -/
def execTotaliserSample (ch : Nat) (m : BusHeard) (s : State) : Host.Outcome State Fault Refusal :=
  if s.canTakes ch m.msg && s.isSample ch m.msg then
    let z := s.busStamp m.age
    .next (z.2.sampleMessage m.msg z.1)
  else .next s

end Sys2Proof.Machine
end

