-- ==== Sys2Proof/Machine/Seal.lean ====
section
/-! DEFINITION. The Meter Seal (R438 to R449): sessions, countersigning, seal closure, records and export. -/
namespace Sys2Proof.Machine

/-! ## The ring (R446) -/

/-- The lowest unexported sequence held, or that of the next record (R446, R449). -/
def State.oldestUnexported (s : State) : Nat :=
  match s.sealRecords.find? (fun r => s.get Reg.msAcked ≤ r.seq) with
  | some r => r.seq
  | none => s.get Reg.msNextSequence

/-- Positions left before the sector of the oldest unexported record (R446). -/
def State.sealRoom (s : State) : Nat := s.oldestUnexported / 128 * 128 + 4096 - s.get Reg.msNextSequence

/-- The positions kept free for seal events (R446). -/
abbrev sealReserve : Nat := 128

/-! ## Records (R444, R445) -/

/-- The key of slot 14, which signs. -/
def State.sealKey (s : State) : Option VaultSlot := s.keyAt 14

/-- `Ms.SealPublic` (R441, R449). -/
def State.sealPublic (s : State) : List Byte :=
  match s.sealKey with
  | some k => padTo 97 k.pub
  | none => List.replicate 97 0

/-- The latest signed record. -/
def State.lastSigned (s : State) : Option SealRecord := (s.sealRecords.reverse).find? (fun r => !r.voided)

/-- The import and export totals as records carry them. -/
def State.totals (s : State) : List Byte := beBytes 8 (s.get Reg.totImportMwh) ++ beBytes 8 (s.get Reg.totExportMwh)

/-- Bytes 0 to 415 of a record. -/
def State.recordHead (s : State) (kind flags time qualifier session : Nat) (payload : List Byte) : List Byte :=
  beBytes 4 0x4D535231 ++ beBytes 1 1 ++ beBytes 1 kind ++ beBytes 2 flags ++ beBytes 4 (s.get Reg.msNextSequence) ++
  beBytes 4 (s.get Reg.msEventCounter) ++ beBytes 8 time ++ beBytes 1 qualifier ++
  beBytes 3 (min (s.get Reg.msRefused) 0xFFFFFF) ++ beBytes 4 session ++
  (match s.lastSigned with | some r => digest 384 r.bytes | none => List.replicate 48 0) ++ padTo 336 payload

/-- A record is signed under the seal key, written at the next position and read back; a sector is erased as its first record
is written (R439, R444, R446). -/
def State.sealWrite (s : State) (r : SealRecord) (time qualifier : Nat) (payload : List Byte) : State :=
  let head := s.recordHead r.kind r.flags time qualifier r.session payload
  let n := s.random 48
  let sig := padTo 96 (Config.sign 0x11 ((s.sealKey.map (·.key)).getD []) (digest 384 head) n.1)
  let seq := s.get Reg.msNextSequence
  let old := if seq % 128 = 0 then s.sealRecords.filter (fun x => !(x.seq / 128 + 32 = seq / 128)) else s.sealRecords
  ({ n.2 with sealRecords := old ++ [{ r with seq := seq, bytes := head ++ sig }] } : State).sets
    [(Reg.msNextSequence, seq + 1), (Reg.msRefused, 0), (Reg.msRefusedRecorded, 0)]

/-- The time and qualifier of a record made now (R444). -/
def State.sealTime (s : State) : Nat := s.timeNs (s.get Reg.msDomain)
def State.sealQualifier (s : State) : Nat := s.qualifier (s.get Reg.msDomain)

/-- A record made and written now. -/
def State.sealAppend (s : State) (r : SealRecord) (payload : List Byte) : State :=
  s.sealWrite r s.sealTime s.sealQualifier payload

/-- A seal-event record (R445): its code, the object and the path context. -/
def State.sealEvent (s : State) (code idx sub ctx : Nat) : State :=
  if s.sealRoom = 0 then s
  else s.sealAppend { seq := 0, kind := 5, bytes := [] } (beBytes 1 code ++ beBytes 2 idx ++ beBytes 1 sub ++ beBytes 1 ctx)

/-- The event counter rises by 1; at 2^20 the seal is exhausted (R443). -/
def State.sealCount (s : State) (idx sub ctx : Nat) : State :=
  let n := s.get Reg.msEventCounter + 1
  let s := s.set Reg.msEventCounter n
  if n = 2 ^ 20 then (s.sealEvent 4 idx sub ctx).set Reg.msSealState 3 else s

/-- A write to a seal object was refused (R442, R443): it is counted, and recorded when it is the first after another record
and room is left. -/
def State.sealRefused (s : State) (ctx : Ctx) (idx sub : Nat) : State :=
  if s.get Reg.msSealState ≠ 2 then s
  else
    let s := s.sealCount idx sub (ctxBank ctx - 3)
    if s.get Reg.msSealState = 3 then s
    else if s.get Reg.msRefusedRecorded = 1 ∨ s.sealRoom = 0 ∨ ¬ s.running then s.set Reg.msRefused (s.get Reg.msRefused + 1)
    else (s.sealEvent 1 idx sub (ctxBank ctx - 3)).set Reg.msRefusedRecorded 1

/-! ## Session commands (R438) -/

/-- The contract key that a path context names (R433). -/
def State.contractKey (s : State) (ctx : Ctx) : Option VaultSlot := s.keyAt (1016 + s.get (Reg.msContractSlot.of ctx))

/-- The seal key is gone with the life cycle (R441). -/
def State.sealGone (s : State) : Bool := s.get Reg.vltLifeCycle ≥ 3

/-- The checks of a session command in the order of R438: 1 open, 2 countersign, 3 close. -/
def State.sessionChecks (s : State) (ctx : Ctx) (command : Nat) : List (Option Nat) :=
  let isOpen := s.get Reg.msSessionState = 1
  let path := s.get (Reg.msPath.of ctx)
  [need (s.forwarding && !s.sealGone) outMode,
   need (command = 1 || isOpen) 0x40,
   need (command ≠ 1 || !isOpen) 0x41,
   need (s.get Reg.msSealState = 2 || s.get Reg.msSealState = 3) 0x42,
   need (s.get Reg.msSealState ≠ 3) 0x43,
   need (sealReserve < s.sealRoom) 0x44,
   need ((path = 32 || path = 36) && s.get (Reg.msPostSigLength.of ctx) ≤ 200 && s.get (Reg.msSignInputLength.of ctx) ≤ 1024) 0x45,
   need (command = 3 || (s.contractKey ctx).any (fun k => bitOf k.policy 0)) 0x46]

/-- A session command of a path context: refused while its outcome reads BUSY; a check that fails ends it with its code, and a
vault out of service with FAULTED (R304, R438). -/
def State.sessionCommand (s : State) (ctx : Ctx) (command : Nat) (act : State → State) : State :=
  s.cmdWrite ctx 0x2D30 1 s.fuses.variant.hasInlet false [need (s.get (Reg.msOutcome.of ctx) ≠ outBusy) 0x08000022] (fun s =>
    match firstAbort (s.sessionChecks ctx command) with
    | some code => s.set (Reg.msOutcome.of ctx) code
    | none => if s.get Reg.vltState = 2 ∨ s.get Reg.drbgStopped = 1 then s.set (Reg.msOutcome.of ctx) outFaulted else act s)

/-- SESSION_OPEN (R438, R445): a session opens with its open record. -/
def execSessionOpen (ctx : Ctx) (s : State) : Host.Outcome State Fault Refusal :=
  .next (s.sessionCommand ctx 1 (fun s =>
    let n := (s.get Reg.msSessionNumber + 1) % 2 ^ 32
    let slot := s.get (Reg.msContractSlot.of ctx)
    let path := s.get (Reg.msPath.of ctx)
    let reading := s.get (Reg.msPostReadingWh.of ctx)
    let print := padTo 32 (s.blob (Reg.msCertFingerprint.of ctx))
    let x : Session := { number := n, slot := slot, path := path, fingerprint := print,
                         alg := ((s.contractKey ctx).map (·.alg)).getD 0, openReading := reading,
                         openImport := s.get Reg.totImportMwh, lastReading := reading,
                         meter := s.blob (Reg.msPostMeterId.of ctx) }
    let s := { s with sessions := s.sessions ++ [x] }.sealAppend
      { seq := 0, kind := 2, session := n, reading := reading, postTime := s.get (Reg.msPostTime.of ctx), bytes := [] }
      (padTo 40 (s.blob (Reg.msEvseId.of ctx)) ++ beBytes 1 slot ++ beBytes 1 path ++ print ++ beBytes 8 reading ++ s.totals)
    s.sets [(Reg.msSessionNumber, n), (Reg.msSessionState, 1), (Reg.msOutcome.of ctx, outDone)]))

/-- The open session. -/
def State.session (s : State) : Option Session :=
  if s.get Reg.msSessionState = 1 then s.sessions.find? (fun x => x.number == s.get Reg.msSessionNumber) else none

/-- The deviation d of R436 from the post's and the own energy in mWh: truncated towards 0 and saturated. -/
def deviation (post own : Int) : Int :=
  if own = 0 then (if post = 0 then 0 else 32767)
  else max (-32767) (min 32767 (Int.tdiv ((post - own) * 10000) own))

/-- The deviation flags of a countersign (R436): those of the session so far, bit 0 by the limits and bit 3 for a reading below the
previous one. -/
def State.deviationFlags (s : State) (x : Session) (reading : Nat) (post own : Int) : Nat :=
  let far := s.get Reg.totAbsFloor < (post - own).natAbs && s.get Reg.totDeviationLimit < (deviation post own).natAbs
  setBit (setBit x.flags 0 far) 3 (reading < x.lastReading)

/-- COUNTERSIGN (R436, R439): checks and deviation; the record of the reading and the signatures go to the vault. -/
def execCountersign (ctx : Ctx) (s : State) : Host.Outcome State Fault Refusal :=
  .next (s.sessionCommand ctx 2 (fun s =>
    match s.session with
    | none => s
    | some x =>
      let reading := s.get (Reg.msPostReadingWh.of ctx)
      let post : Int := ((reading : Int) - x.openReading) * 1000
      let own : Int := (s.get Reg.totImportMwh : Int) - x.openImport
      let flags := s.deviationFlags x reading post own
      let input := (padTo 1024 (s.blob (Reg.msSignInput.of ctx))).take (s.get (Reg.msSignInputLength.of ctx))
      let meter := s.blob (Reg.msPostMeterId.of ctx)
      let x' := { x with lastReading := reading, meter := meter }
      let j : SealJob := { ctx := ctx, flags := flags, time := s.sealTime, qualifier := s.sealQualifier, session := x.number,
                           slot := 1016 + s.get (Reg.msContractSlot.of ctx), input := input, reading := reading,
                           postTime := s.get (Reg.msPostTime.of ctx),
                           payload := padTo 32 meter ++ beBytes 8 reading ++ beBytes 8 (s.get (Reg.msPostTime.of ctx)) ++ s.totals ++
                             beBytes 2 (ofSigned 16 (deviation post own)) ++ beBytes 1 (s.get (Reg.msContractSlot.of ctx)) ++
                             beBytes 1 (s.get (Reg.msPostSigLength.of ctx)) ++ padTo 64 input ++
                             padTo 200 (s.blob (Reg.msPostSignature.of ctx)) }
      ({ s with sessions := s.sessions.map (fun y => if y.number = x.number then x' else y) } : State).vaultSubmit (.countersign j)))

/-- The latest record is voided (R447): line 7 is overwritten. -/
def State.sealVoid (s : State) : State :=
  match s.sealRecords.reverse with
  | r :: t => { s with sealRecords := (t.reverse) ++ [{ r with voided := true, bytes := r.bytes.take 448 ++ padTo 64 (beBytes 4 0x564F4944) }] }
  | [] => s

/-- The record of a countersign is written; a failed read-back voids it and writes it again at the next position (R439). -/
def State.sealAttempts (j : SealJob) : Nat → State → State
  | 0, s => s
  | k + 1, s =>
    let s := s.sealWrite { seq := 0, kind := 3, session := j.session, flags := j.flags, reading := j.reading, postTime := j.postTime,
                           bytes := [] } j.time j.qualifier j.payload
    State.sealAttempts j k s.sealVoid

/-- What ends a countersign before its record: a seal that was exhausted meanwhile, a seal key that is gone, and a vault without random
numbers (R441, R443, R308). -/
def State.countersignStop (s : State) : Option Nat :=
  if s.get Reg.msSealState ≠ 2 then some 0x43 else if s.sealKey.isNone then some outMode
  else if s.get Reg.drbgStopped = 1 then some outFaulted else none

/-- COUNTERSIGN_DONE (R439): after `fails` read-backs that failed, the record is written and read back, and only then the
countersignature is made and released; after three repetitions the command ends with 0x07. -/
def execCountersignDone (fails : Nat) (s : State) : Host.Outcome State Fault Refusal :=
  match s.vaultRunning with
  | some (.countersign j) =>
    match s.countersignStop with
    | some code => .next ((s.vaultFinish (.countersign j) code).vaultIdle)
    | none =>
    let s := State.sealAttempts j (min fails 4) s
    if 4 ≤ fails then .next (((s.vaultFinish (.countersign j) outFaulted).vaultIdle).reportObj 1 13 0x2D30 0x02)
    else
      let s := s.sealWrite { seq := 0, kind := 3, session := j.session, flags := j.flags, reading := j.reading, postTime := j.postTime,
                             bytes := [] } j.time j.qualifier j.payload
      let s : State := { s with sessions := s.sessions.map (fun y => if y.number = j.session then { y with readings := y.readings + 1 } else y) }
      match s.keyAt j.slot with
      | none => .next ((s.vaultFinish (.countersign j) 0x46).vaultIdle)
      | some k =>
        let r : List Byte × State :=
          if k.alg = 0x13 then (padTo 114 (Config.sign 0x13 k.key j.input []), s)
          else
            let n := s.random (algBytes k.alg)
            (padTo (2 * algBytes k.alg) (Config.sign k.alg k.key (padTo (min (algBytes k.alg) 64) j.input) n.1), n.2)
        let s := (r.2.setBlob (Reg.msCountersignature.of j.ctx) (padTo 132 r.1)).set (Reg.msCountersigLength.of j.ctx) r.1.length
        .next (((s.vaultFinish (.countersign j) outDone).vaultIdle).pulse 0x13 0)
  | _ => .next s

/-- The open session closes with a record of a reason (R445, R447). -/
def State.closeSession (s : State) (reason reading postTime : Nat) : State :=
  match s.session with
  | none => s
  | some x =>
    (s.sealAppend { seq := 0, kind := 4, session := x.number, flags := x.flags, reading := reading, postTime := postTime, reason := reason,
                    bytes := [] } (beBytes 1 reason ++ s.totals ++ beBytes 4 x.readings)).set Reg.msSessionState 0

/-- SESSION_CLOSE (R438, R445): the session closes with its close record. -/
def execSessionClose (ctx : Ctx) (s : State) : Host.Outcome State Fault Refusal :=
  .next (s.sessionCommand ctx 3 (fun s =>
    (s.closeSession (s.get (Reg.msCloseReason.of ctx)) (s.get (Reg.msPostReadingWh.of ctx)) (s.get (Reg.msPostTime.of ctx))).set
      (Reg.msOutcome.of ctx) outDone))

/-! ## Closure (R441) -/

/-- A write to an object of 2D20h or 2D40h by its seal state (R442): refused and counted once the seal is closed, refused during
closure. -/
def State.sealLock (s : State) (ctx : Ctx) (idx sub : Nat) (act : State → State) : State :=
  if ¬ s.answers ctx ∨ ¬ s.fuses.variant.hasInlet then act s
  else if 2 ≤ s.get Reg.msSealState then (s.sealRefused ctx idx sub).refuse ctx 0x06010002
  else if s.get Reg.msSealState = 1 then s.refuse ctx 0x08000022
  else act s

/-- SEAL_CLOSE (R441, R442, R449): in Trim, with a matching confirmation, closure starts. -/
def execSealClose (ctx : Ctx) (value : Nat) (s : State) : Host.Outcome State Fault Refusal :=
  .next (s.sealLock ctx 0x2D40 0x03 (fun s =>
    s.cmdWrite ctx 0x2D40 3 s.fuses.variant.hasInlet false (need (s.mode = .trim) 0x08000022 :: onlyOne value) (fun s =>
      if s.get Reg.msConfirm ≠ s.fuses.serial % 2 ^ 32 then s.set (Reg.msOutcome.of ctx) 0x45
      else if s.sealGone then s.set (Reg.msOutcome.of ctx) outMode
      else (s.set Reg.msSealState 1).vaultSubmit (.sealClose ctx))))

/-- SEAL_CLOSE_DONE (R441): the seal key is generated, the genesis record written, the event counter raised to 1 and the seal
closed. -/
def execSealCloseDone (s : State) : Host.Outcome State Fault Refusal :=
  match s.vaultRunning with
  | some (.sealClose ctx) =>
    if s.get Reg.drbgStopped = 1 then .next ((s.vaultFinish (.sealClose ctx) outFaulted).vaultIdle)
    else
      let k := s.newKey 0x11
      let s := k.2.placeKey { slot := 14, cls := 6, alg := 0x11, policy := 0x4080, generated := true, key := k.1, pub := publicOf 0x11 k.1 }
      let s := s.sets [(Reg.msSealState, 2), (Reg.msEventCounter, 1)]
      let s := s.sealAppend { seq := 0, kind := 1, bytes := [] }
        (s.sealPublic ++ beBytes 2 s.fuses.variant.partCode ++ beBytes 4 (s.fuses.serial % 2 ^ 32))
      .next ((s.vaultFinish (.sealClose ctx) outDone).vaultIdle)
  | _ => .next s

/-! ## Acknowledgement and export (R446, R448) -/

/-- MS_ACKNOWLEDGE (R446): records below the value are exported; a lower value than the last has no effect. -/
def execMsAcknowledge (ctx : Ctx) (value : Nat) (s : State) : Host.Outcome State Fault Refusal :=
  .next (s.cmdWrite ctx 0x2D50 5 s.fuses.variant.hasInlet false [fits 4 value, need (value ≤ s.get Reg.msNextSequence) 0x06090031] (fun s =>
    s.set Reg.msAcked (max value (s.get Reg.msAcked))))

/-- MS_EXPORT (R441, R448): the export of a session starts, or ends at once when the seal key is gone or the ring no longer holds
the session. -/
def execMsExport (ctx : Ctx) (value : Nat) (s : State) : Host.Outcome State Fault Refusal :=
  .next (s.cmdWrite ctx 0x2D50 8 s.fuses.variant.hasInlet false
    [need (s.get Reg.msExportOutcome ≠ outBusy) 0x08000022, fits 4 value] (fun s =>
    if s.sealGone then s.set Reg.msExportOutcome outMode
    else if ¬ s.sealRecords.any (fun r => r.kind = 2 && r.session = value) then s.set Reg.msExportOutcome 0x40
    else s.sets [(Reg.msExportOutcome, outBusy), (Reg.msExportSession, value)]))

/-- The decimal digits of a number. -/
def decimal (n : Nat) : List Byte := asciiBytes (String.ofList (Nat.toDigits 10 n))

/-- The hexadecimal digits of bytes. -/
def hexText (b : List Byte) : List Byte :=
  asciiBytes (String.ofList (b.flatMap (fun x => [Nat.digitChar (x.toNat / 16), Nat.digitChar (x.toNat % 16)])))

/-- A reading in kWh to three decimals. -/
def kwhText (wh : Nat) : List Byte :=
  decimal (wh / 1000) ++ asciiBytes "." ++ [BitVec.ofNat 8 (48 + wh / 100 % 10), BitVec.ofNat 8 (48 + wh / 10 % 10), BitVec.ofNat 8 (48 + wh % 10)]

/-- A field name with its value. -/
def field' (name : String) (value : List Byte) : List Byte × List Byte := (asciiBytes name, value)

/-- The letter of a record in an export (R448). -/
def readingLetter (r : SealRecord) (exhausted : Bool) : String :=
  if r.kind = 2 then "B" else if r.kind = 3 then "C" else if r.reason = 4 ∨ exhausted then "X" else "E"

/-- One reading of the export (R448). -/
def exportReading (r : SealRecord) (exhausted : Bool) : List Byte :=
  Config.json [field' "TX" (asciiBytes (readingLetter r exhausted)), field' "TM" (decimal r.postTime), field' "RV" (kwhText r.reading),
    field' "RI" (asciiBytes "1-b:1.8.0"), field' "RU" (asciiBytes "kWh"), field' "RT" (asciiBytes "DC"),
    field' "ST" (asciiBytes (if r.flags = 0 then "G" else "E"))]

/-- An unsigned DER integer of big-endian bytes. -/
def derInt (b : List Byte) : List Byte :=
  let t := b.dropWhile (fun x => x = 0)
  let t := if t = [] then [0] else if 128 ≤ beAt t 0 1 then 0 :: t else t
  [0x02, BitVec.ofNat 8 t.length] ++ t

/-- The DER form of a P-384 signature. -/
def derSignature (sig : List Byte) : List Byte :=
  let b := derInt (sig.take 48) ++ derInt (sig.drop 48)
  [0x30, BitVec.ofNat 8 b.length] ++ b

/-- `Com.DeviceName`. -/
def Variant.name : Variant → String
  | .kvt6416 => "KVT-6416" | .kvt6412 => "KVT-6412" | .kvt6408 => "KVT-6408"

/-- The payload of the export of a session (R448). -/
def State.exportPayload (s : State) (n : Nat) : List Byte :=
  let rs := s.sealRecords.filter (fun r => r.session = n && !r.voided && 2 ≤ r.kind && r.kind ≤ 4)
  let done := s.get Reg.msSealState = 3 && s.get Reg.msSessionState = 1 && s.get Reg.msSessionNumber = n
  let last := rs.getLast?.map (·.seq)
  let x := s.sessions.find? (fun x => x.number == n)
  Config.json [field' "FV" (asciiBytes "1.0"), field' "GI" (asciiBytes s.fuses.variant.name), field' "GS" (decimal (s.fuses.serial % 2 ^ 32)),
    field' "GV" (s.softwareVersion), field' "PG" (asciiBytes "T" ++ decimal n),
    field' "MS" ((x.map (·.meter)).getD []), field' "IS" (asciiBytes "true"),
    field' "IT" (asciiBytes (if (x.map (·.alg)) = some 0x10 then "ISO15118_2" else "ISO15118_20")),
    field' "ID" (hexText ((x.map (·.fingerprint)).getD [])),
    field' "RD" (rs.flatMap (fun r => exportReading r (done && some r.seq == last)))]

/-- EXPORT_DONE (R448): the string is built and signed under the seal key over the SHA-256 digest of its payload. -/
def execExportDone (s : State) : Host.Outcome State Fault Refusal :=
  if s.get Reg.msExportOutcome = outBusy ∧ s.running then
    match s.sealKey with
    | none => .next (s.set Reg.msExportOutcome outMode)
    | some k =>
      let p := s.exportPayload (s.get Reg.msExportSession)
      let n := s.random 48
      let sig := Config.json [field' "SA" (asciiBytes "ECDSA-secp384r1-SHA256"),
        field' "SD" (hexText (derSignature (padTo 96 (Config.sign 0x11 k.key (digest 256 p) n.1))))]
      let b := (asciiBytes "OCMF|" ++ p ++ asciiBytes "|" ++ sig).take 16384
      .next ((n.2.setBlob Reg.msExport b).sets [(Reg.msExportOutcome, outDone), (Reg.msExportLength, b.length)])
  else .next s

end Sys2Proof.Machine
end

