-- ==== Sys2Proof/Machine/TimeBase.lean ====
section
/-! DEFINITION. The time base: the local counter, the four gPTP domain clocks, their Sync monitors and states, captures
and snapshots (R81 to R96). Steps and disabling, which bear on Kindles, stand with the commits. -/
namespace Sys2Proof.Machine

/-- Sixteenths of a clock as the model holds them: 64 bits of nanoseconds and 4 bits below (R81; log entry 9). -/
abbrev clockBits : Nat := 68

/-- A domain clock advanced by one time-base cycle: 32 × (1 + rate × 2^-40) sixteenths, the remainder in the 40-bit
fraction (R84). -/
def State.tickDomain (s : State) (d : Nat) : State :=
  if s.get (Reg.domEnable d) = 1 then
    let f := ((s.get (Reg.domFrac d) : Int) + 32 * (2 ^ 40 + toSigned 32 (s.get (Reg.domRateWord d)))).toNat
    (s.set (Reg.domClock d) ((s.get (Reg.domClock d) + f / 2 ^ 40) % 2 ^ clockBits)).set (Reg.domFrac d) (f % 2 ^ 40)
  else s

/-- The Lantern die is powered: Flame, Glow or Trim (R37). -/
def State.lanternUp (s : State) : Bool := s.mode = .flame || s.mode = .glow || s.mode = .trim

/-- The follower counter on the Wick die adds 64 sixteenths every 4 ns where that die is powered (R37, R83). -/
def State.tickFollower (s : State) : State :=
  if (s.lanternUp || s.mode = .snuffed) && s.now % 4000 = 0 then
    s.set Reg.followerCounter ((s.get Reg.followerCounter + 64) % 2 ^ clockBits)
  else s

/-- One time-base cycle of 2 ns: the uptime and the follower counter run, and on a powered Lantern die the local counter and the
enabled domain clocks (R82 to R84), and the write FIFOs drain (R175). -/
def State.tick (s : State) : State :=
  let s := ({ s with now := s.now + 2000 } : State).tickFollower
  if s.lanternUp then
    let s := s.set Reg.localCounter ((s.get Reg.localCounter + 32) % 2 ^ clockBits)
    let s := if s.get Reg.bufThrottleStep < 8 then s.count Reg.thrThrottledTime 64 2 else s
    ([0, 1, 2, 3].foldl State.tickDomain s).drainFifos
  else s

/-- A domain enters a state, and its line pulses on a change (R92). -/
def State.domEnter (s : State) (d v : Nat) : State :=
  if s.get (Reg.domState d) = v then s else (s.set (Reg.domState d) v).pulse 0x0F d

/-- The domains that follow domain `d` as their standby (R87). -/
def State.followersOf (s : State) (d : Nat) : List Nat :=
  [0, 1, 2, 3].filter (fun p => s.get (Reg.domState p) = 4 && s.get (Reg.domStandbyDomain p) = d)

/-- A domain enters a state; when it leaves state 2, every domain that follows it enters holdover (R88). -/
def State.domSetState (s : State) (d v : Nat) : State :=
  let left := s.get (Reg.domState d) = 2 ∧ v ≠ 2
  let f := s.followersOf d
  let s := s.domEnter d v
  if left then f.foldl (fun s p => s.domEnter p 3) s else s

/-- Domain `p` follows domain `d` from its present clock: the offset, the rate word and the count (R87). -/
def State.domFollow (s : State) (p d : Nat) : State :=
  let o := ofSigned 64 ((s.get (Reg.domClock d) : Int) - s.get (Reg.domClock p))
  ((s.sets [(Reg.domStandbyOffset p, o), (Reg.domRateWord p, s.get (Reg.domRateWord d)), (Reg.domFrac p, s.get (Reg.domFrac d))]).count
    (Reg.domSwitchCount p) 32).domSetState p 4

/-- The Sync monitor of a domain expires: it follows a synchronised standby, or enters holdover; one that follows already goes on (R86,
R87; log entry 150). -/
def State.monitorExpire (s : State) (d : Nat) : State :=
  let s := s.set (Reg.monitorExpired d) 1
  let b := s.get (Reg.domStandbyDomain d)
  if s.get (Reg.domState d) = 4 then s
  else if b < 4 ∧ s.get (Reg.domState b) = 2 then s.domFollow d b
  else s.domSetState d 3

/-- The Sync monitor of a domain runs and its timeout has elapsed (R85). -/
def State.monitorDue (s : State) (d : Nat) : Bool :=
  s.get (Reg.domEnable d) = 1 && s.get (Reg.domRole d) = 0 && s.get (Reg.domSyncTimeout d) ≠ 0 &&
  s.get (Reg.monitorExpired d) = 0 && s.get (Reg.syncBase d) + s.get (Reg.domSyncTimeout d) * us ≤ s.now

/-- The cycle of expiry is over: a Sync that arrives in it counts as arrived (R85). -/
def State.monitorOver (s : State) (d : Nat) : Bool :=
  s.monitorDue d && s.get (Reg.syncBase d) + s.get (Reg.domSyncTimeout d) * us < s.now

/-- The monitor of a domain measures anew from the present instant (R85). -/
def State.monitorRestart (s : State) (d : Nat) : State :=
  (s.set (Reg.syncBase d) s.now).set (Reg.monitorExpired d) 0

/-- TB_SNAPSHOT (R91): latches a domain clock or the local counter into the context's snapshot objects. -/
def execTbSnapshot (ctx : Ctx) (value : Nat) (s : State) : Host.Outcome State Fault Refusal :=
  .next (s.cmdWrite ctx 0x2200 3 true false [need (value ≤ 4) 0x06090030] (fun s =>
    s.sets [(Reg.tbSnapTime.of ctx, s.timeNs value), (Reg.tbSnapQualifier.of ctx, s.qualifier value),
      (Reg.tbSnapState.of ctx, if value < 4 then s.get (Reg.domState value) else 0)]))

/-- FOLLOWER_ALIGN (R83): every 1,024 ns the follower counter is aligned to the master, or the alignment fails. The
fourth failure in a row clears the valid bit of P32–P36 timestamps, is counted and reported. -/
def execFollowerAlign (ok : Bool) (error : Nat) (s : State) : Host.Outcome State Fault Refusal :=
  if s.now < s.get Reg.followerLast + 1024000 ∨ ¬ s.lanternUp then .next s
  else
    let s := s.set Reg.followerLast s.now
    if ok then
      .next (s.sets [(Reg.followerCounter, s.get Reg.localCounter), (Reg.tbFollowerError, error % 2 ^ 16),
        (Reg.followerFails, 0), (Reg.followerInvalid, 0)])
    else
      let n := s.get Reg.followerFails + 1
      let s := s.set Reg.followerFails n
      if n = 4 then
        .next (((s.set Reg.followerInvalid 1).count Reg.tbFollowerLosses 32).reportObj 6 9 0x2200 0x08)
      else .next s

/-- The enabled follower domains whose Sync arrives on a port with a domain number (R85). -/
def State.syncMatches (s : State) (port number d : Nat) : Bool :=
  s.get (Reg.domEnable d) = 1 && s.get (Reg.domRole d) = 0 && s.get (Reg.domNumber d) = number &&
  s.get (Reg.domSlavePort d) = port

/-- SYNC_ARRIVAL (R85, R88): a matching Sync restarts the monitor and returns a domain to state 2. -/
def execSyncArrival (port domainNumber : Nat) (s : State) : Host.Outcome State Fault Refusal :=
  if s.lanternUp then
    .next ([0, 1, 2, 3].foldl (fun s d =>
      if s.syncMatches port domainNumber d then (s.monitorRestart d).domSetState d 2 else s) s)
  else .next s

/-- SYNC_MONITOR_EXPIRE (R86, R87): when no matching Sync came for `Dom.SyncTimeout`, the monitor expires. -/
def execSyncMonitorExpire (d : Nat) (s : State) : Host.Outcome State Fault Refusal :=
  if d < 4 ∧ s.monitorOver d then .next (s.monitorExpire d) else .next s

/-- Another enabled domain holds a domain number (R92). -/
def State.numberTaken (s : State) (d number : Nat) : Bool :=
  [0, 1, 2, 3].any (fun e => e ≠ d && s.get (Reg.domEnable e) = 1 && s.get (Reg.domNumber e) = number)

/-- DOM_ENABLE (R90, R92): the clock resumes from its held value; the domain enters state 1 as grandmaster and state 3
otherwise, with its monitor measured from the write. Enabling an enabled domain changes nothing. -/
def execDomEnable (ctx : Ctx) (d : Nat) (s : State) : Host.Outcome State Fault Refusal :=
  .next (s.rwWrite ctx (0x2210 + d) 1 (d < 4) false [need (!s.numberTaken d (s.get (Reg.domNumber d))) 0x06040043] (fun s =>
    if s.get (Reg.domEnable d) = 1 then s
    else ((s.set (Reg.domEnable d) 1).monitorRestart d).domSetState d (if s.get (Reg.domRole d) = 1 then 1 else 3)))

/-- DOM_ROLE (R92): a change of an enabled domain enters state 1, or state 3 with the monitor measured from the write. -/
def execDomRole (ctx : Ctx) (d value : Nat) (s : State) : Host.Outcome State Fault Refusal :=
  .next (s.rwWrite ctx (0x2210 + d) 3 (d < 4) false [need (value ≤ 1) 0x06090030] (fun s =>
    if s.get (Reg.domRole d) = value then s
    else
      let s := s.set (Reg.domRole d) value
      if s.get (Reg.domEnable d) = 1 then
        if value = 1 then s.domSetState d 1 else (s.monitorRestart d).domSetState d 3
      else s))

/-- The standby domains that a domain may name (R89). -/
def State.standbyOk (s : State) (d v : Nat) : Bool :=
  v = 0xFF ||
  (v < 4 && v ≠ d && s.get (Reg.domEnable v) = 1 && s.get (Reg.domStandbyDomain v) = 0xFF &&
    !([0, 1, 2, 3].any (fun e => e ≠ d && s.get (Reg.domEnable e) = 1 && s.get (Reg.domStandbyDomain e) = d)))

/-- DOM_STANDBY_WRITE (R87, R89): in state 4 the following ends; the domain follows a new synchronised standby at once or
enters state 3 at its current rate. -/
def execDomStandbyWrite (ctx : Ctx) (d value : Nat) (s : State) : Host.Outcome State Fault Refusal :=
  .next (s.rwWrite ctx (0x2210 + d) 9 (d < 4) false [fits 1 value, need (s.standbyOk d value) 0x06040043] (fun s =>
    let s := s.set (Reg.domStandbyDomain d) value
    if s.get (Reg.domState d) = 4 then
      if value < 4 ∧ s.get (Reg.domState value) = 2 then s.domFollow d value else s.domSetState d 3
    else s))

/-- DOM_SYNC_TIMEOUT_WRITE (R85): the new timeout applies at once and may have elapsed already. -/
def execDomSyncTimeoutWrite (ctx : Ctx) (d value : Nat) (s : State) : Host.Outcome State Fault Refusal :=
  .next (s.rwWrite ctx (0x2210 + d) 7 (d < 4) false [fits 4 value] (fun s =>
    let s := (s.set (Reg.domSyncTimeout d) value).set (Reg.monitorExpired d) 0
    if s.monitorDue d then s.monitorExpire d else s))

/-- A capture unit records the time of a pulse's edge, from which the fixed latency of the crossing is taken (R80); an unread capture is
overwritten and counted (R96). -/
def State.capture (s : State) (k time qualifier : Nat) : State :=
  let s := if s.get (Reg.capUnread k) = 1 then s.count (Reg.capOverwritten k) 32 else s
  (s.count (Reg.capCount k) 32).sets
    [(Reg.capTime k, time), (Reg.capQualifier k, qualifier), (Reg.capUnread k, 1)]

/-- Whether a pulse under way is for a capture unit. -/
def Pulse.forCapture (k : Nat) : Pulse → Bool
  | .capture j _ _ => j == k
  | _ => false

/-- CAPTURE (R96): a pulse on its way to a capture unit reaches it. -/
def execCapture (k : Nat) (s : State) : Host.Outcome State Fault Refusal :=
  match takeFirst (Pulse.forCapture k) s.pulses with
  | some (.capture _ t q, rest) => .next (({ s with pulses := rest } : State).capture k t q)
  | _ => .next s

/-- CAP_TIME_READ (R96): the read returns the capture and marks it as read. -/
def execCapTimeRead (ctx : Ctx) (k : Nat) (s : State) : Host.Outcome State Fault Refusal :=
  .next (s.access ctx (k < 16) false [] (fun s => (s.set (Reg.capUnread k) 0).reply ctx (s.get (Reg.capTime k))))

end Sys2Proof.Machine
end

