-- ==== Sys2Proof/Machine/Start.lean ====
section
/-! DEFINITION. A start (R503, R518): what outlives it, what it restores after a sleep, the interrupted operations that it completes or
undoes, the loading of the configuration, and what the loaded configuration sets going (R90, R267, R296, R315, R364, R412,
R435, R447, R463 to R473, R508, R519, R520, R538, R540). The steps of a start are one step of the model up to the remainder of
the image, which CFG_REMAINDER_APPLIED applies (log entry 31). -/
namespace Sys2Proof.Machine

/-! ## What outlives a start -/

/-- Registers in fuses, flash or counters that no start clears. -/
def keptAlways : List Reg :=
  [Reg.devChangeCounter, Reg.vltLifeCycle, Reg.vltAttestCounter, Reg.journalSeq, Reg.msSealState,
   Reg.msEventCounter, Reg.msNextSequence, Reg.msSessionNumber, Reg.msSessionState, Reg.msAcked, Reg.msRefused,
   Reg.msRefusedRecorded, Reg.totImportMwh, Reg.totExportMwh, Reg.totImportUnits, Reg.totExportUnits, Reg.updActiveSlot,
   Reg.updSlotStateA, Reg.updSlotStateB, Reg.updStagedVersion, Reg.updFloor, Reg.updFloorStepsLeft, Reg.updTrialAt,
   Reg.errNextSequence, Reg.errCopied, Reg.rstLastCause, Reg.counterCopied, Reg.identityMade]

/-- The byte strings in flash that no start clears: the owner key, the selector and the journal (R314, R526, R530). -/
def keptBlobs : List Reg := [Reg.updOwnerKey, Reg.selSector 0, Reg.selSector 1, Reg.journalCopy 0, Reg.journalCopy 1]

/-- Registers that only a power-on clears. -/
def keptPowered : List Reg :=
  [Reg.pwrPreviousMode, Reg.pwrLastWake, Reg.pwrLastWakeInfo, Reg.pwrSleepTime, Reg.rstSnuffAutoCount, Reg.rstHaltCause,
   Reg.rstStarts, Reg.rstPilotRestarts, Reg.updFallbacks, Reg.xmLastFailAddress, Reg.xmLastFailInfo, Reg.xmLastFailTime,
   Reg.savedAt, Reg.retSram, Reg.retItems, Reg.recValid, Reg.errAcked]

/-- Registers that a start clears when it lost retention (R478, R480). -/
def keptRetained : List Reg :=
  [Reg.supCrankEntries, Reg.supOvEvents, Reg.thrStepDowns, Reg.thrThrottledTime, Reg.thrDroopEvents, Reg.pwrWakes]

/-- A register of the retained warm-start blocks (R120). -/
def isWarmBlock (r : Reg) : Bool := r = Reg.retPresent r.inst || r = Reg.retBlock r.inst

/-- Whether a start of a cause, 0 for a wake, keeps a register. Bank 9 holds what the latest sleep saved, bank 10 the copies in
flash (R49, R454, R464). -/
def startKeeps (cause : Nat) (lost held : Bool) (r : Reg) : Bool :=
  keptAlways.contains r || (cause ≠ 1 && keptPowered.contains r) || (!lost && (keptRetained.contains r || r.grp = .ecl)) ||
  (r.grp = .iFv && r.bank = 0) || (cause = 0 && held && isWarmBlock r) || r.bank = 9 || r.bank = 10

/-- A start loses retention (R465): the always-on reset has asserted since the latest entry to sleep, or neither the retention SRAM
nor the sleep record of that entry is there. -/
def State.lostRetention (s : State) : Bool := s.get Reg.retSram = 0 && s.get Reg.recValid = 0

/-- The retention SRAM holds its contents through a start (R463, R514). -/
def State.sramHeld (s : State) (cause : Nat) : Bool := if cause = 0 then s.get Reg.retSram = 1 else cause ≠ 1

/-- An address whose bytes outlive a start: flash always, the customer retention area and the hook memory with the SRAM (R371,
R463). -/
def memKept (held : Bool) (a : Nat) : Bool :=
  (flashBase ≤ a && a < 0x60000000) || (held && ((0x60000000 ≤ a && a < 0x60008000) || (0x62000000 ≤ a && a < 0x62004000)))

/-- The state with all that does not outlive a start at its reset value (R286, R296, R324, R354, R469, R520). -/
def State.startClear (s : State) (cause : Nat) (lost held : Bool) : State :=
  { fuses := s.fuses, mode := s.mode, starting := true, now := s.now, drawn := s.drawn, pending := s.pending,
    regs := s.regs.filter (fun e => startKeeps cause lost held e.1),
    blobs := s.blobs.filter (fun e => keptBlobs.contains e.1 || (cause = 0 && held && isWarmBlock e.1)),
    reports := if cause = 0 && held then s.reports else [],
    vault := s.vault.filter (fun k => bitOf k.policy 14),
    mem := s.mem.filter (fun c => memKept held c.1), flashLines := s.flashLines, sealRecords := s.sealRecords,
    sessions := s.sessions, images := s.images, errFlash := s.errFlash, errLog := if held then s.errLog else [],
    ivtasA := s.ivtasA, ivtasB := s.ivtasB }

/-! ## Restored after a sleep (R49, R90, R267, R412, R435, R508) -/

/-- The length of the latest sleep in ns as the 32.768 kHz clock measured it: within 50 ppm of the elapsed time (R90, R463). -/
def State.sleepNs (s : State) : Nat × State :=
  let e := if s.get Reg.savedAt = 0 then 0 else (s.now + 1 - s.get Reg.savedAt) / 1000
  let spread := e * 50 / 1000000
  let r := s.draw 64
  (e - spread + r.1 % (2 * spread + 1), r.2)

/-- The domain clocks at a start (R90): an enabled one resumes from its saved value plus the sleep, or at 0 after lost retention,
in state 1 or 3; one that is not enabled holds 0. -/
def State.startClocks (s : State) (lost : Bool) (ns : Nat) : State :=
  [0, 1, 2, 3].foldl (fun s d =>
    if s.get (Reg.domEnable d) = 1 then
      let c := if lost then 0 else (s.get ((Reg.domClock d).inBank 9) + 16 * ns) % 2 ^ clockBits
      (s.sets [(Reg.domClock d, c), (Reg.domFrac d, if lost then 0 else s.get ((Reg.domFrac d).inBank 9))]).sets
        [(Reg.syncBase d, s.now)] |>.domEnter d (if s.get (Reg.domRole d) = 1 then 1 else 3)
    else s) s

/-- The change counter (R49, R65): 0 on the first start; after lost retention it resumes from its flash copy plus 2^32, and the value
it resumes at becomes the flash copy, so that no value repeats. -/
def State.startCounter (s : State) (lost : Bool) : State :=
  if lost then
    let v := if s.get Reg.counterCopied = 0 then 0 else min (s.get (Reg.devChangeCounter.inBank 10) + 2 ^ 32) (2 ^ 64 - 1)
    s.sets [(Reg.devChangeCounter, v), (Reg.devChangeCounter.inBank 10, v), (Reg.counterCopied, 1)]
  else s

/-- The freshness rows (R412, R464): after a wake at their saved values, and else at their reservation or recorded value. -/
def State.startFresh (s : State) (wake : Bool) : State :=
  if wake then
    (s.regs.filter (fun e => e.1.grp = .fv && e.1.bank = 9)).foldl (fun s e => s.set (e.1.inBank 0) e.2) s
  else
    (s.regs.filter (fun e => e.1.grp = .iFv && e.1.bank = 0)).foldl (fun s e => s.set (Reg.fvValue e.1.row) e.2) s

/-- A register of the association image (R267). -/
def isAssoc (r : Reg) : Bool := r.grp = .saRow || r.grp = .iSlot || r.grp = .iChan || r.grp = .iSlotG

/-- The association image is restored, its channels reopen, and it is invalid from then on (R267); without the retention key it
can not be deciphered (R312). -/
def State.startAssoc (s : State) (restore : Bool) : State :=
  let l := s.regs.filter (fun e => e.1.bank = 9 && isAssoc e.1)
  let s := if restore ∧ (s.keyAt 1).isSome then l.foldl (fun s e => s.set (e.1.inBank 0) e.2) s else s
  let s : State := { s with regs := s.regs.filter (fun e => !(e.1.bank = 9 && isAssoc e.1)) }
  s.set Reg.saChannelsOpen s.openChannels.length

/-- The import and export totals that a seal record carries (R445). -/
def SealRecord.totals (r : SealRecord) : Option (Nat × Nat) :=
  let at' := fun off => some (beAt r.bytes off 8, beAt r.bytes (off + 8) 8)
  if r.voided then none
  else match r.kind with
    | 2 => at' 162
    | 3 => at' 128
    | 4 => at' 81
    | _ => none

/-- The totals after lost retention resume from the latest valid record, and the next interval is to be flagged (R435). -/
def State.startTotals (s : State) (lost : Bool) : State :=
  if lost ∧ s.fuses.variant.hasInlet then
    let t := ((s.sealRecords.reverse).findSome? SealRecord.totals).getD (0, 0)
    s.sets [(Reg.totImportMwh, t.1), (Reg.totExportMwh, t.2), (Reg.totImportUnits, t.1 * unitsPerMwh),
      (Reg.totExportUnits, t.2 * unitsPerMwh), (Reg.totResumed, 1)]
  else s

/-- The next record sequence after lost retention is one above the highest in the logs (R508). -/
def State.startErrors (s : State) (lost held : Bool) : State :=
  let s :=
    if lost then s.set Reg.errNextSequence (((s.errFlash ++ s.errLog).map (fun r => r.seq + 1)).foldl max 0) else s
  if held then s else s.set Reg.errCopied (s.get Reg.errNextSequence)

/-! ## Interrupted operations (R519, R520) -/

/-- A class 15 record with a start code (R518). -/
def State.startRecord (s : State) (code : Nat) : State := s.report { cls := 15, code := code, unit := 10 }

/-- The vault at a start: a transition is completed (R315), persistent slots whose record fails stay empty (R296), the DRBG is
reseeded (R308), and the identity and retention keys are made when they are due (R291, R292). -/
def State.startVault (s : State) (bad : List Nat) : State :=
  let s : State :=
    match s.journalOpen with
    | some t =>
      (((s.destroyFor t).writeJournal 2 (s.get Reg.vltLifeCycle) t).sets [(Reg.vltLifeCycle, t), (Reg.vltCompletedAtStart, 1)]).startRecord 0x01
    | none => s
  let s := (s.vault.filter (fun k => bad.contains k.slot)).foldl (fun s k =>
    ((s.emptyKey k.slot).count Reg.vltSlotLoadFailures 16).reportObj 9 3 0x2901 0x0B k.slot) s
  let s := s.reseed
  let life := s.get Reg.vltLifeCycle
  let s :=
    if life = 0 ∧ s.get Reg.identityMade = 0 then
      let k := (s.set Reg.identityMade 1).newKey 0x11
      k.2.placeKey { slot := 0, cls := 1, alg := 0x11, policy := 0x4000, generated := true, key := k.1, pub := publicOf 0x11 k.1 }
    else s
  if (life = 1 ∨ life = 2) ∧ (s.keyAt 1).isNone then
    let k := s.newKey 0x02
    k.2.placeKey { slot := 1, cls := 7, alg := 0x02, policy := 0xC000, generated := true, key := k.1 }
  else s

/-- Erases that the start cut short are repeated (R519): of a sector, and of the slot under `Upd.Prepare` (R539). -/
def State.startErases (s : State) (sector slot : Nat) : State :=
  let s := if 0 < sector then (s.eraseFlash (sector - 1) 65536).startRecord 0x02 else s
  if slot = 1 then
    let i := 1 - s.get Reg.updActiveSlot
    ((s.setIvtas i []).set (Reg.slotState i) 1).startRecord 0x02
  else s

/-- The selector names the active slot (R526); a floor whose count disagrees with the fuses is that of the active image (R537). -/
def State.startSlots (s : State) (floorBad : Bool) : State :=
  let s := s.readSelector
  if floorBad then s.set Reg.updFloor (ivtasVersion s.activeIvtas) else s

/-- A Taper session that the start cut short leaves its slot invalid (R534); a trial that a reset finds ends in fallback (R538). -/
def State.startUpdate (s : State) (cause : Nat) : State :=
  let i := 1 - s.get Reg.updActiveSlot
  let s := if s.get (Reg.slotState i) = 2 then s.set (Reg.slotState i) 7 else s
  if cause ≠ 0 ∧ s.trial then
    let r := s.fallBack
    if r.2 then r.1.startRecord 0x05 else r.1
  else s

/-- A recovery of the seal scan raises the event counter and writes a seal-event record (R443, R447). -/
def State.sealRecovery (s : State) (code : Nat) : State :=
  let s := s.sealCount 0 0 0
  if s.get Reg.msSealState = 3 then s else s.sealEvent code 0 0 0

/-- A closure that a start cut short (R441, R520): a free value says whether its genesis record verifies. -/
def State.startClosure (s : State) : State :=
  let d := s.draw 1
  let s := d.2
  let s :=
    if d.1 = 1 then
      let k := s.newKey 0x11
      let s := k.2.placeKey { slot := 14, cls := 6, alg := 0x11, policy := 0x4080, generated := true, key := k.1, pub := publicOf 0x11 k.1 }
      (s.sets [(Reg.msSealState, 2), (Reg.msEventCounter, 1)]).sealAppend { seq := 0, kind := 1, bytes := [] }
        (s.sealPublic ++ beBytes 2 s.fuses.variant.partCode ++ beBytes 4 (s.fuses.serial % 2 ^ 32))
    else (s.emptyKey 14).set Reg.msSealState 0
  s.startRecord 0x04

/-- The record that the start cut short: a free value says whether its write had not begun (0), is torn (1) or is whole (2); a torn
record is voided and a seal-event record of code 2 follows (R439, R447). -/
def State.startTorn (s : State) (job : Option SealJob) : State × Bool :=
  match job with
  | none => (s, false)
  | some j =>
    let d := s.draw 2
    if d.1 % 3 = 0 then (d.2, false)
    else
      let s := d.2.sealWrite { seq := 0, kind := 3, session := j.session, flags := j.flags, reading := j.reading,
                               postTime := j.postTime, bytes := [] } j.time j.qualifier j.payload
      if d.1 % 3 = 1 then (s.sealVoid.sealRecovery 2, true) else (s, false)

/-- The seal scan of a start (R447): torn records, then the open session, which closes with reason 4 and a seal-event record of
code 3. An exhausted seal and one whose key is gone write no record (R441, R443). -/
def State.sealScan (s : State) (job : Option SealJob) : State :=
  if ¬ s.fuses.variant.hasInlet then s
  else if s.get Reg.msSealState = 1 then s.startClosure
  else if s.get Reg.msSealState ≠ 2 ∨ s.sealGone then s
  else
    let t := s.startTorn job
    let s := t.1
    if s.get Reg.msSessionState = 1 ∧ s.get Reg.msSealState = 2 then
      let x := s.session
      ((s.closeSession 4 ((x.map (·.lastReading)).getD 0) 0).sealRecovery 3).startRecord 0x03
    else if t.2 then s.startRecord 0x03 else s

/-! ## What the configuration sets going -/

/-- The settings whose boundary is the exit from Trim (R10, R173, R184). -/
def trimLatched : List Reg := [Reg.bufMode, Reg.bufMcastCells, Reg.bufStagingCells] ++ (List.range 38).map Reg.qPartitionCells

/-- The settings that a start puts in force (R10, R496, R531). -/
def startLatched : List Reg :=
  [Reg.tbRefSource, Reg.xmDramSize, Reg.xmDramRate, Reg.xmFlashSize, Reg.twEnable, Reg.twUnit, Reg.updTaperClockOut, Reg.thrDroopMargin] ++
    trimLatched

/-- The boundary settings of a CAN channel (R393), of a LIN channel (R395), of the rings and of the Cresset queues (R289, R326). -/
def canLatched (ch : Nat) : List Reg :=
  [Reg.canFormats ch, Reg.canNominalRate ch, Reg.canDataRate ch, Reg.canXlDataRate ch, Reg.canSamplePoints ch, Reg.canTransceiver ch]
def linLatched (l : Nat) : List Reg := [Reg.linRole l, Reg.linRate l]

/-- The CAN channels that are enabled and still off integrate (R393). -/
def State.startBuses (s : State) : State :=
  let s := (List.range 16).foldl (fun s ch =>
    if s.get (Reg.canEnable ch) = 1 ∧ s.get (Reg.canStatus ch) = 3 then
      (s.latch (canLatched ch)).set (Reg.canStatus ch) (4 + flag (bitOf (s.get (Reg.canFormats ch)) 4) * 8)
    else s) s
  (List.range 8).foldl (fun s l => if s.get (Reg.linEnable l) = 1 then s.latch (linLatched l) else s) s

/-- The enabled rings and job queues take their base and size (R289, R326). -/
def State.startRings (s : State) : State :=
  let s := (List.range 31).foldl (fun s q =>
    if s.get (Reg.rxRingEnable q) = 1 then s.latch [Reg.rxRingBase q, Reg.rxRingSizeLog2 q] else s) s
  let s := if s.get Reg.txRingEnable = 1 then s.latch [Reg.txRingBase, Reg.txRingSizeLog2] else s
  (List.range 8).foldl (fun s q =>
    if s.get (Reg.crqEnable q) = 1 then s.latch [Reg.crqBase q, Reg.crqSizeLog2 q] else s) s

/-- KeyID 15 is programmed from its fused secret, then the customer KeyIDs that enabled regions name; one whose program fails stays
free (R355, R364). The gateway keys in their slots come into use (R418, R419). -/
def State.startKeys (s : State) : State :=
  let s := if s.get (Reg.kidState 15) = 0 then s.kidLoad 15 (Config.fusedSecret 15) else s
  let s := (List.range 15).foldl (fun s k =>
    if s.get (Reg.kidState k) = 0 ∧ s.kidNamed k then
      let r := (s.latch [Reg.kidSource k, Reg.kidVaultSlot k]).kidMake k
      if r.1 = outDone then r.2.2.kidLoad k r.2.1 else r.2.2
    else s) s
  (List.range 16).foldl (fun s k =>
    if s.get (Reg.gwKeySlot k) ≠ 0xFFFF ∧ (s.gwKeyBytes k).isNone then
      let r := s.gwKeyLoad k (s.get (Reg.gwKeySlot k))
      r.2.set (Reg.gwKeyOutcome k) r.1
    else s) s

/-- The rows of a table that hold an entry in a subindex. -/
def State.rowsOf (s : State) (g : Grp) (sub : Nat) : List Nat :=
  (s.regs.filter (fun e => e.1.grp = g && e.1.sub = sub && e.1.bank = 0)).map (·.1.row)

/-- The buckets of a flow meter are full (R204). -/
def State.fillMeter (s : State) (row : Nat) : State :=
  s.sets [(Reg.fmC 0 row, s.get (Reg.fmCbs row) * bucketUnit), (Reg.fmE 0 row, s.get (Reg.fmEbs row) * bucketUnit),
    (Reg.fmRef 0 row, s.get Reg.localCounter)]

/-- Lists, entries and meters that the configuration enables begin (R189, R204, R406). -/
def State.startTables (s : State) : State :=
  let s := (List.range 38).foldl (fun s n =>
    if s.get (Reg.gclEnable n) = 1 ∧ s.get (Reg.gclPlanned n) = 0 then s.gclPlan n (s.gclNow n) else s) s
  let s := (List.range 128).foldl (fun s e =>
    if s.get (Reg.cycTarget e) ≠ 0xFF ∧ s.get (Reg.cycSeen e) = 0 then
      s.set (Reg.cycSeen e) (s.timeNs (s.get (Reg.cycDomain e)) + 1) else s) s
  ((s.rowsOf .fm 0x11 ++ s.rowsOf .fm 0x13).eraseDups).foldl State.fillMeter s

/-- The ports whose SerDes Glow leaves unpowered (R37, R462). -/
def glowDark (n : Nat) : Bool := n < 24 && n ≠ 7

/-- Every enabled port whose link has not started yet starts it (R110, R121). -/
def State.startPorts (s : State) : State :=
  (List.range 37).foldl (fun s n =>
    if s.hasPort n ∧ s.get (Reg.portEnable n) = 1 ∧ s.get (Reg.portPhase n) = 0 then s.linkStart n else s) s

/-- The outputs stand at their safe states until a write or an owner drives them, and arbitrated groups begin in state 6 (R490,
R502, R513). -/
def State.startOutputs (s : State) : State :=
  let s := (List.range 21).foldl (fun s o =>
    if s.get (Reg.outWritten o) = 0 ∧ (o < 16 ∨ s.fuses.variant.hasInlet) then s.drive o (s.get (Reg.outSafeState o)) else s) s
  (List.range 16).foldl (fun s g =>
    if s.get (Reg.cgArbitrated g) = 1 ∧ s.get (Reg.cgState g) = 0 then s.groupEnter g 6 else s) s

/-- What the records applied so far set going. -/
def State.settle' (s : State) : State :=
  let s := s.latch startLatched
  let s := if s.twinOn ∧ s.get Reg.twState = 0 then s.set Reg.twState 1 else s
  (((((s.startBuses).startRings).startKeys).startTables).startPorts).startOutputs

/-! ## The configuration image (R469, R540, R541) -/

/-- An image of an older version passes through the migration table. -/
def State.migrated (s : State) (img : CfgImage) : State × CfgImage :=
  let v := s.fuses.variant
  let es := s.migrationTable
  let k := s.configFormat - img.format
  if k = 0 then (s, img)
  else
    let vals := migrateEntries v es img.format k img.vals
    let texts := migrateEntries v es img.format k img.texts
    (s.sets [(Reg.cfgSkippedRecords, vals.2 + texts.2), (Reg.updDroppedRecords, s.droppedRecords es img.format k img),
      (Reg.updMigrationState, 1)], { img with vals := vals.1, texts := texts.1 })

/-- The images whose header verifies, the highest sequence first. -/
def State.goodImages (s : State) (bad : List Nat) : List CfgImage :=
  let l := s.images.filter (fun i => headerWhole i.header && !bad.contains i.slot)
  match l with
  | [a, b] => if a.seq < b.seq then [b, a] else [a, b]
  | _ => l

/-- A migration state is reported, and one other than 0 is recorded (R541). -/
def State.migrationState (s : State) (v : Nat) : State :=
  let s := s.set Reg.updMigrationState v
  if v = 0 then s else s.reportObj 13 10 0x3000 0x0D

/-- An image in use: its critical section is applied, and its remainder streams on. -/
def State.useImage (s : State) (img : CfgImage) (older : Bool) : State :=
  let m := s.migrated img
  let st := if older then 2 else m.1.get Reg.updMigrationState
  let s := ((m.1.migrationState st).applySection true m.2).sets [(Reg.cfgImageSequence, img.seq), (Reg.cfgImageBytes, img.bytes),
    (Reg.cfgCriticalBytes, img.critBytes), (Reg.cfgLoadState, 1)]
  { s with streaming := some m.2 }

/-- No image is used: every object keeps its default, and an error is reported (R469). -/
def State.useDefaults (s : State) (newer : Bool) : State :=
  ((if newer then s.migrationState 3 else s).set Reg.cfgLoadState 2).reportObj 10 10 0x2140 0x06

/-- The choice of the image at a start, and whether it is the older one (R469, R540). -/
def State.chosenImage (s : State) (bad : List Nat) : Option (CfgImage × Bool) :=
  match s.goodImages bad with
  | [] => none
  | i :: rest =>
    if i.format ≤ s.configFormat then some (i, false)
    else (rest.head?.filter (fun j => j.format ≤ s.configFormat)).map (fun j => (j, true))

/-- The image that the start chooses is used, or every object keeps its default (R469, R540). -/
def State.loadImage (s : State) (bad : List Nat) : State :=
  match s.chosenImage bad with
  | some (i, older) => s.useImage i older
  | none => s.useDefaults (!(s.goodImages bad).isEmpty)

/-- The mode after a reset: `Rst.StartMode` as the configuration image gives it (R514, R523). -/
def State.startMode (s : State) (bad : List Nat) : Mode :=
  let v := match s.chosenImage bad with
    | some (i, _) => (Assoc.get? i.vals Reg.rstStartMode).getD 3
    | none => 3
  if v = 2 then .glow else .flame

/-! ## The start -/

/-- The step of the fabric that a VBAT gives at a start (R472, R474). -/
def stepOf (vbat : Nat) : Nat :=
  if 7000 ≤ vbat then 8 else if 6400 ≤ vbat then 7 else if 5800 ≤ vbat then 6 else if 5200 ≤ vbat then 5 else 4

/-- What the start measures and counts anew: retention, temperature, VBAT, the rails and the link; after a wake the sleep as well
(R121, R472 to R474, R478, R514). -/
def State.startValues (s : State) (cause slept : Nat) (lost : Bool) (env : StartEnv) : State :=
  let s := s.sets [(Reg.pwrRetentionLost, flag lost), (Reg.rstStarts, (s.get Reg.rstStarts + 1) % 2 ^ 32),
    (Reg.dieTemp 0, env.dieTemp), (Reg.dieTempAt, s.now + 1), (Reg.supVbat, env.vbat), (Reg.supVbatMin, env.vbat), (Reg.supVbatMax, env.vbat),
    (Reg.thrStep, stepOf env.vbat), (Reg.thrChangedAt, s.now), (Reg.snuffCleanSince, s.now + 1), (Reg.chmState, 1), (Reg.supRailStatus, 31), (Reg.updTaperMac, s.fuses.taperMac),
    (Reg.bufMcastCells, if s.fuses.variant = .kvt6408 then 57344 else 16384)]
  let s := if s.fuses.variant = .kvt6408 then
    s.sets ((List.range 8).map (fun k => (Reg.spReasonMode k, s.get (Reg.spReasonMode k) &&& 0x803F))) else s
  if cause = 0 then s.sets [(Reg.pwrSleepTime, slept), (Reg.pwrWakes, if lost then 0 else (s.get Reg.pwrWakes + 1) % 2 ^ 32)] else s

/-- What the target mode powers: in Glow some SerDes stay dark, in Flame the engines come up (R37, R462). -/
def State.startPower (s : State) (target : Mode) : State :=
  let s := if target = .glow then (List.range 24).foldl (fun s n => if glowDark n then s.set (Reg.serdesOff n) 1 else s) s else s
  if target = .flame then (List.range s.fuses.variant.engines).foldl (fun s e => s.set (Reg.seState e) 0) s else s

/-- The countersign that the start finds cut off (R520). -/
def State.cutJob (s : State) : Option SealJob :=
  match s.vaultRunning with
  | some (.countersign j) => some j
  | _ => none

/-- The start up to the loading of the configuration: what outlives it, what it measures and counts, and the interrupted operations
that it completes. -/
def State.startCore (o : State) (cause : Nat) (target : Mode) (env : StartEnv) : State :=
  let lost := o.lostRetention
  let held := o.sramHeld cause
  let z := o.sleepNs
  let s := (z.2.startClear cause lost held).startValues cause z.1 lost env
  let s := ((((s.startCounter lost).startErrors lost held).startSlots env.floorBad).startUpdate cause).startVault env.badSlots
  (s.startErases (o.get Reg.flashErasing) (o.get Reg.updErasing)).startPower target

/-- The step of the fabric comes into force, and the units that were retired before the start are tested (R238, R321, R475). -/
def State.startTests (s o : State) : State :=
  let s := (s.set Reg.bufThrottleStep (min (s.get Reg.thrStep) (s.get Reg.thrCeiling))).recapacity
  let s := ((s.testUnits 0 (o.get Reg.lcTxRetiredMask)).testUnits 1 (o.get Reg.lcRxRetiredMask)).testUnits 3 (o.get Reg.lcFallbackRetired)
  s.crTest (o.get Reg.crRetiredMask)

/-- What the sleep or the flash records kept is put back: freshness rows, totals and, after a wake, the association image. -/
def State.startData (s : State) (wake valid held lost : Bool) : State :=
  let items := s.get Reg.retItems
  let s := (s.startFresh (wake && !lost && (3 ≤ items || valid))).startTotals lost
  s.startAssoc (wake && held && !lost && 2 ≤ items)

/-- A start of a cause, 0 for a wake, into a mode. The wake rows have set `Pwr.LastWake` before. -/
def State.startRun (o : State) (cause : Nat) (target : Mode) (env : StartEnv) : State :=
  let lost := o.lostRetention
  let held := o.sramHeld cause
  let s := ((o.startCore cause target env).loadImage env.badImages).startClocks lost o.sleepNs.1
  let s := (s.startTests o).startData (cause = 0) (o.get Reg.recValid = 1) held lost
  let s := ((s.settle').sealScan o.cutJob).enterMode target
  let s := if cause = 0 then s.pulse 0x0D 0 else s
  { s with starting := false }

end Sys2Proof.Machine
end

