-- ==== Sys2Proof/Machine/Supply.lean ====
section
/-! DEFINITION. Supply, modes and wake (R451 to R482): VBAT and the throttle, requests and mode transitions, crank and overvoltage
entries, sleep and wake, and saves of the configuration. -/
namespace Sys2Proof.Machine

/-! ## VBAT (R452 to R454, R474) -/

/-- The instant, plus 1, since which a condition has held; 0 when it does not. -/
def since (s : State) (holds : Bool) (old : Nat) : Nat := if holds then (if old = 0 then s.now + 1 else old) else 0

/-- A condition timed in a register has held for a time. -/
def State.held (s : State) (r : Reg) (t : Nat) : Bool := 0 < s.get r && s.get r - 1 + t ≤ s.now

/-- VBAT in mV below which the fabric steps down to a step, and above which it steps up to one (R474). -/
def downBelow : Nat → Nat
  | 7 => 7000 | 6 => 6400 | 5 => 5800 | 4 => 5200 | _ => 0
def upAbove : Nat → Nat
  | 8 => 7300 | 7 => 6700 | 6 => 6100 | 5 => 5500 | _ => 100000

/-- The mean of the latest samples, at most four, after a new one (R452). -/
def State.vbatMean (s : State) (mv : Nat) : Nat :=
  let n := min (s.get Reg.vbatSamples) 3
  (mv + ((List.range n).map (fun k => s.get (Reg.vbatSample k))).sum) / (n + 1)

/-- VBAT_SAMPLE (R452 to R454, R474, R480): a sample is taken; the mean is reported and compared with every threshold, and a rise above
42.5 V is counted and reported. -/
def execVbatSample (mv : Nat) (s : State) : Host.Outcome State Fault Refusal :=
  if s.starting ∨ s.mode = .dormant then .next s
  else
    let m := s.vbatMean mv
    let rise := m > 42500 && s.get Reg.ovSince = 0
    let s := s.sets [(Reg.vbatSample 2, s.get (Reg.vbatSample 1)), (Reg.vbatSample 1, s.get (Reg.vbatSample 0)),
      (Reg.vbatSample 0, mv), (Reg.vbatSamples, min 4 (s.get Reg.vbatSamples + 1)), (Reg.supVbat, m),
      (Reg.supVbatMin, min m (s.get Reg.supVbatMin)), (Reg.supVbatMax, max m (s.get Reg.supVbatMax)),
      (Reg.ovSince, since s (m > 42500) (s.get Reg.ovSince)), (Reg.ovClearSince, since s (m < 40000) (s.get Reg.ovClearSince)),
      (Reg.crankSince, since s (m < 4200) (s.get Reg.crankSince)),
      (Reg.crankClearSince, since s (m > 5000) (s.get Reg.crankClearSince))]
    let s := [4, 5, 6, 7].foldl (fun s k => s.set (Reg.thrDownSince k) (since s (m < downBelow k) (s.get (Reg.thrDownSince k)))) s
    let s := [5, 6, 7, 8].foldl (fun s k => s.set (Reg.thrUpSince k) (since s (m > upAbove k) (s.get (Reg.thrUpSince k)))) s
    .next (if rise then (s.count Reg.supOvEvents 32).reportObj 5 11 0x2120 0x07 else s)

/-- The fabric takes a step that VBAT gives (R474, R475). -/
def State.vbatStep (s : State) (n : Nat) : State := (s.sets [(Reg.thrStep, n), (Reg.thrChangedAt, s.now)]).applyStep

/-- THROTTLE_STEP_DOWN (R474): VBAT was below the threshold of the next lower step for 200 µs, and the latest change lies 200 µs
back. -/
def execThrottleStepDown (s : State) : Host.Outcome State Fault Refusal :=
  let n := s.get Reg.thrStep
  if s.running ∧ 4 < n ∧ s.held (Reg.thrDownSince (n - 1)) (200 * us) ∧ s.get Reg.thrChangedAt + 200 * us ≤ s.now then
    .next (s.vbatStep (n - 1))
  else .next s

/-- THROTTLE_STEP_UP (R474): VBAT was above the rising threshold of the next higher step for 5 ms. -/
def execThrottleStepUp (s : State) : Host.Outcome State Fault Refusal :=
  let n := s.get Reg.thrStep
  if s.running ∧ n < 8 ∧ s.held (Reg.thrUpSince (n + 1)) (5 * ms) then .next (s.vbatStep (n + 1)) else .next s

/-- The sites, a bit each, at which the droop detectors find VCORE_L, given in mV, below the set point less `Thr.DroopMargin` in force
(R476). -/
def State.droopSites (s : State) (levels : List Nat) : Nat :=
  (List.range 16).foldl (fun m k =>
    if (levels.getD k s.fuses.coreSetpoint) + s.get Reg.thrDroopMargin.latched < s.fuses.coreSetpoint then m ||| 2 ^ k else m) 0

/-- DROOP_DETECT (R476): one fabric cycle is stretched while a detector, each given the level of its site, finds the rail too low. -/
def execDroopDetect (levels : List Nat) (s : State) : Host.Outcome State Fault Refusal :=
  if s.running ∧ s.droopSites levels ≠ 0 then
    .next ((s.count Reg.thrDroopEvents).set Reg.thrDroopSites (s.get Reg.thrDroopSites ||| s.droopSites levels))
  else .next s

/-! ## Sleep (R49, R90, R267, R454, R460, R463, R464) -/

/-- A register of the association image that a channel with flags bit 2 saves (R267). -/
def assocSaved (l : List Nat) (r : Reg) : Bool :=
  r.bank = 0 && (r.grp = .iSlotG || ((r.grp = .saRow && r.sub < 0xF0 || r.grp = .iSlot) && l.contains (r.row / 2)) || (r.grp = .iChan && l.contains r.inst))

/-- The channels that the association image holds (R267). -/
def State.savedChannels (s : State) : List Nat := s.openChannels.filter (fun c => bitOf (s.get (Reg.chFlags c)) 2)

/-- What an entry to sleep saves when its first `items` items finish (R120, R267, R412, R454, R464): retention SRAM takes items 1 to
4 at an entry to Ember, and the sleep record, item 5, goes to flash. -/
def State.saveSleep (s : State) (ember : Bool) (items : Nat) : State :=
  let rec' := 5 ≤ items
  let ch := s.savedChannels
  let keep := fun (r : Reg) =>
    (((r = Reg.domClock r.inst || r = Reg.domFrac r.inst) && 1 ≤ items) || (r = Reg.fvValue r.row && 3 ≤ items) ||
     (ember && 2 ≤ items && assocSaved ch r)) && r.bank = 0
  let saved := s.regs.filter (fun e => keep e.1)
  let s : State := { s with regs := s.regs.filter (fun e => e.1.bank ≠ 9) }
  let s := saved.foldl (fun s e => s.set (e.1.inBank 9) e.2) s
  let s := if rec' then s.set (Reg.devChangeCounter.inBank 10) (s.get Reg.devChangeCounter) else s
  let s :=
    if ember then
      let s := s.savePorts (List.range 32)
      if items < 4 then
        (List.range 32).foldl (fun s n =>
          if s.get (Reg.portEnable n) = 1 ∧ bitOf (s.get (Reg.portStatus n)) 0 then s.cutBlock n else s) s
      else s
    else (List.range 32).foldl (fun s n => s.set (Reg.retPresent n) 0) s
  s.sets [(Reg.retSram, flag (ember && 1 ≤ items)), (Reg.recValid, flag rec'), (Reg.retItems, items), (Reg.savedAt, s.now + 1)]

/-- Every output takes its safe state, as in Dormant (R490). -/
def State.allSafe (s : State) : State := (List.range 16).foldl (fun s g => s.groupEnter g 6) s

/-- The device is in Ember or Dormant (R458, R463, R490): the items are saved, the mode left is kept, a group that still hands over
releases its outputs, and in Dormant every output is safe. -/
def State.enterSleep (s : State) (target : Mode) (items recover : Nat) : State :=
  let left := s.mode.code
  let s := s.saveSleep (target = .ember) items
  let s :=
    if target = .ember then
      (List.range 16).foldl (fun s g => if s.get (Reg.cgState g) = 3 then s.groupEnter g 4 else s) s
    else s.allSafe
  (s.sets [(Reg.modeLeft, left), (Reg.crankEntry, recover), (Reg.pwrTarget, 0), (Reg.supRailStatus, 0), (Reg.crankClearSince, 0),
    (Reg.ovClearSince, 0)]).enterMode target

/-! ## Wake (R425, R454, R460, R471, R516) -/

/-- The mode that a source wakes into (R471). -/
def State.wakeMode (s : State) (source : Nat) : Mode :=
  if source = 7 ∨ source = 8 then Mode.ofCode (s.get Reg.modeLeft)
  else if s.get Reg.wkTargets / 2 ^ (2 * (source - 1)) % 4 = 2 then .glow else .flame

/-- The device wakes by a source (R471, R478). -/
def State.wake (s : State) (source info : Nat) (env : StartEnv) : State :=
  (s.sets [(Reg.pwrLastWake, source), (Reg.pwrLastWakeInfo, info), (Reg.wakeLatched, 0), (Reg.crankEntry, 0)]).startRun 0
    (s.wakeMode source) env

/-- The code of a source, and the pin or channel that it reports (R471, R478). -/
def wakeCode : WakeSource → Nat × Nat
  | .pin n _ _ _ => (1, n)
  | .can ch => (2, ch)
  | .lin l _ => (3, l)
  | .proximity _ => (4, 0)
  | .pilot _ _ _ => (5, 0)

/-- A trigger of `Wk.PinConfig` meets a level, and whether it was just reached by an edge (R479). -/
def pinTriggers (trigger : Nat) (level edge : Bool) : Bool :=
  match trigger with
  | 0 => edge && level
  | 1 => edge && !level
  | 2 => level
  | _ => !level

/-- The debounce times of `Wk.PinConfig`, in µs (R479). -/
def pinDebounce : Nat → Nat
  | 0 => 50
  | 1 => 1000
  | 2 => 10000
  | _ => 50000

/-- A source fires and wakes the device from Dormant or from Ember (R419, R425, R471, R479): bit 0 of `Chg.WakeSources` enables the
pilot, bit 1 proximity. -/
def State.wakeEnabled (s : State) (ember : Bool) : WakeSource → Bool
  | .pin n level edge micros =>
    let c := s.get (Reg.wkPinConfig n)
    n < 4 && bitOf c 0 && (ember || bitOf c 5) && pinTriggers (field c 2 1) level edge && pinDebounce (field c 4 3) ≤ micros
  | .can ch => ch < 8 && ember && s.get (Reg.canWakeEnable ch) = 1
  | .lin l micros => l < 8 && ember && s.get (Reg.linWakeEnable l) = 1 && 150 < micros
  | .proximity ohms => s.fuses.variant.hasInlet && bitOf (s.get Reg.chgWakeSources) 1 && ohms < s.get Reg.ppPresentOhms
  | .pilot edges window high =>
    s.fuses.variant.hasInlet && bitOf (s.get Reg.chgWakeSources) 0 && ((4 ≤ edges && window ≤ 8000) || 2000 ≤ high)

/-- The source of the lowest code among those that fire in one cycle of the 32.768 kHz clock (R471). -/
def lowestSource : List (Nat × Nat) → Option (Nat × Nat)
  | [] => none
  | a :: t => match lowestSource t with
    | none => some a
    | some b => if b.1 < a.1 then some b else some a

/-- Sources fire: a sleeping device wakes; during an entry to Ember or Dormant the event is latched (R460). -/
def State.wakeFire (s : State) (sources : List WakeSource) (env : StartEnv) : State :=
  let entry := s.running ∧ (s.get Reg.pwrTarget = 1 ∨ s.get Reg.pwrTarget = 2)
  let asleep := ¬ s.starting ∧ (s.mode = .ember ∨ s.mode = .dormant)
  let ember := if asleep then s.mode = .ember else s.get Reg.pwrTarget = 2
  match lowestSource ((sources.filter (s.wakeEnabled ember)).map wakeCode) with
  | none => s
  | some (src, info) =>
    if asleep then s.wake src info env
    else if entry ∧ s.get Reg.wakeLatched = 0 then s.set Reg.wakeLatched (src + 256 * info)
    else s

/-- WAKE_EVENT (R471): what the sources show in one cycle of the 32.768 kHz clock. -/
def execWakeEvent (sources : List WakeSource) (env : StartEnv) (s : State) : Host.Outcome State Fault Refusal :=
  .next (s.wakeFire sources env)

/-- PROXIMITY_POLL (R425): a resistance below `Pp.PresentOhms` wakes the device through source 4. -/
def execProximityPoll (ohms : Nat) (env : StartEnv) (s : State) : Host.Outcome State Fault Refusal :=
  .next (s.wakeFire [.proximity ohms] env)

/-- WAKE_ALARM_EXPIRE (R471): `Wk.AlarmAfter` seconds after the entry to Ember. -/
def execWakeAlarmExpire (env : StartEnv) (s : State) : Host.Outcome State Fault Refusal :=
  if ¬ s.starting ∧ s.mode = .ember ∧ s.get Reg.wkAlarmAfter ≠ 0 ∧ s.held Reg.savedAt (s.get Reg.wkAlarmAfter * sec) then
    .next (s.wake 6 0 env)
  else .next s

/-- EMBER_LIMIT_EXPIRE (R458, R463, R464): the device goes from Ember to Dormant; the record of the entry to Ember stands. -/
def execEmberLimitExpire (s : State) : Host.Outcome State Fault Refusal :=
  if ¬ s.starting ∧ s.mode = .ember ∧ s.get Reg.pwrEmberLimit ≠ 0 ∧ s.held Reg.savedAt (s.get Reg.pwrEmberLimit * sec) then
    .next (((s.allSafe).sets [(Reg.retSram, 0), (Reg.crankEntry, 0)]).enterMode .dormant)
  else .next s

/-- A request under way when a crank entry is made (R460): one of the same Pilot cycle, or for another mode than a sleep, completes with
0x04; an entry to Ember goes on and completes. Whether the crank continues an entry to sleep is the second part. -/
def State.crankRequest (s : State) : State × Bool :=
  let t := s.get Reg.pwrTarget
  if t = 0 then (s, false)
  else
    let same := s.get Reg.pwrAskedAt = s.now + 1
    let s := s.sets [(Reg.pwrTarget, 0), (Reg.pwrOutcome, if t = 2 ∧ ¬ same then outDone else outMode)]
    (s, (t = 1 || t = 2) && !same)

/-- An entry to Ember as for a crank (R453, R454, R490, R516). -/
def State.crankInto (s : State) (items recover : Nat) : State :=
  let r := s.crankRequest
  (r.1.outputsLose).enterSleep .ember items (if r.2 then 0 else recover)

/-- What a sleep latched, it wakes to at once (R460). -/
def State.wakeLatchedNow (s : State) (env : StartEnv) : State :=
  let w := s.get Reg.wakeLatched
  if w = 0 then s else s.wake (w % 256) (w / 256) env

/-- CRANK_ENTRY (R454): VBAT below 4.2 V for 20 µs; `items` items finish before VBAT falls below 3.3 V. A wake event latched during
an entry that the crank continues stays latched until the entry is over. -/
def execCrankEntry (items : Nat) (s : State) : Host.Outcome State Fault Refusal :=
  if s.running ∧ s.held Reg.crankSince (20 * us) then
    .next (((s.count Reg.supCrankEntries 32).reportObj 5 11 0x2120 0x06).crankInto (min items 5) 1)
  else .next s

/-- CRANK_RECOVERY (R454): VBAT above 5.0 V for 1 ms after a crank entry. -/
def execCrankRecovery (env : StartEnv) (s : State) : Host.Outcome State Fault Refusal :=
  if ¬ s.starting ∧ s.mode = .ember ∧ s.get Reg.crankEntry = 1 ∧ s.held Reg.crankClearSince ms then .next (s.wake 7 0 env)
  else .next s

/-- OVERVOLTAGE_ENTRY (R453): VBAT above 42.5 V for 350 ms. -/
def execOvervoltageEntry (s : State) : Host.Outcome State Fault Refusal :=
  if s.running ∧ s.held Reg.ovSince (350 * ms) then .next (s.crankInto 5 2) else .next s

/-- OVERVOLTAGE_RECOVERY (R453): VBAT below 40 V for 10 ms after an overvoltage entry. -/
def execOvervoltageRecovery (env : StartEnv) (s : State) : Host.Outcome State Fault Refusal :=
  if ¬ s.starting ∧ s.mode = .ember ∧ s.get Reg.crankEntry = 2 ∧ s.held Reg.ovClearSince (10 * ms) then .next (s.wake 8 0 env)
  else .next s

/-- SUPPLY_FAULT (R510, R516): rail 0 VPRE, 1 VCORE_L, 2 VSD, 3 VMEM, 4 VIO is outside its window for 20 µs while VBAT is at or above
4.5 V. A Lantern rail halts the device; VPRE makes it enter Ember. -/
def execSupplyFault (rail : Nat) (s : State) : Host.Outcome State Fault Refusal :=
  if ¬ s.running ∨ s.get Reg.supVbat < 4500 ∨ 4 < rail then .next s
  else if rail = 0 then
    let s := (s.reportObj 5 11 0x2120 0x05 0).crankInto 5 3
    .next (s.sets [(Reg.vpreFaultAt, s.now), (Reg.vpreFails, 0)])
  else
    let s := s.snuff 5 11 0x2120 0x21200500 rail []
    .next (s.set Reg.supRailStatus (setBit (s.get Reg.supRailStatus) rail false))

/-- VPRE_RETRY (R516): 10 ms after a VPRE fault the device attempts a wake; the attempt ends in the same fault (`again`), and after three
such in a row the device stays in Ember. -/
def execVpreRetry (again : Bool) (env : StartEnv) (s : State) : Host.Outcome State Fault Refusal :=
  if ¬ s.starting ∧ s.mode = .ember ∧ s.get Reg.crankEntry = 3 ∧ s.get Reg.vpreFails < 3 ∧
      s.get Reg.vpreFaultAt + 10 * ms ≤ s.now then
    if again then
      .next ((s.sets [(Reg.vpreFails, s.get Reg.vpreFails + 1), (Reg.vpreFaultAt, s.now)]).reportObj 5 11 0x2120 0x05 0)
    else .next (s.wake 7 0 env)
  else .next s

/-! ## Requests (R458 to R460) -/

/-- An enabled level wake source is asserted: pins with trigger 2 and a high level, or 3 and a low level (R459, R479). -/
def State.levelActive (s : State) (pins : Nat) : Bool :=
  [0, 1, 2, 3].any (fun k =>
    let c := s.get (Reg.wkPinConfig k)
    bitOf c 0 && ((field c 2 1 = 2 && bitOf pins k) || (field c 2 1 = 3 && !bitOf pins k)))

/-- A load-path driver is closed or opening (R428, R459). -/
def State.loadPathClosed (s : State) : Bool :=
  [0, 1, 2, 3].any (fun k => s.get (Reg.cdRole k) = 1 && (s.get (Reg.cdState k) = 1 || s.get (Reg.cdState k) = 2))

/-- The first condition of a request that fails (R459). -/
def State.requestRefusal (s : State) (target pins : Nat) : Option Nat :=
  if s.mode = .snuffed ∨ (s.mode = .trim ∧ target < 2) then some outMode
  else if target = 4 ∧ s.get Reg.trimConfirm ≠ s.fuses.serial % 2 ^ 32 then some 0x40
  else if target < 2 ∧ (s.levelActive pins ∨ s.get Reg.wakeLatched ≠ 0) then some 0x41
  else if target < 2 ∧ s.loadPathClosed then some 0x42
  else if target < 2 ∧ s.get Reg.cfgOutcome = outBusy then some 0x46
  else none

/-- A write to `Pwr.Request` (R459, R478, R490, R498): its conditions, then the transition begins. An entry to Ember loses both clusters;
either sleep sends the release frame. -/
def State.pwrRequest (s : State) (ctx : Ctx) (target pins : Nat) : State :=
  s.cmdWrite ctx 0x2100 2 true true [need (s.get Reg.pwrOutcome ≠ outBusy) 0x08000022] (fun s =>
    if s.mode.code = target then s.set Reg.pwrOutcome outDone
    else match s.requestRefusal target pins with
      | some code => s.set Reg.pwrOutcome code
      | none =>
        let s := s.sets [(Reg.pwrOutcome, outBusy), (Reg.pwrTarget, target + 1), (Reg.pwrAskedAt, s.now + 1)]
        if target = 1 then s.outputsLose else if target = 0 then s.sendTwin 3 else s)

/-- PWR_REQUEST_DORMANT (R459): `pins` are the levels of WAKE3 to WAKE0. -/
def execPwrRequestDormant (ctx : Ctx) (pins : Nat) (s : State) : Host.Outcome State Fault Refusal := .next (s.pwrRequest ctx 0 pins)

/-- PWR_REQUEST_EMBER (R459): `pins` are the levels of WAKE3 to WAKE0. -/
def execPwrRequestEmber (ctx : Ctx) (pins : Nat) (s : State) : Host.Outcome State Fault Refusal := .next (s.pwrRequest ctx 1 pins)

/-- PWR_REQUEST_GLOW (R459). -/
def execPwrRequestGlow (ctx : Ctx) (s : State) : Host.Outcome State Fault Refusal := .next (s.pwrRequest ctx 2 0)

/-- PWR_REQUEST_FLAME (R459). -/
def execPwrRequestFlame (ctx : Ctx) (s : State) : Host.Outcome State Fault Refusal := .next (s.pwrRequest ctx 3 0)

/-- PWR_REQUEST_TRIM (R459). -/
def execPwrRequestTrim (ctx : Ctx) (s : State) : Host.Outcome State Fault Refusal := .next (s.pwrRequest ctx 4 0)

/-! ## Transitions (R37, R286, R458, R461, R462) -/

/-- The ports whose SerDes Glow leaves unpowered, of the variant. -/
def State.darkPorts (s : State) : List Nat := (List.range 24).filter (fun n => glowDark n && s.hasPort n)

/-- The warm-start blocks of the dark ports are saved, their links go down and their SerDes lose power (R38, R462). -/
def State.serdesDark (s : State) : State :=
  let l := s.darkPorts
  l.foldl (fun s n => ((s.linkGoesDown n).set (Reg.serdesOff n) 1).powerLanes n false) (s.savePorts l)

/-- The dark ports are powered, and those that are enabled start their links (R462). -/
def State.serdesLight (s : State) : State :=
  (s.darkPorts.filter (fun n => s.get (Reg.serdesOff n) = 1)).foldl (fun s n =>
    let s := s.set (Reg.serdesOff n) 0
    if s.get (Reg.portEnable n) = 1 then s.linkStart n else s) s

/-- The engines are held in reset: they halt and keep their memories (R286, R461). -/
def State.enginesReset (s : State) : State :=
  (List.range s.fuses.variant.engines).foldl (fun s e =>
    if s.get (Reg.seState e) = 3 then s else (s.engineHalt e 3).set (Reg.seRun e) 0) s

/-- The engines lose power and both memories (R286). -/
def State.enginesOff (s : State) : State :=
  (List.range s.fuses.variant.engines).foldl (fun s e =>
    ((s.setBox { engine := e }).clearBlob (Reg.seImem e)).clearBlob (Reg.seDmem e)) s.enginesReset

/-- The engines are released into state 0 (R461, R462). -/
def State.enginesReady (s : State) : State :=
  (List.range s.fuses.variant.engines).foldl (fun s e => s.set (Reg.seState e) 0) s

/-- Entry to Trim (R461): every queue of P0 to P36 is flushed, after a flush that runs, and the engines are held in reset. -/
def State.intoTrim (s : State) : State :=
  let s := s.serdesLight
  let s := (List.range 37).foldl (fun s n =>
    if ¬ s.hasPort n then s
    else if s.flushing n then s.set (Reg.trimFlush n) 1
    else (s.startFlush n (queuesOf n)).set (Reg.trimFlush n) 2) s
  s.enginesReset

/-- Exit from Trim (R10, R461): flushes that still run end, the queues of P37 are flushed, and the settings whose boundary is this exit
take force. -/
def State.outOfTrim (s : State) : State :=
  let s := (List.range 37).foldl (fun s n =>
    let s := s.endFlush n
    if s.get (Reg.trimFlush n) = 1 then (s.startFlush n (queuesOf n)).endFlush n else s) s
  let s := (List.range 37).foldl (fun s n => s.set (Reg.trimFlush n) 0) s
  let s := (s.startFlush 37 (queuesOf 37)).endFlush 37
  (s.latch trimLatched).recapacity

/-- A transition between Flame, Glow and Trim is made (R461, R462). -/
def State.switchMode (s : State) (target : Mode) : State :=
  let s := if s.mode = .trim then s.outOfTrim else s
  let s := match target with
    | .glow => (s.serdesDark).enginesOff
    | .flame => (s.serdesLight).enginesReady
    | _ => s.intoTrim
  s.enterMode target

/-- MODE_TRANSITION_DONE (R458, R460, R482): the requested transition completes. -/
def execModeTransitionDone (env : StartEnv) (s : State) : Host.Outcome State Fault Refusal :=
  let t := s.get Reg.pwrTarget
  if t = 0 then
    if ¬ s.starting ∧ s.mode = .ember then .next (s.wakeLatchedNow env) else .next s
  else if ¬ s.running then .next s
  else
    let s := s.set Reg.pwrOutcome outDone
    if t ≤ 2 then .next ((s.enterSleep (Mode.ofCode (t - 1)) 5 0).wakeLatchedNow env)
    else .next ((s.set Reg.pwrTarget 0).switchMode (Mode.ofCode (t - 1)))

/-! ## Saves of the configuration (R466, R467, R481) -/

/-- The slot that a save writes: the one without an image, or the older one. -/
def State.olderSlot (s : State) : Nat :=
  match s.images with
  | [] => 0
  | [a] => 1 - a.slot
  | a :: b :: _ => if a.seq < b.seq then a.slot else b.slot

/-- CFG_SAVE (R466, R481): the older slot is erased and the records are built. -/
def execCfgSave (ctx : Ctx) (value : Nat) (s : State) : Host.Outcome State Fault Refusal :=
  .next (s.cmdWrite ctx 0x2140 1 true false (need (s.get Reg.cfgOutcome ≠ outBusy && s.running) 0x08000022 :: onlyOne value) (fun s =>
    let k := s.olderSlot
    let img := s.imageNow k ((s.images.map (·.seq)).foldl max 0 + 1) s.configFormat
    ({ s with images := s.images.filter (fun i => i.slot ≠ k), saving := some img } : State).sets
      [(Reg.cfgOutcome, outBusy), (Reg.cfgSaving, 1)]))

/-- A save ends (R466). -/
def State.endSave (s : State) (code : Nat) : State :=
  ({ s with saving := none } : State).sets [(Reg.cfgOutcome, code), (Reg.cfgSaving, 0)]

/-- CFG_SAVE_DONE (R459, R466): the header is written last, unless the image or its critical section is too large. -/
def execCfgSaveDone (s : State) : Host.Outcome State Fault Refusal :=
  match s.saving with
  | some img =>
    if ¬ s.running then .next s
    else if 3355440 < img.bytes then .next (s.endSave 0x43)
    else if 98240 < img.critBytes then .next (s.endSave 0x44)
    else .next (({ s with images := s.images ++ [img] } : State).endSave outDone)
  | none => .next s

/-- The records of a streamed section; those at the positions of `bad` were read wrongly, and hold free values. -/
def State.streamed (s : State) (bad : List Nat) (img : CfgImage) : State × CfgImage :=
  bad.foldl (fun acc k =>
    match acc.2.vals[k]? with
    | some e =>
      let d := acc.1.draw 64
      (d.2, { acc.2 with vals := acc.2.vals.set k (e.1, d.1) })
    | none => acc) (s, img)

/-- CFG_REMAINDER_APPLIED (R469, R472): the remainder is applied, and what it sets going begins; when its check fails at the end (`bad`
is not empty), the records stay and an error is reported. -/
def execCfgRemainderApplied (bad : List Nat) (s : State) : Host.Outcome State Fault Refusal :=
  match s.streaming with
  | some img =>
    if s.running then
      let r := s.streamed bad img
      let s := (({ r.1 with streaming := none } : State).applySection false r.2).settle'
      .next (if bad = [] then s.set Reg.cfgLoadState 0 else (s.set Reg.cfgLoadState 3).reportObj 10 10 0x2140 0x06)
    else .next s
  | none => .next s

end Sys2Proof.Machine
end

