-- ==== Sys2Proof/Machine/Faults.lean ====
section
/-! DEFINITION. Resets, starts, restarts and the error logs (R503 to R524). -/
namespace Sys2Proof.Machine

/-! ## Resets and starts (R512 to R514, R518, R536) -/

/-- The owner of an activation (R535). -/
abbrev updOwner : Owner := ⟨.upd, 0⟩

/-- A reset before the selector record of an activation is written, within 2 ms of the hand-over, leaves the previous record standing
(R526, R536). -/
def State.undoFlip (s : State) : State :=
  if s.trial ∧ ¬ s.held (Reg.handedAt updOwner) (2 * ms) then s.tearSelector else s

/-- A reset of a kind asserts (R513, R514): of two in one Pilot cycle the lower code is reported and the wider reach applies. The outputs
hold, or at a power-on stand at their safe states; nothing answers until the start. -/
def State.assertReset (s : State) (kind : Nat) : State :=
  let reach := if kind = 1 then 1 else 2
  let code := if s.starting ∧ s.get Reg.rstAt = s.now + 1 then min kind (s.get Reg.rstLastCause) else kind
  let all := if s.starting then min reach (s.get Reg.rstReach) else reach
  let s := if s.starting then s else s.undoFlip
  let s := if kind = 1 then (s.allSafe).sets [(Reg.retSram, 0), (Reg.recValid, 0)] else if s.starting then s else s.outputsLose
  { s.sets [(Reg.rstLastCause, code), (Reg.rstReach, all), (Reg.rstAt, s.now + 1)] with starting := true }

/-- POWER_ON_RESET (R451, R514): the always-on reset asserts; retention and the always-on domain are cleared. -/
def execPowerOnReset (s : State) : Host.Outcome State Fault Refusal := .next (s.assertReset 1)

/-- EXTERNAL_RESET (R514): RESET_N is held low for at least 10 µs. -/
def execExternalReset (micros : Nat) (s : State) : Host.Outcome State Fault Refusal :=
  if 10 ≤ micros then .next (s.assertReset 2) else .next s

/-- DEBUG_RESET (R514): the system-reset instruction of the JTAG port. -/
def execDebugReset (s : State) : Host.Outcome State Fault Refusal := .next (s.assertReset 5)

/-- START (R513, R514, R518): after the hold window of every group the start runs, into `Rst.StartMode`. -/
def execStart (env : StartEnv) (s : State) : Host.Outcome State Fault Refusal :=
  if s.starting ∧ (List.range 16).all (fun g => s.get (Reg.cgState g) ≠ 5) then
    .next (s.startRun (s.get Reg.rstReach) (s.startMode env.badImages) env)
  else .next s

/-- A command of `Rst.Command` (R523): refused while its outcome reads BUSY; the confirmation reads back as cleared after it. -/
def State.rstCommand (s : State) (ctx : Ctx) (act : State → Bool → State) : State :=
  s.cmdWrite ctx 0x3180 2 true true [need (s.get Reg.rstOutcome ≠ outBusy) 0x08000022] (fun s =>
    act (s.set Reg.rstConfirm 0) (s.get Reg.rstConfirm = s.fuses.serial % 2 ^ 32))

/-- RST_DEVICE (R514, R523): a command reset under a matching confirmation. -/
def execRstDevice (ctx : Ctx) (s : State) : Host.Outcome State Fault Refusal :=
  .next (s.rstCommand ctx (fun s ok => if ok then (s.set Reg.rstOutcome outDone).assertReset 3 else s.set Reg.rstOutcome 0x40))

/-- RST_SNUFF (R512, R523): a snuff reset, in Snuffed alone. -/
def execRstSnuff (ctx : Ctx) (s : State) : Host.Outcome State Fault Refusal :=
  .next (s.rstCommand ctx (fun s ok =>
    if ¬ ok then s.set Reg.rstOutcome 0x40
    else if s.mode ≠ .snuffed then s.set Reg.rstOutcome 0x41
    else (s.set Reg.rstOutcome outDone).assertReset 4))

/-- SNUFF_RESTART_EXPIRE (R512): the automatic snuff reset, below its limit. -/
def execSnuffRestartExpire (s : State) : Host.Outcome State Fault Refusal :=
  if ¬ s.starting ∧ s.mode = .snuffed ∧ s.get Reg.rstSnuffRestart ≠ 0 ∧
      s.get Reg.rstSnuffAutoCount < s.get Reg.rstSnuffAutoLimit ∧ s.held Reg.snuffAt (s.get Reg.rstSnuffRestart * ms) then
    .next ((s.count Reg.rstSnuffAutoCount 8).assertReset 4)
  else .next s

/-- SNUFF_COUNT_CLEAR (R512): the device has run for 600 s without entering Snuffed. -/
def execSnuffCountClear (s : State) : Host.Outcome State Fault Refusal :=
  if s.running ∧ s.held Reg.snuffCleanSince (600 * sec) then .next (s.set Reg.rstSnuffAutoCount 0) else .next s

/-! ## Restarts of a cluster and of the Pilot core (R515, R517) -/

/-- A cluster owns an arbitrated group (R517). -/
def State.ownsGroup (s : State) (c : Nat) : Bool :=
  (List.range 16).any (fun g => s.get (Reg.cgArbitrated g) = 1 && s.get (Reg.cgOwner g) = c + 1)

/-- A cluster restarts with its caches (R514, R517): it reads state 2 and holds no claim. -/
def State.restartCluster (s : State) (c : Nat) : State :=
  let t := s.sets [(Reg.clusterRestart c, s.now + 1), (Reg.clusterTest c, flag (s.get (Reg.hbState c) = 3)), (Reg.rstLastCause, 7)]
  let t : State := { t with cache := t.cache.filter (fun l => l.core ≠ c) }
  let t := t.clusterLeaves c 2
  State.twinChange s ((if s.get (Reg.hbState c) = 2 then t else t.pulse 0x09 c).decideOwners)

/-- A write of 3 or 4 to `Rst.Command` (R517, R523). In Snuffed the Lamplighters are halted, and the command is rejected. -/
def State.rstRestart (s : State) (ctx : Ctx) (c : Nat) : State :=
  s.rstCommand ctx (fun s _ =>
    if s.mode = .snuffed then s.set Reg.rstOutcome outMode
    else if s.alive c ∧ s.ownsGroup c then s.set Reg.rstOutcome 0x42
    else (s.sets [(Reg.rstOutcome, outBusy), (Reg.rstRestarting, c + 1)]).restartCluster c)

/-- RST_RESTART_A (R517, R523). -/
def execRstRestartA (ctx : Ctx) (s : State) : Host.Outcome State Fault Refusal := .next (s.rstRestart ctx 0)

/-- RST_RESTART_B (R517, R523). -/
def execRstRestartB (ctx : Ctx) (s : State) : Host.Outcome State Fault Refusal := .next (s.rstRestart ctx 1)

/-- CLUSTER_RESTART_DONE (R517): the cluster boots and waits for its first heartbeat; a cluster that was in state 3 and fails the lockstep
self-test (`ok` is false) stays in state 3, and the failure is reported (R11, R504). -/
def execClusterRestartDone (c : Nat) (ok : Bool) (s : State) : Host.Outcome State Fault Refusal :=
  if s.running ∧ c < 2 ∧ s.get (Reg.clusterRestart c) ≠ 0 then
    let fails := s.get (Reg.clusterTest c) = 1 ∧ ok = false
    let s := if fails then ((s.set (Reg.hbState c) 3).pulse 0x09 c).reportObj 2 (7 + c) 0x2E00 (2 + c) c else s
    let s := s.sets [(Reg.clusterRestart c, 0), (Reg.clusterTest c, 0)]
    if s.get Reg.rstRestarting = c + 1 then
      .next (s.sets [(Reg.rstRestarting, 0), (Reg.rstOutcome, if fails then outFaulted else outDone)])
    else .next s
  else .next s

/-- The Pilot core restarts: a heartbeat period that falls in the restart counts as met (R515). -/
def State.restartPilot (s : State) : State :=
  [0, 1].foldl (fun s c => if s.alive c then s.sets [(Reg.hbMailAt c, s.now + 1), (Reg.hbPilotAt c, s.now + 1)] else s)
    ((s.count Reg.rstPilotRestarts 32).set Reg.rstLastCause 6)

/-- PILOT_WATCHDOG (R515): the vendor firmware missed its service; class 12 is recorded at the restart. -/
def execPilotWatchdog (s : State) : Host.Outcome State Fault Refusal :=
  if s.running ∨ (¬ s.starting ∧ s.mode = .snuffed) then .next ((s.restartPilot).reportObj 12 10 0x3180 0x0B) else .next s

/-! ## Error records (R505 to R509, R521, R522) -/

/-- Records of the retention log, and of both sectors of the flash log (R507, R508). -/
abbrev logRoom : Nat := 64
abbrev flashLogRoom : Nat := 2048

/-- The Pilot core runs: outside Ember and Dormant (R37). -/
def State.pilotRuns (s : State) : Bool := s.running || (!s.starting && s.mode = .snuffed)

/-- ERROR_RECORD_WRITE (R506, R507): every 2 µs the oldest report becomes a record of the next sequence. One that would overwrite a record
not yet in the flash log is lost. -/
def execErrorRecordWrite (s : State) : Host.Outcome State Fault Refusal :=
  if ¬ s.pilotRuns ∨ ¬ (s.get Reg.errWroteAt = 0 ∨ s.held Reg.errWroteAt (2 * us)) then .next s
  else match s.reports with
    | [] => .next s
    | r :: rest =>
      let s := ({ s with reports := rest } : State).set Reg.errWroteAt (s.now + 1)
      let uncopied : Bool := match s.errLog with
        | o :: _ => s.errLog.length = logRoom && s.get Reg.errCopied ≤ o.seq
        | [] => false
      if uncopied then .next (s.reportLost r.cls)
      else
        let n := s.get Reg.errNextSequence
        let r := { r with flags := r.flags ||| (flag (s.mode = .snuffed) * 2) }
        let log := if s.errLog.length = logRoom then s.errLog.tail else s.errLog
        let s : State := { s with errLog := log ++ [{ seq := n, report := r }] }
        .next (((s.set Reg.errNextSequence (n + 1)).count (Reg.eclRecorded r.cls) 32).pulse 0x14 0)

/-- ERROR_LOG_COPY (R507, R508): the next record goes to the flash log; a full pair of sectors loses its older one first. -/
def execErrorLogCopy (s : State) : Host.Outcome State Fault Refusal :=
  if ¬ s.running then .next s
  else match s.errLog.find? (fun r => s.get Reg.errCopied ≤ r.seq) with
    | some r =>
      let old := if s.errFlash.length = flashLogRoom then s.errFlash.drop (flashLogRoom / 2) else s.errFlash
      .next (({ s with errFlash := old ++ [r] } : State).set Reg.errCopied (r.seq + 1))
    | none => .next s

/-- The unacknowledged records of the retention log (R509, R521). -/
def State.unacknowledged (s : State) : Nat := (s.errLog.filter (fun r => s.get Reg.errAcked ≤ r.seq)).length

/-- The 64 bytes of a record (R505). -/
def Record.bytes (r : Record) : List Byte :=
  let p := r.report
  let b := leBytes 2 0x4552 ++ leBytes 1 1 ++ leBytes 1 p.cls ++ leBytes 2 p.code ++ leBytes 1 p.unit ++ leBytes 1 p.flags ++
    leBytes 4 r.seq ++ leBytes 4 0 ++ leBytes 8 p.time ++ leBytes 1 p.qualifier ++ leBytes 1 p.mode ++ leBytes 2 0 ++
    leBytes 8 p.address ++ leBytes 4 p.inst ++ padTo 16 (p.detail.take 16) ++ leBytes 4 0
  b ++ leBytes 4 (crc32c b)

/-- The record of a sequence: from the retention log, or else the flash log; zeros when it is not held (R521). -/
def State.recordBytes (s : State) (seq : Nat) : List Byte :=
  match (s.errLog ++ s.errFlash).find? (fun r => r.seq = seq) with
  | some r => r.bytes
  | none => List.replicate 64 0

/-- ERR_ACKNOWLEDGE (R509, R521): a sequence above `Err.NextSequence` is refused, one below the last has no effect. -/
def execErrAcknowledge (ctx : Ctx) (value : Nat) (s : State) : Host.Outcome State Fault Refusal :=
  .next (s.cmdWrite ctx 0x3100 2 true true [fits 4 value, need (value ≤ s.get Reg.errNextSequence) 0x06090031] (fun s =>
    s.set Reg.errAcked (max value (s.get Reg.errAcked))))

/-- ERR_REPORT (R504, R521): 16 bytes are recorded as a class 14 report. -/
def execErrReport (ctx : Ctx) (bytes : List Byte) (s : State) : Host.Outcome State Fault Refusal :=
  .next (s.cmdWrite ctx 0x3100 6 true true [need (bytes.length ≤ 16) 0x06070012, need (16 ≤ bytes.length) 0x06070013] (fun s =>
    s.reportObj 14 15 0x3100 0x06 0 bytes))

/-- ECL_CLEAR (R522): clears the loss counter and times of a class. -/
def execEclClear (ctx : Ctx) (cls value : Nat) (s : State) : Host.Outcome State Fault Refusal :=
  .next (s.cmdWrite ctx (0x3110 + cls) 5 (1 ≤ cls && cls ≤ 15) true (onlyOne value) (fun s =>
    s.sets [(Reg.eclLost cls, 0), (Reg.eclFirstLost cls, 0), (Reg.eclLastLost cls, 0)]))

end Sys2Proof.Machine
end

