-- ==== Sys2Proof/Machine/Update.lean ====
section
/-! DEFINITION. The Taper port and image updates (R525 to R542): sessions, the verdict over an image, confirmation, trial and erase. -/
namespace Sys2Proof.Machine

/-! ## Frames of the Taper port (R531, R533) -/

/-- The header of a Taper frame (R531). -/
structure TaperHead where
  type : Nat
  session : Nat
  a : Nat
  b : Nat
  peer : Nat
  data : List Byte
deriving DecidableEq, Repr

/-- A frame of the Taper port, from its destination address on, that the device takes: EtherType 0x88B6, to `Upd.TaperMac` or broadcast, in
version 1; every other frame is discarded (R531). -/
def State.taperHead (s : State) (f : List Byte) : Option TaperHead :=
  let dest := beAt f 0 6
  if beAt f 12 2 = 0x88B6 ∧ (dest = s.get Reg.updTaperMac ∨ dest = 2 ^ 48 - 1) ∧ 30 ≤ f.length ∧ beAt f 14 1 = 1 ∧ s.running then
    some { type := beAt f 15 1, session := beAt f 16 2, a := beAt f 18 4, b := beAt f 22 4, peer := beAt f 6 6, data := f.drop 30 }
  else none

/-- The window that the device advertises (R533). -/
abbrev taperWindow : Nat := 90112

/-- A response goes out (R531). -/
def State.taperAnswer (s : State) (peer type session outcome : Nat) : State :=
  let head := beBytes 1 1 ++ beBytes 1 (128 + type) ++ beBytes 2 session ++ beBytes 4 (s.get Reg.updTaperBytes) ++ beBytes 4 taperWindow ++
    beBytes 1 outcome ++ beBytes 1 (s.get Reg.updTaperState) ++ beBytes 2 0
  { s with taperTx := wickFrame peer (s.get Reg.updTaperMac) 0 0x88B6 head }

/-- A frame of the open session, or of the one under its checks, arrived. -/
def State.ofSession (s : State) (h : TaperHead) : Bool := s.get Reg.updTaperState ≠ 0 && s.get Reg.updSession = h.session

/-- The target of a session: the slot that is not active (R532). -/
def State.target (s : State) : Nat := 1 - s.get Reg.updActiveSlot

/-- A commit of the activation is armed (R535). -/
def State.updArmed (s : State) : Bool := s.armed.any (fun a => a.owner = updOwner)

/-- The outcome of an OPEN of length L that is refused (R532). -/
def State.openRefusal (s : State) (l : Nat) : Option Nat :=
  if s.get Reg.updTaperState ≠ 0 ∨ s.updArmed ∨ s.trial then some 0x48
  else if s.ownerKey = List.replicate 97 0 then some 0x46
  else if l % 64 ≠ 0 ∨ l < 1280 ∨ s.imageSlotSize < l then some 0x45
  else if s.get (Reg.slotState s.target) ≠ 1 then some 0x40
  else none

/-- TAPER_OPEN (R532): a session opens, and the target slot receives. -/
def execTaperOpen (frame : List Byte) (s : State) : Host.Outcome State Fault Refusal :=
  match s.taperHead frame with
  | some h =>
    if h.type ≠ 1 then .next s
    else match s.openRefusal h.a with
      | some code => .next (s.taperAnswer h.peer 1 h.session code)
      | none =>
        let s := (s.setIvtas s.target []).sets [(Reg.slotState s.target, 2), (Reg.updTaperState, 1), (Reg.updTaperBytes, 0),
          (Reg.updSession, h.session), (Reg.updPeer, h.peer), (Reg.updLength, h.a), (Reg.updLastFrame, s.now + 1), (Reg.updUnacked, 0),
          (Reg.updOutcome, outBusy)]
        .next (s.taperAnswer h.peer 1 h.session outBusy)
  | none => .next s

/-- TAPER_DATA (R533): a frame at the next contiguous offset is written, and every sixteenth is acknowledged; any other is discarded and
answered with the next contiguous offset. -/
def execTaperData (frame : List Byte) (s : State) : Host.Outcome State Fault Refusal :=
  match s.taperHead frame with
  | some h =>
    if h.type ≠ 2 ∨ ¬ s.ofSession h ∨ s.get Reg.updTaperState ≠ 1 then .next s
    else
      let s := s.set Reg.updLastFrame (s.now + 1)
      let off := s.get Reg.updTaperBytes
      if h.a = off ∧ h.b % 64 = 0 ∧ h.b ≤ 1408 ∧ h.b ≤ h.data.length ∧ off + h.b ≤ s.get Reg.updLength then
        let n := s.get Reg.updUnacked + 1
        let s := (s.setIvtas s.target (s.ivtas s.target ++ h.data.take h.b)).sets [(Reg.updTaperBytes, off + h.b),
          (Reg.updLastData, s.now + 1), (Reg.updUnacked, n % 16)]
        .next (if n = 16 then s.taperAnswer h.peer 2 h.session outBusy else s)
      else .next (s.taperAnswer h.peer 2 h.session outBusy)
  | none => .next s

/-- TAPER_ACK_TIMER (R533): accepted frames are acknowledged within 1 ms of the latest. -/
def execTaperAckTimer (s : State) : Host.Outcome State Fault Refusal :=
  if s.running ∧ s.get Reg.updTaperState = 1 ∧ 0 < s.get Reg.updUnacked ∧ s.held Reg.updLastData ms then
    .next ((s.set Reg.updUnacked 0).taperAnswer (s.get Reg.updPeer) 2 (s.get Reg.updSession) outBusy)
  else .next s

/-- TAPER_CLOSE (R534): accepted when the next contiguous offset equals L; the checks then run, and the answer follows them. -/
def execTaperClose (frame : List Byte) (s : State) : Host.Outcome State Fault Refusal :=
  match s.taperHead frame with
  | some h =>
    if h.type ≠ 3 then .next s
    else if s.ofSession h ∧ s.get Reg.updTaperState = 1 ∧ s.get Reg.updTaperBytes = s.get Reg.updLength then
      .next (s.sets [(Reg.updLastFrame, s.now + 1), (Reg.updTaperState, 2), (Reg.updUnacked, 0)])
    else
      let s := if s.ofSession h then s.set Reg.updLastFrame (s.now + 1) else s
      .next (s.taperAnswer h.peer 3 h.session (s.get Reg.updOutcome))
  | none => .next s

/-- TAPER_CLOSE_VERDICT (R534): the checks of a close end: the slot is staged, or invalid with class 13 recorded. -/
def execTaperCloseVerdict (s : State) : Host.Outcome State Fault Refusal :=
  if s.running ∧ s.get Reg.updTaperState = 2 then
    let s := s.sets [(Reg.updTaperState, 0), (Reg.updVerdictAt, s.now + 1)]
    let b := s.ivtas s.target
    let s := match s.ivtasVerdict b with
      | none => s.sets [(Reg.slotState s.target, 3), (Reg.updStagedVersion, ivtasVersion b), (Reg.updOutcome, outDone)]
      | some code => (s.sets [(Reg.slotState s.target, 7), (Reg.updOutcome, code)]).reportObj 13 10 0x3000 0x05 code
    .next (s.taperAnswer (s.get Reg.updPeer) 3 (s.get Reg.updSession) (s.get Reg.updOutcome))
  else .next s

/-- A session ends without an image (R533). -/
def State.endSession (s : State) : State :=
  s.sets [(Reg.slotState s.target, 7), (Reg.updTaperState, 0), (Reg.updOutcome, outAborted), (Reg.updUnacked, 0)]

/-- TAPER_ABORT (R533): the session ends and its slot is invalid. -/
def execTaperAbort (frame : List Byte) (s : State) : Host.Outcome State Fault Refusal :=
  match s.taperHead frame with
  | some h =>
    if h.type ≠ 4 then .next s
    else
      let s := if s.ofSession h then s.endSession else s
      .next (s.taperAnswer h.peer 4 h.session (s.get Reg.updOutcome))
  | none => .next s

/-- TAPER_STATUS (R531): the device answers with the outcome, the state and the next contiguous offset. -/
def execTaperStatus (frame : List Byte) (s : State) : Host.Outcome State Fault Refusal :=
  match s.taperHead frame with
  | some h =>
    if h.type ≠ 5 then .next s
    else
      let s := if s.ofSession h then s.set Reg.updLastFrame (s.now + 1) else s
      .next (s.taperAnswer h.peer 5 h.session (s.get Reg.updOutcome))
  | none => .next s

/-- TAPER_SESSION_TIMEOUT (R533): a session with no frame for 5 s ends as an ABORT does. -/
def execTaperSessionTimeout (s : State) : Host.Outcome State Fault Refusal :=
  if s.running ∧ s.get Reg.updTaperState = 1 ∧ s.held Reg.updLastFrame (5 * sec) then .next s.endSession else .next s

/-! ## Erase, confirmation and trial (R530, R537 to R539) -/

/-- UPD_PREPARE (R535, R539): erases the slot that is not active. A session that runs, or an erase under way, turns it away. -/
def execUpdPrepare (ctx : Ctx) (value : Nat) (s : State) : Host.Outcome State Fault Refusal :=
  .next (s.cmdWrite ctx 0x3000 4 true true (need (!s.updArmed) 0x08000022 :: onlyOne value) (fun s =>
    if s.get Reg.updTaperState ≠ 0 ∨ s.get Reg.updErasing = 1 then s.set Reg.updOutcome 0x48
    else s.sets [(Reg.updErasing, 1), (Reg.updOutcome, outBusy), (Reg.slotState s.target, 0), (Reg.updStagedVersion, 0)]))

/-- PREPARE_DONE (R539): the erase ends and the slot reads prepared. -/
def execPrepareDone (s : State) : Host.Outcome State Fault Refusal :=
  if s.running ∧ s.get Reg.updErasing = 1 then
    .next ((s.setIvtas s.target []).sets [(Reg.updErasing, 0), (Reg.slotState s.target, 1), (Reg.updOutcome, outDone)])
  else .next s

/-- UPD_CONFIRM (R537): the trial image is confirmed; it raises the floor when it asks for that and a fuse step is left. -/
def execUpdConfirm (ctx : Ctx) (value : Nat) (s : State) : Host.Outcome State Fault Refusal :=
  .next (s.cmdWrite ctx 0x3000 0x0A true true (need s.trial 0x08000022 :: onlyOne value) (fun s =>
    let b := s.activeIvtas
    let s := (s.sets [(Reg.slotState (s.get Reg.updActiveSlot), 4), (Reg.updTrialAt, 0), (Reg.updOutcome, outDone)]).writeSelector
    if ivtasRaises b ∧ s.get Reg.updFloor < ivtasVersion b then
      if s.get Reg.updFloorStepsLeft = 0 then s.set Reg.updOutcome 0x47
      else s.sets [(Reg.updFloor, ivtasVersion b), (Reg.updFloorStepsLeft, s.get Reg.updFloorStepsLeft - 1)]
    else s))

/-- TRIAL_TIMEOUT (R538): `Upd.TrialTime` has elapsed, and a confirmation of the same cycle comes first. The device falls back: clusters that
own no arbitrated group restart into the previous image, or a reset of kind 3 asserts when no cluster is alive. -/
def execTrialTimeout (s : State) : Host.Outcome State Fault Refusal :=
  if s.running ∧ s.trial ∧ s.held Reg.updTrialAt (s.get Reg.updTrialTime * ms + 2000) then
    let r := s.fallBack
    let s := r.1.set Reg.updTrialAt 0
    if ¬ r.2 then .next s
    else if ¬ s.alive 0 ∧ ¬ s.alive 1 then .next (s.assertReset 3)
    else .next ([0, 1].foldl (fun s c => if s.ownsGroup c then s else s.restartCluster c) s)
  else .next s

/-- OWNER_KEY_WRITE (R530): in Trim, while the key reads all zero. -/
def execOwnerKeyWrite (ctx : Ctx) (bytes : List Byte) (s : State) : Host.Outcome State Fault Refusal :=
  .next (s.rwWrite ctx 0x3000 0x0F true true [need (s.mode = .trim) 0x08000022,
    need (bytes.length ≤ 97) 0x06070012, need (97 ≤ bytes.length) 0x06070013] (fun s => s.setBlob Reg.updOwnerKey bytes)
    (need (s.ownerKey = List.replicate 97 0) 0x06010002))

/-- The hand-over of an activation (R536): the slot flips, the staged slot runs on trial, the Pilot core restarts into it without a
record, and so does every cluster that owns no arbitrated group. -/
def State.activate (s : State) : State :=
  let a := s.get Reg.updActiveSlot
  let s := (s.sets [(Reg.updActiveSlot, 1 - a), (Reg.slotState (1 - a), 5), (Reg.slotState a, 6), (Reg.updTrialAt, s.now + 1),
    (Reg.updStagedVersion, 0)]).writeSelector
  [0, 1].foldl (fun s c => if s.ownsGroup c then s else s.restartCluster c) s.restartPilot

/-- The check of a commit of the activation (R535). -/
def State.updRefusal (s : State) : Option Nat :=
  if s.trial then some 0x48
  else if s.get (Reg.slotState s.target) ≠ 3 ∨ s.get Reg.updVerdictAt = s.now + 1 then some 0x41
  else none

end Sys2Proof.Machine
end

