-- ==== Sys2Proof/Machine/Commit.lean ====
section
/-! DEFINITION. Owners, commits and hand-overs (R24 to R28, R50 to R54, R97 to R99, R151 to R153), and what moves the domain
clocks that Kindles follow: steps and disabling (R84, R87, R98, R99, R192). -/
namespace Sys2Proof.Machine

/-! ## Owners -/

/-- An owner stands on the Wick die, where a Kindle reaches it over the sideband (R97). -/
def Owner.onWick (o : Owner) : Bool := o.grp = .cyc || o.grp = .cxr || o.grp = .fv || o.grp = .upd

/-- A register whose pending copy an owner holds (R136, R151, R187, R254). -/
def State.owns (s : State) (o : Owner) (r : Reg) : Bool :=
  match o.grp with
  | .mm => r.grp = .rw || (r.grp = .mm && (r.inst = o.inst || (s.chainLower o.inst && r.inst = o.inst + 1)))
  | .gcl => (r.grp = .gcl && r.inst = o.inst) || (r.grp = .sched && r.inst = o.inst && 1 ≤ r.sub && r.sub ≤ 5)
  | .saRow => r.grp = .saRow || r.grp = .iSlot
  | g => r.grp = g && r.inst = o.inst

/-- What waits for an owner's hand-over. -/
def State.written (s : State) (o : Owner) : List (Reg × Nat) := s.pend.filter (fun e => s.owns o e.1)

/-- The rows with a written field. -/
def State.writtenRows (s : State) (o : Owner) : List Nat := ((s.written o).map (·.1.row)).eraseDups

/-- The pending copy of an owner equals the active one again. -/
def State.dropPending (s : State) (o : Owner) : State := { s with pend := s.pend.filter (fun e => !s.owns o e.1) }

/-- The pending copy becomes the active one (R54). -/
def State.takePending (s : State) (o : Owner) : State := (s.dropPending o).sets (s.written o)

/-- No commit of an owner is armed. -/
def State.unarm (s : State) (o : Owner) : State := { s with armed := s.armed.filter (fun a => a.owner ≠ o) }

/-- A new Kindle time replaces the earlier one of an owner that is armed for a Kindle (R24). -/
def State.rearm (s : State) (o : Owner) (t : Nat) : State :=
  { s with armed := s.armed.map (fun a => if a.owner = o ∧ a.kindle then { a with time := t } else a) }

/-- The armed commit of an owner. -/
def State.armOf (s : State) (o : Owner) : Option Arm := s.armed.find? (fun a => a.owner = o)

/-! ## Checks of a pending copy (R53, R190, R203, R357, R405, R410, R535) -/

/-- The rows of a group and instance that hold a field in either copy. -/
def State.rowsEither (s : State) (g : Grp) (i sub : Nat) : List Nat :=
  ((s.regs.map (·.1) ++ s.pend.map (·.1)).filter (fun r => r.grp = g && r.inst = i && r.sub = sub && r.bank = 0)).map (·.row)

/-- The refusal of a gate list (R190). -/
def State.gclRefusal (s : State) (n : Nat) : Option Nat :=
  if s.pendGet (Reg.gclEnable n) = 1 ∧ s.get (Reg.domEnable (s.pendGet (Reg.gclDomain n))) = 0 then some outMode
  else if s.get (Reg.portMergeEnable n) = 0 ∧ (s.rowsEither .gcl n 0x12).any (fun r =>
      r < s.pendGet (Reg.gclLength n) && 1 ≤ s.pendGet (Reg.gclOp n r)) then some 0x40
  else none

/-- The refusal of the stream gates (R190, R203). -/
def State.sgRefusal (s : State) : Option Nat :=
  if (s.rowsEither .sg 0 0x10).any (fun r => s.pendGet (Reg.sgMode r) = 2 &&
      (s.pendGet (Reg.sgCycleTime r) = 0 ||
        s.pendGet (Reg.sgCycleTime r) < s.pendGet (Reg.sgOpenOffset r) + s.pendGet (Reg.sgOpenLength r))) then some 0x41
  else none

/-- The source of a KeyID: that of its key, or of a free KeyID the one that its next program takes (R356). -/
def State.kidSourceNow (s : State) (k : Nat) : Nat :=
  if s.get (Reg.kidState k) = 0 then s.get (Reg.kidSource k) else s.get (Reg.kidSource k).latched

/-- The refusal of a region (R355): first its own values, then an overlap with another enabled region or the device area. -/
def State.rgRefusal (s : State) (r : Nat) : Option Nat :=
  let b := s.pendGet (Reg.rgBase r)
  let l := s.pendGet (Reg.rgLimit r)
  let k := s.pendGet (Reg.rgKeyId r)
  if s.pendGet (Reg.rgEnable r) = 0 then none
  else if b % 65536 ≠ 0 ∨ l % 65536 ≠ 0 ∨ l ≤ b ∨ ¬ (s.inDram b (l - b) ∨ s.inFlash b (l - b)) ∨ k = 15 ∨
      (s.inFlash b (l - b) ∧ s.kidSourceNow k = 0) then some 0x43
  else if (b < s.deviceEnd ∧ flashBase < l) ∨ (List.range 16).any (fun q => q ≠ r && s.get (Reg.rgEnable q) = 1 &&
      b < s.get (Reg.rgLimit q) && s.get (Reg.rgBase q) < l) then some 0x42
  else none

/-- The refusal of a cyclic entry (R405). -/
def State.cycRefusal (s : State) (e : Nat) : Option Nat :=
  let t := s.pendGet (Reg.cycTarget e)
  let p := s.pendGet (Reg.cycParams e)
  let period := s.pendGet (Reg.cycPeriod e)
  let off := s.pendGet (Reg.cycOffset e)
  let fmt := if t < 16 then field (s.pendGet (Reg.cycKey e)) 63 62 else 3
  let r := s.fvRow (field p 28 18)
  let auth := if bitOf p 29 then r.fBytes + r.mBytes else 0
  if t ≠ 0xFF ∧ (fmtBytes fmt < field p 15 0 + auth ∨ (bitOf p 29 ∧ ¬ (r.valid ∧ r.generates)) ∨ (period ≠ 0 ∧ period ≤ off) ∨
      (period = 0 ∧ (off ≠ 0 ∨ ¬ (16 ≤ t ∧ s.get (Reg.linRole (t - 16)) = 0 ∧ bitOf p 30)))) then some 0x41
  else none

/-- What the check of an owner's pending copy answers: an outcome that refuses the hand-over, if any. -/
def State.commitRefusal (s : State) (o : Owner) : Option Nat :=
  match o.grp with
  | .gcl => s.gclRefusal o.inst
  | .sg => s.sgRefusal
  | .rg => s.rgRefusal o.inst
  | .cyc => s.cycRefusal o.inst
  | .upd => s.updRefusal
  | _ => none

/-- The freshness windows of the pending table are permitted: 1 when F is 0, else below 2^F (R410). -/
def State.fvWindowsOk (s : State) : Bool :=
  (s.rowsEither .fv 0 0x10).all (fun r =>
    let c := s.pendGet (Reg.fvConfig r)
    let w := s.pendGet (Reg.fvWindow r)
    let f := field c 23 21
    !bitOf c 31 || (if f = 0 then w = 1 else w < 256 ^ f))

/-! ## Hand-overs -/

/-- A gate list is handed over at an instant K of its schedule domain (R189, R195, R196): it is planned for its first cycle start at
or after K, and the old gates stand until then; a list that does not run leaves every gate open. It is counted (R215). -/
def State.handGcl (s : State) (n : Nat) (k : Option Nat) : State :=
  let ran := s.get (Reg.gclEnable n) = 1 ∧ s.get (Reg.gclPlanned n) = 1
  let s := (s.takePending ⟨.gcl, n⟩).count (Reg.scntListSwitches n)
  if s.get (Reg.gclEnable n) = 1 then
    let k := k.getD (s.gclNow n)
    let s := (s.gclPlan n k).set (Reg.gclFresh n) 1
    if ran ∧ k < s.get (Reg.gclNextAt n) then s.count (Reg.scntExtended n) else s
  else ((s.set (Reg.gclPlanned n) 0).releaseHold n).setGates n 0xFF

/-- The database is handed over, and every learned row of the key of a static row is cleared (R181). -/
def State.handFdb (s : State) : State :=
  let rows := s.writtenRows ⟨.fdb, 0⟩
  let s := s.takePending ⟨.fdb, 0⟩
  let fixed := rows.filter (fun r => s.fdbValid r && !s.fdbLearned r)
  fixed.foldl (fun s r =>
    let k := s.get (Reg.fdbKey r)
    let b := fdbBuckets (k / 2 ^ 48) (k % 2 ^ 48)
    ((b.1 ++ b.2).filter (fun q => s.fdbLearned q && s.get (Reg.fdbKey q) = k)).foldl State.fdbClear s) s

/-- The streams are handed over; a row whose identification changes numbers anew (R200). -/
def State.handSid (s : State) : State :=
  let fresh := ((s.written ⟨.sid, 0⟩).filter (fun e => e.1.sub ≤ 0x14 && e.2 ≠ s.get e.1)).map (·.1.row)
  fresh.foldl (fun s r => s.set (Reg.sidNextSeq r) 0) (s.takePending ⟨.sid, 0⟩)

/-- A region is handed over; disabled or under another KeyID, its granules are uninitialised (R354). -/
def State.handRg (s : State) (r : Nat) : State :=
  let old := s.regionGranules r
  let k := s.get (Reg.rgKeyId r)
  let s := s.takePending ⟨.rg, r⟩
  if s.get (Reg.rgEnable r) = 1 ∧ s.get (Reg.rgKeyId r) = k then s
  else { s with granules := s.granules.filter (fun g => !old.contains g.idx) }

/-- A channel's chain address and configuration are handed over; a running channel takes a changed address at its next boundary
(R345). -/
def State.handDma (s : State) (c : Nat) : State :=
  let old := s.get (Reg.dmaChainAddress c)
  let s := s.takePending ⟨.dma, c⟩
  if old ≠ s.get (Reg.dmaChainAddress c) ∧ (s.get (Reg.dmaState c) = 1 ∨ s.get (Reg.dmaState c) = 2) then s.set (Reg.dmaJump c) 1 else s

/-- The connection table is handed over, with its high-water mark (R147, R154). -/
def State.handConn (s : State) : State :=
  let rows := s.writtenRows ⟨.conn, 0⟩
  let s := rows.foldl (fun s r => s.set (Reg.connFin r) 0) (s.takePending ⟨.conn, 0⟩)
  s.set Reg.clsConnHighWater (max (s.get Reg.clsConnHighWater) s.connCount)

/-- The freshness rows are handed over; a receive row whose V passes a multiple of the step records it to flash (R412, R413). -/
def State.handFv (s : State) : State :=
  (s.writtenRows ⟨.fv, 0⟩).foldl (fun t r =>
    let step := t.get Reg.gwFvReserveStep
    let v := t.get (Reg.fvValue r)
    if !(t.fvRow r).generates && s.get (Reg.fvValue r) / step ≠ v / step then t.set (Reg.fvReserve 0 r) v else t) (s.takePending ⟨.fv, 0⟩)

/-- The pending copy of an owner becomes the active one, with all that its chapter makes of it. -/
def State.apply (s : State) (o : Owner) (k : Option Nat) : State :=
  match o.grp with
  | .gcl => s.handGcl o.inst k
  | .fdb => s.handFdb
  | .sid => s.handSid
  | .fm => (s.writtenRows o).foldl State.fillMeter (s.takePending o)
  | .sr => (s.writtenRows o).foldl State.takeAny (s.takePending o)
  | .rg => s.handRg o.inst
  | .dma => s.handDma o.inst
  | .conn => s.handConn
  | .fv => s.handFv
  | .saRow => (s.handRows s.pendRows).takePending o
  | .cyc =>
    let s := s.takePending o
    s.set (Reg.cycSeen o.inst) (s.timeNs (s.get (Reg.cycDomain o.inst)))
  | .upd => s.activate
  | _ => s.takePending o

/-- An owner hands pending over to active (R50, R52, R54). -/
def State.handOver (s : State) (o : Owner) (k : Option Nat := none) : State :=
  (((s.apply o k).unarm o).handedOver o).set (Reg.commitOutcome o) outDone

/-- A Kindle asks for a hand-over: a rule bank stops the admission of its ports first and flips in a step of its own (R152). -/
def State.beginHandOver (s : State) (o : Owner) (k : Option Nat := none) : State :=
  if o.grp = .mm then (s.unarm o).sets [(Reg.bankPause o.inst, s.now + 1), (Reg.bankFlipped o.inst, 0), (Reg.commitOutcome o, outBusy)]
  else s.handOver o k

/-- The pause of a bank ends: it flips with the rewrite profiles unless it has, and the pause of 86 fabric cycles is recorded (R152,
R153). -/
def State.endPause (s : State) (b : Nat) : State :=
  let s := if s.get (Reg.bankFlipped b) = 1 then s else s.handOver ⟨.mm, b⟩
  ((s.sets [(Reg.bankPause b, 0), (Reg.bankFlipped b, 0)]).count Reg.clsPauseCount 32).set Reg.clsLastPause ((s.fabricPs 86 + 999) / 1000)

/-- A commit of mode 0: the write completes in the hand-over cycle. Of a rule bank that is the flip, after stop and drain; the rest of its
pause follows, and a pause of the bank that still runs comes first (R52, R58, R152, R153). -/
def State.handAtOnce (s : State) (o : Owner) : State :=
  if o.grp = .mm then
    let s := if s.get (Reg.bankPause o.inst) = 0 then s else s.endPause o.inst
    (s.handOver o).sets [(Reg.bankPause o.inst, s.now + 1), (Reg.bankFlipped o.inst, 1)]
  else s.handOver o

/-! ## Commits -/

/-- An index holds an object or an owner on the variant. -/
def State.hasIndex (s : State) (idx : Nat) : Bool :=
  objectRows.any (fun o => o.base ≤ idx && idx < o.base + o.count && s.fuses.variant.hasObject o.grp (idx - o.base) o.lo)

/-- A commit completes with an outcome and hands nothing over (R53). -/
def State.ended (s : State) (o : Owner) (code : Nat) : State := s.set (Reg.commitOutcome o) code

/-- A write of 1 to `Grp.Commit` that passed its checks (R26, R52, R53, R99, R345). -/
def State.commit (s : State) (o : Owner) : State :=
  let s := s.unarm o
  match s.commitRefusal o with
  | some code => s.ended o code
  | none =>
    match s.get (Reg.commitWhen o) with
    | 0 => s.handAtOnce o
    | 1 =>
      if s.get (Reg.dmaState o.inst) = 1 ∨ s.get (Reg.dmaState o.inst) = 2 then
        ({ s with armed := s.armed ++ [{ owner := o, kindle := false }] } : State).ended o outBusy
      else s.handOver o
    | _ =>
      let d := s.get (Reg.kindleDomain o)
      let t := s.get (Reg.kindleTime o)
      if s.get (Reg.domEnable d) = 0 then s.ended o outMode
      else if t ≤ s.timeNs d then s.ended o outLate
      else ({ s with armed := s.armed ++ [{ owner := o, kindle := true, time := t, domain := d }] } : State).ended o outBusy

/-- One access to the commit object of the owner of an index. -/
def State.commitAccess (s : State) (ctx : Ctx) (idx : Nat) (checks : Owner → List (Option Nat)) (act : State → Owner → State) : State :=
  match ownerAt s.fuses.variant idx with
  | some o => s.cmdWrite ctx idx 0xFB true (o.grp = .upd) (checks o) (fun s => act s o)
  | none => s.cmdWrite ctx idx 0xFB (s.hasIndex idx) true [some 0x06090011] (fun s => s)

/-- COMMIT (R52): hands over at once, arms for a boundary or arms for a Kindle time. The upper bank of a chained pair has no commit of
its own (R136), and a freshness window out of its range is refused (R410). -/
def execCommit (ctx : Ctx) (index : Nat) (s : State) : Host.Outcome State Fault Refusal :=
  .next (s.commitAccess ctx index (fun o =>
    [need (o.grp ≠ .fv || s.fvWindowsOk) 0x06090031,
     need (o.grp ≠ .mm || o.inst % 2 = 0 || !s.chainLower (o.inst - 1)) 0x06040043]) State.commit)

/-- DISARM (R53): an armed commit is disarmed, the pending copy stands, and the outcome is ABORTED. -/
def execDisarm (ctx : Ctx) (index : Nat) (s : State) : Host.Outcome State Fault Refusal :=
  .next (s.commitAccess ctx index (fun _ => []) (fun s o => (s.unarm o).ended o outAborted))

/-- DISCARD (R53, R151): the active copy is copied into the pending one, and an armed commit is disarmed. -/
def execDiscard (ctx : Ctx) (index : Nat) (s : State) : Host.Outcome State Fault Refusal :=
  .next (s.commitAccess ctx index (fun _ => []) (fun s o =>
    ((s.dropPending o).unarm o).ended o (if (s.armOf o).isSome then outAborted else outDone)))

/-- BOUNDARY_HANDOVER (R52, R345): an owner armed for its boundary hands over there. A channel that no longer runs stands at one; that of
a running channel comes with DMA_DESCRIPTOR_DONE. -/
def execBoundaryHandover (index : Nat) (s : State) : Host.Outcome State Fault Refusal :=
  match ownerAt s.fuses.variant index with
  | some o =>
    if s.running ∧ (s.armOf o).any (fun a => !a.kindle) ∧ s.get (Reg.dmaState o.inst) ≠ 1 ∧ s.get (Reg.dmaState o.inst) ≠ 2 then
      .next (s.handOver o)
    else .next s
  | none => .next s

/-! ## Kindles -/

/-- An armed Kindle is due: the clock of its domain is at or past its time (R97). -/
def State.kindleDue (s : State) (d : Nat) (a : Arm) : Bool :=
  a.kindle && a.domain = d && s.get (Reg.domEnable d) = 1 && a.time ≤ s.timeNs d

/-- One Kindle fires (R25, R28, R53, R97): the pending copy is checked again and handed over, and the owner's Kindle line pulses. -/
def State.fireOne (s : State) (a : Arm) : State :=
  let o := a.owner
  let s := s.unarm o
  let s :=
    if o.onWick && s.get Reg.chmState ≠ 1 then s.ended o outFaulted
    else match s.commitRefusal o with
      | some code => s.ended o code
      | none => s.beginHandOver o (if s.pendGet (Reg.gclDomain o.inst) = a.domain then some a.time else none)
  s.pulse 0x07 o.index

/-- Every due Kindle of a domain fires. -/
def State.fireDue (s : State) (d : Nat) : State := (s.armed.filter (s.kindleDue d)).foldl State.fireOne s

/-- KINDLE_FIRE (R97): the clock of a domain has reached armed Kindle times, and their owners hand over. -/
def execKindleFire (d : Nat) (s : State) : Host.Outcome State Fault Refusal :=
  .next (if s.running then s.fireDue d else s)

/-- BANK_FLIP (R152, R153): after stop and drain the bank whose turn it is flips with the rewrite profiles, unless the write of its
commit ended with the flip, and the pause is over and recorded. -/
def execBankFlip (b : Nat) (s : State) : Host.Outcome State Fault Refusal :=
  if s.bankInPause = some b then .next (s.endPause b) else .next s

/-! ## Steps and disabling of a domain clock -/

/-- The running gate lists of a schedule domain. -/
def State.listsOf (s : State) (d : Nat) : List Nat :=
  (List.range 38).filter (fun n => s.get (Reg.gclEnable n) = 1 && s.get (Reg.gclPlanned n) = 1 && s.get (Reg.gclDomain n) = d)

/-- A step moves a domain clock: in state 4 through its offset, and without moving the domains that follow it (R84, R87). -/
def State.moveClock (s : State) (d : Nat) (step : Int) : State :=
  let old := s.get (Reg.domClock d)
  let off := fun (p : Nat) (by' : Int) => ofSigned 64 (toSigned 64 (s.get (Reg.domStandbyOffset p)) + by')
  let s := (s.followersOf d).foldl (fun s p => s.set (Reg.domStandbyOffset p) (off p step)) s
  let s := if s.get (Reg.domState d) = 4 then s.set (Reg.domStandbyOffset d) (off d (-step)) else s
  s.set (Reg.domClock d) (ofSigned clockBits (old + step))

/-- What runs on a clock goes on from its new value: gate lists are planned anew and no release instant that was stepped over is made
up for (R188, R406). -/
def State.afterStep (s : State) (d : Nat) : State :=
  let s := (s.listsOf d).foldl (fun s n => s.gclPlan n (s.gclNow n)) s
  (List.range 128).foldl (fun s e => if s.get (Reg.cycTarget e) ≠ 0xFF ∧ s.get (Reg.cycDomain e) = d then
    s.set (Reg.cycSeen e) (s.timeNs d) else s) s

/-- DOM_STEP (R84, R87, R98): a signed step in sixteenths, counted; a step over an armed Kindle time fires it in this cycle. -/
def execDomStep (ctx : Ctx) (d value : Nat) (s : State) : Host.Outcome State Fault Refusal :=
  .next (s.cmdWrite ctx (0x2210 + d) 6 (d < 4) false [fits 8 value] (fun s =>
    let old := s.timeNs d
    let s := (s.moveClock d (toSigned 64 value)).count (Reg.domStepCount d) 32
    let crossed := s.armed.any (fun a => s.kindleDue d a && old < a.time)
    let s := if crossed then s.set (Reg.domKindleStepped d) 1 else s
    (s.fireDue d).afterStep d))

/-- DOM_DISABLE (R84, R88, R92, R99, R192): the clock holds its value, armed Kindles of the domain are disarmed with ABORTED, gate lists
that run in it stop, and the domain enters state 0. -/
def execDomDisable (ctx : Ctx) (d : Nat) (s : State) : Host.Outcome State Fault Refusal :=
  .next (s.rwWrite ctx (0x2210 + d) 1 (d < 4) false [] (fun s =>
    if s.get (Reg.domEnable d) = 0 then s
    else
      let arms := s.armed.filter (fun a => a.kindle && a.domain = d)
      let s := arms.foldl (fun s a => (s.unarm a.owner).ended a.owner outAborted) s
      let s := (s.listsOf d).foldl State.gclStop s
      (s.domSetState d 0).set (Reg.domEnable d) 0))

end Sys2Proof.Machine
end

