-- ==== Sys2Proof/Machine/Read.lean ====
section
/-! DEFINITION. Where an index and subindex lead (R40, R44, R50, R62, R64), and what a read of the dictionary answers, on every
path (R41 to R44, R54 to R63, R76). -/
namespace Sys2Proof.Machine

/-! ## Places -/

/-- The rows of a table window on a variant (R64). -/
def Variant.rowCount (v : Variant) : Grp → Nat
  | .mm => 4096
  | .conn => 65536
  | .saRow => v.slots
  | .gcl => 1024
  | .sid => 4096
  | .sg => 1024
  | .fm => 2048
  | .sr => 2048
  | .cxr => 4096
  | .fv => 2048
  | .fdb => 32768
  | _ => 0

/-- What an index and subindex name. -/
inductive Place where
  /-- Nothing, with the abort of R44. -/
  | missing (abort : Nat)
  /-- Subindex F8h + k of an owner's commit block (R50). -/
  | commit (o : Owner) (k : Nat)
  /-- Subindex k of a table window: 1 `RowSelect`, 2 `RowCount`, 3 `View` (R62). -/
  | window (o : Owner) (k : Nat)
  /-- An object of a chapter's table, with its register. -/
  | object (o : Obj) (r : Reg)
deriving DecidableEq, Repr

/-- The place of an index and subindex, with the table row that a field addresses (R5, R44). The board delays of a port stand under
its subindex, so that those of an absent port belong to an absent unit. -/
def State.place (s : State) (idx sub row : Nat) : Place :=
  let v := s.fuses.variant
  let obj : Place := match objAt v idx sub with
    | some o => .object o (o.reg idx sub (if o.isRow then row else 0))
    | none =>
      if s.hasIndex idx ∨ (ownerAt v idx).isSome then
        .missing (if (idx = 0x2230 ∨ idx = 0x2231) ∧ 1 ≤ sub ∧ sub ≤ 38 then 0x06020000 else 0x06090011)
      else .missing 0x06020000
  match ownerAt v idx with
  | some o =>
    if 0xF8 ≤ sub ∧ sub ≤ 0xFF then .commit o (sub - 0xF8)
    else if 0x4000 ≤ idx ∧ 1 ≤ sub ∧ sub ≤ 3 then .window o sub
    else obj
  | none => obj

/-- The row that a path context has selected in the table window of an index (R60, R62). -/
def State.selectedRow (s : State) (c : Ctx) (idx : Nat) : Nat :=
  match ownerAt s.fuses.variant idx with
  | some o => if 0x4000 ≤ idx then s.get (Reg.rowSelect o.grp o.inst (ctxBank c)) else 0
  | none => 0

/-- A place is held on the Wick die (R65, R76). -/
def Place.wick : Place → Bool
  | .object o _ => o.wick
  | .commit o _ => o.grp = .upd
  | _ => false

/-- The type of a place (R50, R62). -/
def Place.ty : Place → Ty
  | .missing _ => .u 1
  | .commit _ k => match k with
    | 1 => .u 8 | 6 => .u 4 | 7 => .u 8 | 5 => .bool | _ => .u 1
  | .window _ k => if k = 3 then .u 1 else .u 4
  | .object o _ => o.ty

/-- The access kind of a place; P37's enable and frame size and the source and rights of KeyID 15 are constant (R50, R62, R109, R356). -/
def Place.acc : Place → Acc
  | .missing _ => .ro
  | .commit _ k => match k with
    | 3 => .wo | 4 => .ro | 6 => .ro | 7 => .ro | _ => .rw
  | .window _ k => if k = 2 then .fixed else .rw
  | .object o r => if (r.grp = .port ∧ r.inst = 37 ∧ o.acc = .rw) ∨ (r.grp = .kid ∧ r.inst = 15 ∧ (r.sub = 1 ∨ r.sub = 3)) then .fixed else o.acc

/-- An object longer than 8 bytes, whose window slot reads as its length (R59). -/
def Ty.long : Ty → Bool
  | .text n => 8 < n
  | .octets n => 8 < n
  | _ => false

/-! ## Values that the units give when they are read -/

/-- The communication objects (R41). -/
def State.comValue (s : State) (idx sub : Nat) : Nat :=
  match idx, sub with
  | 0x1001, _ => flag (0 < s.unacknowledged)
  | 0x1018, 0 => 4
  | 0x1018, 1 => 0x0B7E
  | 0x1018, 2 => s.fuses.variant.partCode
  | 0x1018, 3 => 0xB1
  | 0x1018, 4 => s.fuses.serial
  | 0x1200, 0 => 2
  | 0x1200, 1 => 0x600 + s.get Reg.devNodeId
  | 0x1200, 2 => 0x580 + s.get Reg.devNodeId
  | _, _ => 0

/-- `Vlt.SlotInfo` (R297). -/
def State.slotInfo (s : State) (n : Nat) : Nat :=
  match s.keyAt n with
  | some k => 2 ^ 31 + flag k.generated * 2 ^ 30 + k.cls * 2 ^ 26 + k.alg * 2 ^ 20 + k.policy
  | none => 0

/-- `Cr.ContextInfo` (R322). -/
def State.contextInfo (s : State) (n : Nat) : Nat :=
  match s.crContext? n with
  | some k => 2 ^ 31 + flag k.spent * 2 ^ 30 + k.mode * 2 ^ 16 + k.slot
  | none => 0

/-- The time of a commit armed for a Kindle on the association slots, or 0 (R268). -/
def State.nextKindle (s : State) : Nat :=
  match s.armOf ⟨.saRow, 0⟩ with
  | some a => if a.kindle then a.time else 0
  | none => 0

/-- `Tb.PllStatus` while the dictionary answers: every loop is locked, and the follower is aligned or not (R83, R91). -/
def State.pllStatus (s : State) : Nat := 0x3F + flag (s.get Reg.followerFails < 4) * 0x40

/-- The value of a number that its unit gives when it is read; any other number stands in its register. -/
def State.unitValue (s : State) (c : Ctx) (idx : Nat) (r : Reg) : Nat :=
  match r.grp, r.sub with
  | .com, sub => s.comValue idx sub
  | .dev, 0x01 => s.fuses.variant.partCode
  | .dev, 0x02 => 0xB1
  | .dev, 0x04 => s.fuses.variant.unitPresence
  | .dev, 0x0A => s.configFormat
  | .pwr, 0x01 => s.mode.code
  | .sup, 0x04 => s.fuses.coreSetpoint
  | .tb, 0x02 => s.pllStatus
  | .cls, 0x04 => s.connCount
  | .port, 0x0A => if r.inst = 37 then flag s.running else s.get r
  | .buf, 0x0C => s.entriesFree
  | .buf, 0x30 => (s.fdbRows.filter s.fdbValid).length
  | .buf, 0x31 => (s.fdbRows.filter s.fdbLearned).length
  | .q, 0x05 => if s.partitionMode then s.partitionUsed r.inst else 0
  | .q, sub =>
    if 0x40 ≤ sub ∧ sub < 0x60 then s.depthCells r.inst (sub - 0x40)
    else if 0x60 ≤ sub ∧ sub < 0x80 then s.depthFrames r.inst (sub - 0x60)
    else s.get r
  | .sched, sub => if 0x18 ≤ sub ∧ sub ≤ 0x1F then (s.settle r.inst).get r else s.get r
  | .sa, 0x02 => ((List.range s.fuses.variant.slots).filter s.slotLive).length
  | .sa, 0x03 => s.nextKindle
  | .sa, 0x06 => s.saEvents.headD 0
  | .sp, 0x01 => s.slow.length
  | .sp, 0x04 => s.spTags.length
  | .se, 0x08 => (s.box r.inst).inBytes
  | .vlt, 0x10 => s.slotInfo (s.get (Reg.vltSlot.of c))
  | .vltG, 0x07 => s.vault.length
  | .cr, 0x09 => ((s.crContext? (s.get (Reg.crContext.of c))).map (fun k => k.next)).getD 0
  | .cr, 0x0A => s.contextInfo (s.get (Reg.crContext.of c))
  | .xm, 0x04 => visible s.dramSize
  | .xm, 0x05 => visible s.flashSize
  | .xm, 0x07 => s.uninitGranules.length
  | .kid, 0x01 => if r.inst = 15 then 2 else s.get r
  | .cyc, 0x08 =>
    if s.get (Reg.cycDataAt r.inst) = 0 then 0
    else min ((s.now + 1 - s.get (Reg.cycDataAt r.inst)) / us) (2 ^ 32 - 1)
  | .msStat, 0x04 => s.oldestUnexported
  | .err, 0x03 => s.unacknowledged
  | .upd, 0x07 => ivtasVersion s.activeIvtas
  | _, _ => s.get r

/-- The bytes of a string, octet string or domain (R41, R42). -/
def State.objBytes (s : State) (c : Ctx) (idx : Nat) (o : Obj) (r : Reg) : List Byte :=
  match r.grp, r.sub with
  | .com, _ =>
    if idx = 0x1008 then asciiBytes s.fuses.variant.name
    else if idx = 0x1009 then asciiBytes "B1"
    else s.softwareVersion
  | .vlt, 0x11 => padTo 133 (((s.keyAt (s.get (Reg.vltSlot.of c))).map (fun k => k.pub)).getD [])
  | .msStat, 0x07 => ((s.sealRecords.find? (fun x => x.seq = s.get Reg.msRecordSelect)).map (fun x => x.bytes)).getD (List.replicate 512 0)
  | .msStat, 0x0A => s.blob r
  | .msStat, 0x0C => s.sealPublic
  | .err, 0x05 => s.recordBytes (s.get (Reg.errSelect.of c))
  | _, _ => s.blob r (match o.ty with
    | .octets n => List.replicate n 0
    | _ => [])

/-! ## Reads -/

/-- The answer to one access of the dictionary: the abort, 0 for success, the value of its 8-byte slot and its bytes. -/
structure Answer where
  abort : Nat := 0
  slot : Nat := 0
  bytes : List Byte := []
deriving DecidableEq, Repr

/-- A number in an 8-byte slot: zero-extended, or sign-extended for a signed type (R56). -/
def Ty.slot : Ty → Nat → Nat
  | .i n, v => ofSigned 64 (toSigned (8 * n) v)
  | _, v => v

/-- The answer that holds a number of a type. -/
def answerNumber (t : Ty) (v : Nat) : Answer := { slot := t.slot v, bytes := leBytes t.bytes v }

/-- The answer that holds the bytes of an object: a long one reads as its length in its slot (R56, R59). -/
def answerBytes (t : Ty) (b : List Byte) : Answer := { slot := if t.long then b.length else ofLe b, bytes := b }

/-- The register through which a read of an object goes: the copy of the path context, the pending copy, or the active one (R43,
R60, R62). -/
def State.readValue (s : State) (c : Ctx) (idx : Nat) (o : Obj) (r : Reg) : Nat :=
  if o.perCtx then s.unitValue c idx (r.of c)
  else if o.acc = .rwp ∨ o.isRow then
    (if o.isRow ∧ s.get (Reg.view r.grp r.inst (ctxBank c)) = 1 then s.get r else s.pendGet r)
  else s.unitValue c idx r

/-- What a read of an object does beside its answer: an association event leaves its queue (R266), a capture is read (R96), and the
pin levels are as they are (log entry 5). -/
def State.readObject (s : State) (c : Ctx) (idx : Nat) (o : Obj) (r : Reg) : Answer × State :=
  if o.ty.isBytes then (answerBytes o.ty (s.objBytes c idx o (if o.perCtx then r.of c else r)), s)
  else if r = Reg.wkPinState then
    let d := s.draw 4
    (answerNumber o.ty d.1, d.2)
  else
    let a := answerNumber o.ty (s.readValue c idx o r)
    if r.grp = .sa ∧ r.sub = 0x06 then (a, { s with saEvents := s.saEvents.tail })
    else if r.grp = .cap ∧ r.sub = 0x02 then (a, s.set (Reg.capUnread r.inst) 0)
    else (a, s)

/-- The number that a commit block or a row selection reads as (R50, R62). -/
def State.blockValue (s : State) (c : Ctx) : Place → Nat
  | .commit o k => s.get ⟨o.grp, o.inst, 0xF8 + k, 0, 0⟩
  | .window o k =>
    if k = 2 then s.fuses.variant.rowCount o.grp else s.get ⟨o.grp, o.inst, k, 0, ctxBank c⟩
  | _ => 0

/-- The first checks of R44 for a read of a place: it exists, its kind permits a read, and the mode does. -/
def State.readAbort (s : State) (p : Place) : Option Nat :=
  match p with
  | .missing a => some a
  | _ => firstAbort [need (p.acc ≠ .wo) 0x06010001, need (s.running || p.wick) 0x08000022]

/-- A read of a place; no abort is latched here. -/
def State.readPlace (s : State) (c : Ctx) (idx : Nat) (p : Place) : Answer × State :=
  match s.readAbort p with
  | some a => ({ abort := a }, s)
  | none =>
    if s.linkBars c p.wick then ({ abort := linkAbort c }, s)
    else match p with
    | .object o r => s.readObject c idx o r
    | p => (answerNumber p.ty (s.blockValue c p), s)

/-! ## The long-object cursor (R59, R60) -/

/-- Index, subindex and offset of the cursor of a path context. -/
def State.cursor (s : State) (c : Ctx) : Nat × Nat × Nat :=
  let v := s.get (Reg.devLongSelect.of c)
  (field v 63 48, field v 47 40, field v 31 0)

/-- The cursor moved on by 8. -/
def State.cursorNext (s : State) (c : Ctx) : State :=
  let v := s.get (Reg.devLongSelect.of c)
  s.set (Reg.devLongSelect.of c) (setField v 31 0 ((field v 31 0 + 8) % 2 ^ 32))

/-- The cursor stands on `Dev.LongData` itself, which is not a long object. -/
def selfCursor (idx sub : Nat) : Bool := idx = 0x2000 && sub = 0x11

/-- A read of `Dev.LongData`: 8 bytes at the cursor, which moves on (R59, R76). Bytes past the object's end read 0. -/
def State.longRead (s : State) (c : Ctx) : Answer × State :=
  let cur := s.cursor c
  if selfCursor cur.1 cur.2.1 then ({ abort := 0x06070010 }, s)
  else
    let r := s.readPlace c cur.1 (s.place cur.1 cur.2.1 (s.selectedRow c cur.1))
    if r.1.abort ≠ 0 then ({ abort := r.1.abort }, s)
    else (answerNumber (.u 8) (ofLe (slice r.1.bytes cur.2.2 8)), r.2.cursorNext c)

/-- A read of an index and subindex in a path context, of a given table row; no abort is latched here. -/
def State.dictReadRow (s : State) (c : Ctx) (idx sub row : Nat) : Answer × State :=
  if selfCursor idx sub then s.longRead c else s.readPlace c idx (s.place idx sub row)

/-- A read of an index and subindex in a path context, of its selected table row; no abort is latched here. -/
def State.dictRead (s : State) (c : Ctx) (idx sub : Nat) : Answer × State := s.dictReadRow c idx sub (s.selectedRow c idx)

/-- A refused access is latched in its context's `Dev.LastAbort` (R57, R60). -/
def State.latchAbort (s : State) (c : Ctx) (a : Nat) : State := if a = 0 ∨ a = linkFault then s else s.set (Reg.devLastAbort.of c) a

/-- LONG_DATA_READ (R59): a read of `Dev.LongData` in a path context. -/
def execLongDataRead (ctx : Ctx) (s : State) : Host.Outcome State Fault Refusal :=
  if s.answers ctx then
    let r := s.longRead ctx
    .next (if r.1.abort = 0 then r.2.reply ctx r.1.slot else s.refuse ctx r.1.abort)
  else .next s

end Sys2Proof.Machine
end

