-- ==== Sys2Proof/Machine/Dma.lean ====
section
/-! DEFINITION. The DMA engine: what its initiator reads, chains and descriptors, and the ways a channel starts, resumes and stops
(R336 to R346). What a descriptor does stands in Machine/Descriptor.lean, since a channel may write the dictionary. -/
namespace Sys2Proof.Machine

/-! ## Reads of the DMA initiator (R336) -/

/-- The initiator code of the DMA engine at the memory guard (R358), and of a channel at the Chimney link (R372). -/
abbrev dmaInit : Nat := 2
abbrev dmaChannel (c : Nat) : Nat := 0x20 + c

/-- The window of the object dictionary (R55). -/
def inDict (a : Nat) : Bool := 0x40000000 ≤ a && a < 0x43000000

/-- Index and subindex of a slot of the window (R55). -/
def dictIndex (a : Nat) : Nat := (a - 0x40000000) / 0x800
def dictSub (a : Nat) : Nat := (a - 0x40000000) % 0x800 / 8

/-- One 8-byte load from the window in the DMA context, appended to what was read; a refusal is latched and ends the read (R57). -/
def dictLoad (acc : Option (List Byte) × State) (a : Nat) : Option (List Byte) × State :=
  match acc with
  | (none, s) => (none, s)
  | (some b, s) =>
    let r := s.dictRead .dma (dictIndex a) (dictSub a)
    if r.1.abort = 0 then (some (b ++ leBytes 8 r.1.slot), r.2) else (none, r.2.latchAbort .dma r.1.abort)

/-- The slots of a range of the window. -/
def dictSlots (a n : Nat) : List Nat := (List.range (n / 8)).map (fun k => a + 8 * k)

/-- The bytes that the DMA engine reads at an address, or none for a bus error: from the window in aligned loads of 8 bytes, from a
Wick target while the Chimney link is not down, or from external memory (R56, R336, R371). -/
def State.dmaRead (s : State) (a n : Nat) : Option (List Byte) × State :=
  if inDict a then
    if a % 8 = 0 ∧ n % 8 = 0 then (dictSlots a n).foldl dictLoad (some [], s) else (none, s.latchAbort .dma 0x06070010)
  else if inWindow a then
    (if s.get Reg.chmState ≠ 3 ∧ (piecesOf a n).all (fun p => wickTarget p.1 p.2) then (some (s.bytesAt a n), s) else (none, s))
  else s.memRead dmaInit a n

/-! ## Chains -/

/-- The words of the descriptor that a channel has fetched. -/
def State.dmaWords (s : State) (c : Nat) : List Nat := [0, 1, 2, 3].map (fun k => s.get (Reg.dmaWord c k))

/-- The end of a chain (R342, R346). -/
def State.dmaIdle (s : State) (c : Nat) : State :=
  (s.sets [(Reg.dmaState c, 0), (Reg.dmaPosition c, 0)]).count (Reg.dmaChains c) 32

/-- A bit of `Dma.Status` is set (R346). -/
def State.dmaFlag (s : State) (c b : Nat) : State := s.set (Reg.dmaStatus c) (setBit (s.get (Reg.dmaStatus c)) b true)

/-- The channel fetches the descriptor at an address. One that cannot be fetched, or is not aligned, ends the chain (R340); one with
bit 49 waits for a start pulse unless a start is pending (R343). The pulse of a boundary is its caller's. -/
def State.dmaFetch (s : State) (c a : Nat) : State :=
  match (if a % 32 = 0 ∧ a < 2 ^ 40 then s.dmaRead a 32 else (none, s)) with
  | (none, s) => (s.dmaIdle c).dmaFlag c 2
  | (some b, s) =>
    let s := s.sets ((wordsOf b).zipIdx.map (fun w => (Reg.dmaWord c w.2, w.1)))
    let s := s.sets [(Reg.dmaPosition c, a), (Reg.dmaBytesDone c, 0)]
    if bitOf (s.get (Reg.dmaWord c 0)) 49 then
      if s.get (Reg.dmaPending c) = 1 then s.sets [(Reg.dmaPending c, 0), (Reg.dmaState c, 1)] else s.set (Reg.dmaState c) 4
    else s.set (Reg.dmaState c) 1

/-- A chain starts at the active chain address, with status, compare address and CRC cleared (R343, R346). -/
def State.dmaStart (s : State) (c : Nat) : State :=
  (s.sets [(Reg.dmaStatus c, 0), (Reg.dmaCompareOffset c, 0), (Reg.dmaCrc c, 0), (Reg.dmaCrcRun c, 0), (Reg.dmaCrcType c, 0),
    (Reg.dmaCrcOff c, 0), (Reg.dmaJump c, 0)]).dmaFetch c (s.get (Reg.dmaChainAddress c))

/-- A channel that did not get its descriptor has stopped, and pulses (R342). -/
def State.dmaStopPulse (s : State) (c : Nat) : State := if s.get (Reg.dmaState c) = 0 then s.pulse 0x01 c else s

/-- The check of a start or a resume (R346). -/
def State.dmaReady (s : State) (c : Nat) : Option Nat := need (s.get (Reg.dmaState c) = 0 || s.get (Reg.dmaState c) = 3) 0x08000022

/-- DMA_START (R343). -/
def execDmaStart (ctx : Ctx) (c : Nat) (s : State) : Host.Outcome State Fault Refusal :=
  .next (s.cmdWrite ctx (0x2B10 + c) 3 (c < 32) false [s.dmaReady c] (fun s => (s.dmaStart c).dmaStopPulse c))

/-- DMA_RESUME (R343). -/
def execDmaResume (ctx : Ctx) (c : Nat) (s : State) : Host.Outcome State Fault Refusal :=
  .next (s.cmdWrite ctx (0x2B10 + c) 3 (c < 32) false [s.dmaReady c] (fun s => (s.dmaFetch c (s.get (Reg.dmaPosition c))).dmaStopPulse c))

/-- A channel has stopped on request before the descriptor at an address (R343, R346). -/
def State.dmaStopped (s : State) (c a : Nat) : State :=
  (s.sets [(Reg.dmaState c, 3), (Reg.dmaPosition c, a)]).dmaFlag c 3

/-- DMA_STOP (R343): a running channel stops at its next boundary; one that waits for a start pulse stands at a boundary. -/
def execDmaStop (ctx : Ctx) (c : Nat) (s : State) : Host.Outcome State Fault Refusal :=
  .next (s.cmdWrite ctx (0x2B10 + c) 3 (c < 32) false [] (fun s =>
    match s.get (Reg.dmaState c) with
    | 1 => s.set (Reg.dmaState c) 2
    | 4 => (s.dmaStopped c (s.get (Reg.dmaPosition c))).pulse 0x01 c
    | _ => s))

/-- DMA_START_PULSE (R343): a pulse on its way to a channel's start line starts it, releases its descriptor, or is kept as the one
pending start; one that finds a start pending, or a stopped channel, is lost and counted. -/
def execDmaStartPulse (c : Nat) (s : State) : Host.Outcome State Fault Refusal :=
  match takeFirst (fun p => p == Pulse.dmaStart c) s.pulses with
  | some (_, rest) =>
    let s : State := { s with pulses := rest }
    if ¬ s.running then .next s
    else match s.get (Reg.dmaState c) with
      | 0 => .next ((s.dmaStart c).dmaStopPulse c)
      | 4 => .next (s.set (Reg.dmaState c) 1)
      | 3 => .next (s.count (Reg.dmaLostStarts c) 32)
      | _ =>
        if s.get (Reg.dmaPending c) = 1 then .next (s.count (Reg.dmaLostStarts c) 32) else .next (s.set (Reg.dmaPending c) 1)
  | none => .next s

end Sys2Proof.Machine
end

