-- ==== Sys2Proof/Machine/Write.lean ====
section
/-! DEFINITION. Writes of the dictionary on every path: the checks of R44 in their order, what the chapters ask of
values together, the pending copies of R54, the objects whose writes are commands with a row of their own, and the pieces of
long objects (R42 to R63, R567). -/
namespace Sys2Proof.Machine

/-! ## What is written (R42, R56, R59) -/

/-- The number that a write gives an object of a type. -/
def Ty.valueOf (t : Ty) : WriteData → Nat
  | .store v => v % 256 ^ t.bytes
  | .misaligned => 0
  | .bytes b => ofLe b % 256 ^ t.bytes

/-- The bytes that a write gives a string, octet string or domain. -/
def rawBytes : WriteData → List Byte
  | .bytes b => b
  | _ => []

/-- The length check of R44: a number has its bytes, a text up to its bytes, any other string exactly its bytes (R42); a long object
takes no 8-byte store to its slot (R59). -/
def Ty.lengthAbort (t : Ty) : WriteData → Option Nat
  | .misaligned => some 0x06070010
  | .store _ => need (!t.isBytes) 0x06070010
  | .bytes b =>
    match t with
    | .text n => need (b.length ≤ n) 0x06070012
    | .octets n => firstAbort [need (b.length ≤ n) 0x06070012, need (n ≤ b.length) 0x06070013]
    | t => need (b.length = t.bytes) 0x06070010

/-- The unused high-order bytes of a store are the zero or sign extension (R56). -/
def Ty.extensionAbort (t : Ty) : WriteData → Option Nat
  | .store v => need (t.slot (v % 256 ^ t.bytes) = v) 0x06090030
  | _ => none

/-! ## Values in conflict with others (R44: the object-specific step) -/

/-- The producer of a line stands on a die: true for the Wick die. -/
def State.lineDie (s : State) (line : Nat) : Bool := producerOnWick (s.producerOf line / 0x1000000) (s.producerOf line % 0x1000000)

/-- A producer write is in conflict: its code stands on another line, or a map carries the line from the other die (R32). -/
def State.producerConflict (s : State) (line code : Nat) : Bool :=
  let wick := producerOnWick (code / 0x1000000) (code % 0x1000000)
  (s.lineOf code).any (fun l => l ≠ line) ||
  ((s.sidebandInput line true).isSome && (code = 0 || wick)) || ((s.sidebandInput line false).isSome && (code = 0 || !wick))

/-- A consumer input of a die names a line of the other die that is not mapped (R34). -/
def State.consumerConflict (s : State) (wick : Bool) (line : Nat) : Bool :=
  line ≠ 0xFFFF && s.producerOf line ≠ 0 && s.lineDie line != wick && (s.sidebandInput line wick).isNone

/-- A write to a sideband map is in conflict (R34). -/
def State.mapConflict (s : State) (r : Reg) (line : Nat) : Bool :=
  let toWick : Bool := r.sub ≤ 0x10
  let old := s.get r
  (line ≠ 0xFFFF && (s.producerOf line = 0 || s.lineDie line == toWick || (s.sidebandInput line toWick).isSome)) ||
  (old ≠ 0xFFFF && old ≠ line && s.regs.any (fun e => isConsumer e.1 toWick && e.2 = old))

/-- The cells of all partitions, the multicast partition and 38 staging queues, with one register at a new value (R184). -/
def State.partitionSum (s : State) (r : Reg) (v : Nat) : Nat :=
  let at' := fun (q : Reg) => if q = r then v else s.get q
  ((List.range 38).filter s.hasPort).foldl (fun n p => n + at' (Reg.qPartitionCells p)) (at' Reg.bufMcastCells + 38 * s.get Reg.bufStagingCells)

/-- The values of `Port.Fec` that a mode takes (R104). -/
def fecFits (mode fec : Nat) : Bool :=
  fec = 0 || (fec = 1 && (mode = 3 || mode = 4)) || (fec = 2 && mode = 3) || (fec = 3 && (mode = 1 || mode = 2))

/-- A value is in conflict with another current setting (0x06040043), as the object's chapter states. -/
def State.conflict (s : State) (r : Reg) (v : Nat) : Bool :=
  match r.grp with
  | .evProducer => s.producerConflict (r.inst * 64 + r.sub - 1) v
  | .sb => s.mapConflict r v
  | .evc => s.consumerConflict (0x41 ≤ r.sub) v
  | .ecnt => s.consumerConflict false v
  | .irq => s.consumerConflict false v
  | .dom => r.sub = 0x02 && s.numberTaken r.inst v
  | .port =>
    match r.sub with
    | 0x03 => !fecFits (s.get (Reg.portMode r.inst)) v
    | 0x0D => v ≠ 0 && 32 ≤ r.inst && r.inst ≤ 35
    | 0x0E => v = 0 && 24 ≤ r.inst
    | _ => false
  | .gcl => r.sub = 0x12 && v ≠ 0 && 32 ≤ r.inst
  | .sched => 0x10 ≤ r.sub && s.macRate r.inst < v
  | .q => r.sub = 0x01 && 196608 < s.partitionSum r v
  | .buf => r.sub = 0x07 && 196608 < s.partitionSum r v
  | .lcPort => r.sub = 0x01 && v ≠ 0xFFFF &&
      ((s.channelOpen v && s.get (Reg.chRx v) = 1) || (List.range 37).any (fun n => n ≠ r.inst && s.get (Reg.lcTxChannel n) = v))
  | .saRow => r.sub = 0x11 &&
      (if s.pendGet (Reg.saState r.row) = 0 then v ≠ 0 else s.get (Reg.chRx (r.row / 2)) = 1 && field v 31 30 ≠ 0)
  | .rxRing => r.sub = 0x03 && v = 1 && (r.inst = s.get Reg.gwInboundQueue || r.inst = s.get Reg.twRxQueue)
  | .can =>
    r.inst < 8 && ((r.sub = 0x02 && bitOf v 2 && s.get (Reg.canTransceiver r.inst) ≠ 2) ||
      (r.sub = 0x07 && v ≠ 2 && bitOf (s.get (Reg.canFormats r.inst)) 2))
  | _ => false

/-! ## States that refuse a write (R44: the mode step) -/

/-- The state of its unit permits a write of an object (R43, R63, R87, R288, R466, R470). -/
def State.stateAllows (s : State) (c : Ctx) (idx : Nat) (o : Obj) (r : Reg) : Bool :=
  !s.locked idx r.sub && (o.acc ≠ .rwt || s.mode = .trim) &&
  (!o.isRow || s.get (Reg.view r.grp r.inst (ctxBank c)) = 0) &&
  (match r.grp with
   | .dom => r.sub ≠ 0x05 || s.get (Reg.domState r.inst) ≠ 4
   | .se => (r.sub ≠ 0x06 && r.sub ≠ 0x07) || s.get (Reg.seState r.inst) = 0 || s.get (Reg.seState r.inst) = 2
   | _ => true)

/-! ## Pending copies (R54) -/

/-- The rwp fields of a row that are handed over as a whole: those of the tables whose active rows the hardware changes. -/
def snapshotFields (g : Grp) : List Nat :=
  match g with
  | .conn => [0x10, 0x11, 0x12, 0x13, 0x14, 0x15]
  | .fdb => [0x10, 0x11, 0x12]
  | .fv => [0x10, 0x11, 0x12]
  | _ => []

/-- A row of such a table enters the pending copy with its first write. -/
def State.snapshotRow (s : State) (r : Reg) : State :=
  if s.pend.any (fun e => e.1.grp = r.grp && e.1.inst = r.inst && e.1.row = r.row) then s
  else (snapshotFields r.grp).foldl (fun s k => s.pendSet { r with sub := k } (s.get { r with sub := k })) s

/-- The owners whose pending copy a register belongs to. -/
def State.ownersOf (s : State) (r : Reg) : List Owner :=
  match r.grp with
  | .rw => [⟨.mm, 0⟩, ⟨.mm, 1⟩, ⟨.mm, 2⟩, ⟨.mm, 3⟩]
  | .mm => if 0 < r.inst ∧ s.chainLower (r.inst - 1) then [⟨.mm, r.inst⟩, ⟨.mm, r.inst - 1⟩] else [⟨.mm, r.inst⟩]
  | .sched => [⟨.gcl, r.inst⟩]
  | g => [⟨g, r.inst⟩]

/-- A write to a pending copy; one in the cycle of a hand-over stays pending and sets `Grp.TakenLate`. -/
def State.pendWrite (s : State) (r : Reg) (v : Nat) (sameCycle : Bool) : State :=
  (s.ownersOf r).foldl (fun s o => s.takeLate o sameCycle) ((s.snapshotRow r).pendSet r v)

/-! ## What a completed write sets going -/

/-- A group is opened, or becomes arbitrated and has its owner decided at once (R484, R487, R488). -/
def State.arbitrate (s : State) (g v : Nat) : State :=
  if v = 1 then s.decideOwners
  else
    let frozen := s.get (Reg.cgState g) ≠ 0 ∧ s.get (Reg.cgState g) ≠ 1
    let s := if s.get (Reg.cgOwner g) = 0 then s else ((s.set (Reg.cgOwner g) 0).count (Reg.cgOwnerChanges g) 32).pulse 0x08 g
    let s := s.groupEnter g 0
    if frozen then (s.outputsOf g).foldl (fun s o => s.drive o (s.commanded o)) s else s

/-- An output stands as the state of its new group asks (R488). -/
def State.regroup (s : State) (o old : Nat) : State :=
  let was := s.get (Reg.cgState old)
  match s.get (Reg.cgState (s.get (Reg.outGroup o))) with
  | 2 => s.drive o 2
  | 4 => s.drive o 2
  | 6 => s.drive o (s.get (Reg.outSafeState o))
  | 3 => s
  | 5 => s
  | _ => if was = 0 ∨ was = 1 then s else s.drive o (s.commanded o)

/-- What a write of an rw object sets going, `t` being the state before it. -/
def State.afterWrite (s t : State) (r : Reg) (v : Nat) : State :=
  match r.grp, r.sub with
  | .dom, 0x05 => (s.followersOf r.inst).foldl (fun s p => s.set (Reg.domRateWord p) v) s
  | .sup, 0x10 => s.applyStep
  | .port, 0x02 => s.set (Reg.portFec r.inst) (if v = 1 ∨ v = 2 then 3 else 0)
  | .lcPort, 0x01 =>
    if v = t.get r then s else (s.prep.filter (fun p => p.port = r.inst)).foldl (fun s p => s.prepGap p Reg.lcTxGapHandover) s
  | .rxRing, 0x03 => if v = 1 then s.latch [Reg.rxRingBase r.inst, Reg.rxRingSizeLog2 r.inst] else s
  | .txRing, 0x03 =>
    if v = 1 then
      let s := s.latch [Reg.txRingBase, Reg.txRingSizeLog2]
      State.txRecords (2 ^ s.get Reg.txRingSizeLog2.latched / 16 + 1) s
    else s
  | .crq, 0x03 => if v = 1 then s.latch [Reg.crqBase r.inst, Reg.crqSizeLog2 r.inst] else s
  | .lin, 0x01 => if v = 1 ∧ t.get r = 0 then s.latch (linLatched r.inst) else s
  | .cg, 0x01 => State.twinChange t (s.arbitrate r.inst v)
  | .cg, 0x02 => State.twinChange t s.decideOwners
  | .outp, 0x02 => State.twinChange t (s.regroup r.inst (t.get r))
  | .outp, 0x03 => if s.get (Reg.cgState (s.get (Reg.outGroup r.inst))) = 6 then s.drive r.inst v else s
  | _, _ => s

/-- The register in which a plain wo object keeps what is written: the confirmations (R313, R441, R459, R512). -/
def confirmReg (r : Reg) : Option Reg :=
  match r.grp, r.sub with
  | .vltG, 0x02 => some Reg.vltConfirm
  | .pwr, 0x03 => some Reg.trimConfirm
  | .rst, 0x03 => some Reg.rstConfirm
  | .msSeal, 0x02 => some Reg.msConfirm
  | _, _ => none

/-- A number is stored in its object (R43, R48, R54). -/
def State.storeNumber (s : State) (c : Ctx) (o : Obj) (r : Reg) (v : Nat) (sameCycle : Bool) : State :=
  match o.acc with
  | .rwp => s.pendWrite r v sameCycle
  | .wo => s.set ((confirmReg r).getD r) v
  | _ =>
    if o.perCtx then (s.set (r.of c) v).changed
    else
      let u := if r.grp = .sched ∧ 0x10 ≤ r.sub then s.settle r.inst else s
      ((u.set r v).afterWrite s r v).changed

/-- The bytes of an object are stored; those of a wo object count as no change (R48). -/
def State.storeBytes (s : State) (c : Ctx) (o : Obj) (r : Reg) (b : List Byte) : State :=
  let s := s.setBlob (if o.perCtx then r.of c else r) b
  if o.acc = .wo then s else s.changed

/-! ## Objects whose writes are commands of their own -/

/-- The state that a command leaves. -/
def after (s : State) : Host.Outcome State Fault Refusal → State
  | .next t => t
  | _ => s

/-- A request for a sleep mode, with the levels that the WAKE pins have at that moment. -/
def State.sleepRequest (s : State) (c : Ctx) (v : Nat) : State :=
  let d := s.draw 4
  let t := after s (if v = 0 then execPwrRequestDormant c d.1 d.2 else execPwrRequestEmber c d.1 d.2)
  if t.resp.abort = 0 then t else s.refuse c t.resp.abort

/-- A vault command by its code (R298). -/
def runVault (v : Nat) (c : Ctx) (s : State) : Host.Outcome State Fault Refusal :=
  match v with
  | 0x01 => execVaultGenerate c s
  | 0x02 => execVaultImportClear c s
  | 0x03 => execVaultImportWrapped c s
  | 0x04 => execVaultExportWrapped c s
  | 0x05 => execVaultNarrowPolicy c s
  | 0x06 => execVaultDestroy c s
  | 0x07 => execVaultSign c s
  | 0x08 => execVaultVerify c s
  | 0x09 => execVaultEcdh c s
  | 0x0A => execVaultHkdf c s
  | 0x0B => execVaultKdfCtr c s
  | 0x0C => execVaultRandom c s
  | _ => execVaultAttest c s

/-- A channel command, a KeyID command, a session command, a reset command, a power request by its number (R250, R356, R440, R478,
R523). A number that the object does not take runs one of them for the checks that come before its value. -/
def runSc (v : Nat) (c : Ctx) (s : State) : Host.Outcome State Fault Refusal :=
  match v with
  | 1 => execScOpen c s
  | 2 => execScClose c s
  | 3 => execScInstall c s
  | 4 => execScRetire c s
  | _ => execScActivate c s
def runKid (v : Nat) (c : Ctx) (k : Nat) (s : State) : Host.Outcome State Fault Refusal :=
  match v with
  | 1 => execKeyidProgram c k s
  | 2 => execKeyidClose c k s
  | _ => execKeyidRetire c k s
def runSession (v : Nat) (c : Ctx) (s : State) : Host.Outcome State Fault Refusal :=
  match v with
  | 1 => execSessionOpen c s
  | 2 => execCountersign c s
  | _ => execSessionClose c s
def runRst (v : Nat) (c : Ctx) (s : State) : Host.Outcome State Fault Refusal :=
  match v with
  | 1 => execRstDevice c s
  | 2 => execRstSnuff c s
  | 3 => execRstRestartA c s
  | _ => execRstRestartB c s
def State.runPwr (s : State) (c : Ctx) (v : Nat) : State :=
  match v with
  | 0 => s.sleepRequest c 0
  | 1 => s.sleepRequest c 1
  | 3 => after s (execPwrRequestFlame c s)
  | 4 => after s (execPwrRequestTrim c s)
  | _ => after s (execPwrRequestGlow c s)

/-- The write of an object that has a row of its own, or none for any other object. -/
def State.ownRow (s : State) (c : Ctx) (r : Reg) (v : Nat) (b : List Byte) : Option State :=
  let i := r.inst
  match r.grp, r.sub with
  | .ev, 0x01 => some (after s (execEvPulse c v s))
  | .ecnt, 0x03 => some (after s (execEcntClear c i v s))
  | .tb, 0x03 => some (after s (execTbSnapshot c v s))
  | .dom, 0x01 => some (after s (if v = 0 then execDomDisable c i s else execDomEnable c i s))
  | .dom, 0x03 => some (after s (execDomRole c i v s))
  | .dom, 0x06 => some (after s (execDomStep c i v s))
  | .dom, 0x07 => some (after s (execDomSyncTimeoutWrite c i v s))
  | .dom, 0x09 => some (after s (execDomStandbyWrite c i v s))
  | .port, 0x01 => some (after s (if v = 0 then execPortDisable c i s else execPortEnable c i s))
  | .port, 0x0B => some (after s (if v = 2 then execPortRestartFull c i s else execPortRestart c i s))
  | .pcnt, 0x20 => some (after s (execPcntClear c i v s))
  | .ccnt, 0x20 => some (after s (execCcntClear c i v s))
  | .qcnt, 0x20 => some (after s (execQcntClear c i v s))
  | .scnt, 0x20 => some (after s (execScntClear c i v s))
  | .lcCnt, 0x20 => some (after s (execLcClear c i v s))
  | .scp, 0x20 => some (after s (execScpClear c i v s))
  | .can, 0x30 => some (after s (execCanClear c i v s))
  | .lin, 0x30 => some (after s (execLinClear c i v s))
  | .acf, 0x30 => some (after s (execAcfClear c i v s))
  | .ecl, 0x05 => some (after s (execEclClear c i v s))
  | .buf, 0x0D => some (after s (execBufReclaim c v s))
  | .buf, 0x34 => some (after s (execFdbForget c v s))
  | .q, 0x03 => some (after s (execQFlush c i v s))
  | .sc, 0x0D => some (after s (runSc v c s))
  | .vlt, 0x0B => some (after s (runVault v c s))
  | .vltG, 0x03 => some (after s (execLifeCycleTransition c v s))
  | .cr, 0x07 => some (after s (if v = 2 then execCrUnload c s else execCrLoad c s))
  | .crq, 0x04 => some (after s (execCrqProduce c i v s))
  | .dma, 0x03 => some (after s (if v = 1 then execDmaStart c i s else if v = 2 then execDmaResume c i s else execDmaStop c i s))
  | .kid, 0x04 => some (after s (runKid v c i s))
  | .xm, 0x0D => some (after s (execFlashErase c v s))
  | .chm, 0x02 => some (after s (execChmRetrain c v s))
  | .chm, 0x0F => some (after s (execChmFaultClear c v s))
  | .can, 0x01 => some (after s (execCanEnable c i v s))
  | .can, 0x0C => some (after s (execCanRecover c i v s))
  | .lin, 0x06 => some (after s (execLinSendWake c i v s))
  | .cyc, 0x07 => some (after s (execCycDataWrite c i b s))
  | .gw, sub => if 0x10 ≤ sub then some (after s (execGwKeyLoad c (sub - 0x10) v s)) else none
  | .cp, 0x05 => some (after s (execCpS2Write c v s))
  | .cd, 0x01 => some (after s (execCdCommand c i v s))
  | .cd, 0x08 => some (after s (execCdClearFault c i v s))
  | .ms, 0x01 => some (after s (runSession v c s))
  | .msSeal, 0x03 => some (after s (execSealClose c v s))
  | .msStat, 0x05 => some (after s (execMsAcknowledge c v s))
  | .msStat, 0x08 => some (after s (execMsExport c v s))
  | .pwr, 0x02 => some (s.runPwr c v)
  | .cfg, 0x01 => some (after s (execCfgSave c v s))
  | .hb, 0x01 => some (after s (execHbBeat c v true true s))
  | .cg, 0x03 => some (after s (execCgClaim c i v s))
  | .outp, 0x01 => some (after s (execOutCommand c i v s))
  | .err, 0x02 => some (after s (execErrAcknowledge c v s))
  | .err, 0x06 => some (after s (execErrReport c b s))
  | .rst, 0x02 => some (after s (runRst v c s))
  | .upd, 0x04 => some (after s (execUpdPrepare c v s))
  | .upd, 0x0A => some (after s (execUpdConfirm c v s))
  | .upd, 0x0F => some (after s (execOwnerKeyWrite c b s))
  | .se, 0x01 => some (after s (if v = 1 then execSeRun c i s else execSeStop c i s))
  | .txRing, 0x04 => some (after s (execTxRingProduce c v s))
  | _, _ => none

/-- The aborts of the steps of R44 before the length check, and the bus error of an access that never crossed the link. -/
def earlyAborts : List Nat := [0x06020000, 0x06090011, 0x06010001, 0x06010002, 0x08000022, linkFault]

/-- The write of an object with a row of its own, when its length or value may be refused before the row's own conditions are met. -/
def State.settleRow (s t : State) (c : Ctx) (late : Option Nat) : State :=
  match late with
  | none => t
  | some a => if earlyAborts.contains t.resp.abort then t else s.refuse c a

/-! ## One write (R44) -/

/-- The length and value steps for an object. -/
def State.lateAbort (s : State) (o : Obj) (r : Reg) (d : WriteData) : Option Nat :=
  let v := o.ty.valueOf d
  firstAbort [o.ty.lengthAbort d, o.ty.extensionAbort d, if o.ty.isBytes then none else o.valueAbort v,
    if o.ty.isBytes then none else s.valueAbort r v]

/-- The whole bytes that a row of bytes is tried with when the length is wrong. -/
def wholeBytes (t : Ty) (d : WriteData) : List Byte :=
  if (t.lengthAbort d).isNone then (rawBytes d) else List.replicate t.bytes 0

/-- The write of an object whose kind permits it. -/
def State.writeObject (s : State) (c : Ctx) (idx : Nat) (o : Obj) (r : Reg) (d : WriteData) (sameCycle : Bool) : State :=
  let v := o.ty.valueOf d
  let late := s.lateAbort o r d
  match s.ownRow c r v (wholeBytes o.ty d) with
  | some t => s.settleRow t c late
  | none =>
    s.access c true o.wick [need (s.stateAllows c idx o r) 0x08000022, late, need (o.ty.isBytes || !s.conflict r v) 0x06040043]
      (fun s => (if o.ty.isBytes then s.storeBytes c o r (rawBytes d) else s.storeNumber c o r v sameCycle).done c)

/-- A write to subindex F8h + k of the commit block of an owner (R50 to R53). -/
def State.writeCommit (s : State) (c : Ctx) (idx : Nat) (o : Owner) (k : Nat) (d : WriteData) : State :=
  let t := (Place.commit o k).ty
  let v := t.valueOf d
  let shape := firstAbort [t.lengthAbort d, t.extensionAbort d]
  let put := fun (checks : List (Option Nat)) =>
    s.rwWrite c idx (0xF8 + k) true (o.grp = .upd) (shape :: checks) (fun s =>
      let s := s.set ⟨o.grp, o.inst, 0xF8 + k, 0, 0⟩ v
      if k = 1 then s.rearm o v else s)
  match k with
  | 0 => put [need (v ≤ 2) 0x06090030, need (o.modes.contains v) 0x06040043]
  | 1 => put []
  | 2 => put [need (v ≤ 3) 0x06090031]
  | 3 =>
    let u := after s (if v = 1 then execCommit c idx s else if v = 3 then execDiscard c idx s else execDisarm c idx s)
    s.settleRow u c (firstAbort [shape, need (1 ≤ v && v ≤ 3) 0x06090030])
  | 5 => put [need (v = 0) 0x06090030]
  | _ => s.refuse c 0x06010002

/-- A write to subindex k of a table window (R6, R60, R62, R63). -/
def State.writeWindow (s : State) (c : Ctx) (idx : Nat) (o : Owner) (k : Nat) (d : WriteData) : State :=
  let t := (Place.window o k).ty
  let v := t.valueOf d
  if k = 2 then s.refuse c 0x06010002
  else
    s.rwWrite c idx k true false [t.lengthAbort d, t.extensionAbort d,
      if k = 1 then need (v < s.fuses.variant.rowCount o.grp) 0x06090031 else need (v ≤ 1) 0x06090030]
      (fun s => s.set ⟨o.grp, o.inst, k, 0, ctxBank c⟩ v)

/-- One write of an index and subindex, of a given table row, in a path context that the dictionary answers; a refusal is latched. A
write of the seal's objects is refused by its state first (R442). -/
def State.writeAt (s : State) (c : Ctx) (idx sub row : Nat) (d : WriteData) (sameCycle : Bool := false) : State :=
  match s.place idx sub row with
  | .missing a => s.refuse c a
  | .commit o k => s.writeCommit c idx o k d
  | .window o k => s.writeWindow c idx o k d
  | .object o r =>
    if (Place.object o r).acc = .ro ∨ (Place.object o r).acc = .fixed then s.refuse c 0x06010002
    else if idx = 0x2D20 ∨ idx = 0x2D40 then s.sealLock c idx sub (fun s => s.writeObject c idx o r d sameCycle)
    else s.writeObject c idx o r d sameCycle

/-! ## Pieces of long objects (R42, R59) -/

/-- The register in which a path context holds the pieces of an object: their bytes, and which object they are of. -/
abbrev heldReg (c : Ctx) : Reg := Reg.devLongData.of c

/-- No pieces are held. -/
def State.dropHeld (s : State) (c : Ctx) : State := (s.set (heldReg c) 0).clearBlob (heldReg c)

/-- One piece of an object at an offset: the pieces follow one another from offset 0, and the last byte writes the object whole. -/
def State.writePiece (s : State) (c : Ctx) (idx sub row off : Nat) (b : List Byte) (sameCycle : Bool := false) : State :=
  let n := (s.place idx sub row).ty.bytes
  let probe := s.writeAt c idx sub row (.bytes (List.replicate (n + 1) 0))
  if probe.resp.abort ≠ 0x06070010 ∧ probe.resp.abort ≠ 0x06070012 then probe
  else
    let key := idx * 256 + sub + 1
    let base := if s.get (heldReg c) = key then s.blob (heldReg c) else []
    let s := s.dropHeld c
    if n < off + b.length then s.refuse c 0x06070012
    else if off ≠ base.length then s.refuse c 0x06090030
    else if base.length + b.length < n then ((s.set (heldReg c) key).setBlob (heldReg c) (base ++ b)).done c
    else s.writeAt c idx sub row (.bytes (base ++ b)) sameCycle

/-- A write of 8 bytes to `Dev.LongData` (R59): a piece at the cursor, which moves on; of the last piece, the bytes beyond the object's
end are not used. -/
def State.longWrite (s : State) (c : Ctx) (v : Nat) : State :=
  let cur := s.cursor c
  if selfCursor cur.1 cur.2.1 then s.refuse c 0x06070010
  else
    let row := s.selectedRow c cur.1
    let n := (s.place cur.1 cur.2.1 row).ty.bytes
    let off := cur.2.2
    let t := s.writePiece c cur.1 cur.2.1 row off ((leBytes 8 v).take (if off < n then n - off else 8))
    if t.resp.abort = 0 then ((t.cursorNext c).changed).done c else t

/-- LONG_DATA_WRITE (R59): a write of 8 bytes to `Dev.LongData` in a path context. -/
def execLongDataWrite (ctx : Ctx) (value : Nat) (s : State) : Host.Outcome State Fault Refusal :=
  .next (if s.answers ctx then s.longWrite ctx (value % 2 ^ 64) else s)

/-- One write of an index and subindex through a path, of the row that its context has selected. -/
def State.dictWrite (s : State) (c : Ctx) (idx sub : Nat) (d : WriteData) (sameCycle : Bool := false) : State :=
  if selfCursor idx sub then
    match firstAbort [(Ty.u 8).lengthAbort d, (Ty.u 8).extensionAbort d] with
    | some a => s.refuse c a
    | none => s.longWrite c ((Ty.u 8).valueOf d)
  else s.writeAt c idx sub (s.selectedRow c idx) d sameCycle

/-- A write through a path whose command does not say in which fabric cycle it lands: a free value says whether that was the cycle of a
hand-over of the same time-base cycle (R54). -/
def State.pathWrite (s : State) (c : Ctx) (idx sub : Nat) (d : WriteData) : State :=
  let f := s.draw 1
  f.2.dictWrite c idx sub d (f.1 = 1)

/-- GENERAL_WRITE (R44): one write of an object through a path; `sameCycle` when it lands in the fabric cycle of a hand-over (R54). A
write of an object with a row of its own is that row's. -/
def execGeneralWrite (ctx : Ctx) (index sub : Nat) (data : WriteData) (sameCycle : Bool) (s : State) : Host.Outcome State Fault Refusal :=
  .next (if s.answers ctx then s.dictWrite ctx index sub data sameCycle else s)

end Sys2Proof.Machine
end

