-- ==== Sys2Proof/Machine/Coath.lean ====
section
/-! DEFINITION. The Coath endpoint (R69 to R75, R150): its datagrams, the header of a request, the five request types, and the
responses that it keeps and sends. -/
namespace Sys2Proof.Machine

/-! ## Datagrams (R69) -/

/-- The UDP port of the endpoint. -/
abbrev coathPort : Nat := 41734

/-- The host queue of P37 that feeds the endpoint (R150). -/
abbrev coathQueue : Nat := 31

/-- A packet is addressed to the endpoint: to `Dev.MgmtIPv4` or `Dev.MgmtIPv6`, neither of which answers when it is 0. -/
def State.coathAddress (s : State) (h : Hdr) : Bool :=
  if h.ipv4 then s.get Reg.devMgmtIPv4 ≠ 0 && h.dstIp = 0xFFFF00000000 + s.get Reg.devMgmtIPv4
  else
    let v := ofBe (s.blob Reg.devMgmtIPv6)
    h.ipv6 && v ≠ 0 && h.dstIp = v

/-- The pseudo-header that a UDP checksum covers. -/
def pseudoHeader (v4 : Bool) (src dst n : Nat) : List Byte :=
  if v4 then beBytes 4 src ++ beBytes 4 dst ++ [0, 17] ++ beBytes 2 n
  else beBytes 16 src ++ beBytes 16 dst ++ beBytes 4 n ++ [0, 0, 0, 17]

/-- The payload of a datagram to the endpoint, or none for a frame that it discards. -/
def State.coathPayload (s : State) (b : List Byte) (h : Hdr) : Option (List Byte) :=
  if h.l4 ∧ ¬ h.error ∧ ¬ h.fragment ∧ h.proto = 17 ∧ h.dport = coathPort ∧ s.coathAddress h then
    let n := beAt b (h.l4Off + 4) 2
    let seg := slice b h.l4Off n
    if n < 8 ∨ b.length < h.l4Off + n then none
    else if (h.ipv6 ∨ beAt b (h.l4Off + 6) 2 ≠ 0) ∧ csum16 seg (csum16 (pseudoHeader h.ipv4 h.srcIp h.dstIp n) 0) ≠ 0xFFFF then none
    else if seg.length < 32 then none
    else some (seg.drop 8)
  else none

/-- A UDP segment from the endpoint's port, with its checksum. -/
def udpSegment (v4 : Bool) (src dst port : Nat) (d : List Byte) : List Byte :=
  let n := 8 + d.length
  let seg := fun (c : Nat) => beBytes 2 coathPort ++ beBytes 2 port ++ beBytes 2 n ++ beBytes 2 c ++ d
  let c := 0xFFFF - csum16 (seg 0) (csum16 (pseudoHeader v4 src dst n) 0)
  seg (if c = 0 then 0xFFFF else c)

/-- A response goes back to where its request came from, with the request's VLAN tags. The header fields that no rule states are as the
free value `f` says (log entry 5). -/
def responseFrame (b : List Byte) (h : Hdr) (f : Nat) (d : List Byte) : List Byte :=
  let l2 := slice b 6 6 ++ slice b 0 6 ++ slice b 12 (4 * h.tagCount)
  let seg := udpSegment h.ipv4 h.dstIp h.srcIp h.sport d
  if h.ipv4 then
    let hdr := fun (c : Nat) => beBytes 2 (0x4500 + f % 256) ++ beBytes 2 (20 + seg.length) ++ beBytes 4 (f / 2 ^ 8 % 2 ^ 31) ++
      beBytes 2 (f / 2 ^ 40 % 256 * 256 + 17) ++ beBytes 2 c ++ beBytes 4 h.dstIp ++ beBytes 4 h.srcIp
    l2 ++ beBytes 2 0x0800 ++ hdr (0xFFFF - csum16 (hdr 0) 0) ++ seg
  else
    l2 ++ beBytes 2 0x86DD ++ beBytes 4 (0x60000000 + f % 2 ^ 28) ++ beBytes 2 seg.length ++ [17, BitVec.ofNat 8 (f / 2 ^ 40)] ++
      beBytes 16 h.dstIp ++ beBytes 16 h.srcIp ++ seg

/-! ## Requests (R70 to R74) -/

/-- The fields of a request header (R70). -/
structure CoathReq where
  version : Nat
  type : Nat
  reserved : Nat
  index : Nat
  sub : Nat
  count : Nat
  off : Nat
  rows : Nat
  dlen : Nat
  body : List Byte
deriving DecidableEq, Repr

/-- The header of a request. -/
def coathReq (p : List Byte) : CoathReq :=
  { version := beAt p 0 1, type := beAt p 1 1, reserved := beAt p 2 2, index := beAt p 8 2, sub := beAt p 10 1,
    count := beAt p 11 1, off := beAt p 12 4, rows := beAt p 16 4, dlen := beAt p 20 4, body := p.drop 24 }

/-- The index is a table window. -/
def isTable (idx : Nat) : Bool := 0x4000 ≤ idx && (ownerAt .kvt6416 idx).isSome

/-- The slots of a block request. -/
def CoathReq.slots (q : CoathReq) : Nat := (if isTable q.index then q.rows else 1) * q.count

/-- A read or write of a place may carry an offset: the object is longer than 8 bytes (R70); a place that is missing has an abort of
its own. -/
def Place.takesOffset : Place → Bool
  | .missing _ => true
  | p => 8 < p.ty.bytes

/-- The header checks (R72): version, type, reserved field, and the fields that must be 0. -/
def State.coathHeader (s : State) (q : CoathReq) : Bool :=
  q.version = 1 && 1 ≤ q.type && q.type ≤ 5 && q.reserved = 0 &&
  (if 4 ≤ q.type then q.count ≠ 0 && (if isTable q.index then q.rows ≠ 0 else q.off = 0 && q.rows = 0)
   else q.count = 1 && q.rows = 0 && (q.type ≠ 3 || (q.sub = 0 && q.off = 0)) &&
     (q.off = 0 || (s.place q.index q.sub 0).takesOffset))

/-- The data length agrees with the type (R71, R72); that of a write is checked with its object. -/
def CoathReq.lengthFits (q : CoathReq) : Bool :=
  q.dlen = q.body.length && (match q.type with
    | 2 => true
    | 3 => q.dlen = 16
    | 5 => q.dlen = 8 * q.slots
    | _ => q.dlen = 0)

/-- The slots of a block: rows and subindices, row-major. -/
def CoathReq.cells (q : CoathReq) : List (Nat × Nat) :=
  let subs := (List.range q.count).map (q.sub + ·)
  if isTable q.index then ((List.range q.rows).map (fun r => subs.map (fun k => (q.off + r, k)))).flatten
  else subs.map (fun k => (0, k))

/-- A block names an object longer than 8 bytes (R72). -/
def State.namesLong (s : State) (q : CoathReq) : Bool :=
  q.cells.any (fun c => match s.place q.index c.2 c.1 with
    | .missing _ => false
    | p => 8 < p.ty.bytes)

/-- The aborts of R72, in the order of its sentences. -/
def State.coathShape (s : State) (q : CoathReq) : Option Nat :=
  firstAbort [need (s.coathHeader q) 0x05040001, need q.lengthFits 0x06070010,
    need ((q.type < 4 || q.slots ≤ 180) && q.dlen ≤ 1440) 0x05040005,
    if q.type < 4 then none else need (!s.namesLong q) 0x06070012]

/-- What a request is answered: the abort, the response data, and the state after it. -/
structure CoathAnswer where
  abort : Nat := 0
  data : List Byte := []
  s : State

/-- A read: the value, or up to 1,440 bytes from the offset (R71). -/
def State.coathRead (s : State) (q : CoathReq) : CoathAnswer :=
  let r := s.dictRead .coath q.index q.sub
  if r.1.abort ≠ 0 then { abort := r.1.abort, s := s.latchAbort .coath r.1.abort }
  else { data := slice r.1.bytes q.off 1440, s := r.2 }

/-- A write: the value, or a piece of an object longer than 8 bytes; of an object that no request can carry whole, the first piece
stands at offset 0 (R42, R71). -/
def State.coathWrite (s : State) (q : CoathReq) : CoathAnswer :=
  let row := s.selectedRow .coath q.index
  let ty := (s.place q.index q.sub row).ty
  let t :=
    if ty.isBytes ∧ (q.off ≠ 0 ∨ (q.body.length < ty.bytes ∧ 1440 < ty.bytes)) then s.writePiece .coath q.index q.sub row q.off q.body
    else s.pathWrite .coath q.index q.sub (.bytes q.body)
  { abort := t.resp.abort, s := t }

/-- The byte of a commit response: the outcome of the owner when the response is sent, aborted or not (R71); none where no owner is. -/
def State.outcomeByte (s : State) (idx : Nat) : List Byte :=
  (ownerAt s.fuses.variant idx).elim [] (fun o => leBytes 1 (s.get (Reg.commitOutcome o)))

/-- A commit: the mode, the domain and the Kindle time, and then 1 to `Grp.Commit`, all or none (R73); that the owner exists comes before
the bytes that must be 0 (R5, R44). -/
def State.coathCommit (s : State) (q : CoathReq) : CoathAnswer :=
  let put := fun (t : State) (sub : Nat) (b : List Byte) =>
    if t.resp.abort = 0 then t.dictWrite .coath q.index sub (.bytes b) else t
  let abort := fun (a : Nat) => ({ abort := a, data := s.outcomeByte q.index, s := s.latchAbort .coath a } : CoathAnswer)
  match s.place q.index 0xFB 0 with
  | .missing a => abort a
  | _ =>
    if ofLe (slice q.body 2 6) ≠ 0 then abort 0x06090030
    else
      let t := put (put (put (put (s.done .coath) 0xF8 (slice q.body 0 1)) 0xFA (slice q.body 1 1)) 0xF9 (slice q.body 8 8)) 0xFB [1]
      if t.resp.abort ≠ 0 then abort t.resp.abort else { data := t.outcomeByte q.index, s := t }

/-- The abort of a slot before its access: its row lies in the table (R63), and it names an object. -/
def State.cellAbort (s : State) (q : CoathReq) (row sub : Nat) : Option Nat :=
  let rows := (ownerAt s.fuses.variant q.index).map (fun o => s.fuses.variant.rowCount o.grp)
  if isTable q.index ∧ rows.any (fun n => n ≤ row) then some 0x06090031
  else match s.place q.index sub row with
    | .missing a => some a
    | _ => none

/-- One slot of a block: read, or written with `v`. -/
def State.coathCell (s : State) (q : CoathReq) (row sub v : Nat) : CoathAnswer :=
  match s.cellAbort q row sub with
  | some a => { abort := a, s := s.latchAbort .coath a }
  | none =>
    if q.type = 4 then
      let r := s.dictReadRow .coath q.index sub row
      if r.1.abort ≠ 0 then { abort := r.1.abort, s := s.latchAbort .coath r.1.abort } else { data := leBytes 8 r.1.slot, s := r.2 }
    else
      let f := s.draw 1
      let t := if selfCursor q.index sub then s.dictWrite .coath q.index sub (.store v)
        else f.2.writeAt .coath q.index sub row (.store v) (f.1 = 1)
      { abort := t.resp.abort, s := t }

/-- A block: its slots in order, up to the first that is refused; how many were done (R74). -/
def State.coathCells (q : CoathReq) : List (Nat × Nat) → Nat → List Byte → State → Nat × CoathAnswer
  | [], done, data, s => (done, { data := data, s := s })
  | (row, sub) :: rest, done, data, s =>
    let a := s.coathCell q row sub (ofLe (slice q.body (8 * done) 8))
    if a.abort ≠ 0 then (done, { abort := a.abort, s := a.s }) else a.s.coathCells q rest (done + 1) (data ++ a.data)

/-- A block read or write (R71, R74). -/
def State.coathBlock (s : State) (q : CoathReq) : CoathAnswer :=
  let r := s.coathCells q q.cells 0 []
  if q.type = 5 then { r.2 with data := leBytes 4 r.1 } else r.2

/-- The response data of a request that its shape refuses: a commit carries its outcome, a block write the count of 0 slots (R71). -/
def State.shapeData (s : State) (q : CoathReq) : List Byte :=
  match q.type with
  | 3 => s.outcomeByte q.index
  | 5 => leBytes 4 0
  | _ => []

/-- A request is carried out. -/
def State.coathServe (s : State) (q : CoathReq) : CoathAnswer :=
  match s.coathShape q with
  | some a => { abort := a, data := s.shapeData q, s := s }
  | none =>
    match q.type with
    | 1 => s.coathRead q
    | 2 => s.coathWrite q
    | 3 => s.coathCommit q
    | _ => s.coathBlock q

/-! ## The endpoint (R69, R71, R75) -/

/-- The response to a request (R71). -/
def coathResponse (p : List Byte) (abort : Nat) (data : List Byte) : List Byte :=
  slice p 0 1 ++ (slice p 1 1).map (fun b => b ||| 0x80) ++ slice p 2 18 ++ beBytes 4 data.length ++ beBytes 4 abort ++ data

/-- A request is answered: again with the response that is kept for it, or carried out; the last 32 responses are kept. -/
def State.coathAnswer (s : State) (p : List Byte) (h : Hdr) : List Byte × State :=
  let tag := beAt p 4 4
  let src := beBytes 16 h.srcIp
  match s.coathKept.find? (fun k => k.tag = tag && k.source = src && k.port = h.sport) with
  | some k => (k.response, s)
  | none =>
    let a := s.coathServe (coathReq p)
    let r := coathResponse p a.abort a.data
    let all := a.s.coathKept ++ [{ tag := tag, source := src, port := h.sport, response := r }]
    (r, { a.s with coathKept := all.drop (all.length - 32) })

/-- The head frame of queue 31 when it is a request of one of a row's types: it is answered. One that is no request to the endpoint is
discarded and counted. -/
def State.coathRow (s : State) (mine : Nat → Bool) : State :=
  if ¬ s.answers .coath then s
  else match s.hostHead coathQueue with
    | none => s.hostPass coathQueue
    | some (e, b) =>
      let h := parseFrame b
      match s.coathPayload b h with
      | none => (s.takeHost e).count Reg.devCoathDiscards 32
      | some p =>
        if mine (beAt p 1 1) then
          let r := (s.takeHost e).coathAnswer p h
          let f := r.2.draw 64
          f.2.hostFrame none (responseFrame b h f.1 r.1)
        else s

/-- COATH_READ (R71); a request of an unknown type is answered here as well (R72). -/
def execCoathRead (s : State) : Host.Outcome State Fault Refusal := .next (s.coathRow (fun t => t < 2 || 5 < t))

/-- COATH_WRITE (R71). -/
def execCoathWrite (s : State) : Host.Outcome State Fault Refusal := .next (s.coathRow (fun t => t = 2))

/-- COATH_COMMIT (R73). -/
def execCoathCommit (s : State) : Host.Outcome State Fault Refusal := .next (s.coathRow (fun t => t = 3))

/-- COATH_BLOCK_READ (R71). -/
def execCoathBlockRead (s : State) : Host.Outcome State Fault Refusal := .next (s.coathRow (fun t => t = 4))

/-- COATH_BLOCK_WRITE (R74). -/
def execCoathBlockWrite (s : State) : Host.Outcome State Fault Refusal := .next (s.coathRow (fun t => t = 5))

end Sys2Proof.Machine
end

