-- ==== Sys2Proof/Machine/Descriptor.lean ====
section
/-! DEFINITION. What a DMA descriptor does (R336 to R346): its data, its CRC, its fence, the mark of a bad one, and the boundary
after it. -/
namespace Sys2Proof.Machine

/-! ## Fields (R337) -/

abbrev wordOp (w : Nat) : Nat := field w 63 56
abbrev wordCrc (w : Nat) : Nat := field w 55 54
abbrev wordLength (w : Nat) : Nat := field w 31 0

/-- A descriptor has no reserved bit set, no reserved code, a length, and no CRC on a fill or a compare (R337, R338, R340). -/
def descriptorSound (w0 w1 w2 w3 : Nat) : Bool :=
  field w0 47 32 = 0 && wordOp w0 < 4 && wordCrc w0 < 3 && wordLength w0 ≠ 0 && (wordOp w0 = 1 || field w1 63 40 = 0) &&
  field w2 63 40 = 0 && field w3 63 40 = 0 && (wordOp w0 = 0 || wordOp w0 = 3 || wordCrc w0 = 0)

/-! ## Writes of a channel (R336, R371 to R373) -/

/-- An 8-byte store to a slot of the dictionary window in the DMA context, of the bytes that begin at an address. -/
def dictStore (base : Nat) (b : List Byte) (acc : Bool × State) (a : Nat) : Bool × State :=
  if acc.1 then
    let t := acc.2.pathWrite .dma (dictIndex a) (dictSub a) (.store (ofLe (slice b (a - base) 8)))
    (t.resp.abort = 0, t)
  else acc

/-- A channel writes bytes that lie in one 64-byte line; the answer is whether the access went without a bus error. A write to the
Wick die is posted: one that fails there leaves a record and the pending-fault bit of its channel. -/
def State.dmaStore (s : State) (c a : Nat) (b : List Byte) : Bool × State :=
  if inDict a then
    (if a % 8 = 0 ∧ b.length % 8 = 0 then (dictSlots a b.length).foldl (dictStore a b) (true, s)
     else (false, s.latchAbort .dma 0x06070010))
  else if inWindow a then
    let p : Posted := ⟨dmaChannel c, a, b⟩
    (true, if s.get Reg.chmState = 3 then s.lateFault p 3 else s.applyPiece p)
  else s.memWrite dmaInit a b

/-- A channel writes bytes, cut at the 64-byte lines, up to the first bus error. -/
def State.dmaWrite (s : State) (c a : Nat) (b : List Byte) : Bool × State :=
  (piecesOf a b.length).foldl (fun acc p => if acc.1 then acc.2.dmaStore c p.1 (slice b (p.1 - a) p.2) else acc) (true, s)

/-! ## The CRC (R339) -/

/-- Value before the first byte, and final exclusive-or. -/
abbrev crcOnes (type : Nat) : Nat := if type = 1 then 2 ^ 32 - 1 else 2 ^ 64 - 1

/-- The running CRC advanced over bytes. -/
def crcRun (type v : Nat) (b : List Byte) : Nat := crcStep (if type = 1 then 0x82F63B78 else 0xC96C5795D7870F42) v b

/-- The CRC of a channel as a descriptor begins: reset under bit 53 or when its type changes (R339, R340). -/
def State.crcBegin (s : State) (c w0 : Nat) : State :=
  if bitOf w0 53 ∨ (wordCrc w0 ≠ 0 ∧ wordCrc w0 ≠ s.get (Reg.dmaCrcType c)) then
    s.sets [(Reg.dmaCrcType c, wordCrc w0), (Reg.dmaCrcRun c, crcOnes (wordCrc w0)), (Reg.dmaCrcOff c, 0)]
  else s

/-- Bytes of a descriptor that carries a CRC enter the running one. -/
def State.crcTake (s : State) (c w0 : Nat) (b : List Byte) : State :=
  if wordCrc w0 = 0 then s else s.set (Reg.dmaCrcRun c) (crcRun (wordCrc w0) (s.get (Reg.dmaCrcRun c)) b)

/-- The final CRC is stored under bit 52, and placed in `Dma.Crc`; after a bad descriptor nothing is stored until the next reset. -/
def State.crcEnd (s : State) (c w0 w2 : Nat) : Bool × State :=
  let t := wordCrc w0
  if ¬ bitOf w0 52 ∨ t = 0 ∨ s.get (Reg.dmaCrcOff c) = 1 then (true, s)
  else
    let v := s.get (Reg.dmaCrcRun c) ^^^ crcOnes t
    let r := s.dmaWrite c (if wordOp w0 = 0 then w2 + wordLength w0 else w2) (leBytes (if t = 1 then 4 else 8) v)
    (r.1, if r.1 then r.2.set (Reg.dmaCrc c) v else r.2)

/-! ## The data (R338) -/

/-- The bytes of a fill at an address. -/
def fillBytes (pattern a n : Nat) : List Byte := (List.range n).map (fun k => BitVec.ofNat 8 (pattern / 256 ^ ((a + k) % 8)))

/-- The place of the first byte that differs. -/
def firstDiff : List Byte → List Byte → Nat → Option Nat
  | a :: x, b :: y, k => if a = b then firstDiff x y (k + 1) else some k
  | _, _, _ => none

/-- How far a descriptor has come: whether it is still moving, and whether it met a bus error. -/
structure Moving where
  go : Bool := true
  bad : Bool := false
  s : State

/-- One piece of a descriptor's data: an offset and a length. -/
def State.dmaPiece (s : State) (c w0 w1 w2 off n : Nat) : Moving :=
  let fails := fun (t : State) => ({ go := false, bad := true, s := t } : Moving)
  let moves := fun (t : State) => ({ s := t.set (Reg.dmaBytesDone c) (off + n) } : Moving)
  if wordOp w0 = 1 then
    let r := s.dmaWrite c (w2 + off) (fillBytes w1 (w2 + off) n)
    if r.1 then moves r.2 else fails r.2
  else
    match s.dmaRead (w1 + off) n with
    | (none, s) => fails s
    | (some b, s) =>
      if wordOp w0 = 0 then
        let r := s.dmaWrite c (w2 + off) b
        if r.1 then moves (r.2.crcTake c w0 b) else fails r.2
      else if wordOp w0 = 2 then
        match s.dmaRead (w2 + off) n with
        | (none, s) => fails s
        | (some d, s) =>
          match firstDiff b d 0 with
          | some k =>
            { go := false, s := (s.sets [(Reg.dmaCompareOffset c, w1 + off + k), (Reg.dmaBytesDone c, off + k)]).dmaFlag c 1 }
          | none => moves s
      else moves (s.crcTake c w0 b)

/-- The pieces of a descriptor: offsets and lengths, cut at the lines of the destination when a fill or a copy writes the dictionary
window, of a fill's destination, and of the source otherwise. -/
def descriptorPieces (w0 w1 w2 : Nat) : List (Nat × Nat) :=
  let a := if wordOp w0 = 1 ∨ (wordOp w0 = 0 ∧ inDict w2) then w2 else w1
  (piecesOf a (wordLength w0)).map (fun p => (p.1 - a, p.2))

/-- All the data of a descriptor, up to its end, a mismatch or a bus error. -/
def State.dmaData (s : State) (c w0 w1 w2 : Nat) : Moving :=
  (descriptorPieces w0 w1 w2).foldl (fun m p => if m.go then m.s.dmaPiece c w0 w1 w2 p.1 p.2 else m) { s := s }

/-! ## The end of a descriptor (R340 to R342) -/

/-- A bad descriptor is marked in memory and counted; no CRC is stored from it on until the next reset. -/
def State.dmaBad (s : State) (c w0 : Nat) : State :=
  let r := s.dmaWrite c (s.get (Reg.dmaPosition c)) (leBytes 8 (setBit w0 48 true))
  let t := r.2.count (Reg.dmaBadDescriptors c) 32
  if r.1 then (t.set (Reg.dmaCrcOff c) 1).dmaFlag c 0 else t

/-- The fence of a descriptor with bit 51 or 50: whether it completes with FAULTED (R341, R382). -/
def State.dmaFence (s : State) (c w0 : Nat) : Bool × State :=
  if bitOf w0 51 ∨ bitOf w0 50 then
    let r := s.fenceEnd (dmaChannel c)
    (r.1, r.2.2)
  else (false, s)

/-- The data, the CRC and the fence of a descriptor, and its mark when it is bad. -/
def State.dmaDescriptor (s : State) (c w0 w1 w2 w3 : Nat) : State :=
  let m : Moving := if descriptorSound w0 w1 w2 w3 then (s.crcBegin c w0).dmaData c w0 w1 w2 else { bad := true, s := s }
  let r := if m.bad then (true, m.s) else m.s.crcEnd c w0 w2
  let f := r.2.dmaFence c w0
  if m.bad ∨ ¬ r.1 ∨ f.1 then f.2.dmaBad c w0 else f.2

/-- The chain of a channel ends: a stop asked for in the same boundary leaves it idle and loses a pending start; a pending start or
the restart of `Dma.Config` starts it again (R343, R344, R346). -/
def State.dmaChainEnd (s : State) (c : Nat) (stop : Bool) : State :=
  let s := s.dmaIdle c
  let pending := s.get (Reg.dmaPending c) = 1
  if stop then (if pending then (s.set (Reg.dmaPending c) 0).count (Reg.dmaLostStarts c) 32 else s)
  else if pending then (s.set (Reg.dmaPending c) 0).dmaStart c
  else if bitOf (s.get (Reg.dmaConfig c)) 2 then s.dmaStart c
  else s

/-- The boundary after a descriptor: an armed hand-over comes first, then the chain ends, stops or goes on; one pulse at most
(R342 to R345). -/
def State.dmaBoundary (s : State) (c w0 w3 : Nat) : State :=
  let o : Owner := ⟨.dma, c⟩
  let s := if (s.armOf o).any (fun a => !a.kindle) then s.handOver o else s
  let next := if s.get (Reg.dmaJump c) = 1 then s.get (Reg.dmaChainAddress c) else w3
  let s := s.set (Reg.dmaJump c) 0
  let stop : Bool := s.get (Reg.dmaState c) = 2
  if bitOf w0 50 then (s.dmaChainEnd c stop).pulse 0x01 c
  else if stop then (s.dmaStopped c next).pulse 0x01 c
  else
    let s := s.dmaFetch c next
    if bitOf w0 51 ∨ s.get (Reg.dmaState c) = 0 then s.pulse 0x01 c else s

/-- The descriptor needs the Chimney link, which trains or whose Wick port a request holds: it does not end yet (R380, R384). -/
def State.dmaWaits (s : State) (c w0 w1 w2 w3 : Nat) : Bool :=
  let n := wordLength w0
  let ends := [w2, w2 + n, s.get (Reg.dmaPosition c), w3, s.get (Reg.dmaChainAddress c)] ++ (if wordOp w0 = 1 then [] else [w1, w1 + n])
  ends.any inWindow && s.get Reg.chmState ≠ 3 && (s.get Reg.chmState ≠ 1 || s.wickPortHeld)

/-- DMA_DESCRIPTOR_DONE (R336 to R346): the descriptor under way on a channel ends. -/
def execDmaDescriptorDone (c : Nat) (s : State) : Host.Outcome State Fault Refusal :=
  let w0 := s.get (Reg.dmaWord c 0)
  let w1 := s.get (Reg.dmaWord c 1)
  let w2 := s.get (Reg.dmaWord c 2)
  let w3 := s.get (Reg.dmaWord c 3)
  if s.running ∧ c < 32 ∧ (s.get (Reg.dmaState c) = 1 ∨ s.get (Reg.dmaState c) = 2) ∧ ¬ s.dmaWaits c w0 w1 w2 w3 then
    .next ((s.dmaDescriptor c w0 w1 w2 w3).dmaBoundary c w0 w3)
  else .next s

end Sys2Proof.Machine
end

