-- ==== Sys2Proof/Machine/Sdo.lean ====
section
/-! DEFINITION. The SDO server (R66 to R68, R76) and the reception of CAN messages, which the totaliser, the server and the routing
engine share (R389 to R398, R434). -/
namespace Sys2Proof.Machine

/-! ## Messages of the server (R66) -/

/-- A CAN message is a request to the server: classical, of DLC 8, on the management channel, to 0x600 plus the node-ID (R66). -/
def State.sdoRequest (s : State) (ch : Nat) (m : BusMsg) : Bool :=
  s.answers .sdo && ch < 16 && s.get Reg.devMgmtCanChannel = ch && m.fmt = 0 && !m.ext && !m.remote && m.data.length = 8 &&
  m.id = (0x600 + s.get Reg.devNodeId) * 2 ^ 18

/-- The server sends 8 bytes on 0x580 plus the node-ID, through the transmit queue of the management channel (R66). -/
def State.sdoSend (s : State) (d : List Byte) : State :=
  let ch := s.get Reg.devMgmtCanChannel
  if ch < 16 then s.canSend ch { fmt := 0, id := (0x580 + s.get Reg.devNodeId) * 2 ^ 18, data := padTo 8 d } none else s

/-- Command byte, index and subindex of a response. -/
def sdoHead (cmd idx sub : Nat) : List Byte := BitVec.ofNat 8 cmd :: (leBytes 2 idx ++ leBytes 1 sub)

/-- The server aborts: no transfer runs any more, and the client gets the abort code (R57, R67). -/
def State.sdoAbort (s : State) (idx sub code : Nat) : State :=
  ({ s with sdo := none } : State).sdoSend (sdoHead 0x80 idx sub ++ leBytes 4 code)

/-- The command specifier of a request. -/
def sdoCommand (m : BusMsg) : Nat := beAt m.data 0 1 / 32

/-- Index and subindex that an initiate request names. -/
def sdoIndex (d : List Byte) : Nat := ofLe (slice d 1 2)
def sdoSub (d : List Byte) : Nat := ofLe (slice d 3 1)

/-! ## Downloads -/

/-- Whole data reaches its object: the response to the last request, or the abort that refused the write. -/
def State.sdoWrite (s : State) (idx sub : Nat) (b answer : List Byte) : State :=
  let t := ({ s with sdo := none } : State).pathWrite .sdo idx sub (.bytes b)
  if t.resp.abort = 0 then t.sdoSend answer else t.sdoAbort idx sub t.resp.abort

/-- The abort of the checks of R44 that come before the length, with which an initiate request is refused. -/
def State.sdoProbe (s : State) (idx sub : Nat) : Option State :=
  if selfCursor idx sub then none
  else
    let row := s.selectedRow .sdo idx
    let t := s.writeAt .sdo idx sub row (.bytes (List.replicate ((s.place idx sub row).ty.bytes + 1) 0))
    if t.resp.abort = 0x06070010 ∨ t.resp.abort = 0x06070012 then none else some t

/-- An initiate-download request (R66, R67): expedited data is written at once; a segmented transfer starts. -/
def State.sdoDownload (s : State) (d : List Byte) : State :=
  let cmd := beAt d 0 1
  let idx := sdoIndex d
  let sub := sdoSub d
  let ty := (s.place idx sub 0).ty
  let s : State := { s with sdo := none }
  if bitOf cmd 1 then
    s.sdoWrite idx sub (slice d 4 (if bitOf cmd 0 then 4 - field cmd 3 2 else min 4 ty.bytes)) (sdoHead 0x60 idx sub)
  else
    match s.sdoProbe idx sub with
    | some t => t.sdoAbort idx sub t.resp.abort
    | none =>
      ({ s with sdo := some { upload := false, index := idx, sub := sub, since := s.now,
                              size := if bitOf cmd 0 then some (ofLe (slice d 4 4)) else none } } : State).sdoSend (sdoHead 0x60 idx sub)

/-- A download segment (R67): its toggle bit alternates, and the last one writes the object whole (R42). -/
def State.sdoDownloadPart (s : State) (d : List Byte) : State :=
  let cmd := beAt d 0 1
  match s.sdo with
  | some x =>
    if x.upload then s.sdoAbort x.index x.sub 0x05040001
    else if bitOf cmd 4 ≠ x.toggle then s.sdoAbort x.index x.sub 0x05030000
    else
      let data := x.data ++ slice d 1 (7 - field cmd 3 1)
      let answer : List Byte := [BitVec.ofNat 8 (0x20 + flag x.toggle * 16)]
      if bitOf cmd 0 then
        (if x.size.any (fun n => n ≠ data.length) then (s.latchAbort .sdo 0x06070010).sdoAbort x.index x.sub 0x06070010
         else s.sdoWrite x.index x.sub data answer)
      else ({ s with sdo := some { x with data := data, toggle := !x.toggle, since := s.now } } : State).sdoSend answer
  | none => s.sdoAbort 0 0 0x05040001

/-! ## Uploads -/

/-- An initiate-upload request (R66, R67): up to 4 bytes are answered at once; longer data goes in segments. -/
def State.sdoUpload (s : State) (d : List Byte) : State :=
  let idx := sdoIndex d
  let sub := sdoSub d
  let s : State := { s with sdo := none }
  let r := s.dictRead .sdo idx sub
  if r.1.abort ≠ 0 then (s.latchAbort .sdo r.1.abort).sdoAbort idx sub r.1.abort
  else
    let n := r.1.bytes.length
    if 1 ≤ n ∧ n ≤ 4 then r.2.sdoSend (sdoHead (0x43 + (4 - n) * 4) idx sub ++ r.1.bytes)
    else
      ({ r.2 with sdo := some { upload := true, index := idx, sub := sub, data := r.1.bytes, since := s.now } } : State).sdoSend
        (sdoHead 0x41 idx sub ++ leBytes 4 n)

/-- An upload segment request (R67): the next 7 bytes, or the last ones. -/
def State.sdoUploadPart (s : State) (d : List Byte) : State :=
  match s.sdo with
  | some x =>
    if ¬ x.upload then s.sdoAbort x.index x.sub 0x05040001
    else if bitOf (beAt d 0 1) 4 ≠ x.toggle then s.sdoAbort x.index x.sub 0x05030000
    else
      let part := x.data.take 7
      let rest := x.data.drop 7
      let s : State := { s with
        sdo := if rest = [] then none else some { x with data := rest, toggle := !x.toggle, since := s.now } }
      s.sdoSend (BitVec.ofNat 8 (flag x.toggle * 16 + (7 - part.length) * 2 + flag (rest = [])) :: part)
  | none => s.sdoAbort 0 0 0x05040001

/-! ## The server -/

/-- One request is served, by its command specifier (R67, R68); an abort of the client ends its transfer, and a specifier that the
server does not know is refused. -/
def State.sdoServe (s : State) (d : List Byte) : State :=
  match beAt d 0 1 / 32 with
  | 0 => s.sdoDownloadPart d
  | 1 => s.sdoDownload d
  | 2 => s.sdoUpload d
  | 3 => s.sdoUploadPart d
  | 4 => { s with sdo := none }
  | _ => s.sdoAbort (sdoIndex d) (sdoSub d) 0x05040001

/-- A request received on the management channel is served and not routed (R66; the paragraph after R393). -/
def State.sdoHear (s : State) (ch : Nat) (m : BusMsg) : State := ((s.canHeard ch).count (Reg.canRxMessages ch)).sdoServe m.data

/-- A request whose command specifier is one of a row's. -/
def State.sdoRow (s : State) (ch : Nat) (m : BusMsg) (cmds : List Nat) : State :=
  if s.canTakes ch m && s.sdoRequest ch m && cmds.contains (sdoCommand m) then s.sdoHear ch m else s

/-- SDO_INITIATE_DOWNLOAD (R66). -/
def execSdoInitiateDownload (ch : Nat) (m : BusMsg) (s : State) : Host.Outcome State Fault Refusal := .next (s.sdoRow ch m [1])

/-- SDO_INITIATE_UPLOAD (R66). -/
def execSdoInitiateUpload (ch : Nat) (m : BusMsg) (s : State) : Host.Outcome State Fault Refusal := .next (s.sdoRow ch m [2])

/-- SDO_DOWNLOAD_SEGMENT (R67). -/
def execSdoDownloadSegment (ch : Nat) (m : BusMsg) (s : State) : Host.Outcome State Fault Refusal := .next (s.sdoRow ch m [0])

/-- SDO_UPLOAD_SEGMENT (R67). -/
def execSdoUploadSegment (ch : Nat) (m : BusMsg) (s : State) : Host.Outcome State Fault Refusal := .next (s.sdoRow ch m [3])

/-- SDO_BLOCK_REQUEST (R67): block download and block upload are answered with abort 0x05040001. -/
def execSdoBlockRequest (ch : Nat) (m : BusMsg) (s : State) : Host.Outcome State Fault Refusal := .next (s.sdoRow ch m [5, 6])

/-- SDO_SEGMENT_TIMEOUT (R68): a segmented transfer that received no segment for 1 s is aborted. -/
def execSdoSegmentTimeout (s : State) : Host.Outcome State Fault Refusal :=
  match s.sdo with
  | some x => .next (if s.answers .sdo ∧ x.since + sec ≤ s.now then s.sdoAbort x.index x.sub 0x05040000 else s)
  | none => .next s

/-! ## Reception -/

/-- CAN_MESSAGE_RECEIVE (R389 to R398): a message is received valid on a channel that takes its format. The
totaliser takes its samples first, and a request to the SDO server is not routed. -/
def execCanMessageReceive (ch : Nat) (m : BusHeard) (s : State) : Host.Outcome State Fault Refusal :=
  if s.canTakes ch m.msg then
    let z := s.busStamp m.age
    let s := if z.2.isSample ch m.msg then z.2.sampleMessage m.msg z.1 else z.2
    .next (if s.sdoRequest ch m.msg then s.sdoHear ch m.msg else s.canReceive ch m.msg z.1)
  else .next s

end Sys2Proof.Machine
end

