-- ==== Sys2Proof/Machine/Dispatch.lean ====
section
/-! DEFINITION. One arm for each command of the table: a call of its meaning. -/
namespace Sys2Proof.Machine

def exec (i : Instr) (s : State) : Host.Outcome State Fault Refusal :=
  match i with
  | .generalWrite ctx index sub data sameCycle => Sys2Proof.Machine.execGeneralWrite ctx index sub data sameCycle s
  | .longDataWrite ctx value => Sys2Proof.Machine.execLongDataWrite ctx value s
  | .longDataRead ctx => Sys2Proof.Machine.execLongDataRead ctx s
  | .commit ctx index => Sys2Proof.Machine.execCommit ctx index s
  | .disarm ctx index => Sys2Proof.Machine.execDisarm ctx index s
  | .discard ctx index => Sys2Proof.Machine.execDiscard ctx index s
  | .boundaryHandover index => Sys2Proof.Machine.execBoundaryHandover index s
  | .kindleFire d => Sys2Proof.Machine.execKindleFire d s
  | .evPulse ctx value => Sys2Proof.Machine.execEvPulse ctx value s
  | .eventSidebandDeliver toWick input => Sys2Proof.Machine.execEventSidebandDeliver toWick input s
  | .ecntClear ctx n value => Sys2Proof.Machine.execEcntClear ctx n value s
  | .irqClaim target => Sys2Proof.Machine.execIrqClaim target s
  | .irqComplete target source => Sys2Proof.Machine.execIrqComplete target source s
  | .sdoInitiateDownload ch m => Sys2Proof.Machine.execSdoInitiateDownload ch m s
  | .sdoInitiateUpload ch m => Sys2Proof.Machine.execSdoInitiateUpload ch m s
  | .sdoDownloadSegment ch m => Sys2Proof.Machine.execSdoDownloadSegment ch m s
  | .sdoUploadSegment ch m => Sys2Proof.Machine.execSdoUploadSegment ch m s
  | .sdoBlockRequest ch m => Sys2Proof.Machine.execSdoBlockRequest ch m s
  | .sdoSegmentTimeout => Sys2Proof.Machine.execSdoSegmentTimeout s
  | .coathRead => Sys2Proof.Machine.execCoathRead s
  | .coathWrite => Sys2Proof.Machine.execCoathWrite s
  | .coathCommit => Sys2Proof.Machine.execCoathCommit s
  | .coathBlockRead => Sys2Proof.Machine.execCoathBlockRead s
  | .coathBlockWrite => Sys2Proof.Machine.execCoathBlockWrite s
  | .tbSnapshot ctx value => Sys2Proof.Machine.execTbSnapshot ctx value s
  | .followerAlign ok error => Sys2Proof.Machine.execFollowerAlign ok error s
  | .syncArrival port domainNumber => Sys2Proof.Machine.execSyncArrival port domainNumber s
  | .syncMonitorExpire d => Sys2Proof.Machine.execSyncMonitorExpire d s
  | .domStep ctx d value => Sys2Proof.Machine.execDomStep ctx d value s
  | .domEnable ctx d => Sys2Proof.Machine.execDomEnable ctx d s
  | .domDisable ctx d => Sys2Proof.Machine.execDomDisable ctx d s
  | .domRole ctx d value => Sys2Proof.Machine.execDomRole ctx d value s
  | .domStandbyWrite ctx d value => Sys2Proof.Machine.execDomStandbyWrite ctx d value s
  | .domSyncTimeoutWrite ctx d value => Sys2Proof.Machine.execDomSyncTimeoutWrite ctx d value s
  | .capture k => Sys2Proof.Machine.execCapture k s
  | .capTimeRead ctx k => Sys2Proof.Machine.execCapTimeRead ctx k s
  | .portEnable ctx n => Sys2Proof.Machine.execPortEnable ctx n s
  | .portDisable ctx n => Sys2Proof.Machine.execPortDisable ctx n s
  | .portRestart ctx n => Sys2Proof.Machine.execPortRestart ctx n s
  | .portRestartFull ctx n => Sys2Proof.Machine.execPortRestartFull ctx n s
  | .linkUp port speed => Sys2Proof.Machine.execLinkUp port speed s
  | .linkDown port since cause => Sys2Proof.Machine.execLinkDown port since cause s
  | .warmLockTimeout port => Sys2Proof.Machine.execWarmLockTimeout port s
  | .mergeVerifyTimeout port => Sys2Proof.Machine.execMergeVerifyTimeout port s
  | .pauseFrameReceive port pfc enables times => Sys2Proof.Machine.execPauseFrameReceive port pfc enables times s
  | .plcaBeacon k => Sys2Proof.Machine.execPlcaBeacon k s
  | .plcaBeaconTimeout k opportunities => Sys2Proof.Machine.execPlcaBeaconTimeout k opportunities s
  | .pcntClear ctx n value => Sys2Proof.Machine.execPcntClear ctx n value s
  | .frameReceive port rx => Sys2Proof.Machine.execFrameReceive port rx s
  | .parsePipelineEntry pipe ecc => Sys2Proof.Machine.execParsePipelineEntry pipe ecc s
  | .bankFlip b => Sys2Proof.Machine.execBankFlip b s
  | .connScan row => Sys2Proof.Machine.execConnScan row s
  | .ccntClear ctx n value => Sys2Proof.Machine.execCcntClear ctx n value s
  | .bufReclaim ctx value => Sys2Proof.Machine.execBufReclaim ctx value s
  | .reclaimDone => Sys2Proof.Machine.execReclaimDone s
  | .qFlush ctx port value => Sys2Proof.Machine.execQFlush ctx port value s
  | .flushDone port => Sys2Proof.Machine.execFlushDone port s
  | .fdbForget ctx value => Sys2Proof.Machine.execFdbForget ctx value s
  | .rankFloorRaise => Sys2Proof.Machine.execRankFloorRaise s
  | .rankFloorLower => Sys2Proof.Machine.execRankFloorLower s
  | .stagingGrant part => Sys2Proof.Machine.execStagingGrant part s
  | .stagingTimeout port => Sys2Proof.Machine.execStagingTimeout port s
  | .qcntClear ctx port value => Sys2Proof.Machine.execQcntClear ctx port value s
  | .gateNotice port => Sys2Proof.Machine.execGateNotice port s
  | .gateEntryStart port => Sys2Proof.Machine.execGateEntryStart port s
  | .holdRequest port => Sys2Proof.Machine.execHoldRequest port s
  | .holdRelease port => Sys2Proof.Machine.execHoldRelease port s
  | .frameTransmitStart port ecc cell => Sys2Proof.Machine.execFrameTransmitStart port ecc cell s
  | .frameTransmitEnd port => Sys2Proof.Machine.execFrameTransmitEnd port s
  | .srResetTimeout row => Sys2Proof.Machine.execSrResetTimeout row s
  | .scntClear ctx n value => Sys2Proof.Machine.execScntClear ctx n value s
  | .lookaheadReserve port => Sys2Proof.Machine.execLookaheadReserve port s
  | .keystreamBlockResult unit port pair ok1 ok2 => Sys2Proof.Machine.execKeystreamBlockResult unit port pair ok1 ok2 s
  | .rxVerdict port => Sys2Proof.Machine.execRxVerdict port s
  | .lcClear ctx n value => Sys2Proof.Machine.execLcClear ctx n value s
  | .scOpen ctx => Sys2Proof.Machine.execScOpen ctx s
  | .scClose ctx => Sys2Proof.Machine.execScClose ctx s
  | .scInstall ctx => Sys2Proof.Machine.execScInstall ctx s
  | .scRetire ctx => Sys2Proof.Machine.execScRetire ctx s
  | .scActivate ctx => Sys2Proof.Machine.execScActivate ctx s
  | .installDone => Sys2Proof.Machine.execInstallDone s
  | .rxOverlapExpire row => Sys2Proof.Machine.execRxOverlapExpire row s
  | .exhaustHoldExpire c => Sys2Proof.Machine.execExhaustHoldExpire c s
  | .saEventFifoRead ctx => Sys2Proof.Machine.execSaEventFifoRead ctx s
  | .scpClear ctx n value => Sys2Proof.Machine.execScpClear ctx n value s
  | .slowPathDispatch => Sys2Proof.Machine.execSlowPathDispatch s
  | .spIn e rd => Sys2Proof.Machine.execSpIn e rd s
  | .spLeft e rd => Sys2Proof.Machine.execSpLeft e rd s
  | .spDrop e => Sys2Proof.Machine.execSpDrop e s
  | .spOut e rs1 => Sys2Proof.Machine.execSpOut e rs1 s
  | .spSend e => Sys2Proof.Machine.execSpSend e s
  | .spResolve e rs1 => Sys2Proof.Machine.execSpResolve e rs1 s
  | .spCrc e rd rs1 rs2 => Sys2Proof.Machine.execSpCrc e rd rs1 rs2 s
  | .spCsum e rd rs1 rs2 => Sys2Proof.Machine.execSpCsum e rd rs1 rs2 s
  | .spTime e rd => Sys2Proof.Machine.execSpTime e rd s
  | .outboxCollect e => Sys2Proof.Machine.execOutboxCollect e s
  | .tagRelease port => Sys2Proof.Machine.execTagRelease port s
  | .reorderTimeout tag => Sys2Proof.Machine.execReorderTimeout tag s
  | .engineFault e cause pc => Sys2Proof.Machine.execEngineFault e cause pc s
  | .seRun ctx e => Sys2Proof.Machine.execSeRun ctx e s
  | .seStop ctx e => Sys2Proof.Machine.execSeStop ctx e s
  | .ringReceiveWrite q => Sys2Proof.Machine.execRingReceiveWrite q s
  | .txRingProduce ctx value => Sys2Proof.Machine.execTxRingProduce ctx value s
  | .vaultCommandStart => Sys2Proof.Machine.execVaultCommandStart s
  | .vaultGenerate ctx => Sys2Proof.Machine.execVaultGenerate ctx s
  | .vaultImportClear ctx => Sys2Proof.Machine.execVaultImportClear ctx s
  | .vaultImportWrapped ctx => Sys2Proof.Machine.execVaultImportWrapped ctx s
  | .vaultExportWrapped ctx => Sys2Proof.Machine.execVaultExportWrapped ctx s
  | .vaultNarrowPolicy ctx => Sys2Proof.Machine.execVaultNarrowPolicy ctx s
  | .vaultDestroy ctx => Sys2Proof.Machine.execVaultDestroy ctx s
  | .vaultSign ctx => Sys2Proof.Machine.execVaultSign ctx s
  | .vaultVerify ctx => Sys2Proof.Machine.execVaultVerify ctx s
  | .vaultEcdh ctx => Sys2Proof.Machine.execVaultEcdh ctx s
  | .vaultHkdf ctx => Sys2Proof.Machine.execVaultHkdf ctx s
  | .vaultKdfCtr ctx => Sys2Proof.Machine.execVaultKdfCtr ctx s
  | .vaultRandom ctx => Sys2Proof.Machine.execVaultRandom ctx s
  | .vaultAttest ctx => Sys2Proof.Machine.execVaultAttest ctx s
  | .vaultCommandDone => Sys2Proof.Machine.execVaultCommandDone s
  | .entropyFailure => Sys2Proof.Machine.execEntropyFailure s
  | .entropyRecover => Sys2Proof.Machine.execEntropyRecover s
  | .lifeCycleTransition ctx value => Sys2Proof.Machine.execLifeCycleTransition ctx value s
  | .transitionComplete => Sys2Proof.Machine.execTransitionComplete s
  | .lockstepFault unit => Sys2Proof.Machine.execLockstepFault unit s
  | .crLoad ctx => Sys2Proof.Machine.execCrLoad ctx s
  | .crUnload ctx => Sys2Proof.Machine.execCrUnload ctx s
  | .crqProduce ctx q value => Sys2Proof.Machine.execCrqProduce ctx q value s
  | .cressetStartPulse q => Sys2Proof.Machine.execCressetStartPulse q s
  | .cressetJobStart => Sys2Proof.Machine.execCressetJobStart s
  | .cressetBlockDone k ok1 ok2 => Sys2Proof.Machine.execCressetBlockDone k ok1 ok2 s
  | .cressetJobDone q => Sys2Proof.Machine.execCressetJobDone q s
  | .dmaStart ctx c => Sys2Proof.Machine.execDmaStart ctx c s
  | .dmaResume ctx c => Sys2Proof.Machine.execDmaResume ctx c s
  | .dmaStop ctx c => Sys2Proof.Machine.execDmaStop ctx c s
  | .dmaStartPulse c => Sys2Proof.Machine.execDmaStartPulse c s
  | .dmaDescriptorDone c => Sys2Proof.Machine.execDmaDescriptorDone c s
  | .memoryRead init addr len cached tamper => Sys2Proof.Machine.execMemoryRead init addr len cached tamper s
  | .memoryWrite init addr data cached tamper => Sys2Proof.Machine.execMemoryWrite init addr data cached tamper s
  | .keyidProgram ctx k => Sys2Proof.Machine.execKeyidProgram ctx k s
  | .keyidProgramDone => Sys2Proof.Machine.execKeyidProgramDone s
  | .keyidClose ctx k => Sys2Proof.Machine.execKeyidClose ctx k s
  | .keyidCloseDone k => Sys2Proof.Machine.execKeyidCloseDone k s
  | .keyidRetire ctx k => Sys2Proof.Machine.execKeyidRetire ctx k s
  | .flashErase ctx addr => Sys2Proof.Machine.execFlashErase ctx addr s
  | .flashEraseDone => Sys2Proof.Machine.execFlashEraseDone s
  | .initSweepGranule => Sys2Proof.Machine.execInitSweepGranule s
  | .chimneyRead init addr size => Sys2Proof.Machine.execChimneyRead init addr size s
  | .chimneyFetchDone held k => Sys2Proof.Machine.execChimneyFetchDone held k s
  | .fetchStale k => Sys2Proof.Machine.execFetchStale k s
  | .chimneyPostedWrite init addr data => Sys2Proof.Machine.execChimneyPostedWrite init addr data s
  | .writeAck k => Sys2Proof.Machine.execWriteAck k s
  | .fence init writes reads => Sys2Proof.Machine.execFence init writes reads s
  | .fenceComplete init => Sys2Proof.Machine.execFenceComplete init s
  | .lr hart addr size => Sys2Proof.Machine.execLr hart addr size s
  | .sc hart addr data => Sys2Proof.Machine.execSc hart addr data s
  | .semaphoreTimeout => Sys2Proof.Machine.execSemaphoreTimeout s
  | .wickBackoff => Sys2Proof.Machine.execWickBackoff s
  | .backoffReissue => Sys2Proof.Machine.execBackoffReissue s
  | .cboClean core addr => Sys2Proof.Machine.execCboClean core addr s
  | .cboFlush core addr => Sys2Proof.Machine.execCboFlush core addr s
  | .cboInval core addr cbie => Sys2Proof.Machine.execCboInval core addr cbie s
  | .flitCrcError f => Sys2Proof.Machine.execFlitCrcError f s
  | .chimneyLockLoss lockLost => Sys2Proof.Machine.execChimneyLockLoss lockLost s
  | .retrainResult ok => Sys2Proof.Machine.execRetrainResult ok s
  | .chmRetrain ctx value => Sys2Proof.Machine.execChmRetrain ctx value s
  | .chmFaultClear ctx value => Sys2Proof.Machine.execChmFaultClear ctx value s
  | .canMessageReceive ch m => Sys2Proof.Machine.execCanMessageReceive ch m s
  | .linResponseReceive l id data e => Sys2Proof.Machine.execLinResponseReceive l id data e s
  | .linHeaderReceive l id => Sys2Proof.Machine.execLinHeaderReceive l id s
  | .linResponseTimeout l => Sys2Proof.Machine.execLinResponseTimeout l s
  | .canArbitration ch won => Sys2Proof.Machine.execCanArbitration ch won s
  | .canTxDone ch => Sys2Proof.Machine.execCanTxDone ch s
  | .canBusOff ch => Sys2Proof.Machine.execCanBusOff ch s
  | .canBusoffRecovery ch => Sys2Proof.Machine.execCanBusoffRecovery ch s
  | .canRecover ctx ch value => Sys2Proof.Machine.execCanRecover ctx ch value s
  | .canEnable ctx ch value => Sys2Proof.Machine.execCanEnable ctx ch value s
  | .canClear ctx ch value => Sys2Proof.Machine.execCanClear ctx ch value s
  | .linClear ctx l value => Sys2Proof.Machine.execLinClear ctx l value s
  | .linSendWake ctx l value => Sys2Proof.Machine.execLinSendWake ctx l value s
  | .cyclicRelease e => Sys2Proof.Machine.execCyclicRelease e s
  | .cycDataWrite ctx e data => Sys2Proof.Machine.execCycDataWrite ctx e data s
  | .acfUnpack => Sys2Proof.Machine.execAcfUnpack s
  | .acfMaxWaitExpire stream => Sys2Proof.Machine.execAcfMaxWaitExpire stream s
  | .acfClear ctx stream value => Sys2Proof.Machine.execAcfClear ctx stream value s
  | .gwKeyLoad ctx k value => Sys2Proof.Machine.execGwKeyLoad ctx k value s
  | .cpStateChange level count => Sys2Proof.Machine.execCpStateChange level count s
  | .ppMeasure ohms => Sys2Proof.Machine.execPpMeasure ohms s
  | .proximityPoll ohms env => Sys2Proof.Machine.execProximityPoll ohms env s
  | .inletTempSample t ohms => Sys2Proof.Machine.execInletTempSample t ohms s
  | .cpS2Write ctx value => Sys2Proof.Machine.execCpS2Write ctx value s
  | .cdCommand ctx k value => Sys2Proof.Machine.execCdCommand ctx k value s
  | .rampWaitExpire k => Sys2Proof.Machine.execRampWaitExpire k s
  | .cdOvercurrent k current => Sys2Proof.Machine.execCdOvercurrent k current s
  | .cdOpenLoad k current micros => Sys2Proof.Machine.execCdOpenLoad k current micros s
  | .cdClearFault ctx k value => Sys2Proof.Machine.execCdClearFault ctx k value s
  | .totaliserSample ch m => Sys2Proof.Machine.execTotaliserSample ch m s
  | .sessionOpen ctx => Sys2Proof.Machine.execSessionOpen ctx s
  | .countersign ctx => Sys2Proof.Machine.execCountersign ctx s
  | .countersignDone fails => Sys2Proof.Machine.execCountersignDone fails s
  | .sessionClose ctx => Sys2Proof.Machine.execSessionClose ctx s
  | .sealClose ctx value => Sys2Proof.Machine.execSealClose ctx value s
  | .sealCloseDone => Sys2Proof.Machine.execSealCloseDone s
  | .msAcknowledge ctx value => Sys2Proof.Machine.execMsAcknowledge ctx value s
  | .msExport ctx value => Sys2Proof.Machine.execMsExport ctx value s
  | .exportDone => Sys2Proof.Machine.execExportDone s
  | .vbatSample mv => Sys2Proof.Machine.execVbatSample mv s
  | .overvoltageEntry => Sys2Proof.Machine.execOvervoltageEntry s
  | .overvoltageRecovery env => Sys2Proof.Machine.execOvervoltageRecovery env s
  | .crankEntry items => Sys2Proof.Machine.execCrankEntry items s
  | .crankRecovery env => Sys2Proof.Machine.execCrankRecovery env s
  | .throttleStepDown => Sys2Proof.Machine.execThrottleStepDown s
  | .throttleStepUp => Sys2Proof.Machine.execThrottleStepUp s
  | .droopDetect levels => Sys2Proof.Machine.execDroopDetect levels s
  | .supplyFault rail => Sys2Proof.Machine.execSupplyFault rail s
  | .vpreRetry again env => Sys2Proof.Machine.execVpreRetry again env s
  | .pwrRequestDormant ctx pins => Sys2Proof.Machine.execPwrRequestDormant ctx pins s
  | .pwrRequestEmber ctx pins => Sys2Proof.Machine.execPwrRequestEmber ctx pins s
  | .pwrRequestGlow ctx => Sys2Proof.Machine.execPwrRequestGlow ctx s
  | .pwrRequestFlame ctx => Sys2Proof.Machine.execPwrRequestFlame ctx s
  | .pwrRequestTrim ctx => Sys2Proof.Machine.execPwrRequestTrim ctx s
  | .modeTransitionDone env => Sys2Proof.Machine.execModeTransitionDone env s
  | .emberLimitExpire => Sys2Proof.Machine.execEmberLimitExpire s
  | .wakeAlarmExpire env => Sys2Proof.Machine.execWakeAlarmExpire env s
  | .wakeEvent sources env => Sys2Proof.Machine.execWakeEvent sources env s
  | .cfgSave ctx value => Sys2Proof.Machine.execCfgSave ctx value s
  | .cfgSaveDone => Sys2Proof.Machine.execCfgSaveDone s
  | .cfgRemainderApplied bad => Sys2Proof.Machine.execCfgRemainderApplied bad s
  | .start env => Sys2Proof.Machine.execStart env s
  | .hbBeat ctx value mailbox pilotLine => Sys2Proof.Machine.execHbBeat ctx value mailbox pilotLine s
  | .heartbeatTimeout c => Sys2Proof.Machine.execHeartbeatTimeout c s
  | .cgClaim ctx g value => Sys2Proof.Machine.execCgClaim ctx g value s
  | .outCommand ctx o value => Sys2Proof.Machine.execOutCommand ctx o value s
  | .holdExpire g => Sys2Proof.Machine.execHoldExpire g s
  | .twinFramePeriodic => Sys2Proof.Machine.execTwinFramePeriodic s
  | .twinFrameReceive stream bytes => Sys2Proof.Machine.execTwinFrameReceive stream bytes s
  | .twinTimeout => Sys2Proof.Machine.execTwinTimeout s
  | .snuffRestartExpire => Sys2Proof.Machine.execSnuffRestartExpire s
  | .snuffCountClear => Sys2Proof.Machine.execSnuffCountClear s
  | .powerOnReset => Sys2Proof.Machine.execPowerOnReset s
  | .externalReset micros => Sys2Proof.Machine.execExternalReset micros s
  | .debugReset => Sys2Proof.Machine.execDebugReset s
  | .rstDevice ctx => Sys2Proof.Machine.execRstDevice ctx s
  | .rstSnuff ctx => Sys2Proof.Machine.execRstSnuff ctx s
  | .rstRestartA ctx => Sys2Proof.Machine.execRstRestartA ctx s
  | .rstRestartB ctx => Sys2Proof.Machine.execRstRestartB ctx s
  | .clusterRestartDone c ok => Sys2Proof.Machine.execClusterRestartDone c ok s
  | .pilotWatchdog => Sys2Proof.Machine.execPilotWatchdog s
  | .errorRecordWrite => Sys2Proof.Machine.execErrorRecordWrite s
  | .errorLogCopy => Sys2Proof.Machine.execErrorLogCopy s
  | .errAcknowledge ctx value => Sys2Proof.Machine.execErrAcknowledge ctx value s
  | .errReport ctx bytes => Sys2Proof.Machine.execErrReport ctx bytes s
  | .eclClear ctx cls value => Sys2Proof.Machine.execEclClear ctx cls value s
  | .taperOpen frame => Sys2Proof.Machine.execTaperOpen frame s
  | .taperData frame => Sys2Proof.Machine.execTaperData frame s
  | .taperClose frame => Sys2Proof.Machine.execTaperClose frame s
  | .taperCloseVerdict => Sys2Proof.Machine.execTaperCloseVerdict s
  | .taperAbort frame => Sys2Proof.Machine.execTaperAbort frame s
  | .taperStatus frame => Sys2Proof.Machine.execTaperStatus frame s
  | .taperSessionTimeout => Sys2Proof.Machine.execTaperSessionTimeout s
  | .updConfirm ctx value => Sys2Proof.Machine.execUpdConfirm ctx value s
  | .trialTimeout => Sys2Proof.Machine.execTrialTimeout s
  | .updPrepare ctx value => Sys2Proof.Machine.execUpdPrepare ctx value s
  | .prepareDone => Sys2Proof.Machine.execPrepareDone s
  | .ownerKeyWrite ctx bytes => Sys2Proof.Machine.execOwnerKeyWrite ctx bytes s
  | .pauseTimeExpire port => Sys2Proof.Machine.execPauseTimeExpire port s
  | .canError ch transmitter severe => Sys2Proof.Machine.execCanError ch transmitter severe s
  | .heartbeatPathFault c pilotLine => Sys2Proof.Machine.execHeartbeatPathFault c pilotLine s
  | .twinPathFault stream => Sys2Proof.Machine.execTwinPathFault stream s
  | .taperAckTimer => Sys2Proof.Machine.execTaperAckTimer s
  | .cpPeriodMeasure oscillating frequency duty negative => Sys2Proof.Machine.execCpPeriodMeasure oscillating frequency duty negative s
  | .pilotRead addr size => Sys2Proof.Machine.execPilotRead addr size s

end Sys2Proof.Machine
end

