-- ==== Sys2Proof/WellFormed.lean ====
section
/-! DEFINITION. Commands whose operands lie in the ranges that the rules give them: numbers of units, of objects, of registers and
fields. A command that is not well formed is one that no sender can send; a step does not depend on this check. -/
namespace Sys2Proof

/-- A store carries 8 bytes; an SDO or Coath message carries at most 2^16 bytes. -/
def WriteData.wf : WriteData → Bool
  | .store v => v < 2 ^ 64
  | .misaligned => true
  | .bytes b => b.length < 2 ^ 16

/-- The longest data of a message format (R389, R394). -/
def BusMsg.room (m : BusMsg) : Nat :=
  match m.fmt with
  | 1 => 64
  | 2 => 2048
  | _ => 8

/-- A message has a format, a 29-bit identifier and data that its format carries (R389, R396). -/
def BusMsg.wf (m : BusMsg) : Bool := m.fmt < 4 && m.id < 2 ^ 29 && m.vcid < 2 ^ 8 && m.sdt < 2 ^ 8 && m.data.length ≤ m.room

/-- What a start meets: slots of the vault and of the configuration store (R291, R466). -/
def StartEnv.wf (e : StartEnv) : Bool := e.dieTemp < 2 ^ 8 && e.vbat < 2 ^ 16 && e.badSlots.all (· < 1024) && e.badImages.all (· < 2)

/-- What is heard on a bus is a message, a checksum is a byte, and a flit has 32 bytes (R366). -/
def BusHeard.wf (m : BusHeard) : Bool := m.msg.wf
def LinEnd.wf (e : LinEnd) : Bool := e.check < 2 ^ 8
def FlitHeard.wf (f : FlitHeard) : Bool := f.bytes.length = 32

/-- A wake source is that of one of the four WAKE pins, or of CAN0 to CAN7 or LIN0 to LIN7. -/
def WakeSource.wf : WakeSource → Bool
  | .pin n _ _ _ => n < 4
  | .can ch => ch < 8
  | .lin l _ => l < 8
  | _ => true

/-- A received frame has one of the five outcomes of MAC merge reassembly (R114). -/
def RxFrame.wf (r : RxFrame) : Bool := r.merge < 5

/-- The operands of a command lie in the ranges of the rules of its row. -/
def Instr.wellFormed : Instr → Bool
  | .generalWrite _ index sub data _ => index < 2 ^ 16 && sub < 2 ^ 8 && data.wf
  | .longDataWrite _ value => value < 2 ^ 64
  | .longDataRead _ => true
  | .commit _ index => index < 2 ^ 16
  | .disarm _ index => index < 2 ^ 16
  | .discard _ index => index < 2 ^ 16
  | .boundaryHandover index => index < 2 ^ 16
  | .kindleFire d => d < 4
  | .evPulse _ value => value < 2 ^ 64
  | .eventSidebandDeliver _ input => input < 32
  | .ecntClear _ n value => n < 32 && value < 2 ^ 64
  | .irqClaim target => target < 4
  | .irqComplete target source => target < 4 && source < 65
  | .sdoInitiateDownload ch m => ch < 16 && m.wf
  | .sdoInitiateUpload ch m => ch < 16 && m.wf
  | .sdoDownloadSegment ch m => ch < 16 && m.wf
  | .sdoUploadSegment ch m => ch < 16 && m.wf
  | .sdoBlockRequest ch m => ch < 16 && m.wf
  | .sdoSegmentTimeout => true
  | .coathRead => true
  | .coathWrite => true
  | .coathCommit => true
  | .coathBlockRead => true
  | .coathBlockWrite => true
  | .tbSnapshot _ value => value < 2 ^ 64
  | .followerAlign _ _ => true
  | .syncArrival port domainNumber => port < 38 && domainNumber < 256
  | .syncMonitorExpire d => d < 4
  | .domStep _ d value => d < 4 && value < 2 ^ 64
  | .domEnable _ d => d < 4
  | .domDisable _ d => d < 4
  | .domRole _ d value => d < 4 && value < 2 ^ 64
  | .domStandbyWrite _ d value => d < 4 && value < 2 ^ 64
  | .domSyncTimeoutWrite _ d value => d < 4 && value < 2 ^ 64
  | .capture k => k < 16
  | .capTimeRead _ k => k < 16
  | .portEnable _ n => n < 38
  | .portDisable _ n => n < 38
  | .portRestart _ n => n < 38
  | .portRestartFull _ n => n < 38
  | .linkUp port _ => port < 38
  | .linkDown port _ cause => port < 38 && cause < 8
  | .warmLockTimeout port => port < 38
  | .mergeVerifyTimeout port => port < 38
  | .pauseFrameReceive port _ enables _ => port < 38 && enables < 256
  | .plcaBeacon k => k < 4
  | .plcaBeaconTimeout k opportunities => k < 4 && opportunities < 65536
  | .pcntClear _ n value => n < 38 && value < 2 ^ 64
  | .frameReceive port rx => port < 38 && rx.wf
  | .parsePipelineEntry pipe ecc => pipe < 2 && ecc < 8
  | .bankFlip b => b < 4
  | .connScan row => row < 65536
  | .ccntClear _ n value => n < 38 && value < 2 ^ 64
  | .bufReclaim _ value => value < 2 ^ 64
  | .reclaimDone => true
  | .qFlush _ port value => port < 38 && value < 2 ^ 64
  | .flushDone port => port < 38
  | .fdbForget _ value => value < 2 ^ 64
  | .rankFloorRaise => true
  | .rankFloorLower => true
  | .stagingGrant part => part < 38
  | .stagingTimeout port => port < 38
  | .qcntClear _ port value => port < 38 && value < 2 ^ 64
  | .gateNotice port => port < 38
  | .gateEntryStart port => port < 38
  | .holdRequest port => port < 38
  | .holdRelease port => port < 38
  | .frameTransmitStart port ecc cell => port < 38 && ecc < 8 && cell < 2 ^ 18
  | .frameTransmitEnd port => port < 38
  | .srResetTimeout row => row < 2048
  | .scntClear _ n value => n < 38 && value < 2 ^ 64
  | .lookaheadReserve port => port < 38
  | .keystreamBlockResult unit port pair _ _ => unit < 4 && port < 38 && pair < 256
  | .rxVerdict port => port < 38
  | .lcClear _ n value => n < 38 && value < 2 ^ 64
  | .scOpen _ => true
  | .scClose _ => true
  | .scInstall _ => true
  | .scRetire _ => true
  | .scActivate _ => true
  | .installDone => true
  | .rxOverlapExpire row => row < 8192
  | .exhaustHoldExpire c => c < 4096
  | .saEventFifoRead _ => true
  | .scpClear _ n value => n < 38 && value < 2 ^ 64
  | .slowPathDispatch => true
  | .spIn e rd => e < 10 && rd < 32
  | .spLeft e rd => e < 10 && rd < 32
  | .spDrop e => e < 10
  | .spOut e rs1 => e < 10 && rs1 < 2 ^ 32
  | .spSend e => e < 10
  | .spResolve e rs1 => e < 10 && rs1 < 2 ^ 32
  | .spCrc e rd rs1 rs2 => e < 10 && rd < 32 && rs1 < 2 ^ 32 && rs2 < 2 ^ 32
  | .spCsum e rd rs1 rs2 => e < 10 && rd < 32 && rs1 < 2 ^ 32 && rs2 < 2 ^ 32
  | .spTime e rd => e < 10 && rd < 32
  | .outboxCollect e => e < 10
  | .tagRelease port => port < 38
  | .reorderTimeout tag => tag < 65536
  | .engineFault e cause pc => e < 10 && cause < 2 ^ 32 && pc < 2 ^ 32
  | .seRun _ e => e < 10
  | .seStop _ e => e < 10
  | .ringReceiveWrite q => q < 32
  | .txRingProduce _ value => value < 2 ^ 64
  | .vaultCommandStart => true
  | .vaultGenerate _ => true
  | .vaultImportClear _ => true
  | .vaultImportWrapped _ => true
  | .vaultExportWrapped _ => true
  | .vaultNarrowPolicy _ => true
  | .vaultDestroy _ => true
  | .vaultSign _ => true
  | .vaultVerify _ => true
  | .vaultEcdh _ => true
  | .vaultHkdf _ => true
  | .vaultKdfCtr _ => true
  | .vaultRandom _ => true
  | .vaultAttest _ => true
  | .vaultCommandDone => true
  | .entropyFailure => true
  | .entropyRecover => true
  | .lifeCycleTransition _ value => value < 2 ^ 64
  | .transitionComplete => true
  | .lockstepFault unit => unit < 4
  | .crLoad _ => true
  | .crUnload _ => true
  | .crqProduce _ q value => q < 8 && value < 2 ^ 64
  | .cressetStartPulse q => q < 8
  | .cressetJobStart => true
  | .cressetBlockDone _ _ _ => true
  | .cressetJobDone q => q < 8
  | .dmaStart _ c => c < 32
  | .dmaResume _ c => c < 32
  | .dmaStop _ c => c < 32
  | .dmaStartPulse c => c < 32
  | .dmaDescriptorDone c => c < 32
  | .memoryRead init addr len _ _ => init < 256 && addr < 2 ^ 40 && len < 2 ^ 32
  | .memoryWrite init addr _ _ _ => init < 256 && addr < 2 ^ 40
  | .keyidProgram _ k => k < 16
  | .keyidProgramDone => true
  | .keyidClose _ k => k < 16
  | .keyidCloseDone k => k < 16
  | .keyidRetire _ k => k < 16
  | .flashErase _ addr => addr < 2 ^ 40
  | .flashEraseDone => true
  | .initSweepGranule => true
  | .chimneyRead init addr size => init < 256 && addr < 2 ^ 40 && size < 65
  | .chimneyFetchDone _ k => k < 16
  | .fetchStale k => k < 16
  | .chimneyPostedWrite init addr _ => init < 256 && addr < 2 ^ 40
  | .writeAck _ => true
  | .fence init _ _ => init < 256
  | .fenceComplete init => init < 256
  | .lr hart addr size => hart < 2 && addr < 2 ^ 40 && size < 65
  | .sc hart addr _ => hart < 2 && addr < 2 ^ 40
  | .semaphoreTimeout => true
  | .wickBackoff => true
  | .backoffReissue => true
  | .cboClean core addr => core < 2 && addr < 2 ^ 40
  | .cboFlush core addr => core < 2 && addr < 2 ^ 40
  | .cboInval core addr cbie => core < 2 && addr < 2 ^ 40 && cbie < 4
  | .flitCrcError f => f.wf
  | .chimneyLockLoss _ => true
  | .retrainResult _ => true
  | .chmRetrain _ value => value < 2 ^ 64
  | .chmFaultClear _ value => value < 2 ^ 64
  | .canMessageReceive ch m => ch < 16 && m.wf
  | .linResponseReceive l id _ e => l < 8 && id < 64 && e.wf
  | .linHeaderReceive l id => l < 8 && id < 64
  | .linResponseTimeout l => l < 8
  | .canArbitration ch _ => ch < 16
  | .canTxDone ch => ch < 16
  | .canBusOff ch => ch < 16
  | .canBusoffRecovery ch => ch < 16
  | .canRecover _ ch value => ch < 16 && value < 2 ^ 64
  | .canEnable _ ch value => ch < 16 && value < 2 ^ 64
  | .canClear _ ch value => ch < 16 && value < 2 ^ 64
  | .linClear _ l value => l < 8 && value < 2 ^ 64
  | .linSendWake _ l value => l < 8 && value < 2 ^ 64
  | .cyclicRelease e => e < 128
  | .cycDataWrite _ e _ => e < 128
  | .acfUnpack => true
  | .acfMaxWaitExpire stream => stream < 32
  | .acfClear _ stream value => stream < 32 && value < 2 ^ 64
  | .gwKeyLoad _ k value => k < 16 && value < 2 ^ 64
  | .cpStateChange _ _ => true
  | .ppMeasure _ => true
  | .proximityPoll _ env => env.wf
  | .inletTempSample t _ => t < 4
  | .cpS2Write _ value => value < 2 ^ 64
  | .cdCommand _ k value => k < 4 && value < 2 ^ 64
  | .rampWaitExpire k => k < 4
  | .cdOvercurrent k _ => k < 4
  | .cdOpenLoad k _ _ => k < 4
  | .cdClearFault _ k value => k < 4 && value < 2 ^ 64
  | .totaliserSample ch m => ch < 16 && m.wf
  | .sessionOpen _ => true
  | .countersign _ => true
  | .countersignDone _ => true
  | .sessionClose _ => true
  | .sealClose _ value => value < 2 ^ 64
  | .sealCloseDone => true
  | .msAcknowledge _ value => value < 2 ^ 64
  | .msExport _ value => value < 2 ^ 64
  | .exportDone => true
  | .vbatSample mv => mv < 2 ^ 16
  | .overvoltageEntry => true
  | .overvoltageRecovery env => env.wf
  | .crankEntry items => items < 6
  | .crankRecovery env => env.wf
  | .throttleStepDown => true
  | .throttleStepUp => true
  | .droopDetect levels => levels.length = 16
  | .supplyFault rail => rail < 5
  | .vpreRetry _ env => env.wf
  | .pwrRequestDormant _ pins => pins < 16
  | .pwrRequestEmber _ pins => pins < 16
  | .pwrRequestGlow _ => true
  | .pwrRequestFlame _ => true
  | .pwrRequestTrim _ => true
  | .modeTransitionDone env => env.wf
  | .emberLimitExpire => true
  | .wakeAlarmExpire env => env.wf
  | .wakeEvent sources env => sources.all WakeSource.wf && env.wf
  | .cfgSave _ value => value < 2 ^ 64
  | .cfgSaveDone => true
  | .cfgRemainderApplied _ => true
  | .start env => env.wf
  | .hbBeat _ value _ _ => value < 2 ^ 64
  | .heartbeatTimeout c => c < 2
  | .cgClaim _ g value => g < 16 && value < 2 ^ 64
  | .outCommand _ o value => o < 16 && value < 2 ^ 64
  | .holdExpire g => g < 16
  | .twinFramePeriodic => true
  | .twinFrameReceive _ _ => true
  | .twinTimeout => true
  | .snuffRestartExpire => true
  | .snuffCountClear => true
  | .powerOnReset => true
  | .externalReset _ => true
  | .debugReset => true
  | .rstDevice _ => true
  | .rstSnuff _ => true
  | .rstRestartA _ => true
  | .rstRestartB _ => true
  | .clusterRestartDone c _ => c < 2
  | .pilotWatchdog => true
  | .errorRecordWrite => true
  | .errorLogCopy => true
  | .errAcknowledge _ value => value < 2 ^ 64
  | .errReport _ _ => true
  | .eclClear _ cls value => cls < 16 && value < 2 ^ 64
  | .taperOpen _ => true
  | .taperData _ => true
  | .taperClose _ => true
  | .taperCloseVerdict => true
  | .taperAbort _ => true
  | .taperStatus _ => true
  | .taperSessionTimeout => true
  | .updConfirm _ value => value < 2 ^ 64
  | .trialTimeout => true
  | .updPrepare _ value => value < 2 ^ 64
  | .prepareDone => true
  | .ownerKeyWrite _ _ => true
  | .pauseTimeExpire port => port < 38
  | .canError ch _ _ => ch < 16
  | .heartbeatPathFault c _ => c < 2
  | .twinPathFault _ => true
  | .taperAckTimer => true
  | .cpPeriodMeasure _ _ _ _ => true
  | .pilotRead addr size => addr < 2 ^ 40 && size < 65

end Sys2Proof
end

