-- ==== Sys2Proof/Safety.lean ====
section
/-! DEFINITION. What counts as a safe run, in the terms that the statements use: when an access is admitted, the canonical forms that
every state of a run has, and runs in which no command stops the block. -/
namespace Sys2Proof.Machine

/-- A path context may write an index and subindex now: the dictionary answers it, the Chimney link does not bar its way to the other die
(R58), the object is reached in the mode (always on a running device, and in Snuffed when it is held on the Wick die), and neither a save nor a start holds it (R44, R76, R466, R470). -/
def State.admits (s : State) (c : Ctx) (idx sub : Nat) (wick : Bool) : Bool :=
  s.answers c && !s.linkBars c wick && (s.running || wick) && !s.locked idx sub

/-- The register file in canonical form: rising in the order of `Reg.before`, and no entry equal to its default. -/
def regsWf : List (Reg × Nat) → Bool
  | [] => true
  | (r, v) :: t => v != r.dflt && t.all (fun e => r.before e.1) && regsWf t

/-- Register file and memory in canonical form, so that equal machines are equal data. -/
def State.canonical (s : State) : Bool := regsWf s.regs && Mem.wf s.mem

/-- The parts of the state. -/
inductive Part where
  | fuses | mode | starting | now | regs | pend | blobs | armed | pulses | reports | resp | drawn | frames | entries | wire
  | prep | spec | verdicts | records | staging | lostCells | egress | crossing | flushes | slow | saEvents | installs | vault
  | vaultWaiting | vaultRunning | crContexts | crJobs | mem | flashLines | granules | kidKeys | gwKeys | cache | bus | fetches
  | heldRead | posted | semaphore | fences | wickRead | spTags | boxes | canQueue | linQueue | acfPacks | sealRecords | sessions
  | images | saving | streaming | errLog | errFlash | ivtasA | ivtasB | taperTx | coathKept | sdo | pending
deriving DecidableEq, Repr

/-- A part of the state is the same in two states. -/
def Part.same (p : Part) (s t : State) : Prop :=
  match p with
  | .fuses => t.fuses = s.fuses
  | .mode => t.mode = s.mode
  | .starting => t.starting = s.starting
  | .now => t.now = s.now
  | .regs => t.regs = s.regs
  | .pend => t.pend = s.pend
  | .blobs => t.blobs = s.blobs
  | .armed => t.armed = s.armed
  | .pulses => t.pulses = s.pulses
  | .reports => t.reports = s.reports
  | .resp => t.resp = s.resp
  | .drawn => t.drawn = s.drawn
  | .frames => t.frames = s.frames
  | .entries => t.entries = s.entries
  | .wire => t.wire = s.wire
  | .prep => t.prep = s.prep
  | .spec => t.spec = s.spec
  | .verdicts => t.verdicts = s.verdicts
  | .records => t.records = s.records
  | .staging => t.staging = s.staging
  | .lostCells => t.lostCells = s.lostCells
  | .egress => t.egress = s.egress
  | .crossing => t.crossing = s.crossing
  | .flushes => t.flushes = s.flushes
  | .slow => t.slow = s.slow
  | .saEvents => t.saEvents = s.saEvents
  | .installs => t.installs = s.installs
  | .vault => t.vault = s.vault
  | .vaultWaiting => t.vaultWaiting = s.vaultWaiting
  | .vaultRunning => t.vaultRunning = s.vaultRunning
  | .crContexts => t.crContexts = s.crContexts
  | .crJobs => t.crJobs = s.crJobs
  | .mem => t.mem = s.mem
  | .flashLines => t.flashLines = s.flashLines
  | .granules => t.granules = s.granules
  | .kidKeys => t.kidKeys = s.kidKeys
  | .gwKeys => t.gwKeys = s.gwKeys
  | .cache => t.cache = s.cache
  | .bus => t.bus = s.bus
  | .fetches => t.fetches = s.fetches
  | .heldRead => t.heldRead = s.heldRead
  | .posted => t.posted = s.posted
  | .semaphore => t.semaphore = s.semaphore
  | .fences => t.fences = s.fences
  | .wickRead => t.wickRead = s.wickRead
  | .spTags => t.spTags = s.spTags
  | .boxes => t.boxes = s.boxes
  | .canQueue => t.canQueue = s.canQueue
  | .linQueue => t.linQueue = s.linQueue
  | .acfPacks => t.acfPacks = s.acfPacks
  | .sealRecords => t.sealRecords = s.sealRecords
  | .sessions => t.sessions = s.sessions
  | .images => t.images = s.images
  | .saving => t.saving = s.saving
  | .streaming => t.streaming = s.streaming
  | .errLog => t.errLog = s.errLog
  | .errFlash => t.errFlash = s.errFlash
  | .ivtasA => t.ivtasA = s.ivtasA
  | .ivtasB => t.ivtasB = s.ivtasB
  | .taperTx => t.taperTx = s.taperTx
  | .coathKept => t.coathKept = s.coathKept
  | .sdo => t.sdo = s.sdo
  | .pending => t.pending = s.pending

end Sys2Proof.Machine

namespace Sys2Proof
open Machine

/-- The parts of the state that a command may touch; every other part stands. -/
def Instr.parts : Instr → List Part
  | .generalWrite .. | .longDataWrite .. =>
    [.mode, .starting, .regs, .pend, .blobs, .armed, .pulses, .reports, .resp, .drawn, .frames, .entries, .wire, .prep, .spec,
      .records, .staging, .crossing, .flushes, .slow, .saEvents, .installs, .vault, .vaultWaiting, .crContexts, .crJobs,
      .granules, .kidKeys, .cache, .spTags, .boxes, .sealRecords, .sessions, .images, .saving]
  | .longDataRead .. =>
    [.regs, .resp, .drawn, .saEvents]
  | .commit .. | .domStep .. =>
    [.regs, .pend, .blobs, .armed, .pulses, .resp, .drawn, .frames, .entries, .wire, .prep, .spec, .records, .staging, .crossing,
      .saEvents, .granules, .cache, .saving]
  | .disarm .. =>
    [.regs, .armed, .resp]
  | .discard .. =>
    [.regs, .pend, .armed, .resp]
  | .boundaryHandover .. | .kindleFire .. | .bankFlip .. =>
    [.regs, .pend, .blobs, .armed, .pulses, .drawn, .frames, .entries, .wire, .prep, .spec, .records, .staging, .crossing,
      .saEvents, .granules, .cache, .saving]
  | .evPulse .. | .domEnable .. | .domRole .. | .domStandbyWrite .. | .domSyncTimeoutWrite .. | .dmaStop .. =>
    [.regs, .pulses, .resp]
  | .eventSidebandDeliver .. | .syncArrival .. | .syncMonitorExpire .. | .capture .. | .linkUp .. | .rankFloorRaise |
    .rankFloorLower | .cressetStartPulse .. | .cpStateChange .. | .throttleStepDown | .throttleStepUp =>
    [.regs, .pulses]
  | .ecntClear .. | .irqClaim .. | .irqComplete .. | .tbSnapshot .. | .capTimeRead .. | .pcntClear .. | .ccntClear .. |
    .bufReclaim .. | .fdbForget .. | .qcntClear .. | .scntClear .. | .lcClear .. | .scOpen .. | .scpClear .. | .seRun .. |
    .crqProduce .. | .keyidClose .. | .flashErase .. | .chmRetrain .. | .chmFaultClear .. | .canRecover .. | .canEnable .. |
    .canClear .. | .linClear .. | .linSendWake .. | .acfClear .. | .cdClearFault .. | .msAcknowledge .. | .msExport .. |
    .errAcknowledge .. | .eclClear .. | .updPrepare .. =>
    [.regs, .resp]
  | .sdoInitiateDownload .. | .sdoInitiateUpload .. | .sdoDownloadSegment .. | .sdoUploadSegment .. | .sdoBlockRequest .. =>
    [.mode, .starting, .regs, .pend, .blobs, .armed, .pulses, .reports, .resp, .drawn, .frames, .entries, .wire, .prep, .spec,
      .records, .staging, .crossing, .flushes, .slow, .saEvents, .installs, .vault, .vaultWaiting, .crContexts, .crJobs,
      .granules, .kidKeys, .cache, .spTags, .boxes, .canQueue, .sealRecords, .sessions, .images, .saving, .sdo]
  | .sdoSegmentTimeout =>
    [.regs, .canQueue, .sdo]
  | .coathRead | .coathWrite | .coathCommit | .coathBlockRead | .coathBlockWrite =>
    [.mode, .starting, .regs, .pend, .blobs, .armed, .pulses, .reports, .resp, .drawn, .frames, .entries, .wire, .prep, .spec,
      .records, .staging, .crossing, .flushes, .slow, .saEvents, .installs, .vault, .vaultWaiting, .crContexts, .crJobs,
      .granules, .kidKeys, .cache, .spTags, .boxes, .sealRecords, .sessions, .images, .saving, .coathKept]
  | .followerAlign .. | .entropyFailure | .vbatSample .. | .pilotWatchdog | .heartbeatPathFault .. | .twinPathFault .. =>
    [.regs, .reports]
  | .domDisable .. =>
    [.regs, .pend, .armed, .pulses, .resp, .wire]
  | .portEnable .. =>
    [.regs, .pulses, .resp, .drawn]
  | .portDisable .. =>
    [.regs, .pulses, .resp, .frames, .entries, .wire, .spec, .saEvents]
  | .portRestart .. | .portRestartFull .. =>
    [.regs, .pulses, .resp, .drawn, .frames, .entries, .wire, .spec, .saEvents]
  | .linkDown .. =>
    [.regs, .pulses, .drawn, .frames, .entries, .wire, .spec, .saEvents]
  | .warmLockTimeout .. | .mergeVerifyTimeout .. | .pauseFrameReceive .. | .plcaBeacon .. | .plcaBeaconTimeout .. |
    .connScan .. | .srResetTimeout .. | .exhaustHoldExpire .. | .spLeft .. | .spCrc .. | .spCsum .. | .spTime .. |
    .entropyRecover | .flitCrcError .. | .chimneyLockLoss .. | .canBusoffRecovery .. | .ppMeasure .. | .cdOpenLoad .. |
    .droopDetect .. | .snuffCountClear | .taperSessionTimeout | .pauseTimeExpire .. | .cpPeriodMeasure .. =>
    [.regs]
  | .frameReceive .. =>
    [.regs, .drawn, .frames, .spec, .verdicts, .records, .staging, .crossing]
  | .parsePipelineEntry .. =>
    [.regs, .pulses, .reports, .drawn, .frames, .entries, .prep, .spec, .verdicts, .records, .staging, .slow, .saEvents, .saving]
  | .reclaimDone =>
    [.regs, .lostCells]
  | .qFlush .. =>
    [.regs, .resp, .flushes]
  | .flushDone .. =>
    [.regs, .frames, .entries, .prep, .flushes]
  | .stagingGrant .. =>
    [.regs, .pulses, .drawn, .frames, .entries, .prep, .spec, .records, .staging, .slow, .saEvents, .saving]
  | .stagingTimeout .. =>
    [.regs, .frames, .entries, .prep, .records, .staging, .slow]
  | .gateNotice .. =>
    [.entries]
  | .gateEntryStart .. =>
    [.regs, .pulses, .wire]
  | .holdRequest .. | .holdRelease .. =>
    [.regs, .wire]
  | .frameTransmitStart .. =>
    [.regs, .pulses, .reports, .frames, .entries, .wire, .prep, .spec, .lostCells, .saEvents, .saving]
  | .frameTransmitEnd .. =>
    [.regs, .pulses, .frames, .entries, .wire, .spec, .egress, .saEvents]
  | .lookaheadReserve .. =>
    [.regs, .pulses, .frames, .entries, .prep, .spec, .saEvents, .saving]
  | .keystreamBlockResult .. =>
    [.regs, .pulses, .reports, .wire, .prep, .spec, .verdicts]
  | .rxVerdict .. =>
    [.regs, .pulses, .frames, .entries, .prep, .verdicts, .records, .staging, .slow, .saEvents]
  | .scClose .. =>
    [.regs, .pend, .resp, .prep, .spec]
  | .scInstall .. | .vaultGenerate .. | .vaultImportClear .. | .vaultImportWrapped .. | .vaultExportWrapped .. |
    .vaultNarrowPolicy .. | .vaultDestroy .. | .vaultSign .. | .vaultVerify .. | .vaultEcdh .. | .vaultHkdf .. |
    .vaultKdfCtr .. | .vaultRandom .. | .vaultAttest .. | .keyidProgram .. | .gwKeyLoad .. =>
    [.regs, .blobs, .resp, .installs, .vaultWaiting]
  | .scRetire .. =>
    [.regs, .pend, .resp, .drawn]
  | .scActivate .. =>
    [.regs, .pend, .pulses, .resp, .entries, .prep, .spec, .saEvents, .saving]
  | .installDone =>
    [.regs, .pend, .pulses, .drawn, .spec, .saEvents, .vaultRunning]
  | .rxOverlapExpire .. =>
    [.regs, .pulses, .spec, .saEvents]
  | .saEventFifoRead .. =>
    [.regs, .resp, .saEvents]
  | .slowPathDispatch =>
    [.regs, .frames, .slow, .spTags, .boxes]
  | .spIn .. | .spDrop .. =>
    [.regs, .boxes]
  | .spOut .. | .spSend .. =>
    [.boxes]
  | .spResolve .. | .reorderTimeout .. =>
    [.regs, .spTags]
  | .outboxCollect .. =>
    [.regs, .reports, .drawn, .frames, .entries, .prep, .records, .staging, .slow, .spTags, .boxes]
  | .tagRelease .. =>
    [.regs, .reports, .drawn, .frames, .entries, .prep, .records, .staging, .slow, .spTags]
  | .engineFault .. =>
    [.regs, .pulses, .reports, .spTags, .boxes]
  | .seStop .. =>
    [.regs, .resp, .spTags, .boxes]
  | .ringReceiveWrite .. =>
    [.mode, .regs, .blobs, .pulses, .reports, .drawn, .frames, .entries, .wire, .spec, .records, .staging, .crossing, .saEvents,
      .mem, .flashLines, .granules]
  | .txRingProduce .. =>
    [.mode, .regs, .blobs, .pulses, .reports, .resp, .drawn, .frames, .entries, .wire, .prep, .spec, .records, .staging,
      .crossing, .slow, .saEvents, .spTags]
  | .vaultCommandStart =>
    [.regs, .installs, .vaultWaiting, .vaultRunning]
  | .vaultCommandDone =>
    [.regs, .blobs, .resp, .drawn, .vault, .vaultRunning, .crContexts, .crJobs, .gwKeys]
  | .lifeCycleTransition .. =>
    [.regs, .pend, .blobs, .resp, .prep, .spec, .installs, .vault, .vaultWaiting, .crContexts, .crJobs]
  | .transitionComplete =>
    [.regs, .pend, .blobs, .resp, .prep, .spec, .vault, .crContexts, .crJobs]
  | .lockstepFault .. =>
    [.regs, .blobs, .pulses, .reports, .drawn, .frames, .records, .staging, .crossing, .installs, .vaultWaiting, .vaultRunning]
  | .crLoad .. =>
    [.regs, .blobs, .resp, .installs, .vaultWaiting, .crContexts]
  | .crUnload .. =>
    [.regs, .resp, .crContexts, .crJobs]
  | .cressetJobStart =>
    [.mode, .regs, .blobs, .pulses, .reports, .drawn, .frames, .entries, .wire, .spec, .records, .staging, .crossing, .saEvents,
      .crContexts, .crJobs]
  | .cressetBlockDone .. | .cressetJobDone .. =>
    [.mode, .regs, .blobs, .pulses, .reports, .resp, .drawn, .frames, .entries, .wire, .spec, .records, .staging, .crossing,
      .saEvents, .crJobs, .mem, .flashLines, .granules]
  | .dmaStart .. | .dmaResume .. =>
    [.mode, .regs, .blobs, .pulses, .reports, .resp, .drawn, .frames, .entries, .wire, .spec, .records, .staging, .crossing,
      .saEvents]
  | .dmaStartPulse .. | .supplyFault .. =>
    [.mode, .regs, .blobs, .pulses, .reports, .drawn, .frames, .entries, .wire, .spec, .records, .staging, .crossing, .saEvents]
  | .dmaDescriptorDone .. =>
    [.mode, .starting, .regs, .pend, .blobs, .armed, .pulses, .reports, .resp, .drawn, .frames, .entries, .wire, .prep, .spec,
      .records, .staging, .crossing, .flushes, .slow, .saEvents, .installs, .vault, .vaultWaiting, .crContexts, .crJobs, .mem,
      .flashLines, .granules, .kidKeys, .cache, .semaphore, .spTags, .boxes, .sealRecords, .sessions, .images, .saving]
  | .memoryRead .. =>
    [.mode, .regs, .blobs, .pulses, .reports, .drawn, .frames, .entries, .wire, .spec, .records, .staging, .crossing, .saEvents,
      .cache, .bus]
  | .memoryWrite .. | .cboClean .. | .cboFlush .. | .cboInval .. =>
    [.mode, .regs, .blobs, .pulses, .reports, .drawn, .frames, .entries, .wire, .spec, .records, .staging, .crossing, .saEvents,
      .mem, .flashLines, .granules, .cache, .bus]
  | .keyidProgramDone =>
    [.regs, .blobs, .drawn, .vaultRunning, .kidKeys]
  | .keyidCloseDone .. =>
    [.mode, .regs, .blobs, .pulses, .reports, .drawn, .frames, .entries, .wire, .spec, .records, .staging, .crossing, .saEvents,
      .mem, .flashLines, .granules, .cache]
  | .keyidRetire .. =>
    [.regs, .resp, .kidKeys]
  | .flashEraseDone =>
    [.regs, .mem, .flashLines]
  | .initSweepGranule =>
    [.mem, .granules]
  | .chimneyRead .. | .chimneyFetchDone .. =>
    [.regs, .bus, .fetches, .heldRead]
  | .fetchStale .. =>
    [.regs, .fetches]
  | .chimneyPostedWrite .. =>
    [.regs, .mem, .bus, .fetches, .posted, .semaphore]
  | .writeAck .. =>
    [.mode, .regs, .blobs, .pulses, .reports, .drawn, .frames, .entries, .wire, .spec, .records, .staging, .crossing, .saEvents,
      .mem, .flashLines, .granules, .posted, .semaphore]
  | .fence .. =>
    [.fences]
  | .fenceComplete .. =>
    [.regs, .drawn, .bus, .fences]
  | .lr .. =>
    [.regs, .bus, .heldRead, .semaphore]
  | .sc .. =>
    [.regs, .bus, .fetches, .posted, .semaphore]
  | .semaphoreTimeout =>
    [.regs, .semaphore]
  | .wickBackoff =>
    [.regs, .wickRead]
  | .backoffReissue | .pilotRead .. =>
    [.bus, .wickRead]
  | .retrainResult .. =>
    [.regs, .pulses, .reports, .drawn, .frames, .spec, .verdicts, .records, .staging, .crossing, .bus, .fetches, .heldRead,
      .posted, .wickRead]
  | .canMessageReceive .. =>
    [.mode, .starting, .regs, .pend, .blobs, .armed, .pulses, .reports, .resp, .drawn, .frames, .entries, .wire, .prep, .spec,
      .records, .staging, .crossing, .flushes, .slow, .saEvents, .installs, .vault, .vaultWaiting, .crContexts, .crJobs,
      .granules, .kidKeys, .cache, .spTags, .boxes, .canQueue, .acfPacks, .sealRecords, .sessions, .images, .saving, .sdo]
  | .linResponseReceive .. =>
    [.regs, .blobs, .drawn, .frames, .records, .staging, .crossing, .canQueue, .linQueue, .acfPacks]
  | .linHeaderReceive .. =>
    [.regs, .blobs]
  | .linResponseTimeout .. =>
    [.regs, .linQueue]
  | .canArbitration .. | .canTxDone .. | .canBusOff .. | .canError .. =>
    [.regs, .canQueue]
  | .cyclicRelease .. =>
    [.regs, .canQueue, .linQueue]
  | .cycDataWrite .. | .updConfirm .. | .ownerKeyWrite .. =>
    [.regs, .blobs, .resp]
  | .acfUnpack =>
    [.regs, .blobs, .drawn, .frames, .entries, .records, .staging, .crossing, .canQueue, .acfPacks]
  | .acfMaxWaitExpire .. =>
    [.regs, .drawn, .frames, .records, .staging, .crossing, .acfPacks]
  | .proximityPoll .. | .overvoltageRecovery .. | .crankRecovery .. | .vpreRetry .. | .modeTransitionDone .. |
    .wakeAlarmExpire .. | .wakeEvent .. | .start .. =>
    [.mode, .starting, .regs, .pend, .blobs, .armed, .pulses, .reports, .resp, .drawn, .frames, .entries, .wire, .prep, .spec,
      .verdicts, .records, .staging, .lostCells, .egress, .crossing, .flushes, .slow, .saEvents, .installs, .vault,
      .vaultWaiting, .vaultRunning, .crContexts, .crJobs, .mem, .flashLines, .granules, .kidKeys, .gwKeys, .cache, .bus,
      .fetches, .heldRead, .posted, .semaphore, .fences, .wickRead, .spTags, .boxes, .canQueue, .linQueue, .acfPacks,
      .sealRecords, .saving, .streaming, .errLog, .ivtasA, .ivtasB, .taperTx, .coathKept, .sdo]
  | .inletTempSample .. =>
    [.regs, .pulses, .reports, .drawn]
  | .cpS2Write .. | .cdCommand .. | .outCommand .. =>
    [.regs, .blobs, .resp, .drawn, .frames, .records, .staging, .crossing]
  | .rampWaitExpire .. | .holdExpire .. | .twinFramePeriodic =>
    [.regs, .blobs, .drawn, .frames, .records, .staging, .crossing]
  | .cdOvercurrent .. =>
    [.regs, .blobs, .reports, .drawn, .frames, .records, .staging, .crossing]
  | .totaliserSample .. =>
    [.regs, .drawn, .sessions]
  | .sessionOpen .. =>
    [.regs, .resp, .drawn, .sealRecords, .sessions]
  | .countersign .. =>
    [.regs, .blobs, .resp, .installs, .vaultWaiting, .sessions]
  | .countersignDone .. =>
    [.regs, .blobs, .pulses, .reports, .drawn, .vaultRunning, .sealRecords, .sessions]
  | .sessionClose .. =>
    [.regs, .resp, .drawn, .sealRecords]
  | .sealClose .. =>
    [.regs, .blobs, .resp, .drawn, .installs, .vaultWaiting, .sealRecords]
  | .sealCloseDone =>
    [.regs, .blobs, .drawn, .vault, .vaultRunning, .sealRecords]
  | .exportDone =>
    [.regs, .blobs, .drawn]
  | .overvoltageEntry =>
    [.mode, .regs, .blobs, .pulses, .drawn, .frames, .records, .staging, .crossing]
  | .crankEntry .. =>
    [.mode, .regs, .blobs, .pulses, .reports, .drawn, .frames, .records, .staging, .crossing]
  | .pwrRequestDormant .. | .pwrRequestEmber .. | .pwrRequestGlow .. | .pwrRequestFlame .. | .pwrRequestTrim .. | .hbBeat .. |
    .cgClaim .. =>
    [.regs, .blobs, .pulses, .resp, .drawn, .frames, .records, .staging, .crossing]
  | .emberLimitExpire =>
    [.mode, .regs, .pulses]
  | .cfgSave .. =>
    [.regs, .resp, .images, .saving]
  | .cfgSaveDone =>
    [.regs, .images, .saving]
  | .cfgRemainderApplied .. =>
    [.regs, .blobs, .pulses, .reports, .drawn, .kidKeys, .gwKeys, .streaming]
  | .heartbeatTimeout .. | .twinTimeout =>
    [.regs, .blobs, .pulses, .reports, .drawn, .frames, .records, .staging, .crossing]
  | .twinFrameReceive .. =>
    [.regs, .blobs, .pulses, .drawn, .frames, .entries, .records, .staging, .crossing]
  | .snuffRestartExpire | .powerOnReset | .externalReset .. | .debugReset =>
    [.starting, .regs, .blobs, .pulses, .drawn, .frames, .records, .staging, .crossing]
  | .rstDevice .. | .rstSnuff .. =>
    [.starting, .regs, .blobs, .pulses, .resp, .drawn, .frames, .records, .staging, .crossing]
  | .rstRestartA .. | .rstRestartB .. =>
    [.regs, .blobs, .pulses, .resp, .drawn, .frames, .records, .staging, .crossing, .cache]
  | .clusterRestartDone .. =>
    [.regs, .pulses, .reports]
  | .errorRecordWrite =>
    [.regs, .pulses, .reports, .errLog]
  | .errorLogCopy =>
    [.regs, .errFlash]
  | .errReport .. =>
    [.regs, .reports, .resp]
  | .taperOpen .. | .taperData .. =>
    [.regs, .ivtasA, .ivtasB, .taperTx]
  | .taperClose .. | .taperAbort .. | .taperStatus .. | .taperAckTimer =>
    [.regs, .taperTx]
  | .taperCloseVerdict =>
    [.regs, .reports, .taperTx]
  | .trialTimeout =>
    [.starting, .regs, .blobs, .pulses, .reports, .drawn, .frames, .records, .staging, .crossing, .cache]
  | .prepareDone =>
    [.regs, .ivtasA, .ivtasB]

/-- The path context of a command that is one access of one object, other than a write of a seal object, whose refusal counts. -/
def Instr.accessPath : Instr → Option Ctx
  | .commit ctx .. | .disarm ctx .. | .discard ctx .. | .evPulse ctx .. | .ecntClear ctx .. | .tbSnapshot ctx .. |
    .domStep ctx .. | .domEnable ctx .. | .domDisable ctx .. | .domRole ctx .. | .domStandbyWrite ctx .. |
    .domSyncTimeoutWrite ctx .. | .capTimeRead ctx .. | .portEnable ctx .. | .portDisable ctx .. | .portRestart ctx .. |
    .portRestartFull ctx .. | .pcntClear ctx .. | .ccntClear ctx .. | .bufReclaim ctx .. | .qFlush ctx .. | .fdbForget ctx .. |
    .qcntClear ctx .. | .scntClear ctx .. | .lcClear ctx .. | .scOpen ctx .. | .scClose ctx .. | .scInstall ctx .. |
    .scRetire ctx .. | .scActivate ctx .. | .saEventFifoRead ctx .. | .scpClear ctx .. | .seRun ctx .. | .seStop ctx .. |
    .txRingProduce ctx .. | .vaultGenerate ctx .. | .vaultImportClear ctx .. | .vaultImportWrapped ctx .. |
    .vaultExportWrapped ctx .. | .vaultNarrowPolicy ctx .. | .vaultDestroy ctx .. | .vaultSign ctx .. | .vaultVerify ctx .. |
    .vaultEcdh ctx .. | .vaultHkdf ctx .. | .vaultKdfCtr ctx .. | .vaultRandom ctx .. | .vaultAttest ctx .. |
    .lifeCycleTransition ctx .. | .crLoad ctx .. | .crUnload ctx .. | .crqProduce ctx .. | .dmaStart ctx .. | .dmaResume ctx .. |
    .dmaStop ctx .. | .keyidProgram ctx .. | .keyidClose ctx .. | .keyidRetire ctx .. | .flashErase ctx .. | .chmRetrain ctx .. |
    .chmFaultClear ctx .. | .canRecover ctx .. | .canEnable ctx .. | .canClear ctx .. | .linClear ctx .. | .linSendWake ctx .. |
    .cycDataWrite ctx .. | .acfClear ctx .. | .gwKeyLoad ctx .. | .cpS2Write ctx .. | .cdCommand ctx .. | .cdClearFault ctx .. |
    .sessionOpen ctx .. | .countersign ctx .. | .sessionClose ctx .. | .msAcknowledge ctx .. | .msExport ctx .. |
    .pwrRequestDormant ctx .. | .pwrRequestEmber ctx .. | .pwrRequestGlow ctx .. | .pwrRequestFlame ctx .. |
    .pwrRequestTrim ctx .. | .cfgSave ctx .. | .hbBeat ctx .. | .cgClaim ctx .. | .outCommand ctx .. | .rstDevice ctx .. |
    .rstSnuff ctx .. | .rstRestartA ctx .. | .rstRestartB ctx .. | .errAcknowledge ctx .. | .errReport ctx .. |
    .eclClear ctx .. | .updConfirm ctx .. | .updPrepare ctx .. | .ownerKeyWrite ctx .. => some ctx
  | _ => none

/-- The command reads or writes external memory, or carries out an access of the dictionary that may. -/
def Instr.reachesMemory : Instr → Bool
  | .generalWrite .. | .longDataWrite .. | .sdoInitiateDownload .. | .sdoInitiateUpload .. | .sdoDownloadSegment .. |
    .sdoUploadSegment .. | .sdoBlockRequest .. | .coathRead | .coathWrite | .coathCommit | .coathBlockRead | .coathBlockWrite |
    .canMessageReceive .. | .ringReceiveWrite .. | .txRingProduce .. | .cressetJobStart | .cressetBlockDone .. |
    .cressetJobDone .. | .dmaStart .. | .dmaResume .. | .dmaStartPulse .. | .dmaDescriptorDone .. | .memoryRead .. |
    .memoryWrite .. | .cboClean .. | .cboFlush .. | .cboInval .. | .keyidCloseDone .. | .writeAck .. => true
  | _ => false

end Sys2Proof

namespace Sys2Proof.Machine

/-- The block runs through `n` steps without a fault or a refusal. -/
def Runs : Nat → State → Prop
  | 0, _ => True
  | n + 1, s => ∃ t, step s = .next t ∧ Runs n t

end Sys2Proof.Machine
end

