-- ==== Sys2Proof/Certificates/Slice0/Obligations.lean ====
section
/-! DEFINITION. The statements about the model, for the provers. Each one's docstring names the rules of the spec that it is about. -/
open Sys2Proof Sys2Proof.Machine

/-- A write of a plain object through any path completes (R44, R54, R59, R530). -/
def Obligations.WriteThroughAnyPathCompletes : Prop :=
  (∀ (ctx : Ctx) (index : Nat) (sub : Nat) (d : WriteData) (sameCycle : Bool) (s : State) (o : Obj) (r : Reg), s.answers ctx = true →
    s.linkBars ctx o.wick = false → d ≠ .misaligned → selfCursor index sub = false →
    s.place index sub (s.selectedRow ctx index) = .object o r → (Place.object o r).acc ≠ .ro → (Place.object o r).acc ≠ .fixed →
    index ≠ 0x2D20 → index ≠ 0x2D40 → o.ty.isBytes = false → s.ownRow ctx r (o.ty.valueOf d) (wholeBytes o.ty d) = none →
    (s.running || o.wick) = true → s.stateAllows ctx index o r = true → s.lateAbort o r d = none →
    s.conflict r (o.ty.valueOf d) = false → exec (.generalWrite ctx index sub d sameCycle) s =
    .next ((s.storeNumber ctx o r (o.ty.valueOf d) sameCycle).done ctx)) ∧
  (∀ (ctx : Ctx) (value : Nat) (s : State) (idx : Nat) (sub : Nat) (off : Nat) (row : Nat) (n : Nat) (t : State), s.answers ctx = true →
    s.cursor ctx = (idx, sub, off) → selfCursor idx sub = false → row = s.selectedRow ctx idx → n = (s.place idx sub row).ty.bytes →
    t = s.writePiece ctx idx sub row off ((leBytes 8 (value % 2 ^ 64)).take (if off < n then n - off else 8)) → t.resp.abort = 0 →
    exec (.longDataWrite ctx value) s = .next (((t.cursorNext ctx).changed).done ctx)) ∧
  (∀ (ctx : Ctx) (s : State) (idx : Nat) (sub : Nat) (off : Nat) (a : Answer) (t : State), s.answers ctx = true →
    s.cursor ctx = (idx, sub, off) → selfCursor idx sub = false →
    s.readPlace ctx idx (s.place idx sub (s.selectedRow ctx idx)) = (a, t) → a.abort = 0 → exec (.longDataRead ctx) s =
    .next ((t.cursorNext ctx).reply ctx (ofLe (slice a.bytes off 8)))) ∧
  (∀ (ctx : Ctx) (bytes : List Byte) (s : State), s.admits ctx 0x3000 0x0F true = true → s.mode = .trim → bytes.length = 97 →
    s.ownerKey = List.replicate 97 0 → exec (.ownerKeyWrite ctx bytes) s = .next (((s.setBlob Reg.updOwnerKey bytes).changed).done ctx))

/-- Commits, disarms, discards and the hand-overs they lead to complete (R52, R53, R97, R152, R345). -/
def Obligations.CommitsCompleteWithTheirOutcome : Prop :=
  (∀ (ctx : Ctx) (index : Nat) (s : State) (o : Owner), ownerAt s.fuses.variant index = some o →
    s.admits ctx index 0xFB (o.grp = .upd) = true → o.grp ≠ .fv → o.grp ≠ .mm → (s.unarm o).commitRefusal o = none →
    s.get (Reg.commitWhen o) = 0 → exec (.commit ctx index) s = .next (((s.unarm o).handOver o).done ctx)) ∧
  (∀ (ctx : Ctx) (index : Nat) (s : State) (b : Nat), ownerAt s.fuses.variant index = some ⟨.mm, b⟩ →
    s.admits ctx index 0xFB false = true → (s.unarm ⟨.mm, b⟩).commitRefusal ⟨.mm, b⟩ = none → b % 2 = 0 ∨ s.chainLower (b - 1) = false →
    s.get (Reg.commitWhen ⟨.mm, b⟩) = 0 → s.get (Reg.bankPause b) = 0 → exec (.commit ctx index) s =
    .next ((((s.unarm ⟨.mm, b⟩).handOver ⟨.mm, b⟩).sets [(Reg.bankPause b, s.now + 1), (Reg.bankFlipped b, 1)]).done ctx)) ∧
  (∀ (ctx : Ctx) (index : Nat) (s : State) (o : Owner), ownerAt s.fuses.variant index = some o →
    s.admits ctx index 0xFB (o.grp = .upd) = true → exec (.disarm ctx index) s = .next (((s.unarm o).ended o outAborted).done ctx)) ∧
  (∀ (ctx : Ctx) (index : Nat) (s : State) (o : Owner), ownerAt s.fuses.variant index = some o →
    s.admits ctx index 0xFB (o.grp = .upd) = true → exec (.discard ctx index) s =
    .next ((((s.dropPending o).unarm o).ended o (if (s.armOf o).isSome then outAborted else outDone)).done ctx)) ∧
  (∀ (index : Nat) (s : State) (o : Owner), ownerAt s.fuses.variant index = some o → s.running = true →
    (s.armOf o).any (fun a => !a.kindle) = true → s.get (Reg.dmaState o.inst) ≠ 1 → s.get (Reg.dmaState o.inst) ≠ 2 →
    exec (.boundaryHandover index) s = .next (s.handOver o)) ∧
  (∀ (d : Nat) (s : State), s.running = true → exec (.kindleFire d) s = .next (s.fireDue d)) ∧
  (∀ (b : Nat) (s : State), s.bankInPause = some b → exec (.bankFlip b) s =
    .next (let t := if s.get (Reg.bankFlipped b) = 1 then s else s.handOver ⟨.mm, b⟩; ((t.sets [(Reg.bankPause b, 0), (Reg.bankFlipped b, 0)]).count Reg.clsPauseCount 32).set Reg.clsLastPause ((t.fabricPs 86 + 999) / 1000)))

/-- Pulses, captures and interrupts complete (R29, R32, R36, R96, R369). -/
def Obligations.EventLinesPulseCountAndInterrupt : Prop :=
  (∀ (ctx : Ctx) (value : Nat) (s : State), s.admits ctx 0x3200 1 false = true → value < 256 → s.producerOf value / 0x1000000 = 0x16 →
    exec (.evPulse ctx value) s = .next ((s.pulseLine value false).done ctx)) ∧
  (∀ (toWick : Bool) (input : Nat) (s : State) (w : Bool) (i : Nat) (line : Nat) (t : Nat) (rest : List Pulse),
    takeFirst (Pulse.onInput toWick input) s.pulses = some (.sideband w i line t, rest) → s.get Reg.chmState = 1 →
    exec (.eventSidebandDeliver toWick input) s =
    .next ((({ s with pulses := (mergePulses toWick input t rest).2 } : State).count Reg.chmEventMerges 32 (mergePulses toWick input t rest).1).deliver line toWick)) ∧
  (∀ (target : Nat) (k : Nat) (s : State), s.irqBest target = some k → exec (.irqClaim target) s =
    .next (((s.set (Reg.irqPending k) 0).set (Reg.irqClaimed k) 1).reply (irqCtx target) (k + 1))) ∧
  (∀ (target : Nat) (source : Nat) (s : State), 1 ≤ source → source ≤ 64 → s.get (Reg.irqEnabled (source - 1) target) = 1 →
    exec (.irqComplete target source) s = .next ((s.set (Reg.irqClaimed (source - 1)) 0).done (irqCtx target))) ∧
  (∀ (k : Nat) (s : State) (j : Nat) (time : Nat) (qualifier : Nat) (rest : List Pulse),
    takeFirst (Pulse.forCapture k) s.pulses = some (.capture j time qualifier, rest) → exec (.capture k) s =
    .next (({ s with pulses := rest } : State).capture k time qualifier)) ∧
  (∀ (ctx : Ctx) (k : Nat) (s : State), s.running = true → s.linkBars ctx false = false → k < 16 → exec (.capTimeRead ctx k) s =
    .next ((s.set (Reg.capUnread k) 0).reply ctx (s.get (Reg.capTime k))))

/-- A write of 1 to a clear command clears the counters of its unit and nothing else (R35, R124, R156, R185, R215, R246, R269, R393, R395, R417, R522, R386). -/
def Obligations.ClearCommandsZeroTheirCounters : Prop :=
  (∀ (ctx : Ctx) (n : Nat) (s : State), s.admits ctx (0x2440 + n) 0x20 false = true → s.hasPort n = true ∧ n < 37 →
    exec (.pcntClear ctx n 1) s = .next ((s.clearRange .pcnt n 0x01 0x1F).done ctx)) ∧
  (∀ (ctx : Ctx) (n : Nat) (s : State), s.admits ctx (0x2740 + n) 0x20 false = true → s.hasPort n = true → exec (.ccntClear ctx n 1) s =
    .next ((s.clearRange .ccnt n 0x01 0x1F).done ctx)) ∧
  (∀ (ctx : Ctx) (n : Nat) (s : State), s.admits ctx (0x2540 + n) 0x20 false = true → s.hasPort n = true → exec (.qcntClear ctx n 1) s =
    .next ((s.clearRange .qcnt n 0x01 0x1F).done ctx)) ∧
  (∀ (ctx : Ctx) (n : Nat) (s : State), s.admits ctx (0x2640 + n) 0x20 false = true → s.hasPort n = true → exec (.scntClear ctx n 1) s =
    .next ((s.clearRange .scnt n 0x01 0x1F).done ctx)) ∧
  (∀ (ctx : Ctx) (n : Nat) (s : State), s.admits ctx (0x2880 + n) 0x20 false = true → s.hasPort n = true ∧ n < 37 →
    exec (.lcClear ctx n 1) s = .next ((s.clearRange .lcCnt n 0x01 0x1F).done ctx)) ∧
  (∀ (ctx : Ctx) (n : Nat) (s : State), s.admits ctx (0x28B0 + n) 0x20 false = true → s.hasPort n = true ∧ n < 37 →
    exec (.scpClear ctx n 1) s = .next ((s.clearRange .scp n 0x01 0x1F).done ctx)) ∧
  (∀ (ctx : Ctx) (n : Nat) (s : State), s.admits ctx (0x2C10 + n) 0x30 false = true → n < 16 → exec (.canClear ctx n 1) s =
    .next ((s.clearRange .can n 0x20 0x28).done ctx)) ∧
  (∀ (ctx : Ctx) (n : Nat) (s : State), s.admits ctx (0x2C20 + n) 0x30 false = true → n < 8 → exec (.linClear ctx n 1) s =
    .next ((s.clearRange .lin n 0x20 0x24).done ctx)) ∧
  (∀ (ctx : Ctx) (n : Nat) (s : State), s.admits ctx (0x2C40 + n) 0x30 false = true → n < 32 → exec (.acfClear ctx n 1) s =
    .next ((s.clearRange .acf n 0x20 0x23).done ctx)) ∧
  (∀ (ctx : Ctx) (n : Nat) (s : State), s.admits ctx (0x3220 + n) 3 false = true → n < 32 → exec (.ecntClear ctx n 1) s =
    .next ((s.set (Reg.ecntCount n) 0).done ctx)) ∧
  (∀ (ctx : Ctx) (n : Nat) (s : State), s.admits ctx (0x3110 + n) 5 true = true → 1 ≤ n → n ≤ 15 → exec (.eclClear ctx n 1) s =
    .next ((s.sets [(Reg.eclLost n, 0), (Reg.eclFirstLost n, 0), (Reg.eclLastLost n, 0)]).done ctx)) ∧
  (∀ (ctx : Ctx) (s : State), s.admits ctx 0x2300 0x0F false = true → exec (.chmFaultClear ctx 1) s =
    .next (((List.range 16).foldl (fun s k => s.sets [(Reg.cfAddress k, 0), (Reg.cfInitiator k, 0), (Reg.cfKind k, 0), (Reg.cfSize k, 0), (Reg.cfTime k, 0)]) (s.set Reg.chmFaultRecords 0)).done ctx))

/-- The SDO server answers each kind of request (R66, R67, R68). -/
def Obligations.SdoRequestsAreServed : Prop :=
  (∀ (ch : Nat) (m : BusMsg) (s : State), s.canTakes ch m = true → s.sdoRequest ch m = true → sdoCommand m = 1 →
    exec (.sdoInitiateDownload ch m) s = .next (((s.canHeard ch).count (Reg.canRxMessages ch)).sdoDownload m.data)) ∧
  (∀ (ch : Nat) (m : BusMsg) (s : State), s.canTakes ch m = true → s.sdoRequest ch m = true → sdoCommand m = 2 →
    exec (.sdoInitiateUpload ch m) s = .next (((s.canHeard ch).count (Reg.canRxMessages ch)).sdoUpload m.data)) ∧
  (∀ (ch : Nat) (m : BusMsg) (s : State), s.canTakes ch m = true → s.sdoRequest ch m = true → sdoCommand m = 0 →
    exec (.sdoDownloadSegment ch m) s = .next (((s.canHeard ch).count (Reg.canRxMessages ch)).sdoDownloadPart m.data)) ∧
  (∀ (ch : Nat) (m : BusMsg) (s : State), s.canTakes ch m = true → s.sdoRequest ch m = true → sdoCommand m = 3 →
    exec (.sdoUploadSegment ch m) s = .next (((s.canHeard ch).count (Reg.canRxMessages ch)).sdoUploadPart m.data)) ∧
  (∀ (ch : Nat) (m : BusMsg) (s : State), s.canTakes ch m = true → s.sdoRequest ch m = true → sdoCommand m = 5 ∨ sdoCommand m = 6 →
    exec (.sdoBlockRequest ch m) s =
    .next (((s.canHeard ch).count (Reg.canRxMessages ch)).sdoAbort (sdoIndex m.data) (sdoSub m.data) 0x05040001)) ∧
  (∀ (s : State) (x : SdoTransfer), s.sdo = some x → s.answers .sdo = true → x.since + sec ≤ s.now → exec .sdoSegmentTimeout s =
    .next (s.sdoAbort x.index x.sub 0x05040000))

/-- The Coath endpoint answers each type of request (R69, R71, R73, R74, R75). -/
def Obligations.CoathRequestsAreServed : Prop :=
  (∀ (s : State) (e : Entry) (b : List Byte) (p : List Byte) (r : List Byte) (t : State) (f : Nat) (u : State), s.answers .coath = true →
    s.hostHead coathQueue = some (e, b) → s.coathPayload b (parseFrame b) = some p → beAt p 1 1 = 1 →
    (s.takeHost e).coathAnswer p (parseFrame b) = (r, t) → t.draw 64 = (f, u) → exec .coathRead s =
    .next (u.hostFrame none (responseFrame b (parseFrame b) f r))) ∧
  (∀ (s : State) (e : Entry) (b : List Byte) (p : List Byte) (r : List Byte) (t : State) (f : Nat) (u : State), s.answers .coath = true →
    s.hostHead coathQueue = some (e, b) → s.coathPayload b (parseFrame b) = some p → beAt p 1 1 = 2 →
    (s.takeHost e).coathAnswer p (parseFrame b) = (r, t) → t.draw 64 = (f, u) → exec .coathWrite s =
    .next (u.hostFrame none (responseFrame b (parseFrame b) f r))) ∧
  (∀ (s : State) (e : Entry) (b : List Byte) (p : List Byte) (r : List Byte) (t : State) (f : Nat) (u : State), s.answers .coath = true →
    s.hostHead coathQueue = some (e, b) → s.coathPayload b (parseFrame b) = some p → beAt p 1 1 = 3 →
    (s.takeHost e).coathAnswer p (parseFrame b) = (r, t) → t.draw 64 = (f, u) → exec .coathCommit s =
    .next (u.hostFrame none (responseFrame b (parseFrame b) f r))) ∧
  (∀ (s : State) (e : Entry) (b : List Byte) (p : List Byte) (r : List Byte) (t : State) (f : Nat) (u : State), s.answers .coath = true →
    s.hostHead coathQueue = some (e, b) → s.coathPayload b (parseFrame b) = some p → beAt p 1 1 = 4 →
    (s.takeHost e).coathAnswer p (parseFrame b) = (r, t) → t.draw 64 = (f, u) → exec .coathBlockRead s =
    .next (u.hostFrame none (responseFrame b (parseFrame b) f r))) ∧
  (∀ (s : State) (e : Entry) (b : List Byte) (p : List Byte) (r : List Byte) (t : State) (f : Nat) (u : State), s.answers .coath = true →
    s.hostHead coathQueue = some (e, b) → s.coathPayload b (parseFrame b) = some p → beAt p 1 1 = 5 →
    (s.takeHost e).coathAnswer p (parseFrame b) = (r, t) → t.draw 64 = (f, u) → exec .coathBlockWrite s =
    .next (u.hostFrame none (responseFrame b (parseFrame b) f r)))

/-- The time base completes alignments, Syncs, monitors and writes of its objects (R83, R84, R85, R86, R87, R88, R90, R91, R92, R99). -/
def Obligations.TimeBaseCommandsComplete : Prop :=
  (∀ (ctx : Ctx) (value : Nat) (s : State), s.admits ctx 0x2200 3 false = true → value ≤ 4 → exec (.tbSnapshot ctx value) s =
    .next ((s.sets [(Reg.tbSnapTime.of ctx, s.timeNs value), (Reg.tbSnapQualifier.of ctx, s.qualifier value), (Reg.tbSnapState.of ctx, if value < 4 then s.get (Reg.domState value) else 0)]).done ctx)) ∧
  (∀ (error : Nat) (s : State), s.lanternUp = true → s.get Reg.followerLast + 1024000 ≤ s.now → ∃ t, exec (.followerAlign true error) s =
    .next t ∧ t.get Reg.followerCounter = s.get Reg.localCounter ∧ t.get Reg.tbFollowerError = error % 2 ^ 16 ∧
    t.get Reg.followerFails = 0) ∧
  (∀ (port : Nat) (number : Nat) (s : State), s.lanternUp = true → exec (.syncArrival port number) s =
    .next ([0, 1, 2, 3].foldl (fun s d => if s.syncMatches port number d then (s.monitorRestart d).domSetState d 2 else s) s)) ∧
  (∀ (d : Nat) (s : State), d < 4 → s.monitorOver d = true → exec (.syncMonitorExpire d) s = .next (s.monitorExpire d)) ∧
  (∀ (ctx : Ctx) (d : Nat) (value : Nat) (s : State), s.admits ctx (0x2210 + d) 6 false = true → d < 4 → value < 2 ^ 64 →
    (s.moveClock d (toSigned 64 value)).armed = [] → exec (.domStep ctx d value) s =
    .next (((((s.moveClock d (toSigned 64 value)).count (Reg.domStepCount d) 32).fireDue d).afterStep d).done ctx)) ∧
  (∀ (ctx : Ctx) (d : Nat) (s : State), s.admits ctx (0x2210 + d) 1 false = true → d < 4 →
    s.numberTaken d (s.get (Reg.domNumber d)) = false → s.get (Reg.domEnable d) = 0 → exec (.domEnable ctx d) s =
    .next (((((s.set (Reg.domEnable d) 1).monitorRestart d).domSetState d (if s.get (Reg.domRole d) = 1 then 1 else 3)).changed).done ctx)) ∧
  (∀ (ctx : Ctx) (d : Nat) (s : State), s.admits ctx (0x2210 + d) 1 false = true → d < 4 → s.get (Reg.domEnable d) ≠ 0 →
    s.armed.filter (fun a => a.kindle && a.domain = d) = [] → exec (.domDisable ctx d) s =
    .next ((((((s.listsOf d).foldl State.gclStop s).domSetState d 0).set (Reg.domEnable d) 0).changed).done ctx)) ∧
  (∀ (ctx : Ctx) (d : Nat) (value : Nat) (s : State), s.admits ctx (0x2210 + d) 3 false = true → d < 4 → value ≤ 1 →
    exec (.domRole ctx d value) s =
    .next (((if s.get (Reg.domRole d) = value then s else if s.get (Reg.domEnable d) = 1 then (if value = 1 then (s.set (Reg.domRole d) 1).domSetState d 1 else ((s.set (Reg.domRole d) value).monitorRestart d).domSetState d 3) else s.set (Reg.domRole d) value).changed).done ctx)) ∧
  (∀ (ctx : Ctx) (d : Nat) (value : Nat) (s : State), s.admits ctx (0x2210 + d) 9 false = true → d < 4 → value < 256 →
    s.standbyOk d value = true → exec (.domStandbyWrite ctx d value) s = .next (((if s.get (Reg.domState d) = 4 then (if value < 4 ∧
    s.get (Reg.domState value) = 2 then (s.set (Reg.domStandbyDomain d) value).domFollow d value else (s.set (Reg.domStandbyDomain d) value).domSetState d 3) else s.set (Reg.domStandbyDomain d) value).changed).done ctx)) ∧
  (∀ (ctx : Ctx) (d : Nat) (value : Nat) (s : State), s.admits ctx (0x2210 + d) 7 false = true → d < 4 → value < 2 ^ 32 →
    s.get (Reg.domEnable d) = 0 → exec (.domSyncTimeoutWrite ctx d value) s =
    .next ((((s.set (Reg.domSyncTimeout d) value).set (Reg.monitorExpired d) 0).changed).done ctx))

/-- Ports complete their commands and the events of their links (R110, R111, R113, R114, R116, R117, R121). -/
def Obligations.PortCommandsComplete : Prop :=
  (∀ (ctx : Ctx) (n : Nat) (s : State), s.admits ctx (0x2400 + n) 1 false = true → s.hasPort n = true → n ≠ 37 →
    s.get (Reg.portEnable n) = 0 → exec (.portEnable ctx n) s = .next ((((s.set (Reg.portEnable n) 1).linkStart n).changed).done ctx)) ∧
  (∀ (ctx : Ctx) (n : Nat) (s : State), s.admits ctx (0x2400 + n) 1 false = true → s.hasPort n = true → n ≠ 37 →
    exec (.portDisable ctx n) s = .next ((((s.set (Reg.portEnable n) 0).linkGoesDown n).changed).done ctx)) ∧
  (∀ (ctx : Ctx) (n : Nat) (s : State), s.admits ctx (0x2400 + n) 0x0B false = true → s.hasPort n = true → n ≠ 37 →
    s.get (Reg.portEnable n) = 1 → exec (.portRestart ctx n) s = .next (((s.linkGoesDown n).linkStart n).done ctx)) ∧
  (∀ (ctx : Ctx) (n : Nat) (s : State), s.admits ctx (0x2400 + n) 0x0B false = true → s.hasPort n = true → n ≠ 37 →
    s.get (Reg.portEnable n) = 1 → exec (.portRestartFull ctx n) s =
    .next ((((s.set (Reg.retPresent n) 0).linkGoesDown n).linkStart n).done ctx)) ∧
  (∀ (port : Nat) (speed : Nat) (s : State), s.linkReady port speed = true →
    s.get (Reg.portPhase port) = 1 ∨ s.now ≤ s.get (Reg.portSince port) + 810 * us → exec (.linkUp port speed) s =
    .next (s.linkComesUp port speed (s.get (Reg.portPhase port) = 2))) ∧
  (∀ (port : Nat) (speed : Nat) (s : State), s.linkReady port speed = true → s.get (Reg.portPhase port) = 2 →
    s.get (Reg.portSince port) + 810 * us < s.now → exec (.linkUp port speed) s =
    .next ((s.sets [(Reg.portPhase port, 1), (Reg.portSince port, s.now)]).count (Reg.pcntWarmFallbacks port))) ∧
  (∀ (port : Nat) (since : Nat) (cause : Nat) (s : State), s.portLive port = true → port < 32 ∨ port = 36 →
    bitOf (s.get (Reg.portStatus port)) 0 = true → since + s.get (Reg.portLinkDownHold port) * us ≤ s.now →
    exec (.linkDown port since cause) s =
    .next (((s.linkGoesDown port).set (Reg.portStatus port) (let kept := (s.linkGoesDown port).get (Reg.portStatus port); if port = 36 then kept % 256 else if cause = 1 then kept + 10 else if cause = 2 then kept + 12 else kept)).linkStart port)) ∧
  (∀ (port : Nat) (s : State), s.portLive port = true → s.get (Reg.portPhase port) = 2 → s.get (Reg.portSince port) + 800 * us ≤ s.now →
    exec (.warmLockTimeout port) s =
    .next ((s.sets [(Reg.portPhase port, 1), (Reg.portSince port, s.now)]).count (Reg.pcntWarmFallbacks port))) ∧
  (∀ (port : Nat) (s : State), s.portLive port = true → field (s.get (Reg.portStatus port)) 6 5 = 1 → s.get (Reg.verifyAt port) ≤ s.now →
    s.get (Reg.verifyTries port) < verifyLimit → exec (.mergeVerifyTimeout port) s =
    .next (s.sets [(Reg.verifyTries port, s.get (Reg.verifyTries port) + 1), (Reg.verifyAt port, s.now + s.get (Reg.portVerifyTime port).latched * ms)])) ∧
  (∀ (port : Nat) (enables : Nat) (times : List Nat) (s : State), s.portLive port = true → s.linkUp port = true →
    s.get (Reg.portPauseMode port) = 1 → exec (.pauseFrameReceive port false enables times) s =
    .next ((((s.count (Reg.pcntRxFrames port)).count (Reg.pcntRxOctets port) 64 64).count (Reg.pcntRxPause port)).pauseSet port 8 (times.headD 0))) ∧
  (∀ (port : Nat) (s : State), exec (.pauseTimeExpire port) s =
    .next ((List.range 9).foldl (fun s k => if s.get (Reg.pauseUntil port k) ≤ s.now then s.set (Reg.pauseUntil port k) 0 else s) s)) ∧
  (∀ (k : Nat) (s : State), k < 4 → s.portLive (32 + k) = true → exec (.plcaBeacon k) s =
    .next ((s.latch (plcaLatched k)).set (Reg.plcaStatus k) (if (s.latch (plcaLatched k)).get (Reg.plcaEnable k).latched = 1 then 1 + flag ((s.latch (plcaLatched k)).get (Reg.plcaNodeId k).latched = 0) * 2 else 0))) ∧
  (∀ (k : Nat) (opportunities : Nat) (s : State), k < 4 → s.portLive (32 + k) = true → s.get (Reg.plcaNodeId k).latched ≠ 0 →
    4 * s.get (Reg.plcaNodeCount k).latched ≤ opportunities → exec (.plcaBeaconTimeout k opportunities) s =
    .next (s.set (Reg.plcaStatus k) (setBit (s.get (Reg.plcaStatus k)) 0 false)))

/-- Frames are received, classified and released by their verdicts (R17, R128, R146, R237, R241). -/
def Obligations.FramesAreReceivedAndClassified : Prop :=
  (∀ (port : Nat) (rx : RxFrame) (s : State) (t : State) (u : State) (b : List Byte) (v : Verdict), s.running = true →
    s.portLive port = true → s.linkUp port = true → port < 32 → rx.merge = 0 → 64 ≤ rx.bytes.length →
    rx.bytes.length ≤ s.get (Reg.portMaxFrame port) → badAtRx port rx = false → beAt rx.bytes 12 2 ≠ 0x8808 →
    t = (((s.count (Reg.pcntFecCorrected port) 64 rx.fecCorrected).count (Reg.pcntFecUncorrected port) 64 rx.fecUncorrected).count (Reg.pcntRxFragments port) 64 rx.fragments).rxCount port rx →
    (t.rxStamp port).2.rxCipher port (rx.bytes.take (rx.bytes.length - 4)) false = .pass u b v → exec (.frameReceive port rx) s =
    .next (u.writeFrame port b v ⟨(t.rxStamp port).1, true, rx.late, rx.backlog⟩)) ∧
  (∀ (pipe : Nat) (ecc : Nat) (s : State) (port : Nat) (r : Nat × Nat) (rest : List (Nat × Nat)), s.running = true →
    s.parseTurn pipe = some port → takeFirst (fun r => r.1 == port) s.records = some (r, rest) → exec (.parsePipelineEntry pipe ecc) s =
    .next ((({ s with records := rest } : State).set (Reg.parseNext pipe) ((port + 1) % 38)).classify r.2 ((s.headIngress port).getD port) ecc)) ∧
  (∀ (row : Nat) (s : State) (t : State), s.forwarding = true → s.get (Reg.connScannedAt 0 row) ≠ s.scanPeriod →
    t = s.set (Reg.connScannedAt 0 row) s.scanPeriod → exec (.connScan row) s =
    .next (if t.connExpired row = true then (t.connClear row).count Reg.clsConnExpiries else t)) ∧
  (∀ (port : Nat) (s : State) (v : Verdict) (rest : List Verdict), takeFirst (fun v => v.port == port) s.verdicts = some (v, rest) →
    v.fcsBad = false → v.icvBad = false → v.checkBad = false → v.protectedRx = false → exec (.rxVerdict port) s =
    .next (({ s with verdicts := rest } : State).updFrame v.frame (fun f => { f with eligible := true, verdictDone := true }))) ∧
  (∀ (unit : Nat) (port : Nat) (pair : Nat) (ok2 : Bool) (s : State), s.forwarding = true → port < 37 →
    s.unitServes unit port pair = true → exec (.keystreamBlockResult unit port pair true ok2) s = .next (s.releaseBlock unit port))

/-- Frames are chosen, started, ended and prepared (R174, R193, R218, R224). -/
def Obligations.FramesAreSentAndReserved : Prop :=
  (∀ (port : Nat) (ecc : Nat) (cell : Nat) (s : State) (e : Entry) (f : Frame) (g : Guard) (t : State), s.wireFree port = true →
    (s.rehold port).pick port [7, 6, 5, 4, 3, 2, 1, 0] = (.start e f g, t) →
    t.wire.any (fun w => w.entry.port = port && !w.held) = false → port < 32 ∨ t.get Reg.chmState ≠ 3 →
    exec (.frameTransmitStart port ecc cell) s = .next (t.startPicked e f g ecc cell)) ∧
  (∀ (port : Nat) (s : State) (t : State) (w : Wire) (f : Frame), t = s.holdDue port →
    t.wire.find? (fun w => w.entry.port = port && !w.held) = some w → t.frame? w.entry.frame = some f → f.verdictDue = false →
    exec (.frameTransmitEnd port) s =
    .next (((((t.sentOut w f).countSent w f).endWire w).frameBoundary w.entry.port).rehold w.entry.port)) ∧
  (∀ (port : Nat) (s : State) (e : Entry) (f : Frame) (slot : Nat), s.forwarding = true → port < 37 → s.portLive port = true →
    s.candidate port = some e → s.frame? e.frame = some f → s.guardNow port f = .secure slot →
    s.prep.find? (fun p => p.port = port) = none → (s.wire.filter (fun w => w.entry.port = port && w.encrypted)).length < 2 →
    exec (.lookaheadReserve port) s = .next (s.reserve e slot s.now)) ∧
  (∀ (part : Nat) (s : State) (g : Staged), s.forwarding = true → s.partitionMode = true → s.grantOf part = some g →
    exec (.stagingGrant part) s =
    .next ((({ s with staging := s.staging.filter (fun h => h.frame ≠ g.frame) } : State).set (Reg.grantNext part) ((g.ingress + 1) % 38)).admitAll g.frame g.targets |>.admitted g.frame)) ∧
  (∀ (port : Nat) (s : State) (g : Staged), s.staging.find? (fun g => g.ingress = port && s.stagedTooLong g) = some g →
    exec (.stagingTimeout port) s = .next ((s.dropFrame g.frame Reg.lcTxGapRemoved).count (Reg.qcntStagingDrops port)))

/-- Reclaiming, flushing, forgetting and the rank floor complete (R163, R176, R182, R183). -/
def Obligations.BufferCommandsComplete : Prop :=
  (∀ (ctx : Ctx) (s : State), s.admits ctx 0x2500 0x0D false = true → s.get Reg.reclaimBusy = 0 → exec (.bufReclaim ctx 1) s =
    .next ((s.sets [(Reg.reclaimBusy, 1), (Reg.bufReclaimOutcome, outBusy)]).done ctx)) ∧
  (∀ (s : State), s.get Reg.reclaimBusy = 1 → ∃ t, exec .reclaimDone s = .next t ∧
    t.get Reg.bufFreeCells = s.get Reg.bufFreeCells + s.get Reg.bufLostCells ∧ t.get Reg.bufLostCells = 0 ∧
    t.get Reg.bufReclaimOutcome = outDone ∧ t.get Reg.reclaimBusy = 0 ∧ t.lostCells = []) ∧
  (∀ (ctx : Ctx) (port : Nat) (value : Nat) (s : State), s.admits ctx (0x2510 + port) 3 false = true → s.hasPort port = true →
    s.flushing port = false → s.get (Reg.trimFlush port) = 0 → value < 256 → exec (.qFlush ctx port value) s =
    .next (((s.startFlush port (bitsOf 32 value)).set (Reg.qFlushOutcome port) (if value = 0 then outDone else outBusy)).done ctx)) ∧
  (∀ (port : Nat) (s : State), s.flushing port = true → s.get (Reg.trimFlush port) = 0 → (s.endFlush port).get (Reg.trimFlush port) = 0 →
    exec (.flushDone port) s = .next ((s.endFlush port).set (Reg.qFlushOutcome port) outDone)) ∧
  (∀ (ctx : Ctx) (value : Nat) (s : State), s.admits ctx 0x2500 0x34 false = true → value ≤ 37 ∨ value = 0xFF →
    exec (.fdbForget ctx value) s =
    .next (((s.fdbRows.filter (fun r => s.fdbLearned r && (value = 0xFF || s.get (Reg.fdbControl r) % 64 = value))).foldl State.fdbClear s).done ctx)) ∧
  (∀ (s : State), s.forwarding = true → s.get Reg.bufThrottleStep = 4 → s.get Reg.bufRankFloor < 7 →
    (List.range 37).any (fun n => 32 ≤ s.get (Reg.wrFifo n)) = true → s.get Reg.floorRaisedAt = 0 → exec .rankFloorRaise s =
    .next (((s.setFloor (s.get Reg.bufRankFloor + 1)).count Reg.bufFloorRaises 32).set Reg.floorRaisedAt s.now)) ∧
  (∀ (s : State), s.forwarding = true → s.get Reg.bufThrottleStep = 4 → 0 < s.get Reg.bufRankFloor →
    (List.range 37).all (fun n => s.get (Reg.wrFifo n) ≤ 16) = true → s.get Reg.floorQuietAt + s.fabricPs 8192 ≤ s.now →
    exec .rankFloorLower s = .next ((s.setFloor (s.get Reg.bufRankFloor - 1)).set Reg.floorQuietAt s.now))

/-- Gate lists, holds and stream recovery advance at their instants (R101, R188, R195, R206). -/
def Obligations.GateListsAdvance : Prop :=
  (∀ (port : Nat) (s : State), s.gclLive port = true → s.get (Reg.gclNextAt port) ≤ s.gclNow port → exec (.gateEntryStart port) s =
    .next (s.gateEntry port)) ∧
  (∀ (port : Nat) (s : State) (e : Entry),
    (openings (s.get (Reg.gclOperGates port)) (s.rowsAhead port 640)).findSome? (s.readyAmong port) = some e →
    exec (.gateNotice port) s = .next { s with entries := s.entries.map (fun a => if a.same e then { a with staged := true } else a) }) ∧
  (∀ (port : Nat) (s : State), (s.rowsAhead port (s.get (Reg.schedHoldAdvance port))).any (fun r => r.op = 1) = true →
    exec (.holdRequest port) s = .next (s.requestHold port)) ∧
  (∀ (port : Nat) (s : State), (s.rowsAhead port (s.get (Reg.schedReleaseAdvance port))).any (fun r => r.op = 2) = true →
    exec (.holdRelease port) s = .next (s.releaseHold port)) ∧
  (∀ (row : Nat) (s : State), s.get (Reg.srDeadline 0 row) ≠ 0 → s.get (Reg.srDeadline 0 row) ≤ s.now → exec (.srResetTimeout row) s =
    .next ((s.takeAny row).count (Reg.srResets row)))

/-- Channels and slots of the cipher complete their commands and their timers (R248, R250, R253, R258, R259, R262, R264, R266). -/
def Obligations.AssociationCommandsComplete : Prop :=
  (∀ (ctx : Ctx) (s : State) (c : Nat), s.admits ctx 0x2800 0x0D false = true → s.get (Reg.scOutcome.of ctx) ≠ outBusy →
    s.portsAbsent (s.get (Reg.scPorts.of ctx)) = false → s.closedChannel = some c → ¬ (bitOf (s.get (Reg.scFlags.of ctx)) 2 = true ∧
    512 ≤ s.retained) → s.openBad ctx = false →
    s.sciInUse (bitOf (s.get (Reg.scFlags.of ctx)) 0) (s.get (Reg.scSci.of ctx)) (s.get (Reg.scPorts.of ctx)) = false → ∃ t,
    exec (.scOpen ctx) s = .next t ∧ t.get (Reg.scOutcome.of ctx) = outDone ∧ t.get (Reg.scResult.of ctx) = c ∧
    t.get (Reg.chOpen c) = 1 ∧ t.get (Reg.chRx c) = s.get (Reg.scFlags.of ctx) % 2 ∧ t.get (Reg.chSci c) = s.get (Reg.scSci.of ctx) ∧
    t.get (Reg.chPorts c) = s.get (Reg.scPorts.of ctx) ∧ t.get Reg.saChannelsOpen = s.get Reg.saChannelsOpen + 1) ∧
  (∀ (ctx : Ctx) (s : State), s.admits ctx 0x2800 0x0D false = true → s.get (Reg.scOutcome.of ctx) ≠ outBusy →
    s.channelOpen (s.get (Reg.scChannel.of ctx)) = true → s.get (Reg.chRx (s.get (Reg.scChannel.of ctx))) = 1 → ∃ t,
    exec (.scClose ctx) s = .next t ∧ t.get (Reg.scOutcome.of ctx) = outDone ∧ t.get (Reg.chOpen (s.get (Reg.scChannel.of ctx))) = 0 ∧
    t.get (Reg.chSci (s.get (Reg.scChannel.of ctx))) = 0 ∧ t.get (Reg.chPorts (s.get (Reg.scChannel.of ctx))) = 0) ∧
  (∀ (ctx : Ctx) (s : State) (r : Nat) (i : Install), s.admits ctx 0x2800 0x0D false = true → s.get (Reg.scOutcome.of ctx) ≠ outBusy →
    s.channelOpen (s.get (Reg.scChannel.of ctx)) = true → s.installBad ctx (s.get (Reg.scChannel.of ctx)) = false →
    (s.installTarget (s.get (Reg.scChannel.of ctx))).map (·.1) = some r → s.get Reg.vltState ≠ 2 → s.get Reg.vltState ≠ 3 →
    i = { ctx := ctx, channel := s.get (Reg.scChannel.of ctx), target := r, kek := s.get (Reg.scKekSlot.of ctx), wrapped := padTo 40 (s.blob (Reg.scWrapped.of ctx)), params := s.get (Reg.scInstallParams.of ctx), startPn := s.get (Reg.scStartPn.of ctx), ssci := s.get (Reg.scSsci.of ctx), salt := padTo 12 (s.blob (Reg.scSalt.of ctx)), threshold := s.get (Reg.scPnThreshold.of ctx), window := s.get (Reg.scReplayWindow.of ctx) } →
    exec (.scInstall ctx) s = .next (({ s.set (Reg.scOutcome.of ctx) outBusy with installs := s.installs ++ [i] } : State).done ctx)) ∧
  (∀ (ctx : Ctx) (s : State) (r : Nat), s.admits ctx 0x2800 0x0D false = true → s.get (Reg.scOutcome.of ctx) ≠ outBusy →
    s.channelOpen (s.get (Reg.scChannel.of ctx)) = true → s.otherSlot (s.get (Reg.scChannel.of ctx)) = some r → ∃ t,
    exec (.scRetire ctx) s = .next t ∧ t.get (Reg.scOutcome.of ctx) = outDone ∧
    t.get (Reg.scResult.of ctx) = s.get (Reg.scResult.of ctx) ∧ t.pend = (s.pendSet (Reg.saState r) 0).pend) ∧
  (∀ (ctx : Ctx) (s : State), s.admits ctx 0x2800 0x0D false = true → s.get (Reg.scOutcome.of ctx) ≠ outBusy →
    s.channelOpen (s.get (Reg.scChannel.of ctx)) = true →
    (s.pendRows.filter (fun r => r / 2 = s.get (Reg.scChannel.of ctx))).isEmpty = false → exec (.scActivate ctx) s =
    .next (((((s.handRows (s.pendRows.filter (fun r => r / 2 = s.get (Reg.scChannel.of ctx)))).handedOver ⟨.saRow, 0⟩).set (Reg.scOutcome.of ctx) outDone).set (Reg.scResult.of ctx) (s.get (Reg.scResult.of ctx))).done ctx)) ∧
  (∀ (s : State) (i : Install) (o : Nat) (r : Nat) (t : State), s.vaultRunning = some (.install i) → s.runInstall i = (o, r, t) →
    exec .installDone s =
    .next ((if o = outDone then (t.set (Reg.scOutcome.of i.ctx) o).set (Reg.scResult.of i.ctx) r else t.set (Reg.scOutcome.of i.ctx) o).vaultIdle)) ∧
  (∀ (row : Nat) (s : State), s.get (Reg.saState row) = 4 ∨ s.get (Reg.saState row) = 5 → s.get (Reg.slotOverlapAt 0 row) ≠ 0 →
    s.get (Reg.slotOverlapAt 0 row) + s.get Reg.saRxOverlap * us ≤ s.now + 1 → exec (.rxOverlapExpire row) s = .next (s.retireSlot row)) ∧
  (∀ (c : Nat) (s : State), s.get (Reg.chHolding c) = 1 → s.get (Reg.chHoldAt c) + s.get Reg.saExhaustHold * us ≤ s.now →
    exec (.exhaustHoldExpire c) s = .next (s.sets [(Reg.chHolding c, 0), (Reg.chHoldOver c, 1)])) ∧
  (∀ (ctx : Ctx) (s : State) (e : Nat) (rest : List Nat), s.running = true → s.linkBars ctx false = false → s.saEvents = e :: rest →
    exec (.saEventFifoRead ctx) s = .next (({ s with saEvents := rest } : State).reply ctx e))

/-- The slow path dispatches, engines read and write packets, and tags are released (R273, R276, R277, R281, R282, R284, R288). -/
def Obligations.EnginesAndTagsComplete : Prop :=
  (∀ (s : State) (g : SlowFrame) (rest : List SlowFrame) (f : Frame) (e : Nat) (tag : Nat) (gen : Nat) (r : List Byte),
    s.running = true → s.slow = g :: rest → s.frame? g.frame = some f → f.eligible = true → s.spTags.length < 4096 → tag = s.freeTag →
    gen = (s.get (Reg.spGeneration tag) + 1) % 4 → r = inputRecord tag gen g.reason f f.bytes →
    s.chooseEngine f g.reason r.length = .engine e → exec .slowPathDispatch s =
    .next ((({ ((({ s with slow := rest } : State).unref g.frame).set Reg.spStallCounted 0) with spTags := s.spTags ++ [{ tag := tag, gen := gen, engine := e, ingress := f.ingress, since := s.now }] } : State).setBox { s.box e with inbox := (s.box e).inbox ++ [r] }).sets [(Reg.spGeneration tag, gen), (Reg.spNextTag, (tag + 1) % 4096), (Reg.spLastEngine, e + 1), (Reg.spDispatched, (s.get Reg.spDispatched + 1) % 2 ^ 64)])) ∧
  (∀ (e : Nat) (rd : Nat) (s : State), s.engineRuns e = true → (s.box e).begun = true → (s.box e).rest ≠ [] → exec (.spIn e rd) s =
    .next ((s.setBox { s.box e with rest := (s.box e).rest.drop 4 }).engineSet e rd (beAt (s.box e).rest 0 4))) ∧
  (∀ (e : Nat) (rd : Nat) (s : State), s.engineRuns e = true → exec (.spLeft e rd) s = .next (s.engineSet e rd (s.box e).rest.length)) ∧
  (∀ (e : Nat) (s : State), s.engineRuns e = true → (s.box e).begun = true → (s.box e).rest ≠ [] → exec (.spDrop e) s =
    .next ((s.setBox { s.box e with begun := false, rest := [] }).count (Reg.seDrops e))) ∧
  (∀ (e : Nat) (rs1 : Nat) (s : State), s.engineRuns e = true → (s.box e).outBytes + 4 ≤ 16384 → exec (.spOut e rs1) s =
    .next (s.setBox { s.box e with words := (s.box e).words ++ [rs1 % 2 ^ 32] })) ∧
  (∀ (e : Nat) (s : State), s.engineRuns e = true → exec (.spSend e) s =
    .next (s.setBox { s.box e with words := [], sent := (s.box e).sent ++ [(s.box e).words] })) ∧
  (∀ (e : Nat) (rs1 : Nat) (s : State), s.engineRuns e = true → exec (.spResolve e rs1) s =
    .next (s.resolveTag (field rs1 31 20) (field rs1 19 18))) ∧
  (∀ (e : Nat) (rd : Nat) (rs1 : Nat) (rs2 : Nat) (s : State), s.engineRuns e = true → exec (.spCrc e rd rs1 rs2) s =
    .next (s.engineSet e rd (crc32cStep (rs1 % 2 ^ 32) (beBytes 4 rs2)))) ∧
  (∀ (e : Nat) (rd : Nat) (rs1 : Nat) (rs2 : Nat) (s : State), s.engineRuns e = true → exec (.spCsum e rd rs1 rs2) s =
    .next (s.engineSet e rd (fold16 (rs1 % 65536 + field rs2 31 16 + rs2 % 65536)))) ∧
  (∀ (e : Nat) (rd : Nat) (s : State), s.engineRuns e = true → exec (.spTime e rd) s = .next (s.engineSet e rd (s.timeNs 4))) ∧
  (∀ (e : Nat) (s : State) (p : List Nat) (rest : List (List Nat)), (s.box e).sent = p :: rest → s.running = true →
    s.get Reg.bufHeadroomCells + max 1 (outWord p).cells ≤ s.get Reg.bufFreeCells → (outWord p).sound = true →
    p.length = 4 + ((outWord p).len + 3) / 4 → exec (.outboxCollect e) s =
    .next (((s.setBox { s.box e with sent := rest }).count (Reg.sePacketsOut e)).collect (outWord p) ((wordBytes (p.drop 4)).take (outWord p).len))) ∧
  (∀ (port : Nat) (s : State) (t : SpTag) (rest : List SpTag), s.running = true →
    takeFirst (fun t => t.ingress == port) s.spTags = some (t, rest) → t.resolved = true → exec (.tagRelease port) s =
    .next (t.outputs.foldl State.release { s with spTags := rest })) ∧
  (∀ (tag : Nat) (s : State) (t : SpTag), s.spTags.find? (fun t => t.tag == tag && !t.resolved) = some t →
    t.since + s.get Reg.spReorderTimeout * us ≤ s.now → exec (.reorderTimeout tag) s =
    .next ((s.resolveTag tag t.gen).count Reg.spReorderTimeouts)) ∧
  (∀ (e : Nat) (cause : Nat) (pc : Nat) (s : State), s.engineRuns e = true → exec (.engineFault e cause pc) s =
    .next (let t := (s.engineHalt e 2).sets [(Reg.seFaultCause e, cause % 2 ^ 32), (Reg.seFaultPc e, pc % 2 ^ 32)]; ((if cause = scratchpadCause then t.reportObj 1 6 (0x24D0 + e) 0x07 e else t).reportObj 3 6 (0x24D0 + e) 0x04 e (leBytes 4 cause ++ leBytes 4 pc)).pulse 0x10 e)) ∧
  (∀ (ctx : Ctx) (e : Nat) (s : State), s.admits ctx (0x24D0 + e) 1 false = true → e < s.fuses.variant.engines →
    s.get (Reg.seState e) ≠ 3 → exec (.seRun ctx e) s = .next (((s.sets [(Reg.seRun e, 1), (Reg.seState e, 1)]).changed).done ctx)) ∧
  (∀ (ctx : Ctx) (e : Nat) (s : State), s.admits ctx (0x24D0 + e) 1 false = true → e < s.fuses.variant.engines →
    s.get (Reg.seState e) = 1 → exec (.seStop ctx e) s = .next ((((s.set (Reg.seRun e) 0).engineHalt e 0).changed).done ctx))

/-- The rings of the host move frames (R290). -/
def Obligations.HostRingsMoveRecords : Prop :=
  (∀ (q : Nat) (s : State) (e : Entry) (b : List Byte) (f : Frame) (off : Nat) (t : State), s.running = true → s.ringQueue q = true →
    s.get (Reg.rxRingEnable q) = 1 → s.hostHead q = some (e, b) → s.frame? e.frame = some f →
    ringPlace (s.get (Reg.rxRingProduce q)) (s.get (Reg.rxRingConsume q)) (2 ^ s.get (Reg.rxRingSizeLog2 q).latched) (inputRecord 0 0 0 f b).length = some (off, false) →
    s.memWrite 4 (s.get (Reg.rxRingBase q).latched + off) (inputRecord 0 0 0 f b) = (true, t) → exec (.ringReceiveWrite q) s =
    .next (((t.takeHost e).set (Reg.rxRingProduce q) ((off + (inputRecord 0 0 0 f b).length) % 2 ^ s.get (Reg.rxRingSizeLog2 q).latched)).pulse 0x15 q)) ∧
  (∀ (ctx : Ctx) (value : Nat) (s : State), s.admits ctx 0x24C1 4 false = true → value < 2 ^ s.get Reg.txRingSizeLog2.latched →
    value < 2 ^ 32 → s.get Reg.txRingEnable = 1 → exec (.txRingProduce ctx value) s =
    .next (((State.txRecords (2 ^ s.get Reg.txRingSizeLog2.latched / 16 + 1) (s.set Reg.txRingProduce value)).changed).done ctx))

/-- Vault commands wait, start and end with an outcome (R294, R297, R298, R299, R302, R303, R305, R306, R308, R309, R311). -/
def Obligations.VaultCommandsWaitAndEnd : Prop :=
  (∀ (ctx : Ctx) (s : State), s.admits ctx 0x2900 0x0B false = true → s.get (Reg.vltOutcome.of ctx) ≠ outBusy → s.get Reg.vltState ≠ 2 →
    s.get Reg.vltState ≠ 3 → exec (.vaultGenerate ctx) s =
    .next (({ s.set (Reg.vltOutcome.of ctx) outBusy with vaultWaiting := s.vaultWaiting ++ [.command (s.vaultCmd ctx 1)] } : State).done ctx)) ∧
  (∀ (ctx : Ctx) (s : State), s.admits ctx 0x2900 0x0B false = true → s.get (Reg.vltOutcome.of ctx) ≠ outBusy → s.get Reg.vltState ≠ 2 →
    s.get Reg.vltState ≠ 3 → exec (.vaultImportClear ctx) s =
    .next (({ s.set (Reg.vltOutcome.of ctx) outBusy with vaultWaiting := s.vaultWaiting ++ [.command (s.vaultCmd ctx 2)] } : State).done ctx)) ∧
  (∀ (ctx : Ctx) (s : State), s.admits ctx 0x2900 0x0B false = true → s.get (Reg.vltOutcome.of ctx) ≠ outBusy → s.get Reg.vltState ≠ 2 →
    s.get Reg.vltState ≠ 3 → exec (.vaultImportWrapped ctx) s =
    .next (({ s.set (Reg.vltOutcome.of ctx) outBusy with vaultWaiting := s.vaultWaiting ++ [.command (s.vaultCmd ctx 3)] } : State).done ctx)) ∧
  (∀ (ctx : Ctx) (s : State), s.admits ctx 0x2900 0x0B false = true → s.get (Reg.vltOutcome.of ctx) ≠ outBusy → s.get Reg.vltState ≠ 2 →
    s.get Reg.vltState ≠ 3 → exec (.vaultExportWrapped ctx) s =
    .next (({ s.set (Reg.vltOutcome.of ctx) outBusy with vaultWaiting := s.vaultWaiting ++ [.command (s.vaultCmd ctx 4)] } : State).done ctx)) ∧
  (∀ (ctx : Ctx) (s : State), s.admits ctx 0x2900 0x0B false = true → s.get (Reg.vltOutcome.of ctx) ≠ outBusy → s.get Reg.vltState ≠ 2 →
    s.get Reg.vltState ≠ 3 → exec (.vaultNarrowPolicy ctx) s =
    .next (({ s.set (Reg.vltOutcome.of ctx) outBusy with vaultWaiting := s.vaultWaiting ++ [.command (s.vaultCmd ctx 5)] } : State).done ctx)) ∧
  (∀ (ctx : Ctx) (s : State), s.admits ctx 0x2900 0x0B false = true → s.get (Reg.vltOutcome.of ctx) ≠ outBusy → s.get Reg.vltState ≠ 2 →
    s.get Reg.vltState ≠ 3 → exec (.vaultDestroy ctx) s =
    .next (({ s.set (Reg.vltOutcome.of ctx) outBusy with vaultWaiting := s.vaultWaiting ++ [.command (s.vaultCmd ctx 6)] } : State).done ctx)) ∧
  (∀ (ctx : Ctx) (s : State), s.admits ctx 0x2900 0x0B false = true → s.get (Reg.vltOutcome.of ctx) ≠ outBusy → s.get Reg.vltState ≠ 2 →
    s.get Reg.vltState ≠ 3 → exec (.vaultSign ctx) s =
    .next (({ s.set (Reg.vltOutcome.of ctx) outBusy with vaultWaiting := s.vaultWaiting ++ [.command (s.vaultCmd ctx 7)] } : State).done ctx)) ∧
  (∀ (ctx : Ctx) (s : State), s.admits ctx 0x2900 0x0B false = true → s.get (Reg.vltOutcome.of ctx) ≠ outBusy → s.get Reg.vltState ≠ 2 →
    s.get Reg.vltState ≠ 3 → exec (.vaultVerify ctx) s =
    .next (({ s.set (Reg.vltOutcome.of ctx) outBusy with vaultWaiting := s.vaultWaiting ++ [.command (s.vaultCmd ctx 8)] } : State).done ctx)) ∧
  (∀ (ctx : Ctx) (s : State), s.admits ctx 0x2900 0x0B false = true → s.get (Reg.vltOutcome.of ctx) ≠ outBusy → s.get Reg.vltState ≠ 2 →
    s.get Reg.vltState ≠ 3 → exec (.vaultEcdh ctx) s =
    .next (({ s.set (Reg.vltOutcome.of ctx) outBusy with vaultWaiting := s.vaultWaiting ++ [.command (s.vaultCmd ctx 9)] } : State).done ctx)) ∧
  (∀ (ctx : Ctx) (s : State), s.admits ctx 0x2900 0x0B false = true → s.get (Reg.vltOutcome.of ctx) ≠ outBusy → s.get Reg.vltState ≠ 2 →
    s.get Reg.vltState ≠ 3 → exec (.vaultHkdf ctx) s =
    .next (({ s.set (Reg.vltOutcome.of ctx) outBusy with vaultWaiting := s.vaultWaiting ++ [.command (s.vaultCmd ctx 10)] } : State).done ctx)) ∧
  (∀ (ctx : Ctx) (s : State), s.admits ctx 0x2900 0x0B false = true → s.get (Reg.vltOutcome.of ctx) ≠ outBusy → s.get Reg.vltState ≠ 2 →
    s.get Reg.vltState ≠ 3 → exec (.vaultKdfCtr ctx) s =
    .next (({ s.set (Reg.vltOutcome.of ctx) outBusy with vaultWaiting := s.vaultWaiting ++ [.command (s.vaultCmd ctx 11)] } : State).done ctx)) ∧
  (∀ (ctx : Ctx) (s : State), s.admits ctx 0x2900 0x0B false = true → s.get (Reg.vltOutcome.of ctx) ≠ outBusy → s.get Reg.vltState ≠ 2 →
    s.get Reg.vltState ≠ 3 → exec (.vaultRandom ctx) s =
    .next (({ s.set (Reg.vltOutcome.of ctx) outBusy with vaultWaiting := s.vaultWaiting ++ [.command (s.vaultCmd ctx 12)] } : State).done ctx)) ∧
  (∀ (ctx : Ctx) (s : State), s.admits ctx 0x2900 0x0B false = true → s.get (Reg.vltOutcome.of ctx) ≠ outBusy → s.get Reg.vltState ≠ 2 →
    s.get Reg.vltState ≠ 3 → exec (.vaultAttest ctx) s =
    .next (({ s.set (Reg.vltOutcome.of ctx) outBusy with vaultWaiting := s.vaultWaiting ++ [.command (s.vaultCmd ctx 13)] } : State).done ctx)) ∧
  (∀ (s : State) (r : VaultReq) (rs : List VaultReq), s.running = true → s.get Reg.vltState = 0 → s.vaultRunning = none →
    s.installs = [] → s.vaultWaiting = r :: rs → exec .vaultCommandStart s =
    .next ((({ s with vaultWaiting := rs } : State).set Reg.vltInstallsInRow 0).vaultTake r)) ∧
  (∀ (s : State) (c : VaultCmd) (o : Nat) (t : State), s.vaultRunning = some (.command c) → s.vaultRun c = (o, t) →
    exec .vaultCommandDone s = .next ((t.vaultFinish (.command c) o).vaultIdle)) ∧
  (∀ (s : State), s.mode = .glow ∨ s.mode = .flame ∨ s.mode = .trim → exec .entropyFailure s =
    .next (((s.sets [(Reg.drbgStopped, 1), (Reg.drbgWindows, 0)]).count Reg.vltEntropyFailures 32).reportObj 9 3 0x2901 0x0A)) ∧
  (∀ (s : State), s.vaultUp = true → s.get Reg.drbgStopped = 1 → s.get Reg.drbgWindows = 15 → exec .entropyRecover s =
    .next ((s.sets [(Reg.drbgStopped, 0), (Reg.drbgWindows, 0)]).reseed)) ∧
  (∀ (ctx : Ctx) (value : Nat) (s : State), s.admits ctx 0x2901 3 false = true → value ≤ 4 → s.mode = .trim → s.get Reg.vltState ≠ 3 →
    s.get Reg.vltState ≠ 2 → transitionAllowed (s.get Reg.vltLifeCycle) value = true → s.get Reg.vltConfirm = s.fuses.serial % 2 ^ 32 →
    s.vaultWaiting = [] → s.installs = [] → ∃ t, exec (.lifeCycleTransition ctx value) s = .next (t.done ctx) ∧
    t = ((s.sets [(Reg.vltState, 3), (Reg.vltTransitionOutcome, outBusy), (Reg.vltConfirm, 0), (Reg.journalIntent, value + 1)]).writeJournal 1 (s.get Reg.vltLifeCycle) value).destroyFor value) ∧
  (∀ (s : State), s.get Reg.vltState = 3 → 0 < s.get Reg.journalIntent → s.vaultRunning = none → exec .transitionComplete s =
    .next (((s.destroyFor (s.get Reg.journalIntent - 1)).writeJournal 2 (s.get Reg.vltLifeCycle) (s.get Reg.journalIntent - 1)).sets [(Reg.vltLifeCycle, s.get Reg.journalIntent - 1), (Reg.journalIntent, 0), (Reg.vltState, 0), (Reg.vltTransitionOutcome, outDone)])) ∧
  (∀ (s : State), s.running = true → s.get Reg.vltState ≠ 2 → exec (.lockstepFault 2) s =
    .next (((({ (s.vaultRunning.toList ++ s.vaultWaiting ++ s.installs.map VaultReq.install).foldl (fun s r => s.vaultFinish r outFaulted) s with vaultRunning := none, vaultWaiting := [], installs := [] } : State).set Reg.vltState 2)).reportObj 2 3 0x2901 0x05))

/-- Cresset loads contexts, takes jobs, writes blocks and reports results (R321, R323, R324, R326, R327, R328, R333). -/
def Obligations.CressetJobsComplete : Prop :=
  (∀ (ctx : Ctx) (s : State), s.admits ctx 0x2A01 7 false = true → s.get (Reg.crOutcome.of ctx) ≠ outBusy → s.get Reg.vltState ≠ 2 →
    s.get Reg.vltState ≠ 3 → exec (.crLoad ctx) s =
    .next (({ s.set (Reg.crOutcome.of ctx) outBusy with vaultWaiting := s.vaultWaiting ++ [.crLoad ctx (s.get (Reg.crContext.of ctx)) (s.get (Reg.crKeySlot.of ctx)) (s.get (Reg.crMode.of ctx)) (s.get (Reg.crField.of ctx)) (s.get (Reg.crCounterStart.of ctx)) (s.get (Reg.crCounterEnd.of ctx))] } : State).done ctx)) ∧
  (∀ (ctx : Ctx) (s : State), s.admits ctx 0x2A01 7 false = true → s.get (Reg.crOutcome.of ctx) ≠ outBusy →
    (s.crContext? (s.get (Reg.crContext.of ctx))).isSome = true → s.crJobs = [] → exec (.crUnload ctx) s =
    .next ((({ s with crContexts := s.crContexts.filter (fun k => k.idx ≠ s.get (Reg.crContext.of ctx)) } : State).set (Reg.crOutcome.of ctx) outDone).done ctx)) ∧
  (∀ (ctx : Ctx) (q : Nat) (value : Nat) (s : State), s.admits ctx (0x2A20 + q) 4 false = true → q < 8 → value % 64 = 0 →
    value < s.crqSize q → value < 2 ^ 32 → exec (.crqProduce ctx q value) s = .next (((s.set (Reg.crqProduce q) value).changed).done ctx)) ∧
  (∀ (q : Nat) (s : State) (rest : List Pulse),
    takeFirst (fun p => p == Pulse.cressetStart q) s.pulses = some (Pulse.cressetStart q, rest) → s.crWaiting q = false →
    s.get (Reg.crqPendingStarts q) < 255 → exec (.cressetStartPulse q) s =
    .next (({ s with pulses := rest } : State).set (Reg.crqPendingStarts q) (s.get (Reg.crqPendingStarts q) + 1))) ∧
  (∀ (q : Nat) (s : State) (rest : List Pulse),
    takeFirst (fun p => p == Pulse.cressetStart q) s.pulses = some (Pulse.cressetStart q, rest) → s.crWaiting q = true →
    exec (.cressetStartPulse q) s = .next (({ s with pulses := rest } : State).set (Reg.crqReleased q) 1)) ∧
  (∀ (s : State) (q : Nat) (a : Nat) (b : List Byte) (t : State), s.running = true →
    ((List.range 8).map (fun k => (s.get Reg.crRobin + k) % 8)).find? s.crReady = some q → s.crHead q = some a →
    s.memRead 3 a 64 = (some b, s) → t = s.sets [(Reg.crRobin, (q + 1) % 8),
    (Reg.crqTaken q, (s.get (Reg.crqTaken q) + 64) % s.crqSize q)] → (crFields (wordsOf b)).wait = false → t.crCheck (wordsOf b) = 0 →
    t.crDual (crFields (wordsOf b)) = false → t.crShort false = false → exec .cressetJobStart s =
    .next (t.crStart q (s.get (Reg.crqTaken q)) (wordsOf b) (maskOf (t.crFree.take 1)))) ∧
  (∀ (k : Nat) (ok2 : Bool) (s : State) (j : CrJob), s.crJobs[k]? = some j → s.running = true → j.done = false →
    j.written < j.output.length → exec (.cressetBlockDone k true ok2) s = .next (s.crWrite k j)) ∧
  (∀ (q : Nat) (s : State) (j : CrJob) (t : State) (u : State), s.crJobs.find? (fun j => j.queue = q) = some j → s.running = true →
    j.done = false → j.output.length ≤ j.written → j.outcome = 0 → crVerifies (crFields j.words).op = false → j.words ≠ [] →
    (crFields j.words).notify = false → s.memWrite 3 (crFields j.words).tagAddr j.tag = (true, t) →
    t.memWrite 3 (crFields j.words).result (crResult t j outDone) = (true, u) → exec (.cressetJobDone q) s =
    .next ((({ u with crJobs := u.crJobs.eraseP (fun i => i.queue = q) } : State).set (Reg.crqConsume q) ((j.offset + 64) % u.crqSize q)).count Reg.crJobsDone))

/-- DMA channels start, resume, stop, count start pulses and finish descriptors (R342, R343, R345). -/
def Obligations.DmaChannelsComplete : Prop :=
  (∀ (ctx : Ctx) (c : Nat) (s : State), s.admits ctx (0x2B10 + c) 3 false = true → c < 32 →
    s.get (Reg.dmaState c) = 0 ∨ s.get (Reg.dmaState c) = 3 → exec (.dmaStart ctx c) s = .next (((s.dmaStart c).dmaStopPulse c).done ctx)) ∧
  (∀ (ctx : Ctx) (c : Nat) (s : State), s.admits ctx (0x2B10 + c) 3 false = true → c < 32 →
    s.get (Reg.dmaState c) = 0 ∨ s.get (Reg.dmaState c) = 3 → exec (.dmaResume ctx c) s =
    .next (((s.dmaFetch c (s.get (Reg.dmaPosition c))).dmaStopPulse c).done ctx)) ∧
  (∀ (ctx : Ctx) (c : Nat) (s : State), s.admits ctx (0x2B10 + c) 3 false = true → c < 32 → s.get (Reg.dmaState c) = 1 →
    exec (.dmaStop ctx c) s = .next ((s.set (Reg.dmaState c) 2).done ctx)) ∧
  (∀ (c : Nat) (s : State) (rest : List Pulse), takeFirst (fun p => p == Pulse.dmaStart c) s.pulses = some (Pulse.dmaStart c, rest) →
    s.running = true → s.get (Reg.dmaState c) = 0 → exec (.dmaStartPulse c) s =
    .next ((({ s with pulses := rest } : State).dmaStart c).dmaStopPulse c)) ∧
  (∀ (c : Nat) (s : State), s.running = true → c < 32 → s.get (Reg.dmaState c) = 1 ∨ s.get (Reg.dmaState c) = 2 →
    s.dmaWaits c (s.get (Reg.dmaWord c 0)) (s.get (Reg.dmaWord c 1)) (s.get (Reg.dmaWord c 2)) (s.get (Reg.dmaWord c 3)) = false →
    exec (.dmaDescriptorDone c) s =
    .next ((s.dmaDescriptor c (s.get (Reg.dmaWord c 0)) (s.get (Reg.dmaWord c 1)) (s.get (Reg.dmaWord c 2)) (s.get (Reg.dmaWord c 3))).dmaBoundary c (s.get (Reg.dmaWord c 0)) (s.get (Reg.dmaWord c 3))))

/-- Guarded memory is read, written, keyed, erased and initialised (R351, R352, R353, R354, R357, R385). -/
def Obligations.GuardedMemoryCompletes : Prop :=
  (∀ (init : Nat) (addr : Nat) (len : Nat) (s : State) (b : List Byte), s.running = true → 2 ≤ init ∨ inPlic addr = false →
    s.memRead init addr len = (some b, s) → exec (.memoryRead init addr len false false) s = .next (s.busOk b)) ∧
  (∀ (init : Nat) (addr : Nat) (data : List Byte) (s : State) (t : State), s.running = true → 2 ≤ init ∨ inPlic addr = false →
    s.memWrite init addr data = (true, t) → exec (.memoryWrite init addr data false false) s = .next t.busOk) ∧
  (∀ (ctx : Ctx) (k : Nat) (s : State), s.admits ctx (0x2F20 + k) 4 false = true → k < 15 → s.get (Reg.kidOutcome k) ≠ outBusy →
    s.get (Reg.kidState k) = 0 → s.get Reg.vltState ≠ 2 → s.get Reg.vltState ≠ 3 → exec (.keyidProgram ctx k) s =
    .next (({ (s.sets [((Reg.kidSource k).latched, s.get (Reg.kidSource k)), ((Reg.kidVaultSlot k).latched, s.get (Reg.kidVaultSlot k))]).set (Reg.kidOutcome k) outBusy with vaultWaiting := s.vaultWaiting ++ [.keyId k] } : State).done ctx)) ∧
  (∀ (s : State) (k : Nat) (key : List Byte) (t : State), s.vaultRunning = some (.keyId k) → s.kidMake k = (outDone, key, t) →
    exec .keyidProgramDone s = .next ((((t.vaultFinish (.keyId k) outDone).vaultIdle).kidLoad k key).count (Reg.kidPrograms k) 32)) ∧
  (∀ (ctx : Ctx) (k : Nat) (s : State), s.admits ctx (0x2F20 + k) 4 false = true → k < 15 → s.get (Reg.kidOutcome k) ≠ outBusy →
    s.get (Reg.kidState k) = 1 → exec (.keyidClose ctx k) s =
    .next ((s.sets [(Reg.kidState k, 2), (Reg.kidOutcome k, outBusy)]).done ctx)) ∧
  (∀ (k : Nat) (s : State), k < 15 → s.running = true → s.get (Reg.kidState k) = 2 → s.cache.filter (fun c => c.kid = k) = [] →
    exec (.keyidCloseDone k) s =
    .next (({ s with cache := s.cache.filter (fun c => c.kid ≠ k) } : State).sets [(Reg.kidState k, 3), (Reg.kidOutcome k, outDone)])) ∧
  (∀ (ctx : Ctx) (k : Nat) (s : State), s.admits ctx (0x2F20 + k) 4 false = true → k < 15 → s.get (Reg.kidOutcome k) ≠ outBusy →
    s.get (Reg.kidState k) = 3 → s.kidNamed k = false → exec (.keyidRetire ctx k) s =
    .next ((({ s with kidKeys := s.kidKeys.filter (fun e => e.1 ≠ k) } : State).sets [(Reg.kidState k, 0), (Reg.kidOutcome k, outDone)]).done ctx)) ∧
  (∀ (ctx : Ctx) (addr : Nat) (s : State), s.admits ctx 0x2F00 0x0D false = true → s.get Reg.xmFlashEraseOutcome ≠ outBusy →
    addr % 65536 = 0 → s.inFlash addr 65536 = true → (List.range 16).any (fun r => s.inRegion r addr 65536) = true → addr < 2 ^ 64 →
    exec (.flashErase ctx addr) s = .next ((s.sets [(Reg.flashErasing, addr + 1), (Reg.xmFlashEraseOutcome, outBusy)]).done ctx)) ∧
  (∀ (s : State), s.running = true → 0 < s.get Reg.flashErasing → exec .flashEraseDone s =
    .next ((s.eraseFlash (s.get Reg.flashErasing - 1) 65536).sets [(Reg.flashErasing, 0), (Reg.xmFlashEraseOutcome, outDone)])) ∧
  (∀ (s : State) (g : Nat), s.running = true → s.get Reg.xmInitSweep = 1 →
    (s.uninitGranules.filter (fun g => (s.kidOf (dramBase + g * 65536) 65536).any (fun k => s.get (Reg.kidState k) = 1))).foldl (fun b g => some (match b with | none => g | some m => min m g)) none = some g →
    exec .initSweepGranule s = .next (s.initGranule g)) ∧
  (∀ (core : Nat) (addr : Nat) (s : State), s.running = true → core < 2 → exec (.cboClean core addr) s =
    .next (s.cboWrite core addr true)) ∧
  (∀ (core : Nat) (addr : Nat) (s : State), s.running = true → core < 2 → exec (.cboFlush core addr) s =
    .next (s.cboWrite core addr false)) ∧
  (∀ (core : Nat) (addr : Nat) (s : State), s.running = true → core < 2 → exec (.cboInval core addr 3) s =
    .next ((s.dropLine core (addr / 64 * 64)).busOk))

/-- Accesses over Chimney are issued, complete, and are fenced (R373, R374, R376, R378, R380, R382, R383). -/
def Obligations.ChimneyAccessesComplete : Prop :=
  (∀ (init : Nat) (addr : Nat) (size : Nat) (s : State), s.running = true → isCore init = true ∨ (0x20 ≤ init ∧ init < 0x40) →
    inWindow addr = true → coreAligned addr size = true → s.get Reg.chmState ≠ 3 →
    s.fetches.find? (fun f => f.initiator = init && f.addr = addr && f.size = size) = none → s.lanternBarred = false →
    s.fetches.length < 16 → exec (.chimneyRead init addr size) s =
    .next (({ s with fetches := s.fetches ++ [{ initiator := init, addr := addr, size := size }] } : State).retry)) ∧
  (∀ (k : Nat) (s : State) (f : Fetch), s.fetches[k]? = some f → s.fetchFree f = true → f.ready = false →
    exec (.chimneyFetchDone false k) s =
    .next { s with fetches := s.fetches.set k { f with ready := true, doneAt := s.now, fault := !fetchSound f, data := s.bytesAt f.addr f.size } }) ∧
  (∀ (k : Nat) (s : State) (f : Fetch), s.fetches[k]? = some f → f.ready = true → f.doneAt + 4 * us ≤ s.now → exec (.fetchStale k) s =
    .next (({ s with fetches := s.fetches.eraseIdx k } : State).count Reg.chmStaleFetches 32)) ∧
  (∀ (init : Nat) (addr : Nat) (data : List Byte) (s : State), s.running = true → isCore init = true → inWindow addr = true →
    coreAligned addr data.length = true → s.lanternBarred = false → exec (.chimneyPostedWrite init addr data) s =
    .next (((s.touchGranule addr data.length).postWrite init addr data).busOk)) ∧
  (∀ (k : Nat) (s : State) (p : Posted), s.posted[k]? = some p → s.linkRuns = true → s.pieceHeld p = false →
    (s.posted.take k).any (sameGranule p) = false → exec (.writeAck k) s =
    .next (({ s with posted := s.posted.eraseIdx k } : State).applyPiece p)) ∧
  (∀ (init : Nat) (writes : Bool) (reads : Bool) (s : State), s.running = true → init = 0 ∨ init = 1 ∨ init = 0x80 →
    exec (.fence init writes reads) s =
    .next { s with fences := s.fences.filter (fun f => f.initiator ≠ init) ++ [⟨init, writes, reads⟩] }) ∧
  (∀ (init : Nat) (s : State) (f : Fence), s.fences.find? (fun f => f.initiator = init) = some f → s.fenceMet f = true →
    bitOf (s.get Reg.chmPendingFaults) (faultBit init) = false → exec (.fenceComplete init) s =
    .next (((({ s with fences := s.fences.filter (fun g => g.initiator ≠ init) } : State).fenceEnd init).2.2).busOk)) ∧
  (∀ (hart : Nat) (addr : Nat) (size : Nat) (s : State), s.running = true → hart < 2 → exclusiveOk addr size = true →
    s.get Reg.chmState ≠ 3 → s.heldRead = none → s.lanternBarred = false → s.semaphore = none → exec (.lr hart addr size) s =
    .next (({ s with semaphore := some { hart := hart, granule := addr / 64 * 64, taken := s.now } } : State).holdRead { initiator := hart, addr := addr, size := size, lr := true })) ∧
  (∀ (hart : Nat) (addr : Nat) (data : List Byte) (s : State) (m : Semaphore), s.running = true → hart < 2 →
    exclusiveOk addr data.length = true → s.semaphore = some m → m.hart = hart → m.granule = addr / 64 * 64 → m.touched = false →
    exec (.sc hart addr data) s = .next { (({ s with semaphore := none } : State).postWrite hart addr data) with bus := { value := 0 } }) ∧
  (∀ (s : State) (m : Semaphore), s.semaphore = some m → m.taken + 2 * us ≤ s.now → exec .semaphoreTimeout s =
    .next (({ s with semaphore := none } : State).count Reg.chmSemaphoreTimeouts 32)) ∧
  (∀ (s : State) (w : WickRead), s.wickRead = some w → s.linkRuns = true → s.heldRead.any (fun f => f.since + 8000 ≤ s.now) = true →
    w.withdrawn = 0 → w.since + 8000 ≤ s.now → exec .wickBackoff s =
    .next (({ s with wickRead := some { w with withdrawn := s.now, backoffs := w.backoffs + 1 } } : State).count Reg.chmWickBackoffs 32)) ∧
  (∀ (s : State) (w : WickRead), s.wickRead = some w → s.linkRuns = true → 0 < w.withdrawn → w.withdrawn + 256000 ≤ s.now →
    s.heldRead = none → exec .backoffReissue s = .next (s.pilotData w.addr w.size)) ∧
  (∀ (addr : Nat) (size : Nat) (s : State), s.linkRuns = true → s.wickRead = none → size ≠ 0 → s.heldRead = none →
    exec (.pilotRead addr size) s = .next (s.pilotData addr size))

/-- The Chimney link counts, retrains and goes down (R384, R386). -/
def Obligations.ChimneyLinkRecovers : Prop :=
  (∀ (f : FlitHeard) (s : State), s.linkRuns = true → (flitOf f.bytes).bad = true → exec (.flitCrcError f) s =
    .next (((s.count Reg.chmCrcErrors).count Reg.chmReplays).set Reg.chmReplayRun (if f.again then s.get Reg.chmReplayRun + 1 else 1))) ∧
  (∀ (lockLost : Bool) (s : State), s.linkRuns = true → lockLost = true ∨ 8 ≤ s.get Reg.chmReplayRun →
    exec (.chimneyLockLoss lockLost) s = .next s.retrain) ∧
  (∀ (s : State), s.running = true → s.get Reg.chmState = 2 → exec (.retrainResult true) s =
    .next ((s.sets [(Reg.chmState, 1), (Reg.chmFailedTrains, 0)]).applyStep.crossOver.pilotResume)) ∧
  (∀ (ctx : Ctx) (s : State), s.admits ctx 0x2300 2 false = true → s.get Reg.chmState = 3 → exec (.chmRetrain ctx 1) s =
    .next (((s.set Reg.chmFailedTrains 0).retrain).done ctx))

/-- CAN controllers receive, send, recover and count (R393, R398, R402). -/
def Obligations.CanControllersComplete : Prop :=
  (∀ (ch : Nat) (m : BusHeard) (s : State) (stamp : List Nat) (t : State), s.canTakes ch m.msg = true → s.busStamp m.age = (stamp, t) →
    t.isSample ch m.msg = false → t.sdoRequest ch m.msg = false → exec (.canMessageReceive ch m) s = .next (t.canReceive ch m.msg stamp)) ∧
  (∀ (ch : Nat) (s : State) (e : CanEntry) (t : State), s.canOn ch = true → s.get (Reg.canEnable ch) ≠ 0 →
    bitOf (s.get (Reg.canFormats ch).latched) 3 = false → bitOf (s.get (Reg.canFormats ch).latched) 4 = false →
    s.canQueue.any (fun e => e.ch = ch && e.inTx) = false →
    State.canOffer (s.canQueue.length + 1) ch (s.canIntegrated ch) = (some e, t) → exec (.canArbitration ch true) s =
    .next { t with canQueue := t.canQueue.map (fun x => if x = e then { x with inTx := true, takenAt := s.now } else x) }) ∧
  (∀ (ch : Nat) (s : State) (e : CanEntry), s.canQueue.find? (fun e => e.ch == ch && e.inTx) = some e → s.canOn ch = true →
    e.cyc = none → s.get (Reg.canEnable ch) = 1 → exec (.canTxDone ch) s =
    .next ((({ s with canQueue := s.canQueue.erase e } : State).count (Reg.canTxMessages ch)).canCounts ch (s.canTec ch - 1) (s.canRec ch))) ∧
  (∀ (ch : Nat) (s : State), s.canOn ch = true → 255 < s.canTec ch → exec (.canBusOff ch) s =
    .next ((((({ s with canQueue := s.canQueue.map (fun e => if e.ch = ch then { e with inTx := false } else e) } : State).canEnter ch 2).count (Reg.canBusOffs ch)).set (Reg.canRecovering ch) (flag (bitOf (s.get (Reg.canFormats ch).latched) 5))))) ∧
  (∀ (ch : Nat) (s : State), ch < 16 → s.busOn = true → s.canState ch = 2 → s.get (Reg.canRecovering ch) = 1 →
    exec (.canBusoffRecovery ch) s = .next ((s.canCounts ch 0 0).set (Reg.canRecovering ch) 0)) ∧
  (∀ (ctx : Ctx) (ch : Nat) (s : State), s.admits ctx (0x2C10 + ch) 0x0C false = true → ch < 16 → s.canState ch = 2 →
    exec (.canRecover ctx ch 1) s = .next ((s.set (Reg.canRecovering ch) 1).done ctx)) ∧
  (∀ (ctx : Ctx) (ch : Nat) (s : State), s.admits ctx (0x2C10 + ch) 1 false = true → ch < 16 → s.get (Reg.canEnable ch) = 0 →
    exec (.canEnable ctx ch 1) s =
    .next ((((([Reg.canFormats ch, Reg.canNominalRate ch, Reg.canDataRate ch, Reg.canXlDataRate ch, Reg.canSamplePoints ch, Reg.canTransceiver ch].foldl (fun s r => s.set r.latched (s.get r)) (s.set (Reg.canEnable ch) 1)).sets [(Reg.canStatus ch, 4 + flag (bitOf (s.get (Reg.canFormats ch)) 4) * 8), (Reg.canErrorCounters ch, 0), (Reg.canRecovering ch, 0)])).changed).done ctx)) ∧
  (∀ (ch : Nat) (transmitter : Bool) (severe : Bool) (s : State), s.canOn ch = true → s.get (Reg.canEnable ch) = 1 → ∃ tec rec,
    exec (.canError ch transmitter severe) s =
    .next (((({ s with canQueue := s.canQueue.map (fun e => if e.ch = ch then { e with inTx := false } else e) } : State).count (Reg.canErrors ch)).canCounts ch tec rec)) ∧
    tec = (if transmitter then min (s.canTec ch + 8) 0xFFFF else s.canTec ch) ∧
    rec = (if transmitter then s.canRec ch else min (s.canRec ch + (if severe then 8 else 1)) 0xFFFF))

/-- LIN channels, cyclic entries, ACF frames and gateway keys complete (R394, R395, R406, R407, R408, R416, R417, R418). -/
def Obligations.LinAndCyclicCommandsComplete : Prop :=
  (∀ (l : Nat) (id : Nat) (data : List Byte) (e : LinEnd) (s : State) (stamp : List Nat) (t : State), s.linOn l = true →
    e.check = s.linChecksum l (id % 64) (data.take 8) → ((s.count (Reg.linRxMessages l)).linNext l).busStamp e.age = (stamp, t) →
    t.routing = true → exec (.linResponseReceive l id data e) s =
    .next (t.route (16 + l) 0 0 { fmt := 3, id := id % 64, data := data.take 8 } stamp)) ∧
  (∀ (l : Nat) (id : Nat) (s : State) (e : Nat) (d : List Byte) (b : List Byte) (t : State), s.linOn l = true → s.linMaster l = false →
    s.routing = true →
    (List.range 128).find? (fun e => s.get (Reg.cycTarget e) = 16 + l && bitOf (s.get (Reg.cycParams e)) 30 && field (s.get (Reg.cycKey e)) 37 32 = id) = some e →
    s.cycTurn e = .send d → s.cycSeal e d = (some b, t) → exec (.linHeaderReceive l id) s =
    .next (((t.setBlob (Reg.linResp l) b).count (Reg.linTxMessages l)).count (Reg.cycSent e))) ∧
  (∀ (l : Nat) (s : State), s.linOn l = true → s.linQueue.any (fun e => e.l = l && e.sent) = true → exec (.linResponseTimeout l) s =
    .next ((s.count (Reg.linNoResponse l)).linNext l)) ∧
  (∀ (ctx : Ctx) (l : Nat) (s : State), s.admits ctx (0x2C20 + l) 6 false = true → l < 8 → exec (.linSendWake ctx l 1) s =
    .next ((s.set (Reg.linWakeUntil l) (s.now + ms)).done ctx)) ∧
  (∀ (e : Nat) (s : State) (d : List Byte) (b : List Byte) (t : State) (u : State), s.cycDue e = true →
    (List.range 128).any (fun a => s.cycAhead a e) = false → t = s.set (Reg.cycSeen e) (s.timeNs (s.get (Reg.cycDomain e)) + 1) →
    t.cycTurn e = .send d → t.cycSeal e d = (some b, u) → exec (.cyclicRelease e) s = .next (u.cycQueue e b)) ∧
  (∀ (ctx : Ctx) (e : Nat) (data : List Byte) (s : State), s.admits ctx (0x2C80 + e) 7 false = true → e < 128 → data.length = 2048 →
    (s.claimAccepts ctx (s.get (Reg.cycGroup e)) || (s.get (Reg.cgState (s.get (Reg.cycGroup e))) = 4 && (clusterOf ctx).isSome)) = true →
    exec (.cycDataWrite ctx e data) s = .next (((s.cycUpdate e (s.cycWritten e data)).changed).done ctx)) ∧
  (∀ (s : State) (e : Entry) (b : List Byte), s.forwarding = true → s.get Reg.gwInboundQueue ≠ 0xFF → s.get Reg.chmState ≠ 2 →
    s.get Reg.chmState ≠ 3 → s.hostHead (s.get Reg.gwInboundQueue) = some (e, b) → exec .acfUnpack s = .next ((s.takeHost e).acfTake b)) ∧
  (∀ (stream : Nat) (s : State) (p : AcfPack), s.acfPacks.find? (fun p => p.stream == stream) = some p →
    p.since + s.get (Reg.acfMaxWait stream) * 1000 ≤ s.now → s.running = true → exec (.acfMaxWaitExpire stream) s =
    .next (s.acfSend stream)) ∧
  (∀ (ctx : Ctx) (k : Nat) (value : Nat) (s : State), s.admits ctx 0x2C00 (0x10 + k) false = true → k < 16 → value < 2 ^ 16 →
    s.running = true → s.get Reg.vltState ≠ 2 → s.get Reg.vltState ≠ 3 → exec (.gwKeyLoad ctx k value) s =
    .next (((({ (s.set (Reg.gwKeySlot k) value).set (Reg.gwKeyOutcome k) outBusy with vaultWaiting := s.vaultWaiting ++ [.gwKey k value] } : State).changed)).done ctx))

/-- The inlet measures and its contactor drivers act (R422, R423, R424, R425, R426, R427, R428, R429, R431, R435). -/
def Obligations.InletCommandsComplete : Prop :=
  (∀ (level : Int) (count : Nat) (s : State) (n : Nat), s.inletOn = true → n = pilotClass level (bitOf (s.get Reg.cpStatus) 0) →
    3000 ≤ count → n ≠ s.get Reg.cpState → pilotHeld (s.get Reg.cpState) level (bitOf (s.get Reg.cpStatus) 0) = false →
    exec (.cpStateChange level count) s = .next (((s.set Reg.cpState n).pulse 0x11 0).cdSettle)) ∧
  (∀ (ohms : Nat) (s : State), s.running = true → s.fuses.variant.hasInlet = true → exec (.ppMeasure ohms) s =
    .next (s.set Reg.ppOhms (if 10000 < ohms then 0xFFFF else ohms))) ∧
  (∀ (ohms : Nat) (env : StartEnv) (s : State), exec (.proximityPoll ohms env) s = .next (s.wakeFire [.proximity ohms] env)) ∧
  (∀ (f : Nat) (d : Nat) (neg : Int) (s : State), s.inletOn = true → 950 ≤ f → f ≤ 1050 → -10500 < neg → ∃ t,
    exec (.cpPeriodMeasure true f d neg) s = .next t ∧ t.get Reg.cpFrequency = f ∧ t.get Reg.cpDuty = min d 2000 ∧
    t.get Reg.cpStatus = setBit (setBit (setBit (s.get Reg.cpStatus) 0 true) 1 false) 2 true) ∧
  (∀ (t : Nat) (s : State), t < 4 → s.inletOn = true → exec (.inletTempSample t none) s =
    .next ((s.set (Reg.tinTemp t) (ofSigned 16 (-32768))).set (Reg.tinTripped t) 0)) ∧
  (∀ (t : Nat) (o : Nat) (s : State) (v : Int) (u : State), t < 4 → s.inletOn = true → o ≠ 0 → s.get (Reg.tinNominal t) ≠ 0 →
    s.get (Reg.tinBeta t) ≠ 0 → v = betaTemp o (s.get (Reg.tinNominal t)) (s.get (Reg.tinBeta t)) →
    u = (s.set (Reg.tinTemp t) (ofSigned 16 v)).set (Reg.tinTripped t) (flag (toSigned 16 (s.get (Reg.tinTripLimit t)) ≤ v)) →
    exec (.inletTempSample t (some o)) s = .next (if toSigned 16 (s.get (Reg.tinTripLimit t)) ≤ v ∧
    s.get (Reg.tinTripped t) = 0 then (let w := (u.reportObj 11 13 (0x2D04 + t) 0x03 t).pulse 0x12 t; if w.get (Reg.tinTripOpen t) = 1 then [0, 1, 2, 3].foldl (fun w k => if w.get (Reg.cdRole k) = 1 then w.cdOpen k else w) w else w) else u)) ∧
  (∀ (t : Nat) (o : Nat) (s : State) (v : Int) (u : State), t < 4 → s.inletOn = true →
    o = 0 ∨ s.get (Reg.tinNominal t) = 0 ∨ s.get (Reg.tinBeta t) = 0 → v = toSigned 16 (s.draw 16).1 →
    u = ((s.draw 16).2.set (Reg.tinTemp t) (ofSigned 16 v)).set (Reg.tinTripped t) (flag (toSigned 16 (s.get (Reg.tinTripLimit t)) ≤ v)) →
    exec (.inletTempSample t (some o)) s = .next (if toSigned 16 (s.get (Reg.tinTripLimit t)) ≤ v ∧
    s.get (Reg.tinTripped t) = 0 then (let w := (u.reportObj 11 13 (0x2D04 + t) 0x03 t).pulse 0x12 t; if w.get (Reg.tinTripOpen t) = 1 then [0, 1, 2, 3].foldl (fun w k => if w.get (Reg.cdRole k) = 1 then w.cdOpen k else w) w else w) else u)) ∧
  (∀ (ctx : Ctx) (value : Nat) (s : State), s.admits ctx 0x2D00 5 false = true → value ≤ 1 → s.fuses.variant.hasInlet = true →
    s.claimAccepts ctx (s.get (Reg.outGroup 20)) = true → exec (.cpS2Write ctx value) s =
    .next (((State.twinChange s ((s.set Reg.cpS2 value).outputWrite 20 value)).changed).done ctx)) ∧
  (∀ (ctx : Ctx) (k : Nat) (value : Nat) (s : State), s.admits ctx (0x2D10 + k) 1 false = true → k < 4 → value ≤ 1 →
    s.fuses.variant.hasInlet = true → s.claimAccepts ctx (s.get (Reg.outGroup (16 + k))) = true → exec (.cdCommand ctx k value) s =
    .next (((State.twinChange s ((s.set (Reg.cdCommand k) value).outputWrite (16 + k) value)).changed).done ctx)) ∧
  (∀ (k : Nat) (s : State), k < 4 → s.get (Reg.cdState k) = 2 → s.get (Reg.cdOpenAt k) ≤ s.now → exec (.rampWaitExpire k) s =
    .next (State.twinChange s ((s.cdOpenNow k).count (Reg.cdForcedOpens k) 32))) ∧
  (∀ (k : Nat) (current : Nat) (s : State), k < 4 → s.get (Reg.cdState k) = 1 ∨ s.get (Reg.cdState k) = 2 → 600 < current →
    exec (.cdOvercurrent k current) s =
    .next (State.twinChange s (((s.cdOpenNow k).sets [(Reg.cdState k, 3), (Reg.cdFaults k, 2)]).reportObj 11 13 (0x2D10 + k) 0x06 k))) ∧
  (∀ (k : Nat) (current : Nat) (micros : Nat) (s : State), k < 4 → s.get (Reg.cdState k) = 1 → current < 8 → 10000 ≤ micros →
    exec (.cdOpenLoad k current micros) s = .next (s.set (Reg.cdFaults k) (setBit (s.get (Reg.cdFaults k)) 0 true))) ∧
  (∀ (ctx : Ctx) (k : Nat) (s : State), s.admits ctx (0x2D10 + k) 8 false = true → k < 4 → s.fuses.variant.hasInlet = true →
    s.get (Reg.cdState k) = 3 → exec (.cdClearFault ctx k 1) s =
    .next (((s.set (Reg.cdFaults k) (setBit (s.get (Reg.cdFaults k)) 1 false)).set (Reg.cdState k) 0).done ctx)) ∧
  (∀ (ch : Nat) (m : BusHeard) (s : State) (stamp : List Nat) (t : State), s.canTakes ch m.msg = true → s.isSample ch m.msg = true →
    s.busStamp m.age = (stamp, t) → exec (.totaliserSample ch m) s = .next (t.sampleMessage m.msg stamp))

/-- The metering seal opens sessions, countersigns, closes and exports (R438, R439, R441, R446, R448). -/
def Obligations.SealCommandsComplete : Prop :=
  (∀ (ctx : Ctx) (s : State), s.admits ctx 0x2D30 1 false = true → s.fuses.variant.hasInlet = true →
    s.get (Reg.msOutcome.of ctx) ≠ outBusy → firstAbort (s.sessionChecks ctx 1) = none → s.get Reg.vltState ≠ 2 →
    s.get Reg.drbgStopped ≠ 1 → ∃ (t : State) (x : Session), exec (.sessionOpen ctx) s = .next (t.done ctx) ∧
    t.sessions = s.sessions ++ [x] ∧ x.number = (s.get Reg.msSessionNumber + 1) % 2 ^ 32 ∧ x.slot = s.get (Reg.msContractSlot.of ctx) ∧
    x.openReading = s.get (Reg.msPostReadingWh.of ctx) ∧ t.get Reg.msSessionNumber = x.number ∧ t.get Reg.msSessionState = 1 ∧
    t.get (Reg.msOutcome.of ctx) = outDone) ∧
  (∀ (ctx : Ctx) (s : State) (x : Session), s.admits ctx 0x2D30 1 false = true → s.fuses.variant.hasInlet = true →
    s.get (Reg.msOutcome.of ctx) ≠ outBusy → firstAbort (s.sessionChecks ctx 2) = none → s.get Reg.vltState ≠ 2 →
    s.get Reg.drbgStopped ≠ 1 → s.session = some x → s.get Reg.vltState ≠ 3 → ∃ (t : State) (j : SealJob), exec (.countersign ctx) s =
    .next (t.done ctx) ∧ t.vaultWaiting = s.vaultWaiting ++ [.countersign j] ∧ j.ctx = ctx ∧ j.session = x.number ∧
    j.slot = 1016 + s.get (Reg.msContractSlot.of ctx) ∧ j.reading = s.get (Reg.msPostReadingWh.of ctx) ∧
    t.get (Reg.msOutcome.of ctx) = outBusy) ∧
  (∀ (s : State) (j : SealJob) (k : VaultSlot) (t : State) (u : State) (sig : List Byte) (v : State),
    s.vaultRunning = some (.countersign j) → s.countersignStop = none →
    t = s.sealWrite { seq := 0, kind := 3, session := j.session, flags := j.flags, reading := j.reading, postTime := j.postTime, bytes := [] } j.time j.qualifier j.payload →
    u = { t with sessions := t.sessions.map (fun y => if y.number = j.session then { y with readings := y.readings + 1 } else y) } →
    u.keyAt j.slot = some k → k.alg = 0x13 → sig = padTo 114 (Config.sign 0x13 k.key j.input []) →
    v = (u.setBlob (Reg.msCountersignature.of j.ctx) (padTo 132 sig)).set (Reg.msCountersigLength.of j.ctx) sig.length →
    exec (.countersignDone 0) s = .next (((v.vaultFinish (.countersign j) outDone).vaultIdle).pulse 0x13 0)) ∧
  (∀ (fails : Nat) (s : State) (j : SealJob) (code : Nat), s.vaultRunning = some (.countersign j) → s.countersignStop = some code →
    exec (.countersignDone fails) s = .next ((s.vaultFinish (.countersign j) code).vaultIdle)) ∧
  (∀ (ctx : Ctx) (s : State), s.admits ctx 0x2D30 1 false = true → s.fuses.variant.hasInlet = true →
    s.get (Reg.msOutcome.of ctx) ≠ outBusy → firstAbort (s.sessionChecks ctx 3) = none → s.get Reg.vltState ≠ 2 →
    s.get Reg.drbgStopped ≠ 1 → exec (.sessionClose ctx) s =
    .next (((s.closeSession (s.get (Reg.msCloseReason.of ctx)) (s.get (Reg.msPostReadingWh.of ctx)) (s.get (Reg.msPostTime.of ctx))).set (Reg.msOutcome.of ctx) outDone).done ctx)) ∧
  (∀ (ctx : Ctx) (s : State), s.admits ctx 0x2D40 3 false = true → s.fuses.variant.hasInlet = true → s.mode = .trim →
    s.get Reg.msSealState = 0 → s.get Reg.msConfirm = s.fuses.serial % 2 ^ 32 → s.sealGone = false → s.get Reg.vltState ≠ 2 →
    s.get Reg.vltState ≠ 3 → exec (.sealClose ctx 1) s =
    .next (({ (s.set Reg.msSealState 1).set (Reg.msOutcome.of ctx) outBusy with vaultWaiting := s.vaultWaiting ++ [.sealClose ctx] } : State).done ctx)) ∧
  (∀ (s : State) (ctx : Ctx) (key : List Byte) (t : State) (u : State) (v : State), s.vaultRunning = some (.sealClose ctx) →
    s.get Reg.drbgStopped ≠ 1 → s.newKey 0x11 = (key, t) →
    u = (t.placeKey { slot := 14, cls := 6, alg := 0x11, policy := 0x4080, generated := true, key := key, pub := publicOf 0x11 key }).sets [(Reg.msSealState, 2),
    (Reg.msEventCounter, 1)] →
    v = u.sealAppend { seq := 0, kind := 1, bytes := [] } (u.sealPublic ++ beBytes 2 u.fuses.variant.partCode ++ beBytes 4 (u.fuses.serial % 2 ^ 32)) →
    exec .sealCloseDone s = .next ((v.vaultFinish (.sealClose ctx) outDone).vaultIdle)) ∧
  (∀ (ctx : Ctx) (value : Nat) (s : State), s.admits ctx 0x2D50 5 false = true → s.fuses.variant.hasInlet = true →
    value ≤ s.get Reg.msNextSequence → value < 2 ^ 32 → exec (.msAcknowledge ctx value) s =
    .next ((s.set Reg.msAcked (max value (s.get Reg.msAcked))).done ctx)) ∧
  (∀ (ctx : Ctx) (value : Nat) (s : State), s.admits ctx 0x2D50 8 false = true → s.fuses.variant.hasInlet = true →
    s.get Reg.msExportOutcome ≠ outBusy → value < 2 ^ 32 → s.sealGone = false →
    s.sealRecords.any (fun r => r.kind = 2 && r.session = value) = true → exec (.msExport ctx value) s =
    .next ((s.sets [(Reg.msExportOutcome, outBusy), (Reg.msExportSession, value)]).done ctx)) ∧
  (∀ (s : State) (k : VaultSlot) (t : State) (n : List Byte), s.get Reg.msExportOutcome = outBusy → s.running = true →
    s.sealKey = some k → s.random 48 = (n, t) → ∃ b u, exec .exportDone s = .next u ∧
    u = (t.setBlob Reg.msExport b).sets [(Reg.msExportOutcome, outDone), (Reg.msExportLength, b.length)] ∧ b.length ≤ 16384)

/-- The supply samples, throttles, sleeps and wakes (R452, R453, R454, R474, R476, R516). -/
def Obligations.SupplyEventsComplete : Prop :=
  (∀ (mv : Nat) (s : State) (m : Nat), s.starting = false → s.mode ≠ .dormant → m = s.vbatMean mv → m ≤ 42500 → ∃ t,
    exec (.vbatSample mv) s = .next t ∧ t.get Reg.supVbat = m ∧ t.get Reg.supVbatMin = min m (s.get Reg.supVbatMin) ∧
    t.get Reg.supVbatMax = max m (s.get Reg.supVbatMax) ∧ t.get (Reg.vbatSample 0) = mv ∧
    t.get Reg.crankSince = since s (m < 4200) (s.get Reg.crankSince)) ∧
  (∀ (s : State), s.running = true → s.held Reg.ovSince (350 * ms) = true → exec .overvoltageEntry s = .next (s.crankInto 5 2)) ∧
  (∀ (env : StartEnv) (s : State), s.starting = false → s.mode = .ember → s.get Reg.crankEntry = 2 →
    s.held Reg.ovClearSince (10 * ms) = true → exec (.overvoltageRecovery env) s = .next (s.wake 8 0 env)) ∧
  (∀ (items : Nat) (s : State), s.running = true → s.held Reg.crankSince (20 * us) = true → exec (.crankEntry items) s =
    .next (((s.count Reg.supCrankEntries 32).reportObj 5 11 0x2120 0x06).crankInto (min items 5) 1)) ∧
  (∀ (env : StartEnv) (s : State), s.starting = false → s.mode = .ember → s.get Reg.crankEntry = 1 →
    s.held Reg.crankClearSince ms = true → exec (.crankRecovery env) s = .next (s.wake 7 0 env)) ∧
  (∀ (s : State), s.running = true → 4 < s.get Reg.thrStep → s.held (Reg.thrDownSince (s.get Reg.thrStep - 1)) (200 * us) = true →
    s.get Reg.thrChangedAt + 200 * us ≤ s.now → exec .throttleStepDown s = .next (s.vbatStep (s.get Reg.thrStep - 1))) ∧
  (∀ (s : State), s.running = true → s.get Reg.thrStep < 8 → s.held (Reg.thrUpSince (s.get Reg.thrStep + 1)) (5 * ms) = true →
    exec .throttleStepUp s = .next (s.vbatStep (s.get Reg.thrStep + 1))) ∧
  (∀ (levels : List Nat) (s : State) (k : Nat), s.running = true → k < 16 →
    levels.getD k s.fuses.coreSetpoint + s.get Reg.thrDroopMargin.latched < s.fuses.coreSetpoint → ∃ sites, (∀ j, j < 16 →
    (bitOf sites j = true ↔ levels.getD j s.fuses.coreSetpoint + s.get Reg.thrDroopMargin.latched < s.fuses.coreSetpoint)) ∧
    exec (.droopDetect levels) s = .next ((s.count Reg.thrDroopEvents).set Reg.thrDroopSites (s.get Reg.thrDroopSites ||| sites))) ∧
  (∀ (s : State), s.running = true → 4500 ≤ s.get Reg.supVbat → exec (.supplyFault 0) s =
    .next (((s.reportObj 5 11 0x2120 0x05 0).crankInto 5 3).sets [(Reg.vpreFaultAt, ((s.reportObj 5 11 0x2120 0x05 0).crankInto 5 3).now), (Reg.vpreFails, 0)])) ∧
  (∀ (env : StartEnv) (s : State), s.starting = false → s.mode = .ember → s.get Reg.crankEntry = 3 → s.get Reg.vpreFails < 3 →
    s.get Reg.vpreFaultAt + 10 * ms ≤ s.now → exec (.vpreRetry false env) s = .next (s.wake 7 0 env))

/-- Mode requests start a transition, transitions end, and sleep ends by its limit or a wake (R458, R459, R461, R462, R466, R469, R471, R472). -/
def Obligations.ModeRequestsAndWakesComplete : Prop :=
  (∀ (ctx : Ctx) (pins : Nat) (s : State), s.admits ctx 0x2100 2 true = true → s.get Reg.pwrOutcome ≠ outBusy → s.mode.code ≠ 0 →
    s.requestRefusal 0 pins = none → exec (.pwrRequestDormant ctx pins) s =
    .next (((s.sets [(Reg.pwrOutcome, outBusy), (Reg.pwrTarget, 1), (Reg.pwrAskedAt, s.now + 1)]).sendTwin 3).done ctx)) ∧
  (∀ (ctx : Ctx) (pins : Nat) (s : State), s.admits ctx 0x2100 2 true = true → s.get Reg.pwrOutcome ≠ outBusy → s.mode.code ≠ 1 →
    s.requestRefusal 1 pins = none → exec (.pwrRequestEmber ctx pins) s =
    .next (((s.sets [(Reg.pwrOutcome, outBusy), (Reg.pwrTarget, 2), (Reg.pwrAskedAt, s.now + 1)]).outputsLose).done ctx)) ∧
  (∀ (ctx : Ctx) (s : State), s.admits ctx 0x2100 2 true = true → s.get Reg.pwrOutcome ≠ outBusy → s.mode.code ≠ 2 →
    s.requestRefusal 2 0 = none → exec (.pwrRequestGlow ctx) s =
    .next ((s.sets [(Reg.pwrOutcome, outBusy), (Reg.pwrTarget, 3), (Reg.pwrAskedAt, s.now + 1)]).done ctx)) ∧
  (∀ (ctx : Ctx) (s : State), s.admits ctx 0x2100 2 true = true → s.get Reg.pwrOutcome ≠ outBusy → s.mode.code ≠ 3 →
    s.requestRefusal 3 0 = none → exec (.pwrRequestFlame ctx) s =
    .next ((s.sets [(Reg.pwrOutcome, outBusy), (Reg.pwrTarget, 4), (Reg.pwrAskedAt, s.now + 1)]).done ctx)) ∧
  (∀ (ctx : Ctx) (s : State), s.admits ctx 0x2100 2 true = true → s.get Reg.pwrOutcome ≠ outBusy → s.mode.code ≠ 4 →
    s.requestRefusal 4 0 = none → exec (.pwrRequestTrim ctx) s =
    .next ((s.sets [(Reg.pwrOutcome, outBusy), (Reg.pwrTarget, 5), (Reg.pwrAskedAt, s.now + 1)]).done ctx)) ∧
  (∀ (env : StartEnv) (s : State) (m : Mode), s.running = true → 2 < s.get Reg.pwrTarget → m = Mode.ofCode (s.get Reg.pwrTarget - 1) →
    exec (.modeTransitionDone env) s = .next (((s.set Reg.pwrOutcome outDone).set Reg.pwrTarget 0).switchMode m)) ∧
  (∀ (s : State), s.starting = false → s.mode = .ember → s.get Reg.pwrEmberLimit ≠ 0 →
    s.held Reg.savedAt (s.get Reg.pwrEmberLimit * sec) = true → exec .emberLimitExpire s =
    .next (((s.allSafe).sets [(Reg.retSram, 0), (Reg.crankEntry, 0)]).enterMode .dormant)) ∧
  (∀ (env : StartEnv) (s : State), s.starting = false → s.mode = .ember → s.get Reg.wkAlarmAfter ≠ 0 →
    s.held Reg.savedAt (s.get Reg.wkAlarmAfter * sec) = true → exec (.wakeAlarmExpire env) s = .next (s.wake 6 0 env)) ∧
  (∀ (sources : List WakeSource) (env : StartEnv) (s : State) (src : Nat) (info : Nat), s.starting = false → s.mode = .ember →
    s.running = false → lowestSource ((sources.filter (s.wakeEnabled true)).map wakeCode) = some (src, info) → src ≤ 3 →
    exec (.wakeEvent sources env) s = .next (s.wake src info env)) ∧
  (∀ (ctx : Ctx) (s : State), s.admits ctx 0x2140 1 false = true → s.get Reg.cfgOutcome ≠ outBusy → s.running = true →
    exec (.cfgSave ctx 1) s =
    .next ((({ s with images := s.images.filter (fun i => i.slot ≠ s.olderSlot), saving := some (s.imageNow s.olderSlot ((s.images.map (·.seq)).foldl max 0 + 1) s.configFormat) } : State).sets [(Reg.cfgOutcome, outBusy), (Reg.cfgSaving, 1)]).done ctx)) ∧
  (∀ (s : State) (img : CfgImage), s.saving = some img → s.running = true → img.bytes ≤ 3355440 → img.critBytes ≤ 98240 →
    exec .cfgSaveDone s = .next (({ s with images := s.images ++ [img] } : State).endSave outDone)) ∧
  (∀ (s : State) (img : CfgImage), s.streaming = some img → s.running = true → exec (.cfgRemainderApplied []) s =
    .next ((((({ (s.streamed [] img).1 with streaming := none } : State).applySection false (s.streamed [] img).2).settle').set Reg.cfgLoadState 0)))

/-- Starts and resets of the device, of a cluster and of Pilot complete (R512, R514, R515, R517, R518, R523). -/
def Obligations.StartsAndResetsComplete : Prop :=
  (∀ (env : StartEnv) (s : State), s.starting = true → (List.range 16).all (fun g => s.get (Reg.cgState g) ≠ 5) = true →
    exec (.start env) s = .next (s.startRun (s.get Reg.rstReach) (s.startMode env.badImages) env)) ∧
  (∀ (s : State), s.starting = false → s.mode = .snuffed → s.get Reg.rstSnuffRestart ≠ 0 →
    s.get Reg.rstSnuffAutoCount < s.get Reg.rstSnuffAutoLimit → s.held Reg.snuffAt (s.get Reg.rstSnuffRestart * ms) = true →
    exec .snuffRestartExpire s = .next ((s.count Reg.rstSnuffAutoCount 8).assertReset 4)) ∧
  (∀ (s : State), s.running = true → s.held Reg.snuffCleanSince (600 * sec) = true → exec .snuffCountClear s =
    .next (s.set Reg.rstSnuffAutoCount 0)) ∧
  (∀ (s : State), exec .powerOnReset s = .next (s.assertReset 1)) ∧
  (∀ (micros : Nat) (s : State), 10 ≤ micros → exec (.externalReset micros) s = .next (s.assertReset 2)) ∧
  (∀ (s : State), exec .debugReset s = .next (s.assertReset 5)) ∧
  (∀ (ctx : Ctx) (s : State), s.admits ctx 0x3180 2 true = true → s.get Reg.rstOutcome ≠ outBusy →
    s.get Reg.rstConfirm = s.fuses.serial % 2 ^ 32 → exec (.rstDevice ctx) s =
    .next ((((s.set Reg.rstConfirm 0).set Reg.rstOutcome outDone).assertReset 3).done ctx)) ∧
  (∀ (ctx : Ctx) (s : State), s.admits ctx 0x3180 2 true = true → s.get Reg.rstOutcome ≠ outBusy →
    s.get Reg.rstConfirm = s.fuses.serial % 2 ^ 32 → s.mode = .snuffed → exec (.rstSnuff ctx) s =
    .next ((((s.set Reg.rstConfirm 0).set Reg.rstOutcome outDone).assertReset 4).done ctx)) ∧
  (∀ (ctx : Ctx) (s : State), s.admits ctx 0x3180 2 true = true → s.get Reg.rstOutcome ≠ outBusy → s.mode ≠ .snuffed →
    s.alive 0 = false → exec (.rstRestartA ctx) s =
    .next (((((s.set Reg.rstConfirm 0).sets [(Reg.rstOutcome, outBusy), (Reg.rstRestarting, 1)]).restartCluster 0)).done ctx)) ∧
  (∀ (ctx : Ctx) (s : State), s.admits ctx 0x3180 2 true = true → s.get Reg.rstOutcome ≠ outBusy → s.mode ≠ .snuffed →
    s.alive 1 = false → exec (.rstRestartB ctx) s =
    .next (((((s.set Reg.rstConfirm 0).sets [(Reg.rstOutcome, outBusy), (Reg.rstRestarting, 2)]).restartCluster 1)).done ctx)) ∧
  (∀ (c : Nat) (s : State), s.running = true → c < 2 → s.get (Reg.clusterRestart c) ≠ 0 → s.get Reg.rstRestarting = c + 1 →
    exec (.clusterRestartDone c true) s =
    .next ((s.sets [(Reg.clusterRestart c, 0), (Reg.clusterTest c, 0)]).sets [(Reg.rstRestarting, 0), (Reg.rstOutcome, outDone)])) ∧
  (∀ (s : State), s.running = true → exec .pilotWatchdog s = .next ((s.restartPilot).reportObj 12 10 0x3180 0x0B))

/-- Heartbeats, claims, outputs and twin frames take effect (R484, R485, R488, R493, R496, R497, R498). -/
def Obligations.ClaimsAndTwinComplete : Prop :=
  (∀ (ctx : Ctx) (value : Nat) (s : State) (c : Nat), s.admits ctx 0x2E00 1 true = true → clusterOf ctx = some c → value < 2 ^ 32 →
    s.get (Reg.clusterRestart c) = 0 → s.get Reg.pwrTarget ≠ 2 → s.get Reg.chmState = 1 → s.get (Reg.hbState c) = 1 →
    exec (.hbBeat ctx value true false) s = .next ((s.set (Reg.hbMailAt c) (s.now + 1)).done ctx)) ∧
  (∀ (c : Nat) (s : State), c < 2 → s.running = true → s.alive c = true →
    monitorOver s.now (max (s.get (Reg.hbMailAt c)) (s.get (Reg.hbPilotAt c))) (100 * us) (40 * us) = true →
    exec (.heartbeatTimeout c) s =
    .next (State.twinChange s (((((s.clusterLeaves c 2).count Reg.hbLosses 32).pulse 0x09 c).reportObj 7 (7 + c) 0x2E00 (2 + c) c).decideOwners true))) ∧
  (∀ (ctx : Ctx) (g : Nat) (value : Nat) (s : State) (c : Nat), s.admits ctx (0x2E10 + g) 3 true = true → g < 16 →
    clusterOf ctx = some c → value < 256 → exec (.cgClaim ctx g value) s =
    .next (((State.twinChange s ((if s.alive c then (s.set ((Reg.cgClaim g).of ctx) value).set (if c = 0 then Reg.cgClaimA g else Reg.cgClaimB g) value else s.set ((Reg.cgClaim g).of ctx) value).decideOwners)).changed).done ctx)) ∧
  (∀ (ctx : Ctx) (o : Nat) (value : Nat) (s : State), s.admits ctx (0x2E40 + o) 1 true = true → o < 16 → value ≤ 1 →
    s.claimAccepts ctx (s.get (Reg.outGroup o)) = true → exec (.outCommand ctx o value) s =
    .next (((State.twinChange s ((s.set (Reg.outCommand o) value).outputWrite o value)).changed).done ctx)) ∧
  (∀ (g : Nat) (s : State), g < 16 → s.mode ≠ .dormant → s.get (Reg.cgState g) = 5 →
    s.get (Reg.cgHoldAt g) + s.get (Reg.cgHoldTime g) * us < s.now → exec (.holdExpire g) s =
    .next (State.twinChange s ((s.groupEnter g 6).count (Reg.cgSafeEntries g) 32))) ∧
  (∀ (s : State), s.claimLink = true → s.get Reg.twSentAt = 0 ∨ s.get Reg.twSentAt - 1 + 250 * us ≤ s.now → s.mode ≠ .snuffed →
    exec .twinFramePeriodic s = .next ((s.set Reg.twSentAt (s.now + 1)).sendTwin 1)) ∧
  (∀ (bytes : List Byte) (s : State) (p : List Byte), s.claimHeard = true → s.twinValid false bytes = some p →
    exec (.twinFrameReceive false bytes) s = .next (State.twinChange s (((s.twinApply false p).decideOwners).twinMarks p))) ∧
  (∀ (s : State), s.claimLink = true → s.get Reg.twState = 2 →
    monitorOver s.now (max (s.get Reg.twLinkAt) (s.get Reg.twStreamAt)) (250 * us) (150 * us) = true → exec .twinTimeout s =
    .next (State.twinChange s (((((s.set Reg.twState 3).pulse 0x0A 0).count Reg.twLosses 32).reportObj 8 14 0x2E08 7).decideOwners true))) ∧
  (∀ (c : Nat) (s : State), c < 2 → s.running = true → s.alive c = true → bitOf (s.get Reg.hbPathFaults) (2 * c) = false →
    monitorOver s.now (s.get (Reg.hbMailAt c)) (100 * us) 0 = true → monitorOver s.now (s.get (Reg.hbPilotAt c)) (100 * us) 0 = false →
    exec (.heartbeatPathFault c false) s =
    .next ((s.set Reg.hbPathFaults (setBit (s.get Reg.hbPathFaults) (2 * c) true)).reportObj 7 (7 + c) 0x2E00 4 (2 * c))) ∧
  (∀ (s : State), s.claimLink = true → s.get Reg.twState = 2 → bitOf (s.get Reg.hbPathFaults) 4 = false →
    monitorOver s.now (s.get Reg.twStreamAt) (250 * us) 0 = true → monitorOver s.now (s.get Reg.twLinkAt) (250 * us) 0 = false →
    exec (.twinPathFault true) s = .next ((s.set Reg.hbPathFaults (setBit (s.get Reg.hbPathFaults) 4 true)).reportObj 8 14 0x2E00 4 4))

/-- Error records are written, copied, acknowledged and reported (R506, R507, R509, R521). -/
def Obligations.ErrorRecordsComplete : Prop :=
  (∀ (s : State) (r : Report) (rest : List Report) (t : State), s.running = true → s.get Reg.errWroteAt = 0 → s.reports = r :: rest →
    s.errLog.length < logRoom → t = ({ s with reports := rest } : State).set Reg.errWroteAt (s.now + 1) → exec .errorRecordWrite s =
    .next ((((({ t with errLog := s.errLog ++ [{ seq := s.get Reg.errNextSequence, report := { r with flags := r.flags ||| (flag (s.mode = .snuffed) * 2) } }] } : State).set Reg.errNextSequence (s.get Reg.errNextSequence + 1)).count (Reg.eclRecorded r.cls) 32).pulse 0x14 0))) ∧
  (∀ (s : State) (r : Record), s.running = true → s.errLog.find? (fun r => s.get Reg.errCopied ≤ r.seq) = some r →
    s.errFlash.length < flashLogRoom → exec .errorLogCopy s =
    .next (({ s with errFlash := s.errFlash ++ [r] } : State).set Reg.errCopied (r.seq + 1))) ∧
  (∀ (ctx : Ctx) (value : Nat) (s : State), s.admits ctx 0x3100 2 true = true → value ≤ s.get Reg.errNextSequence → value < 2 ^ 32 →
    exec (.errAcknowledge ctx value) s = .next ((s.set Reg.errAcked (max value (s.get Reg.errAcked))).done ctx)) ∧
  (∀ (ctx : Ctx) (bytes : List Byte) (s : State), s.admits ctx 0x3100 6 true = true → bytes.length = 16 → exec (.errReport ctx bytes) s =
    .next ((s.reportObj 14 15 0x3100 0x06 0 bytes).done ctx))

/-- Taper sessions and the trial of an image complete (R531, R532, R533, R534, R537, R538, R539). -/
def Obligations.UpdatesComplete : Prop :=
  (∀ (frame : List Byte) (s : State) (h : TaperHead) (t : State), s.taperHead frame = some h → h.type = 1 → s.openRefusal h.a = none →
    t = (s.setIvtas s.target []).sets [(Reg.slotState s.target, 2), (Reg.updTaperState, 1), (Reg.updTaperBytes, 0),
    (Reg.updSession, h.session), (Reg.updPeer, h.peer), (Reg.updLength, h.a), (Reg.updLastFrame, s.now + 1), (Reg.updUnacked, 0),
    (Reg.updOutcome, outBusy)] → exec (.taperOpen frame) s = .next (t.taperAnswer h.peer 1 h.session outBusy)) ∧
  (∀ (frame : List Byte) (s : State) (h : TaperHead), s.taperHead frame = some h → h.type = 2 → s.ofSession h = true →
    s.get Reg.updTaperState = 1 → h.a = s.get Reg.updTaperBytes → h.b % 64 = 0 → h.b ≤ 1408 → h.b ≤ h.data.length →
    h.a + h.b ≤ s.get Reg.updLength → s.get Reg.updUnacked < 15 → exec (.taperData frame) s =
    .next (((s.set Reg.updLastFrame (s.now + 1)).setIvtas s.target (s.ivtas s.target ++ h.data.take h.b)).sets [(Reg.updTaperBytes, h.a + h.b), (Reg.updLastData, s.now + 1), (Reg.updUnacked, s.get Reg.updUnacked + 1)])) ∧
  (∀ (frame : List Byte) (s : State) (h : TaperHead), s.taperHead frame = some h → h.type = 3 → s.ofSession h = true →
    s.get Reg.updTaperState = 1 → s.get Reg.updTaperBytes = s.get Reg.updLength → exec (.taperClose frame) s =
    .next (s.sets [(Reg.updLastFrame, s.now + 1), (Reg.updTaperState, 2), (Reg.updUnacked, 0)])) ∧
  (∀ (s : State) (t : State) (u : State), s.running = true → s.get Reg.updTaperState = 2 → t = s.sets [(Reg.updTaperState, 0),
    (Reg.updVerdictAt, s.now + 1)] →
    u = (t.ivtasVerdict (t.ivtas t.target)).elim (t.sets [(Reg.slotState t.target, 3), (Reg.updStagedVersion, ivtasVersion (t.ivtas t.target)), (Reg.updOutcome, outDone)]) (fun code => (t.sets [(Reg.slotState t.target, 7), (Reg.updOutcome, code)]).reportObj 13 10 0x3000 0x05 code) →
    exec .taperCloseVerdict s = .next (u.taperAnswer (u.get Reg.updPeer) 3 (u.get Reg.updSession) (u.get Reg.updOutcome))) ∧
  (∀ (frame : List Byte) (s : State) (h : TaperHead), s.taperHead frame = some h → h.type = 4 → s.ofSession h = true →
    exec (.taperAbort frame) s = .next ((s.endSession).taperAnswer h.peer 4 h.session ((s.endSession).get Reg.updOutcome))) ∧
  (∀ (frame : List Byte) (s : State) (h : TaperHead), s.taperHead frame = some h → h.type = 5 → s.ofSession h = true →
    exec (.taperStatus frame) s = .next ((s.set Reg.updLastFrame (s.now + 1)).taperAnswer h.peer 5 h.session (s.get Reg.updOutcome))) ∧
  (∀ (s : State), s.running = true → s.get Reg.updTaperState = 1 → s.held Reg.updLastFrame (5 * sec) = true →
    exec .taperSessionTimeout s = .next s.endSession) ∧
  (∀ (s : State), s.running = true → s.get Reg.updTaperState = 1 → 0 < s.get Reg.updUnacked → s.held Reg.updLastData ms = true →
    exec .taperAckTimer s = .next ((s.set Reg.updUnacked 0).taperAnswer (s.get Reg.updPeer) 2 (s.get Reg.updSession) outBusy)) ∧
  (∀ (ctx : Ctx) (s : State), s.admits ctx 0x3000 0x0A true = true → s.trial = true → ivtasRaises s.activeIvtas = false →
    exec (.updConfirm ctx 1) s =
    .next (((s.sets [(Reg.slotState (s.get Reg.updActiveSlot), 4), (Reg.updTrialAt, 0), (Reg.updOutcome, outDone)]).writeSelector).done ctx)) ∧
  (∀ (ctx : Ctx) (s : State) (t : State), s.admits ctx 0x3000 0x0A true = true → s.trial = true → ivtasRaises s.activeIvtas = true →
    t = (s.sets [(Reg.slotState (s.get Reg.updActiveSlot), 4), (Reg.updTrialAt, 0), (Reg.updOutcome, outDone)]).writeSelector →
    t.get Reg.updFloor < ivtasVersion s.activeIvtas → t.get Reg.updFloorStepsLeft ≠ 0 → exec (.updConfirm ctx 1) s =
    .next ((t.sets [(Reg.updFloor, ivtasVersion s.activeIvtas), (Reg.updFloorStepsLeft, t.get Reg.updFloorStepsLeft - 1)]).done ctx)) ∧
  (∀ (s : State) (t : State) (b : Bool) (u : State), s.running = true → s.trial = true →
    s.held Reg.updTrialAt (s.get Reg.updTrialTime * ms + 2000) = true → s.fallBack = (t, b) → u = t.set Reg.updTrialAt 0 →
    exec .trialTimeout s = .next (if b = false then u else if u.alive 0 = false ∧
    u.alive 1 = false then u.assertReset 3 else [0, 1].foldl (fun u c => if u.ownsGroup c then u else u.restartCluster c) u)) ∧
  (∀ (ctx : Ctx) (s : State), s.admits ctx 0x3000 4 true = true → s.updArmed = false → s.get Reg.updTaperState = 0 →
    s.get Reg.updErasing ≠ 1 → exec (.updPrepare ctx 1) s =
    .next ((s.sets [(Reg.updErasing, 1), (Reg.updOutcome, outBusy), (Reg.slotState s.target, 0), (Reg.updStagedVersion, 0)]).done ctx)) ∧
  (∀ (s : State), s.running = true → s.get Reg.updErasing = 1 → exec .prepareDone s =
    .next ((s.setIvtas s.target []).sets [(Reg.updErasing, 0), (Reg.slotState s.target, 1), (Reg.updOutcome, outDone)]))

/-- A step runs the command at the front of the queue. -/
def Obligations.StepRunsTheFrontCommand : Prop :=
  ∀ (c : Instr) (rest : List Instr) (s : State), s.pending = c :: rest → step s = exec c { s with pending := rest }

/-- On an empty queue one 2 ns cycle of the time base passes. -/
def Obligations.EmptyQueueTicks : Prop :=
  ∀ s : State, s.pending = [] → ∃ t, step s = .next t ∧ t.now = s.now + 2000 ∧ t.pending = [] ∧ t.mode = s.mode ∧
    t.get Reg.localCounter = (if s.lanternUp then (s.get Reg.localCounter + 32) % 2 ^ 68 else s.get Reg.localCounter) ∧
    (∀ d, d < 4 → t.get (Reg.domClock d) = if s.lanternUp && s.get (Reg.domEnable d) = 1 then
      (s.get (Reg.domClock d) + ((s.get (Reg.domFrac d) : Int) +
        32 * (2 ^ 40 + toSigned 32 (s.get (Reg.domRateWord d)))).toNat / 2 ^ 40) % 2 ^ 68
      else s.get (Reg.domClock d))

/-- The state after a power-on reset. -/
def Obligations.ResetState : Prop :=
  State.reset.mode = .dormant ∧ State.reset.starting = true ∧ State.reset.pending = [] ∧ State.reset.canonical = true ∧
  (∀ r : Reg, State.reset.get r = r.dflt) ∧ (∀ a : Nat, Mem.get State.reset.mem a = memDflt a) ∧ State.reset.frames = [] ∧ State.reset.vault = []

/-- No word spells a command. -/
def Obligations.NoWordSpellsACommand : Prop :=
  ∀ (n w : Nat) (s : State), decodeTableWord n w = none ∧ s.withFetchWord n w = s

/-- Every command answers a next state. -/
def Obligations.EveryCommandAnswersANextState : Prop :=
  ∀ (c : Instr) (s : State), ∃ t, exec c s = .next t

/-- A step takes the front command from the queue, and time passes on an empty queue alone. -/
def Obligations.StepTakesOnlyTheFrontCommand : Prop :=
  ∀ s t : State, step s = .next t →
    t.pending = s.pending.tail ∧ t.now = s.now + (if s.pending = [] then 2000 else 0)

/-- Dev.UnitPresence is what the fuses say, and no step changes it. -/
def Obligations.UnitPresenceIsFixed : Prop :=
  ∀ (s t : State) (c : Ctx),
    s.dictRead c 0x2000 4 = (if s.linkBars c true then { abort := linkAbort c } else answerNumber (.u 8) s.fuses.variant.unitPresence, s) ∧
    (step s = .next t → t.fuses = s.fuses)

/-- Every step keeps the register file and the memory in canonical form. -/
def Obligations.StepKeepsCanonicalForm : Prop :=
  ∀ s t : State, s.canonical = true → step s = .next t → t.canonical = true

/-- Every command changes its parts of the state alone. -/
def Obligations.EveryCommandKeepsToItsParts : Prop :=
  ∀ (c : Instr) (s t : State) (p : Part), exec c s = .next t → p ∉ c.parts → p.same s t

/-- A command that is one access changes nothing when it is refused. -/
def Obligations.RefusedCommandsChangeNothing : Prop :=
  ∀ (c : Instr) (ctx : Ctx) (s t : State), c.accessPath = some ctx → exec c s = .next t →
    t = s ∨ t.resp.abort = 0 ∨ t = s.refuse ctx t.resp.abort

/-- A refused write changes nothing. -/
def Obligations.RefusedWritesChangeNothing : Prop :=
  ∀ (ctx : Ctx) (index sub : Nat) (d : WriteData) (sameCycle : Bool) (s t : State), index ≠ 0x2D20 → index ≠ 0x2D40 →
    selfCursor index sub = false → exec (.generalWrite ctx index sub d sameCycle) s = .next t →
    t = s ∨ t.resp.abort = 0 ∨ t = s.refuse ctx t.resp.abort

/-- Objects refuse what their access kind does not permit. -/
def Obligations.AccessKindsRefuse : Prop :=
  (∀ (ctx : Ctx) (index sub : Nat) (d : WriteData) (sameCycle : Bool) (s : State) (p : Place), s.answers ctx = true → d ≠ .misaligned →
    selfCursor index sub = false → s.place index sub (s.selectedRow ctx index) = p → (∀ a, p ≠ .missing a) →
    (p.acc = .ro ∨ p.acc = .fixed) → exec (.generalWrite ctx index sub d sameCycle) s = .next (s.refuse ctx 0x06010002)) ∧
  (∀ (ctx : Ctx) (s : State) (index sub off : Nat) (p : Place), s.answers ctx = true → s.cursor ctx = (index, sub, off) →
    selfCursor index sub = false → s.place index sub (s.selectedRow ctx index) = p → (∀ a, p ≠ .missing a) → p.acc = .wo →
    exec (.longDataRead ctx) s = .next (s.refuse ctx 0x06010001)) ∧
  (∀ (ctx : Ctx) (index sub : Nat) (d : WriteData) (sameCycle : Bool) (s : State) (o : Obj) (r : Reg), s.answers ctx = true →
    d ≠ .misaligned → selfCursor index sub = false → s.place index sub (s.selectedRow ctx index) = .object o r →
    (Place.object o r).acc = .rwt → o.acc = .rwt → index ≠ 0x2D20 → index ≠ 0x2D40 →
    s.ownRow ctx r (o.ty.valueOf d) (wholeBytes o.ty d) = none → s.mode ≠ .trim → s.linkBars ctx o.wick = false →
    exec (.generalWrite ctx index sub d sameCycle) s = .next (s.refuse ctx 0x08000022))

/-- An index that the variant does not have refuses every access with 0x06020000. -/
def Obligations.AbsentUnitsRefuseEveryAccess : Prop :=
  ∀ (s : State) (index sub : Nat) (ctx : Ctx), s.hasIndex index = false → ownerAt s.fuses.variant index = none →
    objAt s.fuses.variant index sub = none → s.answers ctx = true →
    (∀ (d : WriteData) (sameCycle : Bool), d ≠ .misaligned → selfCursor index sub = false →
      exec (.generalWrite ctx index sub d sameCycle) s = .next (s.refuse ctx 0x06020000)) ∧
    (selfCursor index sub = false → s.dictRead ctx index sub = ({ abort := 0x06020000 }, s)) ∧
    exec (.commit ctx index) s = .next (s.refuse ctx 0x06020000) ∧ exec (.disarm ctx index) s = .next (s.refuse ctx 0x06020000) ∧
    exec (.discard ctx index) s = .next (s.refuse ctx 0x06020000)

/-- A commit mode that the owner does not accept is refused with 0x06040043. -/
def Obligations.UnacceptedCommitModeIsRefused : Prop :=
  ∀ (ctx : Ctx) (index v : Nat) (d : WriteData) (sameCycle : Bool) (s : State) (o : Owner),
    (d = .store v ∨ d = .bytes [BitVec.ofNat 8 v]) → ownerAt s.fuses.variant index = some o → v ≤ 2 → v ∉ o.modes →
    s.admits ctx index 0xF8 (o.grp = .upd) = true →
    exec (.generalWrite ctx index 0xF8 d sameCycle) s = .next (s.refuse ctx 0x06040043)

/-- A misaligned access is refused with all ones, and its abort latched for its initiator alone. -/
def Obligations.MisalignedAccessIsLatched : Prop :=
  (∀ (ctx : Ctx) (index sub : Nat) (sameCycle : Bool) (s t : State), s.answers ctx = true → index ≠ 0x2D20 → index ≠ 0x2D40 →
    exec (.generalWrite ctx index sub .misaligned sameCycle) s = .next t →
    t.resp.ctx = ctx ∧ t.resp.abort ≠ 0 ∧ t.resp.value = 0xFFFFFFFFFFFFFFFF ∧ (∀ q, q ≠ Reg.devLastAbort.of ctx → t.get q = s.get q)) ∧
  (∀ (ctx : Ctx) (index sub : Nat) (sameCycle : Bool) (s : State) (o : Obj) (r : Reg), s.answers ctx = true →
    selfCursor index sub = false → s.place index sub (s.selectedRow ctx index) = .object o r → o.acc ≠ .ro → o.acc ≠ .fixed →
    (Place.object o r).acc = o.acc → index ≠ 0x2D20 → index ≠ 0x2D40 → s.linkBars ctx o.wick = false → (s.running || o.wick) = true →
    s.stateAllows ctx index o r = true → s.ownRow ctx r (o.ty.valueOf .misaligned) (wholeBytes o.ty .misaligned) = none →
    ∃ t, exec (.generalWrite ctx index sub .misaligned sameCycle) s = .next t ∧
      t.resp = { ctx := ctx, abort := 0x06070010, value := 0xFFFFFFFFFFFFFFFF } ∧
      t.get (Reg.devLastAbort.of ctx) = 0x06070010 ∧ (∀ q, q ≠ Reg.devLastAbort.of ctx → t.get q = s.get q))

/-- Coath answers a repeated request again and keeps the last 32 responses. -/
def Obligations.CoathKeepsItsResponses : Prop :=
  ∀ (s : State) (e : Entry) (b p : List Byte) (c : Instr), s.answers .coath = true → s.hostHead 31 = some (e, b) →
    s.coathPayload b (parseFrame b) = some p →
    (c = .coathRead ∧ (beAt p 1 1 < 2 ∨ 5 < beAt p 1 1) ∨ c = .coathWrite ∧ beAt p 1 1 = 2 ∨ c = .coathCommit ∧ beAt p 1 1 = 3 ∨
      c = .coathBlockRead ∧ beAt p 1 1 = 4 ∨ c = .coathBlockWrite ∧ beAt p 1 1 = 5) →
    (∀ k, s.coathKept.find? (fun k => k.tag = beAt p 4 4 && k.source = beBytes 16 (parseFrame b).srcIp && k.port = (parseFrame b).sport) = some k →
      exec c s = .next (((s.takeHost e).draw 64).2.hostFrame none
        (responseFrame b (parseFrame b) ((s.takeHost e).draw 64).1 k.response))) ∧
    (s.coathKept.find? (fun k => k.tag = beAt p 4 4 && k.source = beBytes 16 (parseFrame b).srcIp && k.port = (parseFrame b).sport) = none →
      ∃ (r : List Byte) (t : State),
        exec c s = .next ((t.draw 64).2.hostFrame none (responseFrame b (parseFrame b) (t.draw 64).1 r)) ∧
        t.coathKept = (s.coathKept ++
          [({ tag := beAt p 4 4, source := beBytes 16 (parseFrame b).srcIp, port := (parseFrame b).sport, response := r } : CoathKept)]).drop
            (s.coathKept.length + 1 - 32))

/-- A segmented SDO transfer is aborted after 1 s, and gives way to a new initiate request. -/
def Obligations.SdoTransferTimesOutOrGivesWay : Prop :=
  (∀ (s : State) (x : SdoTransfer), s.sdo = some x → s.answers .sdo = true →
    (x.since + 1000000000000 ≤ s.now → exec .sdoSegmentTimeout s = .next (s.sdoAbort x.index x.sub 0x05040000)) ∧
    (s.now < x.since + 1000000000000 → exec .sdoSegmentTimeout s = .next s)) ∧
  (∀ (ch : Nat) (m : BusMsg) (s : State), s.canTakes ch m = true → s.sdoRequest ch m = true →
    (sdoCommand m = 1 → exec (.sdoInitiateDownload ch m) s =
      .next (({ (s.canHeard ch).count (Reg.canRxMessages ch) with sdo := none } : State).sdoDownload m.data)) ∧
    (sdoCommand m = 2 → exec (.sdoInitiateUpload ch m) s =
      .next (({ (s.canHeard ch).count (Reg.canRxMessages ch) with sdo := none } : State).sdoUpload m.data)))

/-- Com.ErrorRegister bit 0 follows the retention log and Err.Acknowledge. -/
def Obligations.ErrorRegisterFollowsTheLog : Prop :=
  (∀ (ctx : Ctx) (s : State), s.linkBars ctx true = false →
    (bitOf (s.dictRead ctx 0x1001 0).1.slot 0 = true ↔ ∃ r ∈ s.errLog, s.get Reg.errAcked ≤ r.seq)) ∧
  (∀ (ctx : Ctx) (v : Nat) (s : State), s.admits ctx 0x3100 2 true = true → v < 2 ^ 32 → v ≤ s.get Reg.errNextSequence →
    exec (.errAcknowledge ctx v) s = .next ((s.set Reg.errAcked (max v (s.get Reg.errAcked))).done ctx)) ∧
  (∀ (ctx : Ctx) (v : Nat) (s : State), s.admits ctx 0x3100 2 true = true → v < 2 ^ 32 → s.get Reg.errNextSequence < v →
    exec (.errAcknowledge ctx v) s = .next (s.refuse ctx 0x06090031))

/-- Upd.OwnerKey takes one write, in Trim. -/
def Obligations.OwnerKeyIsWrittenOnce : Prop :=
  ∀ (ctx : Ctx) (b : List Byte) (s : State), s.admits ctx 0x3000 0x0F true = true →
    (s.ownerKey ≠ List.replicate 97 0 → exec (.ownerKeyWrite ctx b) s = .next (s.refuse ctx 0x06010002)) ∧
    (s.ownerKey = List.replicate 97 0 → s.mode ≠ .trim → exec (.ownerKeyWrite ctx b) s = .next (s.refuse ctx 0x08000022)) ∧
    (s.ownerKey = List.replicate 97 0 → s.mode = .trim → b.length < 97 →
      exec (.ownerKeyWrite ctx b) s = .next (s.refuse ctx 0x06070013)) ∧
    (s.ownerKey = List.replicate 97 0 → s.mode = .trim → 97 < b.length →
      exec (.ownerKeyWrite ctx b) s = .next (s.refuse ctx 0x06070012))

/-- A disabled domain disarms its Kindles, and no commit arms in it. -/
def Obligations.DisabledDomainDisarmsItsKindles : Prop :=
  (∀ (ctx : Ctx) (d : Nat) (s : State), s.admits ctx (0x2210 + d) 1 false = true → d < 4 → s.get (Reg.domEnable d) ≠ 0 →
    ∃ t, exec (.domDisable ctx d) s = .next t ∧
      ∀ a ∈ s.armed, a.kindle = true → a.domain = d → (∀ b ∈ t.armed, b.owner ≠ a.owner) ∧
        (∀ index, ownerAt s.fuses.variant index = some a.owner → t.get (Reg.commitOutcome a.owner) = 5)) ∧
  (∀ (ctx : Ctx) (index : Nat) (s : State) (o : Owner), ownerAt s.fuses.variant index = some o →
    s.admits ctx index 0xFB (o.grp = .upd) = true → o.grp ≠ .fv →
    (o.grp = .mm → o.inst % 2 = 0 ∨ s.chainLower (o.inst - 1) = false) → (s.unarm o).commitRefusal o = none →
    s.get (Reg.commitWhen o) = 2 → s.get (Reg.domEnable (s.get (Reg.kindleDomain o))) = 0 →
    exec (.commit ctx index) s = .next (((s.unarm o).ended o 4).done ctx))

/-- A write to a rwp object changes the pending copy alone. -/
def Obligations.PendingWriteLeavesTheActiveCopy : Prop :=
  ∀ (ctx : Ctx) (index sub : Nat) (d : WriteData) (sameCycle : Bool) (s : State) (o : Obj) (r : Reg),
    s.answers ctx = true → d ≠ .misaligned → selfCursor index sub = false →
    s.place index sub (s.selectedRow ctx index) = .object o r → (Place.object o r).acc = .rwp → o.acc = .rwp →
    index ≠ 0x2D20 → index ≠ 0x2D40 → s.linkBars ctx o.wick = false → o.ty.isBytes = false → s.ownRow ctx r (o.ty.valueOf d) (wholeBytes o.ty d) = none →
    (s.running || o.wick) = true → s.stateAllows ctx index o r = true → s.lateAbort o r d = none →
    s.conflict r (o.ty.valueOf d) = false →
    ∃ t, exec (.generalWrite ctx index sub d sameCycle) s = .next t ∧ t.pendGet r = o.ty.valueOf d ∧ t.resp.abort = 0 ∧
      (∀ q, (sameCycle = false ∨ ∀ w ∈ s.ownersOf r, q ≠ Reg.takenLate w) → t.get q = s.get q) ∧
      (sameCycle = true → ∀ w ∈ s.ownersOf r, s.get (Reg.handedAt w) = s.now + 1 → t.get (Reg.takenLate w) = 1)

/-- After a commit in mode 0 the pending copy equals the active copy. -/
def Obligations.HandOverMakesTheCopiesEqual : Prop :=
  (∀ (ctx : Ctx) (index : Nat) (s : State) (o : Owner), ownerAt s.fuses.variant index = some o →
    s.admits ctx index 0xFB (o.grp = .upd) = true →
    (o.grp = .mm → o.inst % 2 = 0 ∨ s.chainLower (o.inst - 1) = false) → (o.grp = .fv → s.fvWindowsOk = true) →
    (s.unarm o).commitRefusal o = none → s.get (Reg.commitWhen o) = 0 →
    ∃ t, exec (.commit ctx index) s = .next t ∧ t.get (Reg.commitOutcome o) = outDone ∧
      (o.grp ≠ .upd → ∀ q, s.owns o q = true → t.pendGet q = t.get q)) ∧
  (∀ (b : Nat) (s : State), s.bankInPause = some b → s.get (Reg.bankFlipped b) = 0 →
    ∃ t, exec (.bankFlip b) s = .next t ∧ ∀ q, s.owns ⟨.mm, b⟩ q = true → t.pendGet q = t.get q)

/-- A vault command changes no occupied slot but for narrowing its policy or emptying it. -/
def Obligations.VaultCommandsOnlyNarrow : Prop :=
  ∀ (s t : State) (k : VaultSlot), exec .vaultCommandDone s = .next t → k ∈ t.vault →
    s.keyAt k.slot = none ∨ ∃ old ∈ s.vault, k = { old with policy := k.policy } ∧ k.policy &&& old.policy = k.policy

/-- A freshness value is used once and never wraps. -/
def Obligations.FreshnessValuesNeverWrap : Prop :=
  ∀ (s : State) (row : Nat) (user key : List Byte), s.gwKeyBytes (s.fvRow row).key = some key → (s.fvRow row).valid = true →
    (s.fvRow row).generates = true →
    (s.get (Reg.fvValue row) = 2 ^ 64 - 1 →
      (s.fvGenerate row user).1 = none ∧ (s.fvGenerate row user).2 = s.count (Reg.fvExhausted row)) ∧
    (s.get (Reg.fvValue row) < 2 ^ 64 - 1 → s.running = true →
      (s.fvGenerate row user).1 = some (user ++ beBytes (s.fvRow row).fBytes (s.get (Reg.fvValue row)) ++
        (s.fvRow row).tag key user (s.get (Reg.fvValue row))) ∧
      (s.fvGenerate row user).2.get (Reg.fvValue row) = s.get (Reg.fvValue row) + 1)

/-- A memory write stores its bytes and no other. -/
def Obligations.MemoryWriteStoresItsBytesAlone : Prop :=
  ∀ (init addr : Nat) (data : List Byte) (tamper : Bool) (s t : State), s.running = true → ¬ (init < 2 ∧ inPlic addr = true) →
    (s.inDram addr data.length = true ∨ addr + data.length ≤ dramBase) →
    exec (.memoryWrite init addr data false tamper) s = .next t →
    (t.bus.fault = false → t.rangeBytes addr data.length = data ∧
      ∀ a, a < addr ∨ addr + data.length ≤ a → t.rangeBytes a 1 = s.rangeBytes a 1) ∧
    (t.bus.fault = true → ∀ a, t.rangeBytes a 1 = s.rangeBytes a 1)

/-- Snuffed is entered on a tag failure or a rail fault, by no other command. -/
def Obligations.SnuffedIsEnteredOnFailuresAlone : Prop :=
  (∀ (rail : Nat) (s : State), s.running = true → 4500 ≤ s.get Reg.supVbat → 1 ≤ rail → rail ≤ 4 →
    ∃ t, exec (.supplyFault rail) s = .next t ∧ t.mode = .snuffed) ∧
  (∀ (init addr len line : Nat) (tamper : Bool) (s : State), s.running = true → ¬ (init < 2 ∧ inPlic addr = true) →
    s.memCheck init addr len false false = none → s.failingLine (linesOf addr len) tamper = some line →
    ∃ t, exec (.memoryRead init addr len false tamper) s = .next t ∧ t.mode = .snuffed) ∧
  (∀ (c : Instr) (s t : State), exec c s = .next t → s.mode ≠ .snuffed → t.mode = .snuffed →
    c.reachesMemory = true ∨ ∃ rail, c = .supplyFault rail ∧ 1 ≤ rail ∧ rail ≤ 4)

/-- In Dormant, in Ember and during a start no path answers, and in Snuffed only the SDO server does. -/
def Obligations.UnansweredAccessesDoNothing : Prop :=
  ∀ (c : Instr) (ctx : Ctx) (s : State),
    (c.accessPath = some ctx ∨ c = .longDataRead ctx ∨ (∃ v, c = .longDataWrite ctx v ∨ c = .sealClose ctx v) ∨
      ∃ index sub d sameCycle, c = .generalWrite ctx index sub d sameCycle) →
    (s.starting = true ∨ s.mode = .dormant ∨ s.mode = .ember ∨ (s.mode = .snuffed ∧ ctx ≠ .sdo)) → exec c s = .next s

/-- The words of the packet extension spell its nine instructions, and every other word of its opcodes is illegal. -/
def Obligations.ExtensionWordsAreRead : Prop :=
  (∀ e pc a b rd rs1 rs2 : Nat, rd < 32 → rs1 < 32 → rs2 < 32 →
    let read := fun (op f3 rd rs1 rs2 : Nat) => packetWord e pc a b (op + rd * 2 ^ 7 + f3 * 2 ^ 12 + rs1 * 2 ^ 15 + rs2 * 2 ^ 20)
    read 0x0B 0 rd 0 0 = some (.spIn e rd) ∧ read 0x0B 1 rd 0 0 = some (.spLeft e rd) ∧ read 0x0B 2 0 0 0 = some (.spDrop e) ∧
    read 0x0B 3 0 rs1 0 = some (.spOut e a) ∧ read 0x0B 4 0 0 0 = some (.spSend e) ∧ read 0x0B 5 0 rs1 0 = some (.spResolve e a) ∧
    read 0x0B 6 rd rs1 rs2 = some (.spCrc e rd a b) ∧ read 0x0B 7 rd rs1 rs2 = some (.spCsum e rd a b) ∧
    read 0x2B 0 rd 0 0 = some (.spTime e rd)) ∧
  (∀ e pc a b w : Nat, w % 2 ^ 7 = 0x0B ∨ w % 2 ^ 7 = 0x2B → w / 2 ^ 25 % 2 ^ 7 ≠ 0 → packetWord e pc a b w = some (.engineFault e 2 pc)) ∧
  (∀ e pc a b w : Nat, w % 2 ^ 7 = 0x2B → w / 2 ^ 12 % 2 ^ 3 ≠ 0 → packetWord e pc a b w = some (.engineFault e 2 pc))
end

