-- ==== Sys2Proof/Laws/State.lean ====
section
/-! SUPPORT. What the updates of the state leave alone: one lemma for each field and each named operation over registers, objects of
bytes, responses and memory. -/
set_option Elab.async false
namespace Sys2Proof.Machine

/-- Several registers set are one change of the register file. -/
theorem State.sets_regs (s : State) (l : List (Reg × Nat)) :
    s.sets l = { s with regs := l.foldl (fun m e => putReg m e.1 e.2) s.regs } := by
  induction l generalizing s with
  | nil => rfl
  | cons e l ih => exact ih (s.set e.1 e.2)

/-! ## `State.set` -/

@[simp] theorem State.set_fuses (s : State) (r : Reg) (v : Nat) : (s.set r v).fuses = s.fuses := rfl
@[simp] theorem State.set_mode (s : State) (r : Reg) (v : Nat) : (s.set r v).mode = s.mode := rfl
@[simp] theorem State.set_starting (s : State) (r : Reg) (v : Nat) : (s.set r v).starting = s.starting := rfl
@[simp] theorem State.set_now (s : State) (r : Reg) (v : Nat) : (s.set r v).now = s.now := rfl
@[simp] theorem State.set_pend (s : State) (r : Reg) (v : Nat) : (s.set r v).pend = s.pend := rfl
@[simp] theorem State.set_blobs (s : State) (r : Reg) (v : Nat) : (s.set r v).blobs = s.blobs := rfl
@[simp] theorem State.set_armed (s : State) (r : Reg) (v : Nat) : (s.set r v).armed = s.armed := rfl
@[simp] theorem State.set_pulses (s : State) (r : Reg) (v : Nat) : (s.set r v).pulses = s.pulses := rfl
@[simp] theorem State.set_reports (s : State) (r : Reg) (v : Nat) : (s.set r v).reports = s.reports := rfl
@[simp] theorem State.set_resp (s : State) (r : Reg) (v : Nat) : (s.set r v).resp = s.resp := rfl
@[simp] theorem State.set_drawn (s : State) (r : Reg) (v : Nat) : (s.set r v).drawn = s.drawn := rfl
@[simp] theorem State.set_frames (s : State) (r : Reg) (v : Nat) : (s.set r v).frames = s.frames := rfl
@[simp] theorem State.set_entries (s : State) (r : Reg) (v : Nat) : (s.set r v).entries = s.entries := rfl
@[simp] theorem State.set_wire (s : State) (r : Reg) (v : Nat) : (s.set r v).wire = s.wire := rfl
@[simp] theorem State.set_prep (s : State) (r : Reg) (v : Nat) : (s.set r v).prep = s.prep := rfl
@[simp] theorem State.set_spec (s : State) (r : Reg) (v : Nat) : (s.set r v).spec = s.spec := rfl
@[simp] theorem State.set_verdicts (s : State) (r : Reg) (v : Nat) : (s.set r v).verdicts = s.verdicts := rfl
@[simp] theorem State.set_records (s : State) (r : Reg) (v : Nat) : (s.set r v).records = s.records := rfl
@[simp] theorem State.set_staging (s : State) (r : Reg) (v : Nat) : (s.set r v).staging = s.staging := rfl
@[simp] theorem State.set_lostCells (s : State) (r : Reg) (v : Nat) : (s.set r v).lostCells = s.lostCells := rfl
@[simp] theorem State.set_egress (s : State) (r : Reg) (v : Nat) : (s.set r v).egress = s.egress := rfl
@[simp] theorem State.set_crossing (s : State) (r : Reg) (v : Nat) : (s.set r v).crossing = s.crossing := rfl
@[simp] theorem State.set_flushes (s : State) (r : Reg) (v : Nat) : (s.set r v).flushes = s.flushes := rfl
@[simp] theorem State.set_slow (s : State) (r : Reg) (v : Nat) : (s.set r v).slow = s.slow := rfl
@[simp] theorem State.set_saEvents (s : State) (r : Reg) (v : Nat) : (s.set r v).saEvents = s.saEvents := rfl
@[simp] theorem State.set_installs (s : State) (r : Reg) (v : Nat) : (s.set r v).installs = s.installs := rfl
@[simp] theorem State.set_vault (s : State) (r : Reg) (v : Nat) : (s.set r v).vault = s.vault := rfl
@[simp] theorem State.set_vaultWaiting (s : State) (r : Reg) (v : Nat) : (s.set r v).vaultWaiting = s.vaultWaiting := rfl
@[simp] theorem State.set_vaultRunning (s : State) (r : Reg) (v : Nat) : (s.set r v).vaultRunning = s.vaultRunning := rfl
@[simp] theorem State.set_crContexts (s : State) (r : Reg) (v : Nat) : (s.set r v).crContexts = s.crContexts := rfl
@[simp] theorem State.set_crJobs (s : State) (r : Reg) (v : Nat) : (s.set r v).crJobs = s.crJobs := rfl
@[simp] theorem State.set_mem (s : State) (r : Reg) (v : Nat) : (s.set r v).mem = s.mem := rfl
@[simp] theorem State.set_flashLines (s : State) (r : Reg) (v : Nat) : (s.set r v).flashLines = s.flashLines := rfl
@[simp] theorem State.set_granules (s : State) (r : Reg) (v : Nat) : (s.set r v).granules = s.granules := rfl
@[simp] theorem State.set_kidKeys (s : State) (r : Reg) (v : Nat) : (s.set r v).kidKeys = s.kidKeys := rfl
@[simp] theorem State.set_gwKeys (s : State) (r : Reg) (v : Nat) : (s.set r v).gwKeys = s.gwKeys := rfl
@[simp] theorem State.set_cache (s : State) (r : Reg) (v : Nat) : (s.set r v).cache = s.cache := rfl
@[simp] theorem State.set_bus (s : State) (r : Reg) (v : Nat) : (s.set r v).bus = s.bus := rfl
@[simp] theorem State.set_fetches (s : State) (r : Reg) (v : Nat) : (s.set r v).fetches = s.fetches := rfl
@[simp] theorem State.set_heldRead (s : State) (r : Reg) (v : Nat) : (s.set r v).heldRead = s.heldRead := rfl
@[simp] theorem State.set_posted (s : State) (r : Reg) (v : Nat) : (s.set r v).posted = s.posted := rfl
@[simp] theorem State.set_semaphore (s : State) (r : Reg) (v : Nat) : (s.set r v).semaphore = s.semaphore := rfl
@[simp] theorem State.set_fences (s : State) (r : Reg) (v : Nat) : (s.set r v).fences = s.fences := rfl
@[simp] theorem State.set_wickRead (s : State) (r : Reg) (v : Nat) : (s.set r v).wickRead = s.wickRead := rfl
@[simp] theorem State.set_spTags (s : State) (r : Reg) (v : Nat) : (s.set r v).spTags = s.spTags := rfl
@[simp] theorem State.set_boxes (s : State) (r : Reg) (v : Nat) : (s.set r v).boxes = s.boxes := rfl
@[simp] theorem State.set_canQueue (s : State) (r : Reg) (v : Nat) : (s.set r v).canQueue = s.canQueue := rfl
@[simp] theorem State.set_linQueue (s : State) (r : Reg) (v : Nat) : (s.set r v).linQueue = s.linQueue := rfl
@[simp] theorem State.set_acfPacks (s : State) (r : Reg) (v : Nat) : (s.set r v).acfPacks = s.acfPacks := rfl
@[simp] theorem State.set_sealRecords (s : State) (r : Reg) (v : Nat) : (s.set r v).sealRecords = s.sealRecords := rfl
@[simp] theorem State.set_sessions (s : State) (r : Reg) (v : Nat) : (s.set r v).sessions = s.sessions := rfl
@[simp] theorem State.set_images (s : State) (r : Reg) (v : Nat) : (s.set r v).images = s.images := rfl
@[simp] theorem State.set_saving (s : State) (r : Reg) (v : Nat) : (s.set r v).saving = s.saving := rfl
@[simp] theorem State.set_streaming (s : State) (r : Reg) (v : Nat) : (s.set r v).streaming = s.streaming := rfl
@[simp] theorem State.set_errLog (s : State) (r : Reg) (v : Nat) : (s.set r v).errLog = s.errLog := rfl
@[simp] theorem State.set_errFlash (s : State) (r : Reg) (v : Nat) : (s.set r v).errFlash = s.errFlash := rfl
@[simp] theorem State.set_ivtasA (s : State) (r : Reg) (v : Nat) : (s.set r v).ivtasA = s.ivtasA := rfl
@[simp] theorem State.set_ivtasB (s : State) (r : Reg) (v : Nat) : (s.set r v).ivtasB = s.ivtasB := rfl
@[simp] theorem State.set_taperTx (s : State) (r : Reg) (v : Nat) : (s.set r v).taperTx = s.taperTx := rfl
@[simp] theorem State.set_coathKept (s : State) (r : Reg) (v : Nat) : (s.set r v).coathKept = s.coathKept := rfl
@[simp] theorem State.set_sdo (s : State) (r : Reg) (v : Nat) : (s.set r v).sdo = s.sdo := rfl
@[simp] theorem State.set_pending (s : State) (r : Reg) (v : Nat) : (s.set r v).pending = s.pending := rfl

/-! ## `State.sets` -/

@[simp] theorem State.sets_fuses (s : State) (l : List (Reg × Nat)) : (s.sets l).fuses = s.fuses := by rw [State.sets_regs]
@[simp] theorem State.sets_mode (s : State) (l : List (Reg × Nat)) : (s.sets l).mode = s.mode := by rw [State.sets_regs]
@[simp] theorem State.sets_starting (s : State) (l : List (Reg × Nat)) : (s.sets l).starting = s.starting := by rw [State.sets_regs]
@[simp] theorem State.sets_now (s : State) (l : List (Reg × Nat)) : (s.sets l).now = s.now := by rw [State.sets_regs]
@[simp] theorem State.sets_pend (s : State) (l : List (Reg × Nat)) : (s.sets l).pend = s.pend := by rw [State.sets_regs]
@[simp] theorem State.sets_blobs (s : State) (l : List (Reg × Nat)) : (s.sets l).blobs = s.blobs := by rw [State.sets_regs]
@[simp] theorem State.sets_armed (s : State) (l : List (Reg × Nat)) : (s.sets l).armed = s.armed := by rw [State.sets_regs]
@[simp] theorem State.sets_pulses (s : State) (l : List (Reg × Nat)) : (s.sets l).pulses = s.pulses := by rw [State.sets_regs]
@[simp] theorem State.sets_reports (s : State) (l : List (Reg × Nat)) : (s.sets l).reports = s.reports := by rw [State.sets_regs]
@[simp] theorem State.sets_resp (s : State) (l : List (Reg × Nat)) : (s.sets l).resp = s.resp := by rw [State.sets_regs]
@[simp] theorem State.sets_drawn (s : State) (l : List (Reg × Nat)) : (s.sets l).drawn = s.drawn := by rw [State.sets_regs]
@[simp] theorem State.sets_frames (s : State) (l : List (Reg × Nat)) : (s.sets l).frames = s.frames := by rw [State.sets_regs]
@[simp] theorem State.sets_entries (s : State) (l : List (Reg × Nat)) : (s.sets l).entries = s.entries := by rw [State.sets_regs]
@[simp] theorem State.sets_wire (s : State) (l : List (Reg × Nat)) : (s.sets l).wire = s.wire := by rw [State.sets_regs]
@[simp] theorem State.sets_prep (s : State) (l : List (Reg × Nat)) : (s.sets l).prep = s.prep := by rw [State.sets_regs]
@[simp] theorem State.sets_spec (s : State) (l : List (Reg × Nat)) : (s.sets l).spec = s.spec := by rw [State.sets_regs]
@[simp] theorem State.sets_verdicts (s : State) (l : List (Reg × Nat)) : (s.sets l).verdicts = s.verdicts := by rw [State.sets_regs]
@[simp] theorem State.sets_records (s : State) (l : List (Reg × Nat)) : (s.sets l).records = s.records := by rw [State.sets_regs]
@[simp] theorem State.sets_staging (s : State) (l : List (Reg × Nat)) : (s.sets l).staging = s.staging := by rw [State.sets_regs]
@[simp] theorem State.sets_lostCells (s : State) (l : List (Reg × Nat)) : (s.sets l).lostCells = s.lostCells := by rw [State.sets_regs]
@[simp] theorem State.sets_egress (s : State) (l : List (Reg × Nat)) : (s.sets l).egress = s.egress := by rw [State.sets_regs]
@[simp] theorem State.sets_crossing (s : State) (l : List (Reg × Nat)) : (s.sets l).crossing = s.crossing := by rw [State.sets_regs]
@[simp] theorem State.sets_flushes (s : State) (l : List (Reg × Nat)) : (s.sets l).flushes = s.flushes := by rw [State.sets_regs]
@[simp] theorem State.sets_slow (s : State) (l : List (Reg × Nat)) : (s.sets l).slow = s.slow := by rw [State.sets_regs]
@[simp] theorem State.sets_saEvents (s : State) (l : List (Reg × Nat)) : (s.sets l).saEvents = s.saEvents := by rw [State.sets_regs]
@[simp] theorem State.sets_installs (s : State) (l : List (Reg × Nat)) : (s.sets l).installs = s.installs := by rw [State.sets_regs]
@[simp] theorem State.sets_vault (s : State) (l : List (Reg × Nat)) : (s.sets l).vault = s.vault := by rw [State.sets_regs]
@[simp] theorem State.sets_vaultWaiting (s : State) (l : List (Reg × Nat)) : (s.sets l).vaultWaiting = s.vaultWaiting := by rw [State.sets_regs]
@[simp] theorem State.sets_vaultRunning (s : State) (l : List (Reg × Nat)) : (s.sets l).vaultRunning = s.vaultRunning := by rw [State.sets_regs]
@[simp] theorem State.sets_crContexts (s : State) (l : List (Reg × Nat)) : (s.sets l).crContexts = s.crContexts := by rw [State.sets_regs]
@[simp] theorem State.sets_crJobs (s : State) (l : List (Reg × Nat)) : (s.sets l).crJobs = s.crJobs := by rw [State.sets_regs]
@[simp] theorem State.sets_mem (s : State) (l : List (Reg × Nat)) : (s.sets l).mem = s.mem := by rw [State.sets_regs]
@[simp] theorem State.sets_flashLines (s : State) (l : List (Reg × Nat)) : (s.sets l).flashLines = s.flashLines := by rw [State.sets_regs]
@[simp] theorem State.sets_granules (s : State) (l : List (Reg × Nat)) : (s.sets l).granules = s.granules := by rw [State.sets_regs]
@[simp] theorem State.sets_kidKeys (s : State) (l : List (Reg × Nat)) : (s.sets l).kidKeys = s.kidKeys := by rw [State.sets_regs]
@[simp] theorem State.sets_gwKeys (s : State) (l : List (Reg × Nat)) : (s.sets l).gwKeys = s.gwKeys := by rw [State.sets_regs]
@[simp] theorem State.sets_cache (s : State) (l : List (Reg × Nat)) : (s.sets l).cache = s.cache := by rw [State.sets_regs]
@[simp] theorem State.sets_bus (s : State) (l : List (Reg × Nat)) : (s.sets l).bus = s.bus := by rw [State.sets_regs]
@[simp] theorem State.sets_fetches (s : State) (l : List (Reg × Nat)) : (s.sets l).fetches = s.fetches := by rw [State.sets_regs]
@[simp] theorem State.sets_heldRead (s : State) (l : List (Reg × Nat)) : (s.sets l).heldRead = s.heldRead := by rw [State.sets_regs]
@[simp] theorem State.sets_posted (s : State) (l : List (Reg × Nat)) : (s.sets l).posted = s.posted := by rw [State.sets_regs]
@[simp] theorem State.sets_semaphore (s : State) (l : List (Reg × Nat)) : (s.sets l).semaphore = s.semaphore := by rw [State.sets_regs]
@[simp] theorem State.sets_fences (s : State) (l : List (Reg × Nat)) : (s.sets l).fences = s.fences := by rw [State.sets_regs]
@[simp] theorem State.sets_wickRead (s : State) (l : List (Reg × Nat)) : (s.sets l).wickRead = s.wickRead := by rw [State.sets_regs]
@[simp] theorem State.sets_spTags (s : State) (l : List (Reg × Nat)) : (s.sets l).spTags = s.spTags := by rw [State.sets_regs]
@[simp] theorem State.sets_boxes (s : State) (l : List (Reg × Nat)) : (s.sets l).boxes = s.boxes := by rw [State.sets_regs]
@[simp] theorem State.sets_canQueue (s : State) (l : List (Reg × Nat)) : (s.sets l).canQueue = s.canQueue := by rw [State.sets_regs]
@[simp] theorem State.sets_linQueue (s : State) (l : List (Reg × Nat)) : (s.sets l).linQueue = s.linQueue := by rw [State.sets_regs]
@[simp] theorem State.sets_acfPacks (s : State) (l : List (Reg × Nat)) : (s.sets l).acfPacks = s.acfPacks := by rw [State.sets_regs]
@[simp] theorem State.sets_sealRecords (s : State) (l : List (Reg × Nat)) : (s.sets l).sealRecords = s.sealRecords := by rw [State.sets_regs]
@[simp] theorem State.sets_sessions (s : State) (l : List (Reg × Nat)) : (s.sets l).sessions = s.sessions := by rw [State.sets_regs]
@[simp] theorem State.sets_images (s : State) (l : List (Reg × Nat)) : (s.sets l).images = s.images := by rw [State.sets_regs]
@[simp] theorem State.sets_saving (s : State) (l : List (Reg × Nat)) : (s.sets l).saving = s.saving := by rw [State.sets_regs]
@[simp] theorem State.sets_streaming (s : State) (l : List (Reg × Nat)) : (s.sets l).streaming = s.streaming := by rw [State.sets_regs]
@[simp] theorem State.sets_errLog (s : State) (l : List (Reg × Nat)) : (s.sets l).errLog = s.errLog := by rw [State.sets_regs]
@[simp] theorem State.sets_errFlash (s : State) (l : List (Reg × Nat)) : (s.sets l).errFlash = s.errFlash := by rw [State.sets_regs]
@[simp] theorem State.sets_ivtasA (s : State) (l : List (Reg × Nat)) : (s.sets l).ivtasA = s.ivtasA := by rw [State.sets_regs]
@[simp] theorem State.sets_ivtasB (s : State) (l : List (Reg × Nat)) : (s.sets l).ivtasB = s.ivtasB := by rw [State.sets_regs]
@[simp] theorem State.sets_taperTx (s : State) (l : List (Reg × Nat)) : (s.sets l).taperTx = s.taperTx := by rw [State.sets_regs]
@[simp] theorem State.sets_coathKept (s : State) (l : List (Reg × Nat)) : (s.sets l).coathKept = s.coathKept := by rw [State.sets_regs]
@[simp] theorem State.sets_sdo (s : State) (l : List (Reg × Nat)) : (s.sets l).sdo = s.sdo := by rw [State.sets_regs]
@[simp] theorem State.sets_pending (s : State) (l : List (Reg × Nat)) : (s.sets l).pending = s.pending := by rw [State.sets_regs]

/-! ## `State.count` -/

@[simp] theorem State.count_fuses (s : State) (r : Reg) (w n : Nat) : (s.count r w n).fuses = s.fuses := rfl
@[simp] theorem State.count_mode (s : State) (r : Reg) (w n : Nat) : (s.count r w n).mode = s.mode := rfl
@[simp] theorem State.count_starting (s : State) (r : Reg) (w n : Nat) : (s.count r w n).starting = s.starting := rfl
@[simp] theorem State.count_now (s : State) (r : Reg) (w n : Nat) : (s.count r w n).now = s.now := rfl
@[simp] theorem State.count_pend (s : State) (r : Reg) (w n : Nat) : (s.count r w n).pend = s.pend := rfl
@[simp] theorem State.count_blobs (s : State) (r : Reg) (w n : Nat) : (s.count r w n).blobs = s.blobs := rfl
@[simp] theorem State.count_armed (s : State) (r : Reg) (w n : Nat) : (s.count r w n).armed = s.armed := rfl
@[simp] theorem State.count_pulses (s : State) (r : Reg) (w n : Nat) : (s.count r w n).pulses = s.pulses := rfl
@[simp] theorem State.count_reports (s : State) (r : Reg) (w n : Nat) : (s.count r w n).reports = s.reports := rfl
@[simp] theorem State.count_resp (s : State) (r : Reg) (w n : Nat) : (s.count r w n).resp = s.resp := rfl
@[simp] theorem State.count_drawn (s : State) (r : Reg) (w n : Nat) : (s.count r w n).drawn = s.drawn := rfl
@[simp] theorem State.count_frames (s : State) (r : Reg) (w n : Nat) : (s.count r w n).frames = s.frames := rfl
@[simp] theorem State.count_entries (s : State) (r : Reg) (w n : Nat) : (s.count r w n).entries = s.entries := rfl
@[simp] theorem State.count_wire (s : State) (r : Reg) (w n : Nat) : (s.count r w n).wire = s.wire := rfl
@[simp] theorem State.count_prep (s : State) (r : Reg) (w n : Nat) : (s.count r w n).prep = s.prep := rfl
@[simp] theorem State.count_spec (s : State) (r : Reg) (w n : Nat) : (s.count r w n).spec = s.spec := rfl
@[simp] theorem State.count_verdicts (s : State) (r : Reg) (w n : Nat) : (s.count r w n).verdicts = s.verdicts := rfl
@[simp] theorem State.count_records (s : State) (r : Reg) (w n : Nat) : (s.count r w n).records = s.records := rfl
@[simp] theorem State.count_staging (s : State) (r : Reg) (w n : Nat) : (s.count r w n).staging = s.staging := rfl
@[simp] theorem State.count_lostCells (s : State) (r : Reg) (w n : Nat) : (s.count r w n).lostCells = s.lostCells := rfl
@[simp] theorem State.count_egress (s : State) (r : Reg) (w n : Nat) : (s.count r w n).egress = s.egress := rfl
@[simp] theorem State.count_crossing (s : State) (r : Reg) (w n : Nat) : (s.count r w n).crossing = s.crossing := rfl
@[simp] theorem State.count_flushes (s : State) (r : Reg) (w n : Nat) : (s.count r w n).flushes = s.flushes := rfl
@[simp] theorem State.count_slow (s : State) (r : Reg) (w n : Nat) : (s.count r w n).slow = s.slow := rfl
@[simp] theorem State.count_saEvents (s : State) (r : Reg) (w n : Nat) : (s.count r w n).saEvents = s.saEvents := rfl
@[simp] theorem State.count_installs (s : State) (r : Reg) (w n : Nat) : (s.count r w n).installs = s.installs := rfl
@[simp] theorem State.count_vault (s : State) (r : Reg) (w n : Nat) : (s.count r w n).vault = s.vault := rfl
@[simp] theorem State.count_vaultWaiting (s : State) (r : Reg) (w n : Nat) : (s.count r w n).vaultWaiting = s.vaultWaiting := rfl
@[simp] theorem State.count_vaultRunning (s : State) (r : Reg) (w n : Nat) : (s.count r w n).vaultRunning = s.vaultRunning := rfl
@[simp] theorem State.count_crContexts (s : State) (r : Reg) (w n : Nat) : (s.count r w n).crContexts = s.crContexts := rfl
@[simp] theorem State.count_crJobs (s : State) (r : Reg) (w n : Nat) : (s.count r w n).crJobs = s.crJobs := rfl
@[simp] theorem State.count_mem (s : State) (r : Reg) (w n : Nat) : (s.count r w n).mem = s.mem := rfl
@[simp] theorem State.count_flashLines (s : State) (r : Reg) (w n : Nat) : (s.count r w n).flashLines = s.flashLines := rfl
@[simp] theorem State.count_granules (s : State) (r : Reg) (w n : Nat) : (s.count r w n).granules = s.granules := rfl
@[simp] theorem State.count_kidKeys (s : State) (r : Reg) (w n : Nat) : (s.count r w n).kidKeys = s.kidKeys := rfl
@[simp] theorem State.count_gwKeys (s : State) (r : Reg) (w n : Nat) : (s.count r w n).gwKeys = s.gwKeys := rfl
@[simp] theorem State.count_cache (s : State) (r : Reg) (w n : Nat) : (s.count r w n).cache = s.cache := rfl
@[simp] theorem State.count_bus (s : State) (r : Reg) (w n : Nat) : (s.count r w n).bus = s.bus := rfl
@[simp] theorem State.count_fetches (s : State) (r : Reg) (w n : Nat) : (s.count r w n).fetches = s.fetches := rfl
@[simp] theorem State.count_heldRead (s : State) (r : Reg) (w n : Nat) : (s.count r w n).heldRead = s.heldRead := rfl
@[simp] theorem State.count_posted (s : State) (r : Reg) (w n : Nat) : (s.count r w n).posted = s.posted := rfl
@[simp] theorem State.count_semaphore (s : State) (r : Reg) (w n : Nat) : (s.count r w n).semaphore = s.semaphore := rfl
@[simp] theorem State.count_fences (s : State) (r : Reg) (w n : Nat) : (s.count r w n).fences = s.fences := rfl
@[simp] theorem State.count_wickRead (s : State) (r : Reg) (w n : Nat) : (s.count r w n).wickRead = s.wickRead := rfl
@[simp] theorem State.count_spTags (s : State) (r : Reg) (w n : Nat) : (s.count r w n).spTags = s.spTags := rfl
@[simp] theorem State.count_boxes (s : State) (r : Reg) (w n : Nat) : (s.count r w n).boxes = s.boxes := rfl
@[simp] theorem State.count_canQueue (s : State) (r : Reg) (w n : Nat) : (s.count r w n).canQueue = s.canQueue := rfl
@[simp] theorem State.count_linQueue (s : State) (r : Reg) (w n : Nat) : (s.count r w n).linQueue = s.linQueue := rfl
@[simp] theorem State.count_acfPacks (s : State) (r : Reg) (w n : Nat) : (s.count r w n).acfPacks = s.acfPacks := rfl
@[simp] theorem State.count_sealRecords (s : State) (r : Reg) (w n : Nat) : (s.count r w n).sealRecords = s.sealRecords := rfl
@[simp] theorem State.count_sessions (s : State) (r : Reg) (w n : Nat) : (s.count r w n).sessions = s.sessions := rfl
@[simp] theorem State.count_images (s : State) (r : Reg) (w n : Nat) : (s.count r w n).images = s.images := rfl
@[simp] theorem State.count_saving (s : State) (r : Reg) (w n : Nat) : (s.count r w n).saving = s.saving := rfl
@[simp] theorem State.count_streaming (s : State) (r : Reg) (w n : Nat) : (s.count r w n).streaming = s.streaming := rfl
@[simp] theorem State.count_errLog (s : State) (r : Reg) (w n : Nat) : (s.count r w n).errLog = s.errLog := rfl
@[simp] theorem State.count_errFlash (s : State) (r : Reg) (w n : Nat) : (s.count r w n).errFlash = s.errFlash := rfl
@[simp] theorem State.count_ivtasA (s : State) (r : Reg) (w n : Nat) : (s.count r w n).ivtasA = s.ivtasA := rfl
@[simp] theorem State.count_ivtasB (s : State) (r : Reg) (w n : Nat) : (s.count r w n).ivtasB = s.ivtasB := rfl
@[simp] theorem State.count_taperTx (s : State) (r : Reg) (w n : Nat) : (s.count r w n).taperTx = s.taperTx := rfl
@[simp] theorem State.count_coathKept (s : State) (r : Reg) (w n : Nat) : (s.count r w n).coathKept = s.coathKept := rfl
@[simp] theorem State.count_sdo (s : State) (r : Reg) (w n : Nat) : (s.count r w n).sdo = s.sdo := rfl
@[simp] theorem State.count_pending (s : State) (r : Reg) (w n : Nat) : (s.count r w n).pending = s.pending := rfl

/-! ## `State.countSat` -/

@[simp] theorem State.countSat_fuses (s : State) (r : Reg) (w : Nat) : (s.countSat r w).fuses = s.fuses := rfl
@[simp] theorem State.countSat_mode (s : State) (r : Reg) (w : Nat) : (s.countSat r w).mode = s.mode := rfl
@[simp] theorem State.countSat_starting (s : State) (r : Reg) (w : Nat) : (s.countSat r w).starting = s.starting := rfl
@[simp] theorem State.countSat_now (s : State) (r : Reg) (w : Nat) : (s.countSat r w).now = s.now := rfl
@[simp] theorem State.countSat_pend (s : State) (r : Reg) (w : Nat) : (s.countSat r w).pend = s.pend := rfl
@[simp] theorem State.countSat_blobs (s : State) (r : Reg) (w : Nat) : (s.countSat r w).blobs = s.blobs := rfl
@[simp] theorem State.countSat_armed (s : State) (r : Reg) (w : Nat) : (s.countSat r w).armed = s.armed := rfl
@[simp] theorem State.countSat_pulses (s : State) (r : Reg) (w : Nat) : (s.countSat r w).pulses = s.pulses := rfl
@[simp] theorem State.countSat_reports (s : State) (r : Reg) (w : Nat) : (s.countSat r w).reports = s.reports := rfl
@[simp] theorem State.countSat_resp (s : State) (r : Reg) (w : Nat) : (s.countSat r w).resp = s.resp := rfl
@[simp] theorem State.countSat_drawn (s : State) (r : Reg) (w : Nat) : (s.countSat r w).drawn = s.drawn := rfl
@[simp] theorem State.countSat_frames (s : State) (r : Reg) (w : Nat) : (s.countSat r w).frames = s.frames := rfl
@[simp] theorem State.countSat_entries (s : State) (r : Reg) (w : Nat) : (s.countSat r w).entries = s.entries := rfl
@[simp] theorem State.countSat_wire (s : State) (r : Reg) (w : Nat) : (s.countSat r w).wire = s.wire := rfl
@[simp] theorem State.countSat_prep (s : State) (r : Reg) (w : Nat) : (s.countSat r w).prep = s.prep := rfl
@[simp] theorem State.countSat_spec (s : State) (r : Reg) (w : Nat) : (s.countSat r w).spec = s.spec := rfl
@[simp] theorem State.countSat_verdicts (s : State) (r : Reg) (w : Nat) : (s.countSat r w).verdicts = s.verdicts := rfl
@[simp] theorem State.countSat_records (s : State) (r : Reg) (w : Nat) : (s.countSat r w).records = s.records := rfl
@[simp] theorem State.countSat_staging (s : State) (r : Reg) (w : Nat) : (s.countSat r w).staging = s.staging := rfl
@[simp] theorem State.countSat_lostCells (s : State) (r : Reg) (w : Nat) : (s.countSat r w).lostCells = s.lostCells := rfl
@[simp] theorem State.countSat_egress (s : State) (r : Reg) (w : Nat) : (s.countSat r w).egress = s.egress := rfl
@[simp] theorem State.countSat_crossing (s : State) (r : Reg) (w : Nat) : (s.countSat r w).crossing = s.crossing := rfl
@[simp] theorem State.countSat_flushes (s : State) (r : Reg) (w : Nat) : (s.countSat r w).flushes = s.flushes := rfl
@[simp] theorem State.countSat_slow (s : State) (r : Reg) (w : Nat) : (s.countSat r w).slow = s.slow := rfl
@[simp] theorem State.countSat_saEvents (s : State) (r : Reg) (w : Nat) : (s.countSat r w).saEvents = s.saEvents := rfl
@[simp] theorem State.countSat_installs (s : State) (r : Reg) (w : Nat) : (s.countSat r w).installs = s.installs := rfl
@[simp] theorem State.countSat_vault (s : State) (r : Reg) (w : Nat) : (s.countSat r w).vault = s.vault := rfl
@[simp] theorem State.countSat_vaultWaiting (s : State) (r : Reg) (w : Nat) : (s.countSat r w).vaultWaiting = s.vaultWaiting := rfl
@[simp] theorem State.countSat_vaultRunning (s : State) (r : Reg) (w : Nat) : (s.countSat r w).vaultRunning = s.vaultRunning := rfl
@[simp] theorem State.countSat_crContexts (s : State) (r : Reg) (w : Nat) : (s.countSat r w).crContexts = s.crContexts := rfl
@[simp] theorem State.countSat_crJobs (s : State) (r : Reg) (w : Nat) : (s.countSat r w).crJobs = s.crJobs := rfl
@[simp] theorem State.countSat_mem (s : State) (r : Reg) (w : Nat) : (s.countSat r w).mem = s.mem := rfl
@[simp] theorem State.countSat_flashLines (s : State) (r : Reg) (w : Nat) : (s.countSat r w).flashLines = s.flashLines := rfl
@[simp] theorem State.countSat_granules (s : State) (r : Reg) (w : Nat) : (s.countSat r w).granules = s.granules := rfl
@[simp] theorem State.countSat_kidKeys (s : State) (r : Reg) (w : Nat) : (s.countSat r w).kidKeys = s.kidKeys := rfl
@[simp] theorem State.countSat_gwKeys (s : State) (r : Reg) (w : Nat) : (s.countSat r w).gwKeys = s.gwKeys := rfl
@[simp] theorem State.countSat_cache (s : State) (r : Reg) (w : Nat) : (s.countSat r w).cache = s.cache := rfl
@[simp] theorem State.countSat_bus (s : State) (r : Reg) (w : Nat) : (s.countSat r w).bus = s.bus := rfl
@[simp] theorem State.countSat_fetches (s : State) (r : Reg) (w : Nat) : (s.countSat r w).fetches = s.fetches := rfl
@[simp] theorem State.countSat_heldRead (s : State) (r : Reg) (w : Nat) : (s.countSat r w).heldRead = s.heldRead := rfl
@[simp] theorem State.countSat_posted (s : State) (r : Reg) (w : Nat) : (s.countSat r w).posted = s.posted := rfl
@[simp] theorem State.countSat_semaphore (s : State) (r : Reg) (w : Nat) : (s.countSat r w).semaphore = s.semaphore := rfl
@[simp] theorem State.countSat_fences (s : State) (r : Reg) (w : Nat) : (s.countSat r w).fences = s.fences := rfl
@[simp] theorem State.countSat_wickRead (s : State) (r : Reg) (w : Nat) : (s.countSat r w).wickRead = s.wickRead := rfl
@[simp] theorem State.countSat_spTags (s : State) (r : Reg) (w : Nat) : (s.countSat r w).spTags = s.spTags := rfl
@[simp] theorem State.countSat_boxes (s : State) (r : Reg) (w : Nat) : (s.countSat r w).boxes = s.boxes := rfl
@[simp] theorem State.countSat_canQueue (s : State) (r : Reg) (w : Nat) : (s.countSat r w).canQueue = s.canQueue := rfl
@[simp] theorem State.countSat_linQueue (s : State) (r : Reg) (w : Nat) : (s.countSat r w).linQueue = s.linQueue := rfl
@[simp] theorem State.countSat_acfPacks (s : State) (r : Reg) (w : Nat) : (s.countSat r w).acfPacks = s.acfPacks := rfl
@[simp] theorem State.countSat_sealRecords (s : State) (r : Reg) (w : Nat) : (s.countSat r w).sealRecords = s.sealRecords := rfl
@[simp] theorem State.countSat_sessions (s : State) (r : Reg) (w : Nat) : (s.countSat r w).sessions = s.sessions := rfl
@[simp] theorem State.countSat_images (s : State) (r : Reg) (w : Nat) : (s.countSat r w).images = s.images := rfl
@[simp] theorem State.countSat_saving (s : State) (r : Reg) (w : Nat) : (s.countSat r w).saving = s.saving := rfl
@[simp] theorem State.countSat_streaming (s : State) (r : Reg) (w : Nat) : (s.countSat r w).streaming = s.streaming := rfl
@[simp] theorem State.countSat_errLog (s : State) (r : Reg) (w : Nat) : (s.countSat r w).errLog = s.errLog := rfl
@[simp] theorem State.countSat_errFlash (s : State) (r : Reg) (w : Nat) : (s.countSat r w).errFlash = s.errFlash := rfl
@[simp] theorem State.countSat_ivtasA (s : State) (r : Reg) (w : Nat) : (s.countSat r w).ivtasA = s.ivtasA := rfl
@[simp] theorem State.countSat_ivtasB (s : State) (r : Reg) (w : Nat) : (s.countSat r w).ivtasB = s.ivtasB := rfl
@[simp] theorem State.countSat_taperTx (s : State) (r : Reg) (w : Nat) : (s.countSat r w).taperTx = s.taperTx := rfl
@[simp] theorem State.countSat_coathKept (s : State) (r : Reg) (w : Nat) : (s.countSat r w).coathKept = s.coathKept := rfl
@[simp] theorem State.countSat_sdo (s : State) (r : Reg) (w : Nat) : (s.countSat r w).sdo = s.sdo := rfl
@[simp] theorem State.countSat_pending (s : State) (r : Reg) (w : Nat) : (s.countSat r w).pending = s.pending := rfl

/-! ## `State.uncount` -/

@[simp] theorem State.uncount_fuses (s : State) (r : Reg) (n : Nat) : (s.uncount r n).fuses = s.fuses := rfl
@[simp] theorem State.uncount_mode (s : State) (r : Reg) (n : Nat) : (s.uncount r n).mode = s.mode := rfl
@[simp] theorem State.uncount_starting (s : State) (r : Reg) (n : Nat) : (s.uncount r n).starting = s.starting := rfl
@[simp] theorem State.uncount_now (s : State) (r : Reg) (n : Nat) : (s.uncount r n).now = s.now := rfl
@[simp] theorem State.uncount_pend (s : State) (r : Reg) (n : Nat) : (s.uncount r n).pend = s.pend := rfl
@[simp] theorem State.uncount_blobs (s : State) (r : Reg) (n : Nat) : (s.uncount r n).blobs = s.blobs := rfl
@[simp] theorem State.uncount_armed (s : State) (r : Reg) (n : Nat) : (s.uncount r n).armed = s.armed := rfl
@[simp] theorem State.uncount_pulses (s : State) (r : Reg) (n : Nat) : (s.uncount r n).pulses = s.pulses := rfl
@[simp] theorem State.uncount_reports (s : State) (r : Reg) (n : Nat) : (s.uncount r n).reports = s.reports := rfl
@[simp] theorem State.uncount_resp (s : State) (r : Reg) (n : Nat) : (s.uncount r n).resp = s.resp := rfl
@[simp] theorem State.uncount_drawn (s : State) (r : Reg) (n : Nat) : (s.uncount r n).drawn = s.drawn := rfl
@[simp] theorem State.uncount_frames (s : State) (r : Reg) (n : Nat) : (s.uncount r n).frames = s.frames := rfl
@[simp] theorem State.uncount_entries (s : State) (r : Reg) (n : Nat) : (s.uncount r n).entries = s.entries := rfl
@[simp] theorem State.uncount_wire (s : State) (r : Reg) (n : Nat) : (s.uncount r n).wire = s.wire := rfl
@[simp] theorem State.uncount_prep (s : State) (r : Reg) (n : Nat) : (s.uncount r n).prep = s.prep := rfl
@[simp] theorem State.uncount_spec (s : State) (r : Reg) (n : Nat) : (s.uncount r n).spec = s.spec := rfl
@[simp] theorem State.uncount_verdicts (s : State) (r : Reg) (n : Nat) : (s.uncount r n).verdicts = s.verdicts := rfl
@[simp] theorem State.uncount_records (s : State) (r : Reg) (n : Nat) : (s.uncount r n).records = s.records := rfl
@[simp] theorem State.uncount_staging (s : State) (r : Reg) (n : Nat) : (s.uncount r n).staging = s.staging := rfl
@[simp] theorem State.uncount_lostCells (s : State) (r : Reg) (n : Nat) : (s.uncount r n).lostCells = s.lostCells := rfl
@[simp] theorem State.uncount_egress (s : State) (r : Reg) (n : Nat) : (s.uncount r n).egress = s.egress := rfl
@[simp] theorem State.uncount_crossing (s : State) (r : Reg) (n : Nat) : (s.uncount r n).crossing = s.crossing := rfl
@[simp] theorem State.uncount_flushes (s : State) (r : Reg) (n : Nat) : (s.uncount r n).flushes = s.flushes := rfl
@[simp] theorem State.uncount_slow (s : State) (r : Reg) (n : Nat) : (s.uncount r n).slow = s.slow := rfl
@[simp] theorem State.uncount_saEvents (s : State) (r : Reg) (n : Nat) : (s.uncount r n).saEvents = s.saEvents := rfl
@[simp] theorem State.uncount_installs (s : State) (r : Reg) (n : Nat) : (s.uncount r n).installs = s.installs := rfl
@[simp] theorem State.uncount_vault (s : State) (r : Reg) (n : Nat) : (s.uncount r n).vault = s.vault := rfl
@[simp] theorem State.uncount_vaultWaiting (s : State) (r : Reg) (n : Nat) : (s.uncount r n).vaultWaiting = s.vaultWaiting := rfl
@[simp] theorem State.uncount_vaultRunning (s : State) (r : Reg) (n : Nat) : (s.uncount r n).vaultRunning = s.vaultRunning := rfl
@[simp] theorem State.uncount_crContexts (s : State) (r : Reg) (n : Nat) : (s.uncount r n).crContexts = s.crContexts := rfl
@[simp] theorem State.uncount_crJobs (s : State) (r : Reg) (n : Nat) : (s.uncount r n).crJobs = s.crJobs := rfl
@[simp] theorem State.uncount_mem (s : State) (r : Reg) (n : Nat) : (s.uncount r n).mem = s.mem := rfl
@[simp] theorem State.uncount_flashLines (s : State) (r : Reg) (n : Nat) : (s.uncount r n).flashLines = s.flashLines := rfl
@[simp] theorem State.uncount_granules (s : State) (r : Reg) (n : Nat) : (s.uncount r n).granules = s.granules := rfl
@[simp] theorem State.uncount_kidKeys (s : State) (r : Reg) (n : Nat) : (s.uncount r n).kidKeys = s.kidKeys := rfl
@[simp] theorem State.uncount_gwKeys (s : State) (r : Reg) (n : Nat) : (s.uncount r n).gwKeys = s.gwKeys := rfl
@[simp] theorem State.uncount_cache (s : State) (r : Reg) (n : Nat) : (s.uncount r n).cache = s.cache := rfl
@[simp] theorem State.uncount_bus (s : State) (r : Reg) (n : Nat) : (s.uncount r n).bus = s.bus := rfl
@[simp] theorem State.uncount_fetches (s : State) (r : Reg) (n : Nat) : (s.uncount r n).fetches = s.fetches := rfl
@[simp] theorem State.uncount_heldRead (s : State) (r : Reg) (n : Nat) : (s.uncount r n).heldRead = s.heldRead := rfl
@[simp] theorem State.uncount_posted (s : State) (r : Reg) (n : Nat) : (s.uncount r n).posted = s.posted := rfl
@[simp] theorem State.uncount_semaphore (s : State) (r : Reg) (n : Nat) : (s.uncount r n).semaphore = s.semaphore := rfl
@[simp] theorem State.uncount_fences (s : State) (r : Reg) (n : Nat) : (s.uncount r n).fences = s.fences := rfl
@[simp] theorem State.uncount_wickRead (s : State) (r : Reg) (n : Nat) : (s.uncount r n).wickRead = s.wickRead := rfl
@[simp] theorem State.uncount_spTags (s : State) (r : Reg) (n : Nat) : (s.uncount r n).spTags = s.spTags := rfl
@[simp] theorem State.uncount_boxes (s : State) (r : Reg) (n : Nat) : (s.uncount r n).boxes = s.boxes := rfl
@[simp] theorem State.uncount_canQueue (s : State) (r : Reg) (n : Nat) : (s.uncount r n).canQueue = s.canQueue := rfl
@[simp] theorem State.uncount_linQueue (s : State) (r : Reg) (n : Nat) : (s.uncount r n).linQueue = s.linQueue := rfl
@[simp] theorem State.uncount_acfPacks (s : State) (r : Reg) (n : Nat) : (s.uncount r n).acfPacks = s.acfPacks := rfl
@[simp] theorem State.uncount_sealRecords (s : State) (r : Reg) (n : Nat) : (s.uncount r n).sealRecords = s.sealRecords := rfl
@[simp] theorem State.uncount_sessions (s : State) (r : Reg) (n : Nat) : (s.uncount r n).sessions = s.sessions := rfl
@[simp] theorem State.uncount_images (s : State) (r : Reg) (n : Nat) : (s.uncount r n).images = s.images := rfl
@[simp] theorem State.uncount_saving (s : State) (r : Reg) (n : Nat) : (s.uncount r n).saving = s.saving := rfl
@[simp] theorem State.uncount_streaming (s : State) (r : Reg) (n : Nat) : (s.uncount r n).streaming = s.streaming := rfl
@[simp] theorem State.uncount_errLog (s : State) (r : Reg) (n : Nat) : (s.uncount r n).errLog = s.errLog := rfl
@[simp] theorem State.uncount_errFlash (s : State) (r : Reg) (n : Nat) : (s.uncount r n).errFlash = s.errFlash := rfl
@[simp] theorem State.uncount_ivtasA (s : State) (r : Reg) (n : Nat) : (s.uncount r n).ivtasA = s.ivtasA := rfl
@[simp] theorem State.uncount_ivtasB (s : State) (r : Reg) (n : Nat) : (s.uncount r n).ivtasB = s.ivtasB := rfl
@[simp] theorem State.uncount_taperTx (s : State) (r : Reg) (n : Nat) : (s.uncount r n).taperTx = s.taperTx := rfl
@[simp] theorem State.uncount_coathKept (s : State) (r : Reg) (n : Nat) : (s.uncount r n).coathKept = s.coathKept := rfl
@[simp] theorem State.uncount_sdo (s : State) (r : Reg) (n : Nat) : (s.uncount r n).sdo = s.sdo := rfl
@[simp] theorem State.uncount_pending (s : State) (r : Reg) (n : Nat) : (s.uncount r n).pending = s.pending := rfl

/-! ## `State.clearRange` -/

@[simp] theorem State.clearRange_fuses (s : State) (g : Grp) (i lo hi : Nat) : (s.clearRange g i lo hi).fuses = s.fuses := rfl
@[simp] theorem State.clearRange_mode (s : State) (g : Grp) (i lo hi : Nat) : (s.clearRange g i lo hi).mode = s.mode := rfl
@[simp] theorem State.clearRange_starting (s : State) (g : Grp) (i lo hi : Nat) : (s.clearRange g i lo hi).starting = s.starting := rfl
@[simp] theorem State.clearRange_now (s : State) (g : Grp) (i lo hi : Nat) : (s.clearRange g i lo hi).now = s.now := rfl
@[simp] theorem State.clearRange_pend (s : State) (g : Grp) (i lo hi : Nat) : (s.clearRange g i lo hi).pend = s.pend := rfl
@[simp] theorem State.clearRange_blobs (s : State) (g : Grp) (i lo hi : Nat) : (s.clearRange g i lo hi).blobs = s.blobs := rfl
@[simp] theorem State.clearRange_armed (s : State) (g : Grp) (i lo hi : Nat) : (s.clearRange g i lo hi).armed = s.armed := rfl
@[simp] theorem State.clearRange_pulses (s : State) (g : Grp) (i lo hi : Nat) : (s.clearRange g i lo hi).pulses = s.pulses := rfl
@[simp] theorem State.clearRange_reports (s : State) (g : Grp) (i lo hi : Nat) : (s.clearRange g i lo hi).reports = s.reports := rfl
@[simp] theorem State.clearRange_resp (s : State) (g : Grp) (i lo hi : Nat) : (s.clearRange g i lo hi).resp = s.resp := rfl
@[simp] theorem State.clearRange_drawn (s : State) (g : Grp) (i lo hi : Nat) : (s.clearRange g i lo hi).drawn = s.drawn := rfl
@[simp] theorem State.clearRange_frames (s : State) (g : Grp) (i lo hi : Nat) : (s.clearRange g i lo hi).frames = s.frames := rfl
@[simp] theorem State.clearRange_entries (s : State) (g : Grp) (i lo hi : Nat) : (s.clearRange g i lo hi).entries = s.entries := rfl
@[simp] theorem State.clearRange_wire (s : State) (g : Grp) (i lo hi : Nat) : (s.clearRange g i lo hi).wire = s.wire := rfl
@[simp] theorem State.clearRange_prep (s : State) (g : Grp) (i lo hi : Nat) : (s.clearRange g i lo hi).prep = s.prep := rfl
@[simp] theorem State.clearRange_spec (s : State) (g : Grp) (i lo hi : Nat) : (s.clearRange g i lo hi).spec = s.spec := rfl
@[simp] theorem State.clearRange_verdicts (s : State) (g : Grp) (i lo hi : Nat) : (s.clearRange g i lo hi).verdicts = s.verdicts := rfl
@[simp] theorem State.clearRange_records (s : State) (g : Grp) (i lo hi : Nat) : (s.clearRange g i lo hi).records = s.records := rfl
@[simp] theorem State.clearRange_staging (s : State) (g : Grp) (i lo hi : Nat) : (s.clearRange g i lo hi).staging = s.staging := rfl
@[simp] theorem State.clearRange_lostCells (s : State) (g : Grp) (i lo hi : Nat) : (s.clearRange g i lo hi).lostCells = s.lostCells := rfl
@[simp] theorem State.clearRange_egress (s : State) (g : Grp) (i lo hi : Nat) : (s.clearRange g i lo hi).egress = s.egress := rfl
@[simp] theorem State.clearRange_crossing (s : State) (g : Grp) (i lo hi : Nat) : (s.clearRange g i lo hi).crossing = s.crossing := rfl
@[simp] theorem State.clearRange_flushes (s : State) (g : Grp) (i lo hi : Nat) : (s.clearRange g i lo hi).flushes = s.flushes := rfl
@[simp] theorem State.clearRange_slow (s : State) (g : Grp) (i lo hi : Nat) : (s.clearRange g i lo hi).slow = s.slow := rfl
@[simp] theorem State.clearRange_saEvents (s : State) (g : Grp) (i lo hi : Nat) : (s.clearRange g i lo hi).saEvents = s.saEvents := rfl
@[simp] theorem State.clearRange_installs (s : State) (g : Grp) (i lo hi : Nat) : (s.clearRange g i lo hi).installs = s.installs := rfl
@[simp] theorem State.clearRange_vault (s : State) (g : Grp) (i lo hi : Nat) : (s.clearRange g i lo hi).vault = s.vault := rfl
@[simp] theorem State.clearRange_vaultWaiting (s : State) (g : Grp) (i lo hi : Nat) : (s.clearRange g i lo hi).vaultWaiting = s.vaultWaiting := rfl
@[simp] theorem State.clearRange_vaultRunning (s : State) (g : Grp) (i lo hi : Nat) : (s.clearRange g i lo hi).vaultRunning = s.vaultRunning := rfl
@[simp] theorem State.clearRange_crContexts (s : State) (g : Grp) (i lo hi : Nat) : (s.clearRange g i lo hi).crContexts = s.crContexts := rfl
@[simp] theorem State.clearRange_crJobs (s : State) (g : Grp) (i lo hi : Nat) : (s.clearRange g i lo hi).crJobs = s.crJobs := rfl
@[simp] theorem State.clearRange_mem (s : State) (g : Grp) (i lo hi : Nat) : (s.clearRange g i lo hi).mem = s.mem := rfl
@[simp] theorem State.clearRange_flashLines (s : State) (g : Grp) (i lo hi : Nat) : (s.clearRange g i lo hi).flashLines = s.flashLines := rfl
@[simp] theorem State.clearRange_granules (s : State) (g : Grp) (i lo hi : Nat) : (s.clearRange g i lo hi).granules = s.granules := rfl
@[simp] theorem State.clearRange_kidKeys (s : State) (g : Grp) (i lo hi : Nat) : (s.clearRange g i lo hi).kidKeys = s.kidKeys := rfl
@[simp] theorem State.clearRange_gwKeys (s : State) (g : Grp) (i lo hi : Nat) : (s.clearRange g i lo hi).gwKeys = s.gwKeys := rfl
@[simp] theorem State.clearRange_cache (s : State) (g : Grp) (i lo hi : Nat) : (s.clearRange g i lo hi).cache = s.cache := rfl
@[simp] theorem State.clearRange_bus (s : State) (g : Grp) (i lo hi : Nat) : (s.clearRange g i lo hi).bus = s.bus := rfl
@[simp] theorem State.clearRange_fetches (s : State) (g : Grp) (i lo hi : Nat) : (s.clearRange g i lo hi).fetches = s.fetches := rfl
@[simp] theorem State.clearRange_heldRead (s : State) (g : Grp) (i lo hi : Nat) : (s.clearRange g i lo hi).heldRead = s.heldRead := rfl
@[simp] theorem State.clearRange_posted (s : State) (g : Grp) (i lo hi : Nat) : (s.clearRange g i lo hi).posted = s.posted := rfl
@[simp] theorem State.clearRange_semaphore (s : State) (g : Grp) (i lo hi : Nat) : (s.clearRange g i lo hi).semaphore = s.semaphore := rfl
@[simp] theorem State.clearRange_fences (s : State) (g : Grp) (i lo hi : Nat) : (s.clearRange g i lo hi).fences = s.fences := rfl
@[simp] theorem State.clearRange_wickRead (s : State) (g : Grp) (i lo hi : Nat) : (s.clearRange g i lo hi).wickRead = s.wickRead := rfl
@[simp] theorem State.clearRange_spTags (s : State) (g : Grp) (i lo hi : Nat) : (s.clearRange g i lo hi).spTags = s.spTags := rfl
@[simp] theorem State.clearRange_boxes (s : State) (g : Grp) (i lo hi : Nat) : (s.clearRange g i lo hi).boxes = s.boxes := rfl
@[simp] theorem State.clearRange_canQueue (s : State) (g : Grp) (i lo hi : Nat) : (s.clearRange g i lo hi).canQueue = s.canQueue := rfl
@[simp] theorem State.clearRange_linQueue (s : State) (g : Grp) (i lo hi : Nat) : (s.clearRange g i lo hi).linQueue = s.linQueue := rfl
@[simp] theorem State.clearRange_acfPacks (s : State) (g : Grp) (i lo hi : Nat) : (s.clearRange g i lo hi).acfPacks = s.acfPacks := rfl
@[simp] theorem State.clearRange_sealRecords (s : State) (g : Grp) (i lo hi : Nat) : (s.clearRange g i lo hi).sealRecords = s.sealRecords := rfl
@[simp] theorem State.clearRange_sessions (s : State) (g : Grp) (i lo hi : Nat) : (s.clearRange g i lo hi).sessions = s.sessions := rfl
@[simp] theorem State.clearRange_images (s : State) (g : Grp) (i lo hi : Nat) : (s.clearRange g i lo hi).images = s.images := rfl
@[simp] theorem State.clearRange_saving (s : State) (g : Grp) (i lo hi : Nat) : (s.clearRange g i lo hi).saving = s.saving := rfl
@[simp] theorem State.clearRange_streaming (s : State) (g : Grp) (i lo hi : Nat) : (s.clearRange g i lo hi).streaming = s.streaming := rfl
@[simp] theorem State.clearRange_errLog (s : State) (g : Grp) (i lo hi : Nat) : (s.clearRange g i lo hi).errLog = s.errLog := rfl
@[simp] theorem State.clearRange_errFlash (s : State) (g : Grp) (i lo hi : Nat) : (s.clearRange g i lo hi).errFlash = s.errFlash := rfl
@[simp] theorem State.clearRange_ivtasA (s : State) (g : Grp) (i lo hi : Nat) : (s.clearRange g i lo hi).ivtasA = s.ivtasA := rfl
@[simp] theorem State.clearRange_ivtasB (s : State) (g : Grp) (i lo hi : Nat) : (s.clearRange g i lo hi).ivtasB = s.ivtasB := rfl
@[simp] theorem State.clearRange_taperTx (s : State) (g : Grp) (i lo hi : Nat) : (s.clearRange g i lo hi).taperTx = s.taperTx := rfl
@[simp] theorem State.clearRange_coathKept (s : State) (g : Grp) (i lo hi : Nat) : (s.clearRange g i lo hi).coathKept = s.coathKept := rfl
@[simp] theorem State.clearRange_sdo (s : State) (g : Grp) (i lo hi : Nat) : (s.clearRange g i lo hi).sdo = s.sdo := rfl
@[simp] theorem State.clearRange_pending (s : State) (g : Grp) (i lo hi : Nat) : (s.clearRange g i lo hi).pending = s.pending := rfl

/-! ## `State.changed` -/

@[simp] theorem State.changed_fuses (s : State) : (s.changed).fuses = s.fuses := rfl
@[simp] theorem State.changed_mode (s : State) : (s.changed).mode = s.mode := rfl
@[simp] theorem State.changed_starting (s : State) : (s.changed).starting = s.starting := rfl
@[simp] theorem State.changed_now (s : State) : (s.changed).now = s.now := rfl
@[simp] theorem State.changed_pend (s : State) : (s.changed).pend = s.pend := rfl
@[simp] theorem State.changed_blobs (s : State) : (s.changed).blobs = s.blobs := rfl
@[simp] theorem State.changed_armed (s : State) : (s.changed).armed = s.armed := rfl
@[simp] theorem State.changed_pulses (s : State) : (s.changed).pulses = s.pulses := rfl
@[simp] theorem State.changed_reports (s : State) : (s.changed).reports = s.reports := rfl
@[simp] theorem State.changed_resp (s : State) : (s.changed).resp = s.resp := rfl
@[simp] theorem State.changed_drawn (s : State) : (s.changed).drawn = s.drawn := rfl
@[simp] theorem State.changed_frames (s : State) : (s.changed).frames = s.frames := rfl
@[simp] theorem State.changed_entries (s : State) : (s.changed).entries = s.entries := rfl
@[simp] theorem State.changed_wire (s : State) : (s.changed).wire = s.wire := rfl
@[simp] theorem State.changed_prep (s : State) : (s.changed).prep = s.prep := rfl
@[simp] theorem State.changed_spec (s : State) : (s.changed).spec = s.spec := rfl
@[simp] theorem State.changed_verdicts (s : State) : (s.changed).verdicts = s.verdicts := rfl
@[simp] theorem State.changed_records (s : State) : (s.changed).records = s.records := rfl
@[simp] theorem State.changed_staging (s : State) : (s.changed).staging = s.staging := rfl
@[simp] theorem State.changed_lostCells (s : State) : (s.changed).lostCells = s.lostCells := rfl
@[simp] theorem State.changed_egress (s : State) : (s.changed).egress = s.egress := rfl
@[simp] theorem State.changed_crossing (s : State) : (s.changed).crossing = s.crossing := rfl
@[simp] theorem State.changed_flushes (s : State) : (s.changed).flushes = s.flushes := rfl
@[simp] theorem State.changed_slow (s : State) : (s.changed).slow = s.slow := rfl
@[simp] theorem State.changed_saEvents (s : State) : (s.changed).saEvents = s.saEvents := rfl
@[simp] theorem State.changed_installs (s : State) : (s.changed).installs = s.installs := rfl
@[simp] theorem State.changed_vault (s : State) : (s.changed).vault = s.vault := rfl
@[simp] theorem State.changed_vaultWaiting (s : State) : (s.changed).vaultWaiting = s.vaultWaiting := rfl
@[simp] theorem State.changed_vaultRunning (s : State) : (s.changed).vaultRunning = s.vaultRunning := rfl
@[simp] theorem State.changed_crContexts (s : State) : (s.changed).crContexts = s.crContexts := rfl
@[simp] theorem State.changed_crJobs (s : State) : (s.changed).crJobs = s.crJobs := rfl
@[simp] theorem State.changed_mem (s : State) : (s.changed).mem = s.mem := rfl
@[simp] theorem State.changed_flashLines (s : State) : (s.changed).flashLines = s.flashLines := rfl
@[simp] theorem State.changed_granules (s : State) : (s.changed).granules = s.granules := rfl
@[simp] theorem State.changed_kidKeys (s : State) : (s.changed).kidKeys = s.kidKeys := rfl
@[simp] theorem State.changed_gwKeys (s : State) : (s.changed).gwKeys = s.gwKeys := rfl
@[simp] theorem State.changed_cache (s : State) : (s.changed).cache = s.cache := rfl
@[simp] theorem State.changed_bus (s : State) : (s.changed).bus = s.bus := rfl
@[simp] theorem State.changed_fetches (s : State) : (s.changed).fetches = s.fetches := rfl
@[simp] theorem State.changed_heldRead (s : State) : (s.changed).heldRead = s.heldRead := rfl
@[simp] theorem State.changed_posted (s : State) : (s.changed).posted = s.posted := rfl
@[simp] theorem State.changed_semaphore (s : State) : (s.changed).semaphore = s.semaphore := rfl
@[simp] theorem State.changed_fences (s : State) : (s.changed).fences = s.fences := rfl
@[simp] theorem State.changed_wickRead (s : State) : (s.changed).wickRead = s.wickRead := rfl
@[simp] theorem State.changed_spTags (s : State) : (s.changed).spTags = s.spTags := rfl
@[simp] theorem State.changed_boxes (s : State) : (s.changed).boxes = s.boxes := rfl
@[simp] theorem State.changed_canQueue (s : State) : (s.changed).canQueue = s.canQueue := rfl
@[simp] theorem State.changed_linQueue (s : State) : (s.changed).linQueue = s.linQueue := rfl
@[simp] theorem State.changed_acfPacks (s : State) : (s.changed).acfPacks = s.acfPacks := rfl
@[simp] theorem State.changed_sealRecords (s : State) : (s.changed).sealRecords = s.sealRecords := rfl
@[simp] theorem State.changed_sessions (s : State) : (s.changed).sessions = s.sessions := rfl
@[simp] theorem State.changed_images (s : State) : (s.changed).images = s.images := rfl
@[simp] theorem State.changed_saving (s : State) : (s.changed).saving = s.saving := rfl
@[simp] theorem State.changed_streaming (s : State) : (s.changed).streaming = s.streaming := rfl
@[simp] theorem State.changed_errLog (s : State) : (s.changed).errLog = s.errLog := rfl
@[simp] theorem State.changed_errFlash (s : State) : (s.changed).errFlash = s.errFlash := rfl
@[simp] theorem State.changed_ivtasA (s : State) : (s.changed).ivtasA = s.ivtasA := rfl
@[simp] theorem State.changed_ivtasB (s : State) : (s.changed).ivtasB = s.ivtasB := rfl
@[simp] theorem State.changed_taperTx (s : State) : (s.changed).taperTx = s.taperTx := rfl
@[simp] theorem State.changed_coathKept (s : State) : (s.changed).coathKept = s.coathKept := rfl
@[simp] theorem State.changed_sdo (s : State) : (s.changed).sdo = s.sdo := rfl
@[simp] theorem State.changed_pending (s : State) : (s.changed).pending = s.pending := rfl

/-! ## `State.pendSet` -/

@[simp] theorem State.pendSet_fuses (s : State) (r : Reg) (v : Nat) : (s.pendSet r v).fuses = s.fuses := rfl
@[simp] theorem State.pendSet_mode (s : State) (r : Reg) (v : Nat) : (s.pendSet r v).mode = s.mode := rfl
@[simp] theorem State.pendSet_starting (s : State) (r : Reg) (v : Nat) : (s.pendSet r v).starting = s.starting := rfl
@[simp] theorem State.pendSet_now (s : State) (r : Reg) (v : Nat) : (s.pendSet r v).now = s.now := rfl
@[simp] theorem State.pendSet_regs (s : State) (r : Reg) (v : Nat) : (s.pendSet r v).regs = s.regs := rfl
@[simp] theorem State.pendSet_blobs (s : State) (r : Reg) (v : Nat) : (s.pendSet r v).blobs = s.blobs := rfl
@[simp] theorem State.pendSet_armed (s : State) (r : Reg) (v : Nat) : (s.pendSet r v).armed = s.armed := rfl
@[simp] theorem State.pendSet_pulses (s : State) (r : Reg) (v : Nat) : (s.pendSet r v).pulses = s.pulses := rfl
@[simp] theorem State.pendSet_reports (s : State) (r : Reg) (v : Nat) : (s.pendSet r v).reports = s.reports := rfl
@[simp] theorem State.pendSet_resp (s : State) (r : Reg) (v : Nat) : (s.pendSet r v).resp = s.resp := rfl
@[simp] theorem State.pendSet_drawn (s : State) (r : Reg) (v : Nat) : (s.pendSet r v).drawn = s.drawn := rfl
@[simp] theorem State.pendSet_frames (s : State) (r : Reg) (v : Nat) : (s.pendSet r v).frames = s.frames := rfl
@[simp] theorem State.pendSet_entries (s : State) (r : Reg) (v : Nat) : (s.pendSet r v).entries = s.entries := rfl
@[simp] theorem State.pendSet_wire (s : State) (r : Reg) (v : Nat) : (s.pendSet r v).wire = s.wire := rfl
@[simp] theorem State.pendSet_prep (s : State) (r : Reg) (v : Nat) : (s.pendSet r v).prep = s.prep := rfl
@[simp] theorem State.pendSet_spec (s : State) (r : Reg) (v : Nat) : (s.pendSet r v).spec = s.spec := rfl
@[simp] theorem State.pendSet_verdicts (s : State) (r : Reg) (v : Nat) : (s.pendSet r v).verdicts = s.verdicts := rfl
@[simp] theorem State.pendSet_records (s : State) (r : Reg) (v : Nat) : (s.pendSet r v).records = s.records := rfl
@[simp] theorem State.pendSet_staging (s : State) (r : Reg) (v : Nat) : (s.pendSet r v).staging = s.staging := rfl
@[simp] theorem State.pendSet_lostCells (s : State) (r : Reg) (v : Nat) : (s.pendSet r v).lostCells = s.lostCells := rfl
@[simp] theorem State.pendSet_egress (s : State) (r : Reg) (v : Nat) : (s.pendSet r v).egress = s.egress := rfl
@[simp] theorem State.pendSet_crossing (s : State) (r : Reg) (v : Nat) : (s.pendSet r v).crossing = s.crossing := rfl
@[simp] theorem State.pendSet_flushes (s : State) (r : Reg) (v : Nat) : (s.pendSet r v).flushes = s.flushes := rfl
@[simp] theorem State.pendSet_slow (s : State) (r : Reg) (v : Nat) : (s.pendSet r v).slow = s.slow := rfl
@[simp] theorem State.pendSet_saEvents (s : State) (r : Reg) (v : Nat) : (s.pendSet r v).saEvents = s.saEvents := rfl
@[simp] theorem State.pendSet_installs (s : State) (r : Reg) (v : Nat) : (s.pendSet r v).installs = s.installs := rfl
@[simp] theorem State.pendSet_vault (s : State) (r : Reg) (v : Nat) : (s.pendSet r v).vault = s.vault := rfl
@[simp] theorem State.pendSet_vaultWaiting (s : State) (r : Reg) (v : Nat) : (s.pendSet r v).vaultWaiting = s.vaultWaiting := rfl
@[simp] theorem State.pendSet_vaultRunning (s : State) (r : Reg) (v : Nat) : (s.pendSet r v).vaultRunning = s.vaultRunning := rfl
@[simp] theorem State.pendSet_crContexts (s : State) (r : Reg) (v : Nat) : (s.pendSet r v).crContexts = s.crContexts := rfl
@[simp] theorem State.pendSet_crJobs (s : State) (r : Reg) (v : Nat) : (s.pendSet r v).crJobs = s.crJobs := rfl
@[simp] theorem State.pendSet_mem (s : State) (r : Reg) (v : Nat) : (s.pendSet r v).mem = s.mem := rfl
@[simp] theorem State.pendSet_flashLines (s : State) (r : Reg) (v : Nat) : (s.pendSet r v).flashLines = s.flashLines := rfl
@[simp] theorem State.pendSet_granules (s : State) (r : Reg) (v : Nat) : (s.pendSet r v).granules = s.granules := rfl
@[simp] theorem State.pendSet_kidKeys (s : State) (r : Reg) (v : Nat) : (s.pendSet r v).kidKeys = s.kidKeys := rfl
@[simp] theorem State.pendSet_gwKeys (s : State) (r : Reg) (v : Nat) : (s.pendSet r v).gwKeys = s.gwKeys := rfl
@[simp] theorem State.pendSet_cache (s : State) (r : Reg) (v : Nat) : (s.pendSet r v).cache = s.cache := rfl
@[simp] theorem State.pendSet_bus (s : State) (r : Reg) (v : Nat) : (s.pendSet r v).bus = s.bus := rfl
@[simp] theorem State.pendSet_fetches (s : State) (r : Reg) (v : Nat) : (s.pendSet r v).fetches = s.fetches := rfl
@[simp] theorem State.pendSet_heldRead (s : State) (r : Reg) (v : Nat) : (s.pendSet r v).heldRead = s.heldRead := rfl
@[simp] theorem State.pendSet_posted (s : State) (r : Reg) (v : Nat) : (s.pendSet r v).posted = s.posted := rfl
@[simp] theorem State.pendSet_semaphore (s : State) (r : Reg) (v : Nat) : (s.pendSet r v).semaphore = s.semaphore := rfl
@[simp] theorem State.pendSet_fences (s : State) (r : Reg) (v : Nat) : (s.pendSet r v).fences = s.fences := rfl
@[simp] theorem State.pendSet_wickRead (s : State) (r : Reg) (v : Nat) : (s.pendSet r v).wickRead = s.wickRead := rfl
@[simp] theorem State.pendSet_spTags (s : State) (r : Reg) (v : Nat) : (s.pendSet r v).spTags = s.spTags := rfl
@[simp] theorem State.pendSet_boxes (s : State) (r : Reg) (v : Nat) : (s.pendSet r v).boxes = s.boxes := rfl
@[simp] theorem State.pendSet_canQueue (s : State) (r : Reg) (v : Nat) : (s.pendSet r v).canQueue = s.canQueue := rfl
@[simp] theorem State.pendSet_linQueue (s : State) (r : Reg) (v : Nat) : (s.pendSet r v).linQueue = s.linQueue := rfl
@[simp] theorem State.pendSet_acfPacks (s : State) (r : Reg) (v : Nat) : (s.pendSet r v).acfPacks = s.acfPacks := rfl
@[simp] theorem State.pendSet_sealRecords (s : State) (r : Reg) (v : Nat) : (s.pendSet r v).sealRecords = s.sealRecords := rfl
@[simp] theorem State.pendSet_sessions (s : State) (r : Reg) (v : Nat) : (s.pendSet r v).sessions = s.sessions := rfl
@[simp] theorem State.pendSet_images (s : State) (r : Reg) (v : Nat) : (s.pendSet r v).images = s.images := rfl
@[simp] theorem State.pendSet_saving (s : State) (r : Reg) (v : Nat) : (s.pendSet r v).saving = s.saving := rfl
@[simp] theorem State.pendSet_streaming (s : State) (r : Reg) (v : Nat) : (s.pendSet r v).streaming = s.streaming := rfl
@[simp] theorem State.pendSet_errLog (s : State) (r : Reg) (v : Nat) : (s.pendSet r v).errLog = s.errLog := rfl
@[simp] theorem State.pendSet_errFlash (s : State) (r : Reg) (v : Nat) : (s.pendSet r v).errFlash = s.errFlash := rfl
@[simp] theorem State.pendSet_ivtasA (s : State) (r : Reg) (v : Nat) : (s.pendSet r v).ivtasA = s.ivtasA := rfl
@[simp] theorem State.pendSet_ivtasB (s : State) (r : Reg) (v : Nat) : (s.pendSet r v).ivtasB = s.ivtasB := rfl
@[simp] theorem State.pendSet_taperTx (s : State) (r : Reg) (v : Nat) : (s.pendSet r v).taperTx = s.taperTx := rfl
@[simp] theorem State.pendSet_coathKept (s : State) (r : Reg) (v : Nat) : (s.pendSet r v).coathKept = s.coathKept := rfl
@[simp] theorem State.pendSet_sdo (s : State) (r : Reg) (v : Nat) : (s.pendSet r v).sdo = s.sdo := rfl
@[simp] theorem State.pendSet_pending (s : State) (r : Reg) (v : Nat) : (s.pendSet r v).pending = s.pending := rfl

/-! ## `State.setBlob` -/

@[simp] theorem State.setBlob_fuses (s : State) (r : Reg) (b : List Byte) : (s.setBlob r b).fuses = s.fuses := rfl
@[simp] theorem State.setBlob_mode (s : State) (r : Reg) (b : List Byte) : (s.setBlob r b).mode = s.mode := rfl
@[simp] theorem State.setBlob_starting (s : State) (r : Reg) (b : List Byte) : (s.setBlob r b).starting = s.starting := rfl
@[simp] theorem State.setBlob_now (s : State) (r : Reg) (b : List Byte) : (s.setBlob r b).now = s.now := rfl
@[simp] theorem State.setBlob_regs (s : State) (r : Reg) (b : List Byte) : (s.setBlob r b).regs = s.regs := rfl
@[simp] theorem State.setBlob_pend (s : State) (r : Reg) (b : List Byte) : (s.setBlob r b).pend = s.pend := rfl
@[simp] theorem State.setBlob_armed (s : State) (r : Reg) (b : List Byte) : (s.setBlob r b).armed = s.armed := rfl
@[simp] theorem State.setBlob_pulses (s : State) (r : Reg) (b : List Byte) : (s.setBlob r b).pulses = s.pulses := rfl
@[simp] theorem State.setBlob_reports (s : State) (r : Reg) (b : List Byte) : (s.setBlob r b).reports = s.reports := rfl
@[simp] theorem State.setBlob_resp (s : State) (r : Reg) (b : List Byte) : (s.setBlob r b).resp = s.resp := rfl
@[simp] theorem State.setBlob_drawn (s : State) (r : Reg) (b : List Byte) : (s.setBlob r b).drawn = s.drawn := rfl
@[simp] theorem State.setBlob_frames (s : State) (r : Reg) (b : List Byte) : (s.setBlob r b).frames = s.frames := rfl
@[simp] theorem State.setBlob_entries (s : State) (r : Reg) (b : List Byte) : (s.setBlob r b).entries = s.entries := rfl
@[simp] theorem State.setBlob_wire (s : State) (r : Reg) (b : List Byte) : (s.setBlob r b).wire = s.wire := rfl
@[simp] theorem State.setBlob_prep (s : State) (r : Reg) (b : List Byte) : (s.setBlob r b).prep = s.prep := rfl
@[simp] theorem State.setBlob_spec (s : State) (r : Reg) (b : List Byte) : (s.setBlob r b).spec = s.spec := rfl
@[simp] theorem State.setBlob_verdicts (s : State) (r : Reg) (b : List Byte) : (s.setBlob r b).verdicts = s.verdicts := rfl
@[simp] theorem State.setBlob_records (s : State) (r : Reg) (b : List Byte) : (s.setBlob r b).records = s.records := rfl
@[simp] theorem State.setBlob_staging (s : State) (r : Reg) (b : List Byte) : (s.setBlob r b).staging = s.staging := rfl
@[simp] theorem State.setBlob_lostCells (s : State) (r : Reg) (b : List Byte) : (s.setBlob r b).lostCells = s.lostCells := rfl
@[simp] theorem State.setBlob_egress (s : State) (r : Reg) (b : List Byte) : (s.setBlob r b).egress = s.egress := rfl
@[simp] theorem State.setBlob_crossing (s : State) (r : Reg) (b : List Byte) : (s.setBlob r b).crossing = s.crossing := rfl
@[simp] theorem State.setBlob_flushes (s : State) (r : Reg) (b : List Byte) : (s.setBlob r b).flushes = s.flushes := rfl
@[simp] theorem State.setBlob_slow (s : State) (r : Reg) (b : List Byte) : (s.setBlob r b).slow = s.slow := rfl
@[simp] theorem State.setBlob_saEvents (s : State) (r : Reg) (b : List Byte) : (s.setBlob r b).saEvents = s.saEvents := rfl
@[simp] theorem State.setBlob_installs (s : State) (r : Reg) (b : List Byte) : (s.setBlob r b).installs = s.installs := rfl
@[simp] theorem State.setBlob_vault (s : State) (r : Reg) (b : List Byte) : (s.setBlob r b).vault = s.vault := rfl
@[simp] theorem State.setBlob_vaultWaiting (s : State) (r : Reg) (b : List Byte) : (s.setBlob r b).vaultWaiting = s.vaultWaiting := rfl
@[simp] theorem State.setBlob_vaultRunning (s : State) (r : Reg) (b : List Byte) : (s.setBlob r b).vaultRunning = s.vaultRunning := rfl
@[simp] theorem State.setBlob_crContexts (s : State) (r : Reg) (b : List Byte) : (s.setBlob r b).crContexts = s.crContexts := rfl
@[simp] theorem State.setBlob_crJobs (s : State) (r : Reg) (b : List Byte) : (s.setBlob r b).crJobs = s.crJobs := rfl
@[simp] theorem State.setBlob_mem (s : State) (r : Reg) (b : List Byte) : (s.setBlob r b).mem = s.mem := rfl
@[simp] theorem State.setBlob_flashLines (s : State) (r : Reg) (b : List Byte) : (s.setBlob r b).flashLines = s.flashLines := rfl
@[simp] theorem State.setBlob_granules (s : State) (r : Reg) (b : List Byte) : (s.setBlob r b).granules = s.granules := rfl
@[simp] theorem State.setBlob_kidKeys (s : State) (r : Reg) (b : List Byte) : (s.setBlob r b).kidKeys = s.kidKeys := rfl
@[simp] theorem State.setBlob_gwKeys (s : State) (r : Reg) (b : List Byte) : (s.setBlob r b).gwKeys = s.gwKeys := rfl
@[simp] theorem State.setBlob_cache (s : State) (r : Reg) (b : List Byte) : (s.setBlob r b).cache = s.cache := rfl
@[simp] theorem State.setBlob_bus (s : State) (r : Reg) (b : List Byte) : (s.setBlob r b).bus = s.bus := rfl
@[simp] theorem State.setBlob_fetches (s : State) (r : Reg) (b : List Byte) : (s.setBlob r b).fetches = s.fetches := rfl
@[simp] theorem State.setBlob_heldRead (s : State) (r : Reg) (b : List Byte) : (s.setBlob r b).heldRead = s.heldRead := rfl
@[simp] theorem State.setBlob_posted (s : State) (r : Reg) (b : List Byte) : (s.setBlob r b).posted = s.posted := rfl
@[simp] theorem State.setBlob_semaphore (s : State) (r : Reg) (b : List Byte) : (s.setBlob r b).semaphore = s.semaphore := rfl
@[simp] theorem State.setBlob_fences (s : State) (r : Reg) (b : List Byte) : (s.setBlob r b).fences = s.fences := rfl
@[simp] theorem State.setBlob_wickRead (s : State) (r : Reg) (b : List Byte) : (s.setBlob r b).wickRead = s.wickRead := rfl
@[simp] theorem State.setBlob_spTags (s : State) (r : Reg) (b : List Byte) : (s.setBlob r b).spTags = s.spTags := rfl
@[simp] theorem State.setBlob_boxes (s : State) (r : Reg) (b : List Byte) : (s.setBlob r b).boxes = s.boxes := rfl
@[simp] theorem State.setBlob_canQueue (s : State) (r : Reg) (b : List Byte) : (s.setBlob r b).canQueue = s.canQueue := rfl
@[simp] theorem State.setBlob_linQueue (s : State) (r : Reg) (b : List Byte) : (s.setBlob r b).linQueue = s.linQueue := rfl
@[simp] theorem State.setBlob_acfPacks (s : State) (r : Reg) (b : List Byte) : (s.setBlob r b).acfPacks = s.acfPacks := rfl
@[simp] theorem State.setBlob_sealRecords (s : State) (r : Reg) (b : List Byte) : (s.setBlob r b).sealRecords = s.sealRecords := rfl
@[simp] theorem State.setBlob_sessions (s : State) (r : Reg) (b : List Byte) : (s.setBlob r b).sessions = s.sessions := rfl
@[simp] theorem State.setBlob_images (s : State) (r : Reg) (b : List Byte) : (s.setBlob r b).images = s.images := rfl
@[simp] theorem State.setBlob_saving (s : State) (r : Reg) (b : List Byte) : (s.setBlob r b).saving = s.saving := rfl
@[simp] theorem State.setBlob_streaming (s : State) (r : Reg) (b : List Byte) : (s.setBlob r b).streaming = s.streaming := rfl
@[simp] theorem State.setBlob_errLog (s : State) (r : Reg) (b : List Byte) : (s.setBlob r b).errLog = s.errLog := rfl
@[simp] theorem State.setBlob_errFlash (s : State) (r : Reg) (b : List Byte) : (s.setBlob r b).errFlash = s.errFlash := rfl
@[simp] theorem State.setBlob_ivtasA (s : State) (r : Reg) (b : List Byte) : (s.setBlob r b).ivtasA = s.ivtasA := rfl
@[simp] theorem State.setBlob_ivtasB (s : State) (r : Reg) (b : List Byte) : (s.setBlob r b).ivtasB = s.ivtasB := rfl
@[simp] theorem State.setBlob_taperTx (s : State) (r : Reg) (b : List Byte) : (s.setBlob r b).taperTx = s.taperTx := rfl
@[simp] theorem State.setBlob_coathKept (s : State) (r : Reg) (b : List Byte) : (s.setBlob r b).coathKept = s.coathKept := rfl
@[simp] theorem State.setBlob_sdo (s : State) (r : Reg) (b : List Byte) : (s.setBlob r b).sdo = s.sdo := rfl
@[simp] theorem State.setBlob_pending (s : State) (r : Reg) (b : List Byte) : (s.setBlob r b).pending = s.pending := rfl

/-! ## `State.clearBlob` -/

@[simp] theorem State.clearBlob_fuses (s : State) (r : Reg) : (s.clearBlob r).fuses = s.fuses := rfl
@[simp] theorem State.clearBlob_mode (s : State) (r : Reg) : (s.clearBlob r).mode = s.mode := rfl
@[simp] theorem State.clearBlob_starting (s : State) (r : Reg) : (s.clearBlob r).starting = s.starting := rfl
@[simp] theorem State.clearBlob_now (s : State) (r : Reg) : (s.clearBlob r).now = s.now := rfl
@[simp] theorem State.clearBlob_regs (s : State) (r : Reg) : (s.clearBlob r).regs = s.regs := rfl
@[simp] theorem State.clearBlob_pend (s : State) (r : Reg) : (s.clearBlob r).pend = s.pend := rfl
@[simp] theorem State.clearBlob_armed (s : State) (r : Reg) : (s.clearBlob r).armed = s.armed := rfl
@[simp] theorem State.clearBlob_pulses (s : State) (r : Reg) : (s.clearBlob r).pulses = s.pulses := rfl
@[simp] theorem State.clearBlob_reports (s : State) (r : Reg) : (s.clearBlob r).reports = s.reports := rfl
@[simp] theorem State.clearBlob_resp (s : State) (r : Reg) : (s.clearBlob r).resp = s.resp := rfl
@[simp] theorem State.clearBlob_drawn (s : State) (r : Reg) : (s.clearBlob r).drawn = s.drawn := rfl
@[simp] theorem State.clearBlob_frames (s : State) (r : Reg) : (s.clearBlob r).frames = s.frames := rfl
@[simp] theorem State.clearBlob_entries (s : State) (r : Reg) : (s.clearBlob r).entries = s.entries := rfl
@[simp] theorem State.clearBlob_wire (s : State) (r : Reg) : (s.clearBlob r).wire = s.wire := rfl
@[simp] theorem State.clearBlob_prep (s : State) (r : Reg) : (s.clearBlob r).prep = s.prep := rfl
@[simp] theorem State.clearBlob_spec (s : State) (r : Reg) : (s.clearBlob r).spec = s.spec := rfl
@[simp] theorem State.clearBlob_verdicts (s : State) (r : Reg) : (s.clearBlob r).verdicts = s.verdicts := rfl
@[simp] theorem State.clearBlob_records (s : State) (r : Reg) : (s.clearBlob r).records = s.records := rfl
@[simp] theorem State.clearBlob_staging (s : State) (r : Reg) : (s.clearBlob r).staging = s.staging := rfl
@[simp] theorem State.clearBlob_lostCells (s : State) (r : Reg) : (s.clearBlob r).lostCells = s.lostCells := rfl
@[simp] theorem State.clearBlob_egress (s : State) (r : Reg) : (s.clearBlob r).egress = s.egress := rfl
@[simp] theorem State.clearBlob_crossing (s : State) (r : Reg) : (s.clearBlob r).crossing = s.crossing := rfl
@[simp] theorem State.clearBlob_flushes (s : State) (r : Reg) : (s.clearBlob r).flushes = s.flushes := rfl
@[simp] theorem State.clearBlob_slow (s : State) (r : Reg) : (s.clearBlob r).slow = s.slow := rfl
@[simp] theorem State.clearBlob_saEvents (s : State) (r : Reg) : (s.clearBlob r).saEvents = s.saEvents := rfl
@[simp] theorem State.clearBlob_installs (s : State) (r : Reg) : (s.clearBlob r).installs = s.installs := rfl
@[simp] theorem State.clearBlob_vault (s : State) (r : Reg) : (s.clearBlob r).vault = s.vault := rfl
@[simp] theorem State.clearBlob_vaultWaiting (s : State) (r : Reg) : (s.clearBlob r).vaultWaiting = s.vaultWaiting := rfl
@[simp] theorem State.clearBlob_vaultRunning (s : State) (r : Reg) : (s.clearBlob r).vaultRunning = s.vaultRunning := rfl
@[simp] theorem State.clearBlob_crContexts (s : State) (r : Reg) : (s.clearBlob r).crContexts = s.crContexts := rfl
@[simp] theorem State.clearBlob_crJobs (s : State) (r : Reg) : (s.clearBlob r).crJobs = s.crJobs := rfl
@[simp] theorem State.clearBlob_mem (s : State) (r : Reg) : (s.clearBlob r).mem = s.mem := rfl
@[simp] theorem State.clearBlob_flashLines (s : State) (r : Reg) : (s.clearBlob r).flashLines = s.flashLines := rfl
@[simp] theorem State.clearBlob_granules (s : State) (r : Reg) : (s.clearBlob r).granules = s.granules := rfl
@[simp] theorem State.clearBlob_kidKeys (s : State) (r : Reg) : (s.clearBlob r).kidKeys = s.kidKeys := rfl
@[simp] theorem State.clearBlob_gwKeys (s : State) (r : Reg) : (s.clearBlob r).gwKeys = s.gwKeys := rfl
@[simp] theorem State.clearBlob_cache (s : State) (r : Reg) : (s.clearBlob r).cache = s.cache := rfl
@[simp] theorem State.clearBlob_bus (s : State) (r : Reg) : (s.clearBlob r).bus = s.bus := rfl
@[simp] theorem State.clearBlob_fetches (s : State) (r : Reg) : (s.clearBlob r).fetches = s.fetches := rfl
@[simp] theorem State.clearBlob_heldRead (s : State) (r : Reg) : (s.clearBlob r).heldRead = s.heldRead := rfl
@[simp] theorem State.clearBlob_posted (s : State) (r : Reg) : (s.clearBlob r).posted = s.posted := rfl
@[simp] theorem State.clearBlob_semaphore (s : State) (r : Reg) : (s.clearBlob r).semaphore = s.semaphore := rfl
@[simp] theorem State.clearBlob_fences (s : State) (r : Reg) : (s.clearBlob r).fences = s.fences := rfl
@[simp] theorem State.clearBlob_wickRead (s : State) (r : Reg) : (s.clearBlob r).wickRead = s.wickRead := rfl
@[simp] theorem State.clearBlob_spTags (s : State) (r : Reg) : (s.clearBlob r).spTags = s.spTags := rfl
@[simp] theorem State.clearBlob_boxes (s : State) (r : Reg) : (s.clearBlob r).boxes = s.boxes := rfl
@[simp] theorem State.clearBlob_canQueue (s : State) (r : Reg) : (s.clearBlob r).canQueue = s.canQueue := rfl
@[simp] theorem State.clearBlob_linQueue (s : State) (r : Reg) : (s.clearBlob r).linQueue = s.linQueue := rfl
@[simp] theorem State.clearBlob_acfPacks (s : State) (r : Reg) : (s.clearBlob r).acfPacks = s.acfPacks := rfl
@[simp] theorem State.clearBlob_sealRecords (s : State) (r : Reg) : (s.clearBlob r).sealRecords = s.sealRecords := rfl
@[simp] theorem State.clearBlob_sessions (s : State) (r : Reg) : (s.clearBlob r).sessions = s.sessions := rfl
@[simp] theorem State.clearBlob_images (s : State) (r : Reg) : (s.clearBlob r).images = s.images := rfl
@[simp] theorem State.clearBlob_saving (s : State) (r : Reg) : (s.clearBlob r).saving = s.saving := rfl
@[simp] theorem State.clearBlob_streaming (s : State) (r : Reg) : (s.clearBlob r).streaming = s.streaming := rfl
@[simp] theorem State.clearBlob_errLog (s : State) (r : Reg) : (s.clearBlob r).errLog = s.errLog := rfl
@[simp] theorem State.clearBlob_errFlash (s : State) (r : Reg) : (s.clearBlob r).errFlash = s.errFlash := rfl
@[simp] theorem State.clearBlob_ivtasA (s : State) (r : Reg) : (s.clearBlob r).ivtasA = s.ivtasA := rfl
@[simp] theorem State.clearBlob_ivtasB (s : State) (r : Reg) : (s.clearBlob r).ivtasB = s.ivtasB := rfl
@[simp] theorem State.clearBlob_taperTx (s : State) (r : Reg) : (s.clearBlob r).taperTx = s.taperTx := rfl
@[simp] theorem State.clearBlob_coathKept (s : State) (r : Reg) : (s.clearBlob r).coathKept = s.coathKept := rfl
@[simp] theorem State.clearBlob_sdo (s : State) (r : Reg) : (s.clearBlob r).sdo = s.sdo := rfl
@[simp] theorem State.clearBlob_pending (s : State) (r : Reg) : (s.clearBlob r).pending = s.pending := rfl

/-! ## `State.done` -/

@[simp] theorem State.done_fuses (s : State) (c : Ctx) : (s.done c).fuses = s.fuses := rfl
@[simp] theorem State.done_mode (s : State) (c : Ctx) : (s.done c).mode = s.mode := rfl
@[simp] theorem State.done_starting (s : State) (c : Ctx) : (s.done c).starting = s.starting := rfl
@[simp] theorem State.done_now (s : State) (c : Ctx) : (s.done c).now = s.now := rfl
@[simp] theorem State.done_regs (s : State) (c : Ctx) : (s.done c).regs = s.regs := rfl
@[simp] theorem State.done_pend (s : State) (c : Ctx) : (s.done c).pend = s.pend := rfl
@[simp] theorem State.done_blobs (s : State) (c : Ctx) : (s.done c).blobs = s.blobs := rfl
@[simp] theorem State.done_armed (s : State) (c : Ctx) : (s.done c).armed = s.armed := rfl
@[simp] theorem State.done_pulses (s : State) (c : Ctx) : (s.done c).pulses = s.pulses := rfl
@[simp] theorem State.done_reports (s : State) (c : Ctx) : (s.done c).reports = s.reports := rfl
@[simp] theorem State.done_drawn (s : State) (c : Ctx) : (s.done c).drawn = s.drawn := rfl
@[simp] theorem State.done_frames (s : State) (c : Ctx) : (s.done c).frames = s.frames := rfl
@[simp] theorem State.done_entries (s : State) (c : Ctx) : (s.done c).entries = s.entries := rfl
@[simp] theorem State.done_wire (s : State) (c : Ctx) : (s.done c).wire = s.wire := rfl
@[simp] theorem State.done_prep (s : State) (c : Ctx) : (s.done c).prep = s.prep := rfl
@[simp] theorem State.done_spec (s : State) (c : Ctx) : (s.done c).spec = s.spec := rfl
@[simp] theorem State.done_verdicts (s : State) (c : Ctx) : (s.done c).verdicts = s.verdicts := rfl
@[simp] theorem State.done_records (s : State) (c : Ctx) : (s.done c).records = s.records := rfl
@[simp] theorem State.done_staging (s : State) (c : Ctx) : (s.done c).staging = s.staging := rfl
@[simp] theorem State.done_lostCells (s : State) (c : Ctx) : (s.done c).lostCells = s.lostCells := rfl
@[simp] theorem State.done_egress (s : State) (c : Ctx) : (s.done c).egress = s.egress := rfl
@[simp] theorem State.done_crossing (s : State) (c : Ctx) : (s.done c).crossing = s.crossing := rfl
@[simp] theorem State.done_flushes (s : State) (c : Ctx) : (s.done c).flushes = s.flushes := rfl
@[simp] theorem State.done_slow (s : State) (c : Ctx) : (s.done c).slow = s.slow := rfl
@[simp] theorem State.done_saEvents (s : State) (c : Ctx) : (s.done c).saEvents = s.saEvents := rfl
@[simp] theorem State.done_installs (s : State) (c : Ctx) : (s.done c).installs = s.installs := rfl
@[simp] theorem State.done_vault (s : State) (c : Ctx) : (s.done c).vault = s.vault := rfl
@[simp] theorem State.done_vaultWaiting (s : State) (c : Ctx) : (s.done c).vaultWaiting = s.vaultWaiting := rfl
@[simp] theorem State.done_vaultRunning (s : State) (c : Ctx) : (s.done c).vaultRunning = s.vaultRunning := rfl
@[simp] theorem State.done_crContexts (s : State) (c : Ctx) : (s.done c).crContexts = s.crContexts := rfl
@[simp] theorem State.done_crJobs (s : State) (c : Ctx) : (s.done c).crJobs = s.crJobs := rfl
@[simp] theorem State.done_mem (s : State) (c : Ctx) : (s.done c).mem = s.mem := rfl
@[simp] theorem State.done_flashLines (s : State) (c : Ctx) : (s.done c).flashLines = s.flashLines := rfl
@[simp] theorem State.done_granules (s : State) (c : Ctx) : (s.done c).granules = s.granules := rfl
@[simp] theorem State.done_kidKeys (s : State) (c : Ctx) : (s.done c).kidKeys = s.kidKeys := rfl
@[simp] theorem State.done_gwKeys (s : State) (c : Ctx) : (s.done c).gwKeys = s.gwKeys := rfl
@[simp] theorem State.done_cache (s : State) (c : Ctx) : (s.done c).cache = s.cache := rfl
@[simp] theorem State.done_bus (s : State) (c : Ctx) : (s.done c).bus = s.bus := rfl
@[simp] theorem State.done_fetches (s : State) (c : Ctx) : (s.done c).fetches = s.fetches := rfl
@[simp] theorem State.done_heldRead (s : State) (c : Ctx) : (s.done c).heldRead = s.heldRead := rfl
@[simp] theorem State.done_posted (s : State) (c : Ctx) : (s.done c).posted = s.posted := rfl
@[simp] theorem State.done_semaphore (s : State) (c : Ctx) : (s.done c).semaphore = s.semaphore := rfl
@[simp] theorem State.done_fences (s : State) (c : Ctx) : (s.done c).fences = s.fences := rfl
@[simp] theorem State.done_wickRead (s : State) (c : Ctx) : (s.done c).wickRead = s.wickRead := rfl
@[simp] theorem State.done_spTags (s : State) (c : Ctx) : (s.done c).spTags = s.spTags := rfl
@[simp] theorem State.done_boxes (s : State) (c : Ctx) : (s.done c).boxes = s.boxes := rfl
@[simp] theorem State.done_canQueue (s : State) (c : Ctx) : (s.done c).canQueue = s.canQueue := rfl
@[simp] theorem State.done_linQueue (s : State) (c : Ctx) : (s.done c).linQueue = s.linQueue := rfl
@[simp] theorem State.done_acfPacks (s : State) (c : Ctx) : (s.done c).acfPacks = s.acfPacks := rfl
@[simp] theorem State.done_sealRecords (s : State) (c : Ctx) : (s.done c).sealRecords = s.sealRecords := rfl
@[simp] theorem State.done_sessions (s : State) (c : Ctx) : (s.done c).sessions = s.sessions := rfl
@[simp] theorem State.done_images (s : State) (c : Ctx) : (s.done c).images = s.images := rfl
@[simp] theorem State.done_saving (s : State) (c : Ctx) : (s.done c).saving = s.saving := rfl
@[simp] theorem State.done_streaming (s : State) (c : Ctx) : (s.done c).streaming = s.streaming := rfl
@[simp] theorem State.done_errLog (s : State) (c : Ctx) : (s.done c).errLog = s.errLog := rfl
@[simp] theorem State.done_errFlash (s : State) (c : Ctx) : (s.done c).errFlash = s.errFlash := rfl
@[simp] theorem State.done_ivtasA (s : State) (c : Ctx) : (s.done c).ivtasA = s.ivtasA := rfl
@[simp] theorem State.done_ivtasB (s : State) (c : Ctx) : (s.done c).ivtasB = s.ivtasB := rfl
@[simp] theorem State.done_taperTx (s : State) (c : Ctx) : (s.done c).taperTx = s.taperTx := rfl
@[simp] theorem State.done_coathKept (s : State) (c : Ctx) : (s.done c).coathKept = s.coathKept := rfl
@[simp] theorem State.done_sdo (s : State) (c : Ctx) : (s.done c).sdo = s.sdo := rfl
@[simp] theorem State.done_pending (s : State) (c : Ctx) : (s.done c).pending = s.pending := rfl

/-! ## `State.reply` -/

@[simp] theorem State.reply_fuses (s : State) (c : Ctx) (v : Nat) (b : List Byte) : (s.reply c v b).fuses = s.fuses := rfl
@[simp] theorem State.reply_mode (s : State) (c : Ctx) (v : Nat) (b : List Byte) : (s.reply c v b).mode = s.mode := rfl
@[simp] theorem State.reply_starting (s : State) (c : Ctx) (v : Nat) (b : List Byte) : (s.reply c v b).starting = s.starting := rfl
@[simp] theorem State.reply_now (s : State) (c : Ctx) (v : Nat) (b : List Byte) : (s.reply c v b).now = s.now := rfl
@[simp] theorem State.reply_regs (s : State) (c : Ctx) (v : Nat) (b : List Byte) : (s.reply c v b).regs = s.regs := rfl
@[simp] theorem State.reply_pend (s : State) (c : Ctx) (v : Nat) (b : List Byte) : (s.reply c v b).pend = s.pend := rfl
@[simp] theorem State.reply_blobs (s : State) (c : Ctx) (v : Nat) (b : List Byte) : (s.reply c v b).blobs = s.blobs := rfl
@[simp] theorem State.reply_armed (s : State) (c : Ctx) (v : Nat) (b : List Byte) : (s.reply c v b).armed = s.armed := rfl
@[simp] theorem State.reply_pulses (s : State) (c : Ctx) (v : Nat) (b : List Byte) : (s.reply c v b).pulses = s.pulses := rfl
@[simp] theorem State.reply_reports (s : State) (c : Ctx) (v : Nat) (b : List Byte) : (s.reply c v b).reports = s.reports := rfl
@[simp] theorem State.reply_drawn (s : State) (c : Ctx) (v : Nat) (b : List Byte) : (s.reply c v b).drawn = s.drawn := rfl
@[simp] theorem State.reply_frames (s : State) (c : Ctx) (v : Nat) (b : List Byte) : (s.reply c v b).frames = s.frames := rfl
@[simp] theorem State.reply_entries (s : State) (c : Ctx) (v : Nat) (b : List Byte) : (s.reply c v b).entries = s.entries := rfl
@[simp] theorem State.reply_wire (s : State) (c : Ctx) (v : Nat) (b : List Byte) : (s.reply c v b).wire = s.wire := rfl
@[simp] theorem State.reply_prep (s : State) (c : Ctx) (v : Nat) (b : List Byte) : (s.reply c v b).prep = s.prep := rfl
@[simp] theorem State.reply_spec (s : State) (c : Ctx) (v : Nat) (b : List Byte) : (s.reply c v b).spec = s.spec := rfl
@[simp] theorem State.reply_verdicts (s : State) (c : Ctx) (v : Nat) (b : List Byte) : (s.reply c v b).verdicts = s.verdicts := rfl
@[simp] theorem State.reply_records (s : State) (c : Ctx) (v : Nat) (b : List Byte) : (s.reply c v b).records = s.records := rfl
@[simp] theorem State.reply_staging (s : State) (c : Ctx) (v : Nat) (b : List Byte) : (s.reply c v b).staging = s.staging := rfl
@[simp] theorem State.reply_lostCells (s : State) (c : Ctx) (v : Nat) (b : List Byte) : (s.reply c v b).lostCells = s.lostCells := rfl
@[simp] theorem State.reply_egress (s : State) (c : Ctx) (v : Nat) (b : List Byte) : (s.reply c v b).egress = s.egress := rfl
@[simp] theorem State.reply_crossing (s : State) (c : Ctx) (v : Nat) (b : List Byte) : (s.reply c v b).crossing = s.crossing := rfl
@[simp] theorem State.reply_flushes (s : State) (c : Ctx) (v : Nat) (b : List Byte) : (s.reply c v b).flushes = s.flushes := rfl
@[simp] theorem State.reply_slow (s : State) (c : Ctx) (v : Nat) (b : List Byte) : (s.reply c v b).slow = s.slow := rfl
@[simp] theorem State.reply_saEvents (s : State) (c : Ctx) (v : Nat) (b : List Byte) : (s.reply c v b).saEvents = s.saEvents := rfl
@[simp] theorem State.reply_installs (s : State) (c : Ctx) (v : Nat) (b : List Byte) : (s.reply c v b).installs = s.installs := rfl
@[simp] theorem State.reply_vault (s : State) (c : Ctx) (v : Nat) (b : List Byte) : (s.reply c v b).vault = s.vault := rfl
@[simp] theorem State.reply_vaultWaiting (s : State) (c : Ctx) (v : Nat) (b : List Byte) : (s.reply c v b).vaultWaiting = s.vaultWaiting := rfl
@[simp] theorem State.reply_vaultRunning (s : State) (c : Ctx) (v : Nat) (b : List Byte) : (s.reply c v b).vaultRunning = s.vaultRunning := rfl
@[simp] theorem State.reply_crContexts (s : State) (c : Ctx) (v : Nat) (b : List Byte) : (s.reply c v b).crContexts = s.crContexts := rfl
@[simp] theorem State.reply_crJobs (s : State) (c : Ctx) (v : Nat) (b : List Byte) : (s.reply c v b).crJobs = s.crJobs := rfl
@[simp] theorem State.reply_mem (s : State) (c : Ctx) (v : Nat) (b : List Byte) : (s.reply c v b).mem = s.mem := rfl
@[simp] theorem State.reply_flashLines (s : State) (c : Ctx) (v : Nat) (b : List Byte) : (s.reply c v b).flashLines = s.flashLines := rfl
@[simp] theorem State.reply_granules (s : State) (c : Ctx) (v : Nat) (b : List Byte) : (s.reply c v b).granules = s.granules := rfl
@[simp] theorem State.reply_kidKeys (s : State) (c : Ctx) (v : Nat) (b : List Byte) : (s.reply c v b).kidKeys = s.kidKeys := rfl
@[simp] theorem State.reply_gwKeys (s : State) (c : Ctx) (v : Nat) (b : List Byte) : (s.reply c v b).gwKeys = s.gwKeys := rfl
@[simp] theorem State.reply_cache (s : State) (c : Ctx) (v : Nat) (b : List Byte) : (s.reply c v b).cache = s.cache := rfl
@[simp] theorem State.reply_bus (s : State) (c : Ctx) (v : Nat) (b : List Byte) : (s.reply c v b).bus = s.bus := rfl
@[simp] theorem State.reply_fetches (s : State) (c : Ctx) (v : Nat) (b : List Byte) : (s.reply c v b).fetches = s.fetches := rfl
@[simp] theorem State.reply_heldRead (s : State) (c : Ctx) (v : Nat) (b : List Byte) : (s.reply c v b).heldRead = s.heldRead := rfl
@[simp] theorem State.reply_posted (s : State) (c : Ctx) (v : Nat) (b : List Byte) : (s.reply c v b).posted = s.posted := rfl
@[simp] theorem State.reply_semaphore (s : State) (c : Ctx) (v : Nat) (b : List Byte) : (s.reply c v b).semaphore = s.semaphore := rfl
@[simp] theorem State.reply_fences (s : State) (c : Ctx) (v : Nat) (b : List Byte) : (s.reply c v b).fences = s.fences := rfl
@[simp] theorem State.reply_wickRead (s : State) (c : Ctx) (v : Nat) (b : List Byte) : (s.reply c v b).wickRead = s.wickRead := rfl
@[simp] theorem State.reply_spTags (s : State) (c : Ctx) (v : Nat) (b : List Byte) : (s.reply c v b).spTags = s.spTags := rfl
@[simp] theorem State.reply_boxes (s : State) (c : Ctx) (v : Nat) (b : List Byte) : (s.reply c v b).boxes = s.boxes := rfl
@[simp] theorem State.reply_canQueue (s : State) (c : Ctx) (v : Nat) (b : List Byte) : (s.reply c v b).canQueue = s.canQueue := rfl
@[simp] theorem State.reply_linQueue (s : State) (c : Ctx) (v : Nat) (b : List Byte) : (s.reply c v b).linQueue = s.linQueue := rfl
@[simp] theorem State.reply_acfPacks (s : State) (c : Ctx) (v : Nat) (b : List Byte) : (s.reply c v b).acfPacks = s.acfPacks := rfl
@[simp] theorem State.reply_sealRecords (s : State) (c : Ctx) (v : Nat) (b : List Byte) : (s.reply c v b).sealRecords = s.sealRecords := rfl
@[simp] theorem State.reply_sessions (s : State) (c : Ctx) (v : Nat) (b : List Byte) : (s.reply c v b).sessions = s.sessions := rfl
@[simp] theorem State.reply_images (s : State) (c : Ctx) (v : Nat) (b : List Byte) : (s.reply c v b).images = s.images := rfl
@[simp] theorem State.reply_saving (s : State) (c : Ctx) (v : Nat) (b : List Byte) : (s.reply c v b).saving = s.saving := rfl
@[simp] theorem State.reply_streaming (s : State) (c : Ctx) (v : Nat) (b : List Byte) : (s.reply c v b).streaming = s.streaming := rfl
@[simp] theorem State.reply_errLog (s : State) (c : Ctx) (v : Nat) (b : List Byte) : (s.reply c v b).errLog = s.errLog := rfl
@[simp] theorem State.reply_errFlash (s : State) (c : Ctx) (v : Nat) (b : List Byte) : (s.reply c v b).errFlash = s.errFlash := rfl
@[simp] theorem State.reply_ivtasA (s : State) (c : Ctx) (v : Nat) (b : List Byte) : (s.reply c v b).ivtasA = s.ivtasA := rfl
@[simp] theorem State.reply_ivtasB (s : State) (c : Ctx) (v : Nat) (b : List Byte) : (s.reply c v b).ivtasB = s.ivtasB := rfl
@[simp] theorem State.reply_taperTx (s : State) (c : Ctx) (v : Nat) (b : List Byte) : (s.reply c v b).taperTx = s.taperTx := rfl
@[simp] theorem State.reply_coathKept (s : State) (c : Ctx) (v : Nat) (b : List Byte) : (s.reply c v b).coathKept = s.coathKept := rfl
@[simp] theorem State.reply_sdo (s : State) (c : Ctx) (v : Nat) (b : List Byte) : (s.reply c v b).sdo = s.sdo := rfl
@[simp] theorem State.reply_pending (s : State) (c : Ctx) (v : Nat) (b : List Byte) : (s.reply c v b).pending = s.pending := rfl

/-! ## `State.refuse` -/

@[simp] theorem State.refuse_fuses (s : State) (c : Ctx) (a : Nat) : (s.refuse c a).fuses = s.fuses := by unfold State.refuse; split <;> rfl
@[simp] theorem State.refuse_mode (s : State) (c : Ctx) (a : Nat) : (s.refuse c a).mode = s.mode := by unfold State.refuse; split <;> rfl
@[simp] theorem State.refuse_starting (s : State) (c : Ctx) (a : Nat) : (s.refuse c a).starting = s.starting := by unfold State.refuse; split <;> rfl
@[simp] theorem State.refuse_now (s : State) (c : Ctx) (a : Nat) : (s.refuse c a).now = s.now := by unfold State.refuse; split <;> rfl
@[simp] theorem State.refuse_pend (s : State) (c : Ctx) (a : Nat) : (s.refuse c a).pend = s.pend := by unfold State.refuse; split <;> rfl
@[simp] theorem State.refuse_blobs (s : State) (c : Ctx) (a : Nat) : (s.refuse c a).blobs = s.blobs := by unfold State.refuse; split <;> rfl
@[simp] theorem State.refuse_armed (s : State) (c : Ctx) (a : Nat) : (s.refuse c a).armed = s.armed := by unfold State.refuse; split <;> rfl
@[simp] theorem State.refuse_pulses (s : State) (c : Ctx) (a : Nat) : (s.refuse c a).pulses = s.pulses := by unfold State.refuse; split <;> rfl
@[simp] theorem State.refuse_reports (s : State) (c : Ctx) (a : Nat) : (s.refuse c a).reports = s.reports := by unfold State.refuse; split <;> rfl
@[simp] theorem State.refuse_drawn (s : State) (c : Ctx) (a : Nat) : (s.refuse c a).drawn = s.drawn := by unfold State.refuse; split <;> rfl
@[simp] theorem State.refuse_frames (s : State) (c : Ctx) (a : Nat) : (s.refuse c a).frames = s.frames := by unfold State.refuse; split <;> rfl
@[simp] theorem State.refuse_entries (s : State) (c : Ctx) (a : Nat) : (s.refuse c a).entries = s.entries := by unfold State.refuse; split <;> rfl
@[simp] theorem State.refuse_wire (s : State) (c : Ctx) (a : Nat) : (s.refuse c a).wire = s.wire := by unfold State.refuse; split <;> rfl
@[simp] theorem State.refuse_prep (s : State) (c : Ctx) (a : Nat) : (s.refuse c a).prep = s.prep := by unfold State.refuse; split <;> rfl
@[simp] theorem State.refuse_spec (s : State) (c : Ctx) (a : Nat) : (s.refuse c a).spec = s.spec := by unfold State.refuse; split <;> rfl
@[simp] theorem State.refuse_verdicts (s : State) (c : Ctx) (a : Nat) : (s.refuse c a).verdicts = s.verdicts := by unfold State.refuse; split <;> rfl
@[simp] theorem State.refuse_records (s : State) (c : Ctx) (a : Nat) : (s.refuse c a).records = s.records := by unfold State.refuse; split <;> rfl
@[simp] theorem State.refuse_staging (s : State) (c : Ctx) (a : Nat) : (s.refuse c a).staging = s.staging := by unfold State.refuse; split <;> rfl
@[simp] theorem State.refuse_lostCells (s : State) (c : Ctx) (a : Nat) : (s.refuse c a).lostCells = s.lostCells := by unfold State.refuse; split <;> rfl
@[simp] theorem State.refuse_egress (s : State) (c : Ctx) (a : Nat) : (s.refuse c a).egress = s.egress := by unfold State.refuse; split <;> rfl
@[simp] theorem State.refuse_crossing (s : State) (c : Ctx) (a : Nat) : (s.refuse c a).crossing = s.crossing := by unfold State.refuse; split <;> rfl
@[simp] theorem State.refuse_flushes (s : State) (c : Ctx) (a : Nat) : (s.refuse c a).flushes = s.flushes := by unfold State.refuse; split <;> rfl
@[simp] theorem State.refuse_slow (s : State) (c : Ctx) (a : Nat) : (s.refuse c a).slow = s.slow := by unfold State.refuse; split <;> rfl
@[simp] theorem State.refuse_saEvents (s : State) (c : Ctx) (a : Nat) : (s.refuse c a).saEvents = s.saEvents := by unfold State.refuse; split <;> rfl
@[simp] theorem State.refuse_installs (s : State) (c : Ctx) (a : Nat) : (s.refuse c a).installs = s.installs := by unfold State.refuse; split <;> rfl
@[simp] theorem State.refuse_vault (s : State) (c : Ctx) (a : Nat) : (s.refuse c a).vault = s.vault := by unfold State.refuse; split <;> rfl
@[simp] theorem State.refuse_vaultWaiting (s : State) (c : Ctx) (a : Nat) : (s.refuse c a).vaultWaiting = s.vaultWaiting := by unfold State.refuse; split <;> rfl
@[simp] theorem State.refuse_vaultRunning (s : State) (c : Ctx) (a : Nat) : (s.refuse c a).vaultRunning = s.vaultRunning := by unfold State.refuse; split <;> rfl
@[simp] theorem State.refuse_crContexts (s : State) (c : Ctx) (a : Nat) : (s.refuse c a).crContexts = s.crContexts := by unfold State.refuse; split <;> rfl
@[simp] theorem State.refuse_crJobs (s : State) (c : Ctx) (a : Nat) : (s.refuse c a).crJobs = s.crJobs := by unfold State.refuse; split <;> rfl
@[simp] theorem State.refuse_mem (s : State) (c : Ctx) (a : Nat) : (s.refuse c a).mem = s.mem := by unfold State.refuse; split <;> rfl
@[simp] theorem State.refuse_flashLines (s : State) (c : Ctx) (a : Nat) : (s.refuse c a).flashLines = s.flashLines := by unfold State.refuse; split <;> rfl
@[simp] theorem State.refuse_granules (s : State) (c : Ctx) (a : Nat) : (s.refuse c a).granules = s.granules := by unfold State.refuse; split <;> rfl
@[simp] theorem State.refuse_kidKeys (s : State) (c : Ctx) (a : Nat) : (s.refuse c a).kidKeys = s.kidKeys := by unfold State.refuse; split <;> rfl
@[simp] theorem State.refuse_gwKeys (s : State) (c : Ctx) (a : Nat) : (s.refuse c a).gwKeys = s.gwKeys := by unfold State.refuse; split <;> rfl
@[simp] theorem State.refuse_cache (s : State) (c : Ctx) (a : Nat) : (s.refuse c a).cache = s.cache := by unfold State.refuse; split <;> rfl
@[simp] theorem State.refuse_bus (s : State) (c : Ctx) (a : Nat) : (s.refuse c a).bus = s.bus := by unfold State.refuse; split <;> rfl
@[simp] theorem State.refuse_fetches (s : State) (c : Ctx) (a : Nat) : (s.refuse c a).fetches = s.fetches := by unfold State.refuse; split <;> rfl
@[simp] theorem State.refuse_heldRead (s : State) (c : Ctx) (a : Nat) : (s.refuse c a).heldRead = s.heldRead := by unfold State.refuse; split <;> rfl
@[simp] theorem State.refuse_posted (s : State) (c : Ctx) (a : Nat) : (s.refuse c a).posted = s.posted := by unfold State.refuse; split <;> rfl
@[simp] theorem State.refuse_semaphore (s : State) (c : Ctx) (a : Nat) : (s.refuse c a).semaphore = s.semaphore := by unfold State.refuse; split <;> rfl
@[simp] theorem State.refuse_fences (s : State) (c : Ctx) (a : Nat) : (s.refuse c a).fences = s.fences := by unfold State.refuse; split <;> rfl
@[simp] theorem State.refuse_wickRead (s : State) (c : Ctx) (a : Nat) : (s.refuse c a).wickRead = s.wickRead := by unfold State.refuse; split <;> rfl
@[simp] theorem State.refuse_spTags (s : State) (c : Ctx) (a : Nat) : (s.refuse c a).spTags = s.spTags := by unfold State.refuse; split <;> rfl
@[simp] theorem State.refuse_boxes (s : State) (c : Ctx) (a : Nat) : (s.refuse c a).boxes = s.boxes := by unfold State.refuse; split <;> rfl
@[simp] theorem State.refuse_canQueue (s : State) (c : Ctx) (a : Nat) : (s.refuse c a).canQueue = s.canQueue := by unfold State.refuse; split <;> rfl
@[simp] theorem State.refuse_linQueue (s : State) (c : Ctx) (a : Nat) : (s.refuse c a).linQueue = s.linQueue := by unfold State.refuse; split <;> rfl
@[simp] theorem State.refuse_acfPacks (s : State) (c : Ctx) (a : Nat) : (s.refuse c a).acfPacks = s.acfPacks := by unfold State.refuse; split <;> rfl
@[simp] theorem State.refuse_sealRecords (s : State) (c : Ctx) (a : Nat) : (s.refuse c a).sealRecords = s.sealRecords := by unfold State.refuse; split <;> rfl
@[simp] theorem State.refuse_sessions (s : State) (c : Ctx) (a : Nat) : (s.refuse c a).sessions = s.sessions := by unfold State.refuse; split <;> rfl
@[simp] theorem State.refuse_images (s : State) (c : Ctx) (a : Nat) : (s.refuse c a).images = s.images := by unfold State.refuse; split <;> rfl
@[simp] theorem State.refuse_saving (s : State) (c : Ctx) (a : Nat) : (s.refuse c a).saving = s.saving := by unfold State.refuse; split <;> rfl
@[simp] theorem State.refuse_streaming (s : State) (c : Ctx) (a : Nat) : (s.refuse c a).streaming = s.streaming := by unfold State.refuse; split <;> rfl
@[simp] theorem State.refuse_errLog (s : State) (c : Ctx) (a : Nat) : (s.refuse c a).errLog = s.errLog := by unfold State.refuse; split <;> rfl
@[simp] theorem State.refuse_errFlash (s : State) (c : Ctx) (a : Nat) : (s.refuse c a).errFlash = s.errFlash := by unfold State.refuse; split <;> rfl
@[simp] theorem State.refuse_ivtasA (s : State) (c : Ctx) (a : Nat) : (s.refuse c a).ivtasA = s.ivtasA := by unfold State.refuse; split <;> rfl
@[simp] theorem State.refuse_ivtasB (s : State) (c : Ctx) (a : Nat) : (s.refuse c a).ivtasB = s.ivtasB := by unfold State.refuse; split <;> rfl
@[simp] theorem State.refuse_taperTx (s : State) (c : Ctx) (a : Nat) : (s.refuse c a).taperTx = s.taperTx := by unfold State.refuse; split <;> rfl
@[simp] theorem State.refuse_coathKept (s : State) (c : Ctx) (a : Nat) : (s.refuse c a).coathKept = s.coathKept := by unfold State.refuse; split <;> rfl
@[simp] theorem State.refuse_sdo (s : State) (c : Ctx) (a : Nat) : (s.refuse c a).sdo = s.sdo := by unfold State.refuse; split <;> rfl
@[simp] theorem State.refuse_pending (s : State) (c : Ctx) (a : Nat) : (s.refuse c a).pending = s.pending := by unfold State.refuse; split <;> rfl

/-! ## `State.setBytes` -/

@[simp] theorem State.setBytes_fuses (s : State) (a : Nat) (b : List Byte) : (s.setBytes a b).fuses = s.fuses := rfl
@[simp] theorem State.setBytes_mode (s : State) (a : Nat) (b : List Byte) : (s.setBytes a b).mode = s.mode := rfl
@[simp] theorem State.setBytes_starting (s : State) (a : Nat) (b : List Byte) : (s.setBytes a b).starting = s.starting := rfl
@[simp] theorem State.setBytes_now (s : State) (a : Nat) (b : List Byte) : (s.setBytes a b).now = s.now := rfl
@[simp] theorem State.setBytes_regs (s : State) (a : Nat) (b : List Byte) : (s.setBytes a b).regs = s.regs := rfl
@[simp] theorem State.setBytes_pend (s : State) (a : Nat) (b : List Byte) : (s.setBytes a b).pend = s.pend := rfl
@[simp] theorem State.setBytes_blobs (s : State) (a : Nat) (b : List Byte) : (s.setBytes a b).blobs = s.blobs := rfl
@[simp] theorem State.setBytes_armed (s : State) (a : Nat) (b : List Byte) : (s.setBytes a b).armed = s.armed := rfl
@[simp] theorem State.setBytes_pulses (s : State) (a : Nat) (b : List Byte) : (s.setBytes a b).pulses = s.pulses := rfl
@[simp] theorem State.setBytes_reports (s : State) (a : Nat) (b : List Byte) : (s.setBytes a b).reports = s.reports := rfl
@[simp] theorem State.setBytes_resp (s : State) (a : Nat) (b : List Byte) : (s.setBytes a b).resp = s.resp := rfl
@[simp] theorem State.setBytes_drawn (s : State) (a : Nat) (b : List Byte) : (s.setBytes a b).drawn = s.drawn := rfl
@[simp] theorem State.setBytes_frames (s : State) (a : Nat) (b : List Byte) : (s.setBytes a b).frames = s.frames := rfl
@[simp] theorem State.setBytes_entries (s : State) (a : Nat) (b : List Byte) : (s.setBytes a b).entries = s.entries := rfl
@[simp] theorem State.setBytes_wire (s : State) (a : Nat) (b : List Byte) : (s.setBytes a b).wire = s.wire := rfl
@[simp] theorem State.setBytes_prep (s : State) (a : Nat) (b : List Byte) : (s.setBytes a b).prep = s.prep := rfl
@[simp] theorem State.setBytes_spec (s : State) (a : Nat) (b : List Byte) : (s.setBytes a b).spec = s.spec := rfl
@[simp] theorem State.setBytes_verdicts (s : State) (a : Nat) (b : List Byte) : (s.setBytes a b).verdicts = s.verdicts := rfl
@[simp] theorem State.setBytes_records (s : State) (a : Nat) (b : List Byte) : (s.setBytes a b).records = s.records := rfl
@[simp] theorem State.setBytes_staging (s : State) (a : Nat) (b : List Byte) : (s.setBytes a b).staging = s.staging := rfl
@[simp] theorem State.setBytes_lostCells (s : State) (a : Nat) (b : List Byte) : (s.setBytes a b).lostCells = s.lostCells := rfl
@[simp] theorem State.setBytes_egress (s : State) (a : Nat) (b : List Byte) : (s.setBytes a b).egress = s.egress := rfl
@[simp] theorem State.setBytes_crossing (s : State) (a : Nat) (b : List Byte) : (s.setBytes a b).crossing = s.crossing := rfl
@[simp] theorem State.setBytes_flushes (s : State) (a : Nat) (b : List Byte) : (s.setBytes a b).flushes = s.flushes := rfl
@[simp] theorem State.setBytes_slow (s : State) (a : Nat) (b : List Byte) : (s.setBytes a b).slow = s.slow := rfl
@[simp] theorem State.setBytes_saEvents (s : State) (a : Nat) (b : List Byte) : (s.setBytes a b).saEvents = s.saEvents := rfl
@[simp] theorem State.setBytes_installs (s : State) (a : Nat) (b : List Byte) : (s.setBytes a b).installs = s.installs := rfl
@[simp] theorem State.setBytes_vault (s : State) (a : Nat) (b : List Byte) : (s.setBytes a b).vault = s.vault := rfl
@[simp] theorem State.setBytes_vaultWaiting (s : State) (a : Nat) (b : List Byte) : (s.setBytes a b).vaultWaiting = s.vaultWaiting := rfl
@[simp] theorem State.setBytes_vaultRunning (s : State) (a : Nat) (b : List Byte) : (s.setBytes a b).vaultRunning = s.vaultRunning := rfl
@[simp] theorem State.setBytes_crContexts (s : State) (a : Nat) (b : List Byte) : (s.setBytes a b).crContexts = s.crContexts := rfl
@[simp] theorem State.setBytes_crJobs (s : State) (a : Nat) (b : List Byte) : (s.setBytes a b).crJobs = s.crJobs := rfl
@[simp] theorem State.setBytes_flashLines (s : State) (a : Nat) (b : List Byte) : (s.setBytes a b).flashLines = s.flashLines := rfl
@[simp] theorem State.setBytes_granules (s : State) (a : Nat) (b : List Byte) : (s.setBytes a b).granules = s.granules := rfl
@[simp] theorem State.setBytes_kidKeys (s : State) (a : Nat) (b : List Byte) : (s.setBytes a b).kidKeys = s.kidKeys := rfl
@[simp] theorem State.setBytes_gwKeys (s : State) (a : Nat) (b : List Byte) : (s.setBytes a b).gwKeys = s.gwKeys := rfl
@[simp] theorem State.setBytes_cache (s : State) (a : Nat) (b : List Byte) : (s.setBytes a b).cache = s.cache := rfl
@[simp] theorem State.setBytes_bus (s : State) (a : Nat) (b : List Byte) : (s.setBytes a b).bus = s.bus := rfl
@[simp] theorem State.setBytes_fetches (s : State) (a : Nat) (b : List Byte) : (s.setBytes a b).fetches = s.fetches := rfl
@[simp] theorem State.setBytes_heldRead (s : State) (a : Nat) (b : List Byte) : (s.setBytes a b).heldRead = s.heldRead := rfl
@[simp] theorem State.setBytes_posted (s : State) (a : Nat) (b : List Byte) : (s.setBytes a b).posted = s.posted := rfl
@[simp] theorem State.setBytes_semaphore (s : State) (a : Nat) (b : List Byte) : (s.setBytes a b).semaphore = s.semaphore := rfl
@[simp] theorem State.setBytes_fences (s : State) (a : Nat) (b : List Byte) : (s.setBytes a b).fences = s.fences := rfl
@[simp] theorem State.setBytes_wickRead (s : State) (a : Nat) (b : List Byte) : (s.setBytes a b).wickRead = s.wickRead := rfl
@[simp] theorem State.setBytes_spTags (s : State) (a : Nat) (b : List Byte) : (s.setBytes a b).spTags = s.spTags := rfl
@[simp] theorem State.setBytes_boxes (s : State) (a : Nat) (b : List Byte) : (s.setBytes a b).boxes = s.boxes := rfl
@[simp] theorem State.setBytes_canQueue (s : State) (a : Nat) (b : List Byte) : (s.setBytes a b).canQueue = s.canQueue := rfl
@[simp] theorem State.setBytes_linQueue (s : State) (a : Nat) (b : List Byte) : (s.setBytes a b).linQueue = s.linQueue := rfl
@[simp] theorem State.setBytes_acfPacks (s : State) (a : Nat) (b : List Byte) : (s.setBytes a b).acfPacks = s.acfPacks := rfl
@[simp] theorem State.setBytes_sealRecords (s : State) (a : Nat) (b : List Byte) : (s.setBytes a b).sealRecords = s.sealRecords := rfl
@[simp] theorem State.setBytes_sessions (s : State) (a : Nat) (b : List Byte) : (s.setBytes a b).sessions = s.sessions := rfl
@[simp] theorem State.setBytes_images (s : State) (a : Nat) (b : List Byte) : (s.setBytes a b).images = s.images := rfl
@[simp] theorem State.setBytes_saving (s : State) (a : Nat) (b : List Byte) : (s.setBytes a b).saving = s.saving := rfl
@[simp] theorem State.setBytes_streaming (s : State) (a : Nat) (b : List Byte) : (s.setBytes a b).streaming = s.streaming := rfl
@[simp] theorem State.setBytes_errLog (s : State) (a : Nat) (b : List Byte) : (s.setBytes a b).errLog = s.errLog := rfl
@[simp] theorem State.setBytes_errFlash (s : State) (a : Nat) (b : List Byte) : (s.setBytes a b).errFlash = s.errFlash := rfl
@[simp] theorem State.setBytes_ivtasA (s : State) (a : Nat) (b : List Byte) : (s.setBytes a b).ivtasA = s.ivtasA := rfl
@[simp] theorem State.setBytes_ivtasB (s : State) (a : Nat) (b : List Byte) : (s.setBytes a b).ivtasB = s.ivtasB := rfl
@[simp] theorem State.setBytes_taperTx (s : State) (a : Nat) (b : List Byte) : (s.setBytes a b).taperTx = s.taperTx := rfl
@[simp] theorem State.setBytes_coathKept (s : State) (a : Nat) (b : List Byte) : (s.setBytes a b).coathKept = s.coathKept := rfl
@[simp] theorem State.setBytes_sdo (s : State) (a : Nat) (b : List Byte) : (s.setBytes a b).sdo = s.sdo := rfl
@[simp] theorem State.setBytes_pending (s : State) (a : Nat) (b : List Byte) : (s.setBytes a b).pending = s.pending := rfl

end Sys2Proof.Machine
end

