-- ==== Sys2Proof/Laws/Registers.lean ====
section
/-! SUPPORT. The laws of the register file, of the pending copies and of objects of bytes: what is read after a write. -/
set_option Elab.async false
namespace Sys2Proof.Machine

/-! ## Lists of named entries -/

theorem Assoc.get?_put_self {α : Type} (l : List (Reg × α)) (r : Reg) (v : α) : Assoc.get? (Assoc.put l r v) r = some v := by
  induction l with
  | nil => simp [Assoc.put, Assoc.get?]
  | cons e t ih =>
    obtain ⟨k, w⟩ := e
    simp only [Assoc.put]
    split
    · simp [Assoc.get?]
    · split
      · simp [Assoc.get?]
      · simp [Assoc.get?, *]

theorem Assoc.get?_put_of_ne {α : Type} (l : List (Reg × α)) (r q : Reg) (v : α) (h : q ≠ r) :
    Assoc.get? (Assoc.put l r v) q = Assoc.get? l q := by
  induction l with
  | nil => simp [Assoc.put, Assoc.get?, h.symm]
  | cons e t ih =>
    obtain ⟨k, w⟩ := e
    simp only [Assoc.put]
    split
    · next hk => subst hk; simp [Assoc.get?, h.symm]
    · split
      · simp [Assoc.get?, h.symm]
      · simp [Assoc.get?, ih]

theorem Assoc.get?_filter {α : Type} (l : List (Reg × α)) (p : Reg → Bool) (r : Reg) :
    Assoc.get? (l.filter (fun e => p e.1)) r = if p r then Assoc.get? l r else none := by
  induction l with
  | nil => simp [Assoc.get?]
  | cons e t ih =>
    obtain ⟨k, w⟩ := e
    by_cases hk : k = r
    · subst hk
      by_cases hp : p k = true <;> simp [hp, Assoc.get?, ih]
    · by_cases hp : p k = true <;> simp [hp, hk, Assoc.get?, ih]

theorem Assoc.get?_del_self {α : Type} (l : List (Reg × α)) (r : Reg) : Assoc.get? (Assoc.del l r) r = none := by
  have h := Assoc.get?_filter l (fun q => decide (q ≠ r)) r
  simpa [Assoc.del] using h

theorem Assoc.get?_del_of_ne {α : Type} (l : List (Reg × α)) (r q : Reg) (h : q ≠ r) :
    Assoc.get? (Assoc.del l r) q = Assoc.get? l q := by
  have h' := Assoc.get?_filter l (fun q => decide (q ≠ r)) q
  simpa [Assoc.del, h] using h'

/-! ## Registers -/

/-- A register reads as what was written. -/
@[simp] theorem State.get_set_self (s : State) (r : Reg) (v : Nat) : (s.set r v).get r = v := by
  unfold State.get State.set putReg
  split
  · next h => simp [Assoc.get?_del_self, h]
  · simp [Assoc.get?_put_self]

/-- A write leaves every other register alone. -/
theorem State.get_set_of_ne (s : State) (r q : Reg) (v : Nat) (h : q ≠ r) : (s.set r v).get q = s.get q := by
  unfold State.get State.set putReg
  split
  · simp [Assoc.get?_del_of_ne _ _ _ h]
  · simp [Assoc.get?_put_of_ne _ _ _ _ h]

/-- A register after a write of a register. -/
theorem State.get_set (s : State) (r q : Reg) (v : Nat) : (s.set r v).get q = if q = r then v else s.get q := by
  split
  · next h => subst h; exact State.get_set_self s q v
  · next h => exact State.get_set_of_ne s r q v h

@[simp] theorem State.sets_nil (s : State) : s.sets [] = s := rfl
@[simp] theorem State.sets_cons (s : State) (e : Reg × Nat) (l : List (Reg × Nat)) : s.sets (e :: l) = (s.set e.1 e.2).sets l := rfl

/-- A register that a list of writes does not name keeps its value. -/
theorem State.get_sets_of_not_mem (s : State) (l : List (Reg × Nat)) (q : Reg) (h : ∀ e ∈ l, e.1 ≠ q) : (s.sets l).get q = s.get q := by
  induction l generalizing s with
  | nil => rfl
  | cons e t ih =>
    rw [State.sets_cons, ih _ (fun x hx => h x (List.mem_cons_of_mem _ hx))]
    exact State.get_set_of_ne s e.1 q e.2 (fun hq => h e (List.mem_cons_self) hq.symm)

@[simp] theorem State.get_count_self (s : State) (r : Reg) (w n : Nat) : (s.count r w n).get r = (s.get r + n) % 2 ^ w :=
  State.get_set_self _ _ _
theorem State.get_count_of_ne (s : State) (r q : Reg) (w n : Nat) (h : q ≠ r) : (s.count r w n).get q = s.get q :=
  State.get_set_of_ne _ _ _ _ h
@[simp] theorem State.get_countSat_self (s : State) (r : Reg) (w : Nat) : (s.countSat r w).get r = min (s.get r + 1) (2 ^ w - 1) :=
  State.get_set_self _ _ _
theorem State.get_countSat_of_ne (s : State) (r q : Reg) (w : Nat) (h : q ≠ r) : (s.countSat r w).get q = s.get q :=
  State.get_set_of_ne _ _ _ _ h

/-- A cleared register reads as its default, and one outside the range keeps its value. -/
theorem State.get_clearRange (s : State) (g : Grp) (i lo hi : Nat) (r : Reg) :
    (s.clearRange g i lo hi).get r = if r.grp = g ∧ r.inst = i ∧ lo ≤ r.sub ∧ r.sub ≤ hi then r.dflt else s.get r := by
  have h := Assoc.get?_filter s.regs (fun q => !(q.grp = g && q.inst = i && lo ≤ q.sub && q.sub ≤ hi)) r
  unfold State.get State.clearRange
  simp only at h ⊢
  rw [h]
  by_cases hc : r.grp = g ∧ r.inst = i ∧ lo ≤ r.sub ∧ r.sub ≤ hi
  · obtain ⟨h1, h2, h3, h4⟩ := hc
    simp [h1, h2, h3, h4]
  · rw [if_neg hc, if_pos]
    simp only [Bool.not_eq_true', Bool.and_eq_false_iff, decide_eq_false_iff_not]
    refine Decidable.byContradiction (fun hn => hc ?_)
    simp only [not_or, Decidable.not_not] at hn
    exact ⟨hn.1.1.1, hn.1.1.2, hn.1.2, hn.2⟩

/-! ## Registers beside the other updates -/

@[simp] theorem State.get_pendSet (s : State) (r q : Reg) (v : Nat) : (s.pendSet r v).get q = s.get q := rfl
@[simp] theorem State.get_setBlob (s : State) (r q : Reg) (b : List Byte) : (s.setBlob r b).get q = s.get q := rfl
@[simp] theorem State.get_clearBlob (s : State) (r q : Reg) : (s.clearBlob r).get q = s.get q := rfl
@[simp] theorem State.get_done (s : State) (c : Ctx) (q : Reg) : (s.done c).get q = s.get q := rfl
@[simp] theorem State.get_reply (s : State) (c : Ctx) (v : Nat) (b : List Byte) (q : Reg) : (s.reply c v b).get q = s.get q := rfl
@[simp] theorem State.get_setBytes (s : State) (a : Nat) (b : List Byte) (q : Reg) : (s.setBytes a b).get q = s.get q := rfl

/-- A refused access changes no register but the latched abort of its context (R57), which a fault of the link leaves too. -/
theorem State.get_refuse (s : State) (c : Ctx) (a : Nat) (q : Reg) :
    (s.refuse c a).get q = if q = Reg.devLastAbort.of c ∧ a ≠ linkFault then a else s.get q := by
  by_cases h : a = linkFault
  · rw [if_neg (fun k => k.2 h)]
    unfold State.refuse
    rw [if_pos h]
    rfl
  · unfold State.refuse
    rw [if_neg h]
    exact (State.get_set s _ q a).trans (by simp [h])

/-! ## Pending copies and objects of bytes -/

/-- The pending copy reads as what was written to it (R54). -/
@[simp] theorem State.pendGet_pendSet_self (s : State) (r : Reg) (v : Nat) : (s.pendSet r v).pendGet r = v := by
  simp [State.pendGet, State.pendSet, Assoc.get?_put_self]
theorem State.pendGet_pendSet_of_ne (s : State) (r q : Reg) (v : Nat) (h : q ≠ r) : (s.pendSet r v).pendGet q = s.pendGet q := by
  unfold State.pendGet State.pendSet
  simp only [Assoc.get?_put_of_ne _ _ _ _ h]
  rfl
@[simp] theorem State.blob_setBlob_self (s : State) (r : Reg) (b d : List Byte) : (s.setBlob r b).blob r d = b := by
  simp [State.blob, State.setBlob, Assoc.get?_put_self]
theorem State.blob_setBlob_of_ne (s : State) (r q : Reg) (b d : List Byte) (h : q ≠ r) : (s.setBlob r b).blob q d = s.blob q d := by
  simp [State.blob, State.setBlob, Assoc.get?_put_of_ne _ _ _ _ h]

end Sys2Proof.Machine
end

