-- ==== Sys2Proof/Laws/Access.lean ====
section
/-! SUPPORT. What one access of the dictionary can do: it is not answered, it is refused with the first abort of its checks, or it
is carried out. -/
set_option Elab.async false
namespace Sys2Proof.Machine

@[simp] theorem need_true (a : Nat) : need true a = none := rfl
@[simp] theorem need_false (a : Nat) : need false a = some a := rfl
theorem need_of (b : Bool) (a : Nat) (h : b = true) : need b a = none := by subst h; rfl
@[simp] theorem firstAbort_nil : firstAbort [] = none := rfl
@[simp] theorem firstAbort_none (l : List (Option Nat)) : firstAbort (none :: l) = firstAbort l := rfl
@[simp] theorem firstAbort_some (a : Nat) (l : List (Option Nat)) : firstAbort (some a :: l) = some a := rfl

/-- No check of a list refuses. -/
theorem firstAbort_eq_none (l : List (Option Nat)) : firstAbort l = none ↔ ∀ x ∈ l, x = none := by
  induction l with
  | nil => simp
  | cons x t ih => cases x <;> simp [ih]

/-- A running device answers on every path (R76). -/
theorem State.answers_of_running (s : State) (c : Ctx) (h : s.running = true) : s.answers c = true := by
  simp [State.answers, h]

/-- One access: not answered, refused because the link is down or by a check, or carried out (R44, R58, R76). -/
theorem State.access_cases (s : State) (c : Ctx) (present wick : Bool) (checks : List (Option Nat)) (act : State → State) (kind : Option Nat) :
    (s.answers c = false ∧ s.access c present wick checks act kind = s) ∨
    (∃ a, ((present && s.linkBars c wick) = true ∧ a = linkAbort c ∨
        firstAbort (need present 0x06020000 :: kind :: need (s.running || wick) 0x08000022 :: checks) = some a) ∧
      s.access c present wick checks act kind = s.refuse c a) ∨
    s.access c present wick checks act kind = act s := by
  unfold State.access
  split
  · split
    · next h => exact .inr (.inl ⟨_, .inl ⟨h, rfl⟩, rfl⟩)
    · split
      · next a h => exact .inr (.inl ⟨a, .inr h, rfl⟩)
      · exact .inr (.inr rfl)
  · next h => exact .inl ⟨by simpa using h, rfl⟩

/-- An access that no check refuses is carried out. -/
theorem State.access_done (s : State) (c : Ctx) (wick : Bool) (checks : List (Option Nat)) (act : State → State)
    (ha : s.answers c = true) (hb : s.linkBars c wick = false) (hm : (s.running || wick) = true) (hc : firstAbort checks = none) :
    s.access c true wick checks act = act s := by
  unfold State.access
  rw [if_pos ha, if_neg (by simp [hb])]
  simp [hm, hc]

/-- The write of a command that no check refuses is carried out. -/
theorem State.cmdWrite_done (s : State) (c : Ctx) (idx sub : Nat) (wick : Bool) (checks : List (Option Nat)) (act : State → State)
    (ha : s.answers c = true) (hb : s.linkBars c wick = false) (hm : (s.running || wick) = true) (hl : s.locked idx sub = false) (hc : firstAbort checks = none) :
    s.cmdWrite c idx sub true wick checks act = (act s).done c :=
  State.access_done s c wick _ _ ha hb hm (by simpa [hl] using hc)

/-- The write of an object that no check refuses is carried out, and the change counter counts it. -/
theorem State.rwWrite_done (s : State) (c : Ctx) (idx sub : Nat) (wick : Bool) (checks : List (Option Nat)) (act : State → State)
    (ha : s.answers c = true) (hb : s.linkBars c wick = false) (hm : (s.running || wick) = true) (hl : s.locked idx sub = false) (hc : firstAbort checks = none) :
    s.rwWrite c idx sub true wick checks act = ((act s).changed).done c :=
  State.access_done s c wick _ _ ha hb hm (by simpa [hl] using hc)

/-- An access that was not answered, that was carried out, or that was refused and left nothing but its abort. -/
def State.Settled (s : State) (c : Ctx) (t : State) : Prop := t = s ∨ t.resp.abort = 0 ∨ t = s.refuse c t.resp.abort

theorem State.settled_refuse (s : State) (c : Ctx) (a : Nat) : s.Settled c (s.refuse c a) := .inr (.inr rfl)

/-- An access whose action ends without abort settles. -/
theorem State.access_settled (s : State) (c : Ctx) (present wick : Bool) (checks : List (Option Nat)) (act : State → State) (kind : Option Nat)
    (h : s.Settled c (act s)) : s.Settled c (s.access c present wick checks act kind) := by
  rcases s.access_cases c present wick checks act kind with ⟨_, k⟩ | ⟨a, _, k⟩ | k
  · exact .inl k
  · rw [k]; exact s.settled_refuse c a
  · rw [k]; exact h

theorem State.cmdWrite_settled (s : State) (c : Ctx) (idx sub : Nat) (present wick : Bool) (checks : List (Option Nat)) (act : State → State)
    (kind : Option Nat) : s.Settled c (s.cmdWrite c idx sub present wick checks act kind) :=
  s.access_settled c present wick _ _ kind (.inr (.inl rfl))

theorem State.rwWrite_settled (s : State) (c : Ctx) (idx sub : Nat) (present wick : Bool) (checks : List (Option Nat)) (act : State → State)
    (kind : Option Nat) : s.Settled c (s.rwWrite c idx sub present wick checks act kind) :=
  s.access_settled c present wick _ _ kind (.inr (.inl rfl))

end Sys2Proof.Machine
end

