-- ==== Sys2Proof/Laws/Arms.lean ====
section
/-! SUPPORT. Each arm of the dispatch, as an equation to rewrite with, and the two cases of a step. -/
set_option Elab.async false
namespace Sys2Proof.Machine

@[simp] theorem exec_generalWrite (ctx : Ctx) (index sub : Nat) (data : WriteData) (sameCycle : Bool) (s : State) : exec (.generalWrite ctx index sub data sameCycle) s = execGeneralWrite ctx index sub data sameCycle s := rfl
@[simp] theorem exec_longDataWrite (ctx : Ctx) (value : Nat) (s : State) : exec (.longDataWrite ctx value) s = execLongDataWrite ctx value s := rfl
@[simp] theorem exec_longDataRead (ctx : Ctx) (s : State) : exec (.longDataRead ctx) s = execLongDataRead ctx s := rfl
@[simp] theorem exec_commit (ctx : Ctx) (index : Nat) (s : State) : exec (.commit ctx index) s = execCommit ctx index s := rfl
@[simp] theorem exec_disarm (ctx : Ctx) (index : Nat) (s : State) : exec (.disarm ctx index) s = execDisarm ctx index s := rfl
@[simp] theorem exec_discard (ctx : Ctx) (index : Nat) (s : State) : exec (.discard ctx index) s = execDiscard ctx index s := rfl
@[simp] theorem exec_boundaryHandover (index : Nat) (s : State) : exec (.boundaryHandover index) s = execBoundaryHandover index s := rfl
@[simp] theorem exec_kindleFire (d : Nat) (s : State) : exec (.kindleFire d) s = execKindleFire d s := rfl
@[simp] theorem exec_evPulse (ctx : Ctx) (value : Nat) (s : State) : exec (.evPulse ctx value) s = execEvPulse ctx value s := rfl
@[simp] theorem exec_eventSidebandDeliver (toWick : Bool) (input : Nat) (s : State) : exec (.eventSidebandDeliver toWick input) s = execEventSidebandDeliver toWick input s := rfl
@[simp] theorem exec_ecntClear (ctx : Ctx) (n value : Nat) (s : State) : exec (.ecntClear ctx n value) s = execEcntClear ctx n value s := rfl
@[simp] theorem exec_irqClaim (target : Nat) (s : State) : exec (.irqClaim target) s = execIrqClaim target s := rfl
@[simp] theorem exec_irqComplete (target source : Nat) (s : State) : exec (.irqComplete target source) s = execIrqComplete target source s := rfl
@[simp] theorem exec_sdoInitiateDownload (ch : Nat) (m : BusMsg) (s : State) : exec (.sdoInitiateDownload ch m) s = execSdoInitiateDownload ch m s := rfl
@[simp] theorem exec_sdoInitiateUpload (ch : Nat) (m : BusMsg) (s : State) : exec (.sdoInitiateUpload ch m) s = execSdoInitiateUpload ch m s := rfl
@[simp] theorem exec_sdoDownloadSegment (ch : Nat) (m : BusMsg) (s : State) : exec (.sdoDownloadSegment ch m) s = execSdoDownloadSegment ch m s := rfl
@[simp] theorem exec_sdoUploadSegment (ch : Nat) (m : BusMsg) (s : State) : exec (.sdoUploadSegment ch m) s = execSdoUploadSegment ch m s := rfl
@[simp] theorem exec_sdoBlockRequest (ch : Nat) (m : BusMsg) (s : State) : exec (.sdoBlockRequest ch m) s = execSdoBlockRequest ch m s := rfl
@[simp] theorem exec_sdoSegmentTimeout (s : State) : exec (.sdoSegmentTimeout) s = execSdoSegmentTimeout s := rfl
@[simp] theorem exec_coathRead (s : State) : exec (.coathRead) s = execCoathRead s := rfl
@[simp] theorem exec_coathWrite (s : State) : exec (.coathWrite) s = execCoathWrite s := rfl
@[simp] theorem exec_coathCommit (s : State) : exec (.coathCommit) s = execCoathCommit s := rfl
@[simp] theorem exec_coathBlockRead (s : State) : exec (.coathBlockRead) s = execCoathBlockRead s := rfl
@[simp] theorem exec_coathBlockWrite (s : State) : exec (.coathBlockWrite) s = execCoathBlockWrite s := rfl
@[simp] theorem exec_tbSnapshot (ctx : Ctx) (value : Nat) (s : State) : exec (.tbSnapshot ctx value) s = execTbSnapshot ctx value s := rfl
@[simp] theorem exec_followerAlign (ok : Bool) (error : Nat) (s : State) : exec (.followerAlign ok error) s = execFollowerAlign ok error s := rfl
@[simp] theorem exec_syncArrival (port domainNumber : Nat) (s : State) : exec (.syncArrival port domainNumber) s = execSyncArrival port domainNumber s := rfl
@[simp] theorem exec_syncMonitorExpire (d : Nat) (s : State) : exec (.syncMonitorExpire d) s = execSyncMonitorExpire d s := rfl
@[simp] theorem exec_domStep (ctx : Ctx) (d value : Nat) (s : State) : exec (.domStep ctx d value) s = execDomStep ctx d value s := rfl
@[simp] theorem exec_domEnable (ctx : Ctx) (d : Nat) (s : State) : exec (.domEnable ctx d) s = execDomEnable ctx d s := rfl
@[simp] theorem exec_domDisable (ctx : Ctx) (d : Nat) (s : State) : exec (.domDisable ctx d) s = execDomDisable ctx d s := rfl
@[simp] theorem exec_domRole (ctx : Ctx) (d value : Nat) (s : State) : exec (.domRole ctx d value) s = execDomRole ctx d value s := rfl
@[simp] theorem exec_domStandbyWrite (ctx : Ctx) (d value : Nat) (s : State) : exec (.domStandbyWrite ctx d value) s = execDomStandbyWrite ctx d value s := rfl
@[simp] theorem exec_domSyncTimeoutWrite (ctx : Ctx) (d value : Nat) (s : State) : exec (.domSyncTimeoutWrite ctx d value) s = execDomSyncTimeoutWrite ctx d value s := rfl
@[simp] theorem exec_capture (k : Nat) (s : State) : exec (.capture k) s = execCapture k s := rfl
@[simp] theorem exec_capTimeRead (ctx : Ctx) (k : Nat) (s : State) : exec (.capTimeRead ctx k) s = execCapTimeRead ctx k s := rfl
@[simp] theorem exec_portEnable (ctx : Ctx) (n : Nat) (s : State) : exec (.portEnable ctx n) s = execPortEnable ctx n s := rfl
@[simp] theorem exec_portDisable (ctx : Ctx) (n : Nat) (s : State) : exec (.portDisable ctx n) s = execPortDisable ctx n s := rfl
@[simp] theorem exec_portRestart (ctx : Ctx) (n : Nat) (s : State) : exec (.portRestart ctx n) s = execPortRestart ctx n s := rfl
@[simp] theorem exec_portRestartFull (ctx : Ctx) (n : Nat) (s : State) : exec (.portRestartFull ctx n) s = execPortRestartFull ctx n s := rfl
@[simp] theorem exec_linkUp (port speed : Nat) (s : State) : exec (.linkUp port speed) s = execLinkUp port speed s := rfl
@[simp] theorem exec_linkDown (port since cause : Nat) (s : State) : exec (.linkDown port since cause) s = execLinkDown port since cause s := rfl
@[simp] theorem exec_warmLockTimeout (port : Nat) (s : State) : exec (.warmLockTimeout port) s = execWarmLockTimeout port s := rfl
@[simp] theorem exec_mergeVerifyTimeout (port : Nat) (s : State) : exec (.mergeVerifyTimeout port) s = execMergeVerifyTimeout port s := rfl
@[simp] theorem exec_pauseFrameReceive (port : Nat) (pfc : Bool) (enables : Nat) (times : List Nat) (s : State) : exec (.pauseFrameReceive port pfc enables times) s = execPauseFrameReceive port pfc enables times s := rfl
@[simp] theorem exec_plcaBeacon (k : Nat) (s : State) : exec (.plcaBeacon k) s = execPlcaBeacon k s := rfl
@[simp] theorem exec_plcaBeaconTimeout (k opportunities : Nat) (s : State) : exec (.plcaBeaconTimeout k opportunities) s = execPlcaBeaconTimeout k opportunities s := rfl
@[simp] theorem exec_pcntClear (ctx : Ctx) (n value : Nat) (s : State) : exec (.pcntClear ctx n value) s = execPcntClear ctx n value s := rfl
@[simp] theorem exec_frameReceive (port : Nat) (rx : RxFrame) (s : State) : exec (.frameReceive port rx) s = execFrameReceive port rx s := rfl
@[simp] theorem exec_parsePipelineEntry (pipe ecc : Nat) (s : State) : exec (.parsePipelineEntry pipe ecc) s = execParsePipelineEntry pipe ecc s := rfl
@[simp] theorem exec_bankFlip (b : Nat) (s : State) : exec (.bankFlip b) s = execBankFlip b s := rfl
@[simp] theorem exec_connScan (row : Nat) (s : State) : exec (.connScan row) s = execConnScan row s := rfl
@[simp] theorem exec_ccntClear (ctx : Ctx) (n value : Nat) (s : State) : exec (.ccntClear ctx n value) s = execCcntClear ctx n value s := rfl
@[simp] theorem exec_bufReclaim (ctx : Ctx) (value : Nat) (s : State) : exec (.bufReclaim ctx value) s = execBufReclaim ctx value s := rfl
@[simp] theorem exec_reclaimDone (s : State) : exec (.reclaimDone) s = execReclaimDone s := rfl
@[simp] theorem exec_qFlush (ctx : Ctx) (port value : Nat) (s : State) : exec (.qFlush ctx port value) s = execQFlush ctx port value s := rfl
@[simp] theorem exec_flushDone (port : Nat) (s : State) : exec (.flushDone port) s = execFlushDone port s := rfl
@[simp] theorem exec_fdbForget (ctx : Ctx) (value : Nat) (s : State) : exec (.fdbForget ctx value) s = execFdbForget ctx value s := rfl
@[simp] theorem exec_rankFloorRaise (s : State) : exec (.rankFloorRaise) s = execRankFloorRaise s := rfl
@[simp] theorem exec_rankFloorLower (s : State) : exec (.rankFloorLower) s = execRankFloorLower s := rfl
@[simp] theorem exec_stagingGrant (part : Nat) (s : State) : exec (.stagingGrant part) s = execStagingGrant part s := rfl
@[simp] theorem exec_stagingTimeout (port : Nat) (s : State) : exec (.stagingTimeout port) s = execStagingTimeout port s := rfl
@[simp] theorem exec_qcntClear (ctx : Ctx) (port value : Nat) (s : State) : exec (.qcntClear ctx port value) s = execQcntClear ctx port value s := rfl
@[simp] theorem exec_gateNotice (port : Nat) (s : State) : exec (.gateNotice port) s = execGateNotice port s := rfl
@[simp] theorem exec_gateEntryStart (port : Nat) (s : State) : exec (.gateEntryStart port) s = execGateEntryStart port s := rfl
@[simp] theorem exec_holdRequest (port : Nat) (s : State) : exec (.holdRequest port) s = execHoldRequest port s := rfl
@[simp] theorem exec_holdRelease (port : Nat) (s : State) : exec (.holdRelease port) s = execHoldRelease port s := rfl
@[simp] theorem exec_frameTransmitStart (port ecc cell : Nat) (s : State) : exec (.frameTransmitStart port ecc cell) s = execFrameTransmitStart port ecc cell s := rfl
@[simp] theorem exec_frameTransmitEnd (port : Nat) (s : State) : exec (.frameTransmitEnd port) s = execFrameTransmitEnd port s := rfl
@[simp] theorem exec_srResetTimeout (row : Nat) (s : State) : exec (.srResetTimeout row) s = execSrResetTimeout row s := rfl
@[simp] theorem exec_scntClear (ctx : Ctx) (n value : Nat) (s : State) : exec (.scntClear ctx n value) s = execScntClear ctx n value s := rfl
@[simp] theorem exec_lookaheadReserve (port : Nat) (s : State) : exec (.lookaheadReserve port) s = execLookaheadReserve port s := rfl
@[simp] theorem exec_keystreamBlockResult (unit port pair : Nat) (ok1 ok2 : Bool) (s : State) : exec (.keystreamBlockResult unit port pair ok1 ok2) s = execKeystreamBlockResult unit port pair ok1 ok2 s := rfl
@[simp] theorem exec_rxVerdict (port : Nat) (s : State) : exec (.rxVerdict port) s = execRxVerdict port s := rfl
@[simp] theorem exec_lcClear (ctx : Ctx) (n value : Nat) (s : State) : exec (.lcClear ctx n value) s = execLcClear ctx n value s := rfl
@[simp] theorem exec_scOpen (ctx : Ctx) (s : State) : exec (.scOpen ctx) s = execScOpen ctx s := rfl
@[simp] theorem exec_scClose (ctx : Ctx) (s : State) : exec (.scClose ctx) s = execScClose ctx s := rfl
@[simp] theorem exec_scInstall (ctx : Ctx) (s : State) : exec (.scInstall ctx) s = execScInstall ctx s := rfl
@[simp] theorem exec_scRetire (ctx : Ctx) (s : State) : exec (.scRetire ctx) s = execScRetire ctx s := rfl
@[simp] theorem exec_scActivate (ctx : Ctx) (s : State) : exec (.scActivate ctx) s = execScActivate ctx s := rfl
@[simp] theorem exec_installDone (s : State) : exec (.installDone) s = execInstallDone s := rfl
@[simp] theorem exec_rxOverlapExpire (row : Nat) (s : State) : exec (.rxOverlapExpire row) s = execRxOverlapExpire row s := rfl
@[simp] theorem exec_exhaustHoldExpire (c : Nat) (s : State) : exec (.exhaustHoldExpire c) s = execExhaustHoldExpire c s := rfl
@[simp] theorem exec_saEventFifoRead (ctx : Ctx) (s : State) : exec (.saEventFifoRead ctx) s = execSaEventFifoRead ctx s := rfl
@[simp] theorem exec_scpClear (ctx : Ctx) (n value : Nat) (s : State) : exec (.scpClear ctx n value) s = execScpClear ctx n value s := rfl
@[simp] theorem exec_slowPathDispatch (s : State) : exec (.slowPathDispatch) s = execSlowPathDispatch s := rfl
@[simp] theorem exec_spIn (e rd : Nat) (s : State) : exec (.spIn e rd) s = execSpIn e rd s := rfl
@[simp] theorem exec_spLeft (e rd : Nat) (s : State) : exec (.spLeft e rd) s = execSpLeft e rd s := rfl
@[simp] theorem exec_spDrop (e : Nat) (s : State) : exec (.spDrop e) s = execSpDrop e s := rfl
@[simp] theorem exec_spOut (e rs1 : Nat) (s : State) : exec (.spOut e rs1) s = execSpOut e rs1 s := rfl
@[simp] theorem exec_spSend (e : Nat) (s : State) : exec (.spSend e) s = execSpSend e s := rfl
@[simp] theorem exec_spResolve (e rs1 : Nat) (s : State) : exec (.spResolve e rs1) s = execSpResolve e rs1 s := rfl
@[simp] theorem exec_spCrc (e rd rs1 rs2 : Nat) (s : State) : exec (.spCrc e rd rs1 rs2) s = execSpCrc e rd rs1 rs2 s := rfl
@[simp] theorem exec_spCsum (e rd rs1 rs2 : Nat) (s : State) : exec (.spCsum e rd rs1 rs2) s = execSpCsum e rd rs1 rs2 s := rfl
@[simp] theorem exec_spTime (e rd : Nat) (s : State) : exec (.spTime e rd) s = execSpTime e rd s := rfl
@[simp] theorem exec_outboxCollect (e : Nat) (s : State) : exec (.outboxCollect e) s = execOutboxCollect e s := rfl
@[simp] theorem exec_tagRelease (port : Nat) (s : State) : exec (.tagRelease port) s = execTagRelease port s := rfl
@[simp] theorem exec_reorderTimeout (tag : Nat) (s : State) : exec (.reorderTimeout tag) s = execReorderTimeout tag s := rfl
@[simp] theorem exec_engineFault (e cause pc : Nat) (s : State) : exec (.engineFault e cause pc) s = execEngineFault e cause pc s := rfl
@[simp] theorem exec_seRun (ctx : Ctx) (e : Nat) (s : State) : exec (.seRun ctx e) s = execSeRun ctx e s := rfl
@[simp] theorem exec_seStop (ctx : Ctx) (e : Nat) (s : State) : exec (.seStop ctx e) s = execSeStop ctx e s := rfl
@[simp] theorem exec_ringReceiveWrite (q : Nat) (s : State) : exec (.ringReceiveWrite q) s = execRingReceiveWrite q s := rfl
@[simp] theorem exec_txRingProduce (ctx : Ctx) (value : Nat) (s : State) : exec (.txRingProduce ctx value) s = execTxRingProduce ctx value s := rfl
@[simp] theorem exec_vaultCommandStart (s : State) : exec (.vaultCommandStart) s = execVaultCommandStart s := rfl
@[simp] theorem exec_vaultGenerate (ctx : Ctx) (s : State) : exec (.vaultGenerate ctx) s = execVaultGenerate ctx s := rfl
@[simp] theorem exec_vaultImportClear (ctx : Ctx) (s : State) : exec (.vaultImportClear ctx) s = execVaultImportClear ctx s := rfl
@[simp] theorem exec_vaultImportWrapped (ctx : Ctx) (s : State) : exec (.vaultImportWrapped ctx) s = execVaultImportWrapped ctx s := rfl
@[simp] theorem exec_vaultExportWrapped (ctx : Ctx) (s : State) : exec (.vaultExportWrapped ctx) s = execVaultExportWrapped ctx s := rfl
@[simp] theorem exec_vaultNarrowPolicy (ctx : Ctx) (s : State) : exec (.vaultNarrowPolicy ctx) s = execVaultNarrowPolicy ctx s := rfl
@[simp] theorem exec_vaultDestroy (ctx : Ctx) (s : State) : exec (.vaultDestroy ctx) s = execVaultDestroy ctx s := rfl
@[simp] theorem exec_vaultSign (ctx : Ctx) (s : State) : exec (.vaultSign ctx) s = execVaultSign ctx s := rfl
@[simp] theorem exec_vaultVerify (ctx : Ctx) (s : State) : exec (.vaultVerify ctx) s = execVaultVerify ctx s := rfl
@[simp] theorem exec_vaultEcdh (ctx : Ctx) (s : State) : exec (.vaultEcdh ctx) s = execVaultEcdh ctx s := rfl
@[simp] theorem exec_vaultHkdf (ctx : Ctx) (s : State) : exec (.vaultHkdf ctx) s = execVaultHkdf ctx s := rfl
@[simp] theorem exec_vaultKdfCtr (ctx : Ctx) (s : State) : exec (.vaultKdfCtr ctx) s = execVaultKdfCtr ctx s := rfl
@[simp] theorem exec_vaultRandom (ctx : Ctx) (s : State) : exec (.vaultRandom ctx) s = execVaultRandom ctx s := rfl
@[simp] theorem exec_vaultAttest (ctx : Ctx) (s : State) : exec (.vaultAttest ctx) s = execVaultAttest ctx s := rfl
@[simp] theorem exec_vaultCommandDone (s : State) : exec (.vaultCommandDone) s = execVaultCommandDone s := rfl
@[simp] theorem exec_entropyFailure (s : State) : exec (.entropyFailure) s = execEntropyFailure s := rfl
@[simp] theorem exec_entropyRecover (s : State) : exec (.entropyRecover) s = execEntropyRecover s := rfl
@[simp] theorem exec_lifeCycleTransition (ctx : Ctx) (value : Nat) (s : State) : exec (.lifeCycleTransition ctx value) s = execLifeCycleTransition ctx value s := rfl
@[simp] theorem exec_transitionComplete (s : State) : exec (.transitionComplete) s = execTransitionComplete s := rfl
@[simp] theorem exec_lockstepFault (unit : Nat) (s : State) : exec (.lockstepFault unit) s = execLockstepFault unit s := rfl
@[simp] theorem exec_crLoad (ctx : Ctx) (s : State) : exec (.crLoad ctx) s = execCrLoad ctx s := rfl
@[simp] theorem exec_crUnload (ctx : Ctx) (s : State) : exec (.crUnload ctx) s = execCrUnload ctx s := rfl
@[simp] theorem exec_crqProduce (ctx : Ctx) (q value : Nat) (s : State) : exec (.crqProduce ctx q value) s = execCrqProduce ctx q value s := rfl
@[simp] theorem exec_cressetStartPulse (q : Nat) (s : State) : exec (.cressetStartPulse q) s = execCressetStartPulse q s := rfl
@[simp] theorem exec_cressetJobStart (s : State) : exec (.cressetJobStart) s = execCressetJobStart s := rfl
@[simp] theorem exec_cressetBlockDone (k : Nat) (ok1 ok2 : Bool) (s : State) : exec (.cressetBlockDone k ok1 ok2) s = execCressetBlockDone k ok1 ok2 s := rfl
@[simp] theorem exec_cressetJobDone (q : Nat) (s : State) : exec (.cressetJobDone q) s = execCressetJobDone q s := rfl
@[simp] theorem exec_dmaStart (ctx : Ctx) (c : Nat) (s : State) : exec (.dmaStart ctx c) s = execDmaStart ctx c s := rfl
@[simp] theorem exec_dmaResume (ctx : Ctx) (c : Nat) (s : State) : exec (.dmaResume ctx c) s = execDmaResume ctx c s := rfl
@[simp] theorem exec_dmaStop (ctx : Ctx) (c : Nat) (s : State) : exec (.dmaStop ctx c) s = execDmaStop ctx c s := rfl
@[simp] theorem exec_dmaStartPulse (c : Nat) (s : State) : exec (.dmaStartPulse c) s = execDmaStartPulse c s := rfl
@[simp] theorem exec_dmaDescriptorDone (c : Nat) (s : State) : exec (.dmaDescriptorDone c) s = execDmaDescriptorDone c s := rfl
@[simp] theorem exec_memoryRead (init addr len : Nat) (cached tamper : Bool) (s : State) : exec (.memoryRead init addr len cached tamper) s = execMemoryRead init addr len cached tamper s := rfl
@[simp] theorem exec_memoryWrite (init addr : Nat) (data : List Byte) (cached tamper : Bool) (s : State) : exec (.memoryWrite init addr data cached tamper) s = execMemoryWrite init addr data cached tamper s := rfl
@[simp] theorem exec_keyidProgram (ctx : Ctx) (k : Nat) (s : State) : exec (.keyidProgram ctx k) s = execKeyidProgram ctx k s := rfl
@[simp] theorem exec_keyidProgramDone (s : State) : exec (.keyidProgramDone) s = execKeyidProgramDone s := rfl
@[simp] theorem exec_keyidClose (ctx : Ctx) (k : Nat) (s : State) : exec (.keyidClose ctx k) s = execKeyidClose ctx k s := rfl
@[simp] theorem exec_keyidCloseDone (k : Nat) (s : State) : exec (.keyidCloseDone k) s = execKeyidCloseDone k s := rfl
@[simp] theorem exec_keyidRetire (ctx : Ctx) (k : Nat) (s : State) : exec (.keyidRetire ctx k) s = execKeyidRetire ctx k s := rfl
@[simp] theorem exec_flashErase (ctx : Ctx) (addr : Nat) (s : State) : exec (.flashErase ctx addr) s = execFlashErase ctx addr s := rfl
@[simp] theorem exec_flashEraseDone (s : State) : exec (.flashEraseDone) s = execFlashEraseDone s := rfl
@[simp] theorem exec_initSweepGranule (s : State) : exec (.initSweepGranule) s = execInitSweepGranule s := rfl
@[simp] theorem exec_chimneyRead (init addr size : Nat) (s : State) : exec (.chimneyRead init addr size) s = execChimneyRead init addr size s := rfl
@[simp] theorem exec_chimneyFetchDone (held : Bool) (k : Nat) (s : State) : exec (.chimneyFetchDone held k) s = execChimneyFetchDone held k s := rfl
@[simp] theorem exec_fetchStale (k : Nat) (s : State) : exec (.fetchStale k) s = execFetchStale k s := rfl
@[simp] theorem exec_chimneyPostedWrite (init addr : Nat) (data : List Byte) (s : State) : exec (.chimneyPostedWrite init addr data) s = execChimneyPostedWrite init addr data s := rfl
@[simp] theorem exec_writeAck (k : Nat) (s : State) : exec (.writeAck k) s = execWriteAck k s := rfl
@[simp] theorem exec_fence (init : Nat) (writes reads : Bool) (s : State) : exec (.fence init writes reads) s = execFence init writes reads s := rfl
@[simp] theorem exec_fenceComplete (init : Nat) (s : State) : exec (.fenceComplete init) s = execFenceComplete init s := rfl
@[simp] theorem exec_lr (hart addr size : Nat) (s : State) : exec (.lr hart addr size) s = execLr hart addr size s := rfl
@[simp] theorem exec_sc (hart addr : Nat) (data : List Byte) (s : State) : exec (.sc hart addr data) s = execSc hart addr data s := rfl
@[simp] theorem exec_semaphoreTimeout (s : State) : exec (.semaphoreTimeout) s = execSemaphoreTimeout s := rfl
@[simp] theorem exec_wickBackoff (s : State) : exec (.wickBackoff) s = execWickBackoff s := rfl
@[simp] theorem exec_backoffReissue (s : State) : exec (.backoffReissue) s = execBackoffReissue s := rfl
@[simp] theorem exec_cboClean (core addr : Nat) (s : State) : exec (.cboClean core addr) s = execCboClean core addr s := rfl
@[simp] theorem exec_cboFlush (core addr : Nat) (s : State) : exec (.cboFlush core addr) s = execCboFlush core addr s := rfl
@[simp] theorem exec_cboInval (core addr cbie : Nat) (s : State) : exec (.cboInval core addr cbie) s = execCboInval core addr cbie s := rfl
@[simp] theorem exec_flitCrcError (f : FlitHeard) (s : State) : exec (.flitCrcError f) s = execFlitCrcError f s := rfl
@[simp] theorem exec_chimneyLockLoss (lockLost : Bool) (s : State) : exec (.chimneyLockLoss lockLost) s = execChimneyLockLoss lockLost s := rfl
@[simp] theorem exec_retrainResult (ok : Bool) (s : State) : exec (.retrainResult ok) s = execRetrainResult ok s := rfl
@[simp] theorem exec_chmRetrain (ctx : Ctx) (value : Nat) (s : State) : exec (.chmRetrain ctx value) s = execChmRetrain ctx value s := rfl
@[simp] theorem exec_chmFaultClear (ctx : Ctx) (value : Nat) (s : State) : exec (.chmFaultClear ctx value) s = execChmFaultClear ctx value s := rfl
@[simp] theorem exec_canMessageReceive (ch : Nat) (m : BusHeard) (s : State) : exec (.canMessageReceive ch m) s = execCanMessageReceive ch m s := rfl
@[simp] theorem exec_linResponseReceive (l id : Nat) (data : List Byte) (e : LinEnd) (s : State) : exec (.linResponseReceive l id data e) s = execLinResponseReceive l id data e s := rfl
@[simp] theorem exec_linHeaderReceive (l id : Nat) (s : State) : exec (.linHeaderReceive l id) s = execLinHeaderReceive l id s := rfl
@[simp] theorem exec_linResponseTimeout (l : Nat) (s : State) : exec (.linResponseTimeout l) s = execLinResponseTimeout l s := rfl
@[simp] theorem exec_canArbitration (ch : Nat) (won : Bool) (s : State) : exec (.canArbitration ch won) s = execCanArbitration ch won s := rfl
@[simp] theorem exec_canTxDone (ch : Nat) (s : State) : exec (.canTxDone ch) s = execCanTxDone ch s := rfl
@[simp] theorem exec_canBusOff (ch : Nat) (s : State) : exec (.canBusOff ch) s = execCanBusOff ch s := rfl
@[simp] theorem exec_canBusoffRecovery (ch : Nat) (s : State) : exec (.canBusoffRecovery ch) s = execCanBusoffRecovery ch s := rfl
@[simp] theorem exec_canRecover (ctx : Ctx) (ch value : Nat) (s : State) : exec (.canRecover ctx ch value) s = execCanRecover ctx ch value s := rfl
@[simp] theorem exec_canEnable (ctx : Ctx) (ch value : Nat) (s : State) : exec (.canEnable ctx ch value) s = execCanEnable ctx ch value s := rfl
@[simp] theorem exec_canClear (ctx : Ctx) (ch value : Nat) (s : State) : exec (.canClear ctx ch value) s = execCanClear ctx ch value s := rfl
@[simp] theorem exec_linClear (ctx : Ctx) (l value : Nat) (s : State) : exec (.linClear ctx l value) s = execLinClear ctx l value s := rfl
@[simp] theorem exec_linSendWake (ctx : Ctx) (l value : Nat) (s : State) : exec (.linSendWake ctx l value) s = execLinSendWake ctx l value s := rfl
@[simp] theorem exec_cyclicRelease (e : Nat) (s : State) : exec (.cyclicRelease e) s = execCyclicRelease e s := rfl
@[simp] theorem exec_cycDataWrite (ctx : Ctx) (e : Nat) (data : List Byte) (s : State) : exec (.cycDataWrite ctx e data) s = execCycDataWrite ctx e data s := rfl
@[simp] theorem exec_acfUnpack (s : State) : exec (.acfUnpack) s = execAcfUnpack s := rfl
@[simp] theorem exec_acfMaxWaitExpire (stream : Nat) (s : State) : exec (.acfMaxWaitExpire stream) s = execAcfMaxWaitExpire stream s := rfl
@[simp] theorem exec_acfClear (ctx : Ctx) (stream value : Nat) (s : State) : exec (.acfClear ctx stream value) s = execAcfClear ctx stream value s := rfl
@[simp] theorem exec_gwKeyLoad (ctx : Ctx) (k value : Nat) (s : State) : exec (.gwKeyLoad ctx k value) s = execGwKeyLoad ctx k value s := rfl
@[simp] theorem exec_cpStateChange (level : Int) (count : Nat) (s : State) : exec (.cpStateChange level count) s = execCpStateChange level count s := rfl
@[simp] theorem exec_ppMeasure (ohms : Nat) (s : State) : exec (.ppMeasure ohms) s = execPpMeasure ohms s := rfl
@[simp] theorem exec_proximityPoll (ohms : Nat) (env : StartEnv) (s : State) : exec (.proximityPoll ohms env) s = execProximityPoll ohms env s := rfl
@[simp] theorem exec_inletTempSample (t : Nat) (ohms : Option Nat) (s : State) : exec (.inletTempSample t ohms) s = execInletTempSample t ohms s := rfl
@[simp] theorem exec_cpS2Write (ctx : Ctx) (value : Nat) (s : State) : exec (.cpS2Write ctx value) s = execCpS2Write ctx value s := rfl
@[simp] theorem exec_cdCommand (ctx : Ctx) (k value : Nat) (s : State) : exec (.cdCommand ctx k value) s = execCdCommand ctx k value s := rfl
@[simp] theorem exec_rampWaitExpire (k : Nat) (s : State) : exec (.rampWaitExpire k) s = execRampWaitExpire k s := rfl
@[simp] theorem exec_cdOvercurrent (k current : Nat) (s : State) : exec (.cdOvercurrent k current) s = execCdOvercurrent k current s := rfl
@[simp] theorem exec_cdOpenLoad (k current micros : Nat) (s : State) : exec (.cdOpenLoad k current micros) s = execCdOpenLoad k current micros s := rfl
@[simp] theorem exec_cdClearFault (ctx : Ctx) (k value : Nat) (s : State) : exec (.cdClearFault ctx k value) s = execCdClearFault ctx k value s := rfl
@[simp] theorem exec_totaliserSample (ch : Nat) (m : BusHeard) (s : State) : exec (.totaliserSample ch m) s = execTotaliserSample ch m s := rfl
@[simp] theorem exec_sessionOpen (ctx : Ctx) (s : State) : exec (.sessionOpen ctx) s = execSessionOpen ctx s := rfl
@[simp] theorem exec_countersign (ctx : Ctx) (s : State) : exec (.countersign ctx) s = execCountersign ctx s := rfl
@[simp] theorem exec_countersignDone (fails : Nat) (s : State) : exec (.countersignDone fails) s = execCountersignDone fails s := rfl
@[simp] theorem exec_sessionClose (ctx : Ctx) (s : State) : exec (.sessionClose ctx) s = execSessionClose ctx s := rfl
@[simp] theorem exec_sealClose (ctx : Ctx) (value : Nat) (s : State) : exec (.sealClose ctx value) s = execSealClose ctx value s := rfl
@[simp] theorem exec_sealCloseDone (s : State) : exec (.sealCloseDone) s = execSealCloseDone s := rfl
@[simp] theorem exec_msAcknowledge (ctx : Ctx) (value : Nat) (s : State) : exec (.msAcknowledge ctx value) s = execMsAcknowledge ctx value s := rfl
@[simp] theorem exec_msExport (ctx : Ctx) (value : Nat) (s : State) : exec (.msExport ctx value) s = execMsExport ctx value s := rfl
@[simp] theorem exec_exportDone (s : State) : exec (.exportDone) s = execExportDone s := rfl
@[simp] theorem exec_vbatSample (mv : Nat) (s : State) : exec (.vbatSample mv) s = execVbatSample mv s := rfl
@[simp] theorem exec_overvoltageEntry (s : State) : exec (.overvoltageEntry) s = execOvervoltageEntry s := rfl
@[simp] theorem exec_overvoltageRecovery (env : StartEnv) (s : State) : exec (.overvoltageRecovery env) s = execOvervoltageRecovery env s := rfl
@[simp] theorem exec_crankEntry (items : Nat) (s : State) : exec (.crankEntry items) s = execCrankEntry items s := rfl
@[simp] theorem exec_crankRecovery (env : StartEnv) (s : State) : exec (.crankRecovery env) s = execCrankRecovery env s := rfl
@[simp] theorem exec_throttleStepDown (s : State) : exec (.throttleStepDown) s = execThrottleStepDown s := rfl
@[simp] theorem exec_throttleStepUp (s : State) : exec (.throttleStepUp) s = execThrottleStepUp s := rfl
@[simp] theorem exec_droopDetect (levels : List Nat) (s : State) : exec (.droopDetect levels) s = execDroopDetect levels s := rfl
@[simp] theorem exec_supplyFault (rail : Nat) (s : State) : exec (.supplyFault rail) s = execSupplyFault rail s := rfl
@[simp] theorem exec_vpreRetry (again : Bool) (env : StartEnv) (s : State) : exec (.vpreRetry again env) s = execVpreRetry again env s := rfl
@[simp] theorem exec_pwrRequestDormant (ctx : Ctx) (pins : Nat) (s : State) : exec (.pwrRequestDormant ctx pins) s = execPwrRequestDormant ctx pins s := rfl
@[simp] theorem exec_pwrRequestEmber (ctx : Ctx) (pins : Nat) (s : State) : exec (.pwrRequestEmber ctx pins) s = execPwrRequestEmber ctx pins s := rfl
@[simp] theorem exec_pwrRequestGlow (ctx : Ctx) (s : State) : exec (.pwrRequestGlow ctx) s = execPwrRequestGlow ctx s := rfl
@[simp] theorem exec_pwrRequestFlame (ctx : Ctx) (s : State) : exec (.pwrRequestFlame ctx) s = execPwrRequestFlame ctx s := rfl
@[simp] theorem exec_pwrRequestTrim (ctx : Ctx) (s : State) : exec (.pwrRequestTrim ctx) s = execPwrRequestTrim ctx s := rfl
@[simp] theorem exec_modeTransitionDone (env : StartEnv) (s : State) : exec (.modeTransitionDone env) s = execModeTransitionDone env s := rfl
@[simp] theorem exec_emberLimitExpire (s : State) : exec (.emberLimitExpire) s = execEmberLimitExpire s := rfl
@[simp] theorem exec_wakeAlarmExpire (env : StartEnv) (s : State) : exec (.wakeAlarmExpire env) s = execWakeAlarmExpire env s := rfl
@[simp] theorem exec_wakeEvent (sources : List WakeSource) (env : StartEnv) (s : State) : exec (.wakeEvent sources env) s = execWakeEvent sources env s := rfl
@[simp] theorem exec_cfgSave (ctx : Ctx) (value : Nat) (s : State) : exec (.cfgSave ctx value) s = execCfgSave ctx value s := rfl
@[simp] theorem exec_cfgSaveDone (s : State) : exec (.cfgSaveDone) s = execCfgSaveDone s := rfl
@[simp] theorem exec_cfgRemainderApplied (bad : List Nat) (s : State) : exec (.cfgRemainderApplied bad) s = execCfgRemainderApplied bad s := rfl
@[simp] theorem exec_start (env : StartEnv) (s : State) : exec (.start env) s = execStart env s := rfl
@[simp] theorem exec_hbBeat (ctx : Ctx) (value : Nat) (mailbox pilotLine : Bool) (s : State) : exec (.hbBeat ctx value mailbox pilotLine) s = execHbBeat ctx value mailbox pilotLine s := rfl
@[simp] theorem exec_heartbeatTimeout (c : Nat) (s : State) : exec (.heartbeatTimeout c) s = execHeartbeatTimeout c s := rfl
@[simp] theorem exec_cgClaim (ctx : Ctx) (g value : Nat) (s : State) : exec (.cgClaim ctx g value) s = execCgClaim ctx g value s := rfl
@[simp] theorem exec_outCommand (ctx : Ctx) (o value : Nat) (s : State) : exec (.outCommand ctx o value) s = execOutCommand ctx o value s := rfl
@[simp] theorem exec_holdExpire (g : Nat) (s : State) : exec (.holdExpire g) s = execHoldExpire g s := rfl
@[simp] theorem exec_twinFramePeriodic (s : State) : exec (.twinFramePeriodic) s = execTwinFramePeriodic s := rfl
@[simp] theorem exec_twinFrameReceive (stream : Bool) (bytes : List Byte) (s : State) : exec (.twinFrameReceive stream bytes) s = execTwinFrameReceive stream bytes s := rfl
@[simp] theorem exec_twinTimeout (s : State) : exec (.twinTimeout) s = execTwinTimeout s := rfl
@[simp] theorem exec_snuffRestartExpire (s : State) : exec (.snuffRestartExpire) s = execSnuffRestartExpire s := rfl
@[simp] theorem exec_snuffCountClear (s : State) : exec (.snuffCountClear) s = execSnuffCountClear s := rfl
@[simp] theorem exec_powerOnReset (s : State) : exec (.powerOnReset) s = execPowerOnReset s := rfl
@[simp] theorem exec_externalReset (micros : Nat) (s : State) : exec (.externalReset micros) s = execExternalReset micros s := rfl
@[simp] theorem exec_debugReset (s : State) : exec (.debugReset) s = execDebugReset s := rfl
@[simp] theorem exec_rstDevice (ctx : Ctx) (s : State) : exec (.rstDevice ctx) s = execRstDevice ctx s := rfl
@[simp] theorem exec_rstSnuff (ctx : Ctx) (s : State) : exec (.rstSnuff ctx) s = execRstSnuff ctx s := rfl
@[simp] theorem exec_rstRestartA (ctx : Ctx) (s : State) : exec (.rstRestartA ctx) s = execRstRestartA ctx s := rfl
@[simp] theorem exec_rstRestartB (ctx : Ctx) (s : State) : exec (.rstRestartB ctx) s = execRstRestartB ctx s := rfl
@[simp] theorem exec_clusterRestartDone (c : Nat) (ok : Bool) (s : State) : exec (.clusterRestartDone c ok) s = execClusterRestartDone c ok s := rfl
@[simp] theorem exec_pilotWatchdog (s : State) : exec (.pilotWatchdog) s = execPilotWatchdog s := rfl
@[simp] theorem exec_errorRecordWrite (s : State) : exec (.errorRecordWrite) s = execErrorRecordWrite s := rfl
@[simp] theorem exec_errorLogCopy (s : State) : exec (.errorLogCopy) s = execErrorLogCopy s := rfl
@[simp] theorem exec_errAcknowledge (ctx : Ctx) (value : Nat) (s : State) : exec (.errAcknowledge ctx value) s = execErrAcknowledge ctx value s := rfl
@[simp] theorem exec_errReport (ctx : Ctx) (bytes : List Byte) (s : State) : exec (.errReport ctx bytes) s = execErrReport ctx bytes s := rfl
@[simp] theorem exec_eclClear (ctx : Ctx) (cls value : Nat) (s : State) : exec (.eclClear ctx cls value) s = execEclClear ctx cls value s := rfl
@[simp] theorem exec_taperOpen (frame : List Byte) (s : State) : exec (.taperOpen frame) s = execTaperOpen frame s := rfl
@[simp] theorem exec_taperData (frame : List Byte) (s : State) : exec (.taperData frame) s = execTaperData frame s := rfl
@[simp] theorem exec_taperClose (frame : List Byte) (s : State) : exec (.taperClose frame) s = execTaperClose frame s := rfl
@[simp] theorem exec_taperCloseVerdict (s : State) : exec (.taperCloseVerdict) s = execTaperCloseVerdict s := rfl
@[simp] theorem exec_taperAbort (frame : List Byte) (s : State) : exec (.taperAbort frame) s = execTaperAbort frame s := rfl
@[simp] theorem exec_taperStatus (frame : List Byte) (s : State) : exec (.taperStatus frame) s = execTaperStatus frame s := rfl
@[simp] theorem exec_taperSessionTimeout (s : State) : exec (.taperSessionTimeout) s = execTaperSessionTimeout s := rfl
@[simp] theorem exec_updConfirm (ctx : Ctx) (value : Nat) (s : State) : exec (.updConfirm ctx value) s = execUpdConfirm ctx value s := rfl
@[simp] theorem exec_trialTimeout (s : State) : exec (.trialTimeout) s = execTrialTimeout s := rfl
@[simp] theorem exec_updPrepare (ctx : Ctx) (value : Nat) (s : State) : exec (.updPrepare ctx value) s = execUpdPrepare ctx value s := rfl
@[simp] theorem exec_prepareDone (s : State) : exec (.prepareDone) s = execPrepareDone s := rfl
@[simp] theorem exec_ownerKeyWrite (ctx : Ctx) (bytes : List Byte) (s : State) : exec (.ownerKeyWrite ctx bytes) s = execOwnerKeyWrite ctx bytes s := rfl
@[simp] theorem exec_pauseTimeExpire (port : Nat) (s : State) : exec (.pauseTimeExpire port) s = execPauseTimeExpire port s := rfl
@[simp] theorem exec_canError (ch : Nat) (transmitter severe : Bool) (s : State) : exec (.canError ch transmitter severe) s = execCanError ch transmitter severe s := rfl
@[simp] theorem exec_heartbeatPathFault (c : Nat) (pilotLine : Bool) (s : State) : exec (.heartbeatPathFault c pilotLine) s = execHeartbeatPathFault c pilotLine s := rfl
@[simp] theorem exec_twinPathFault (stream : Bool) (s : State) : exec (.twinPathFault stream) s = execTwinPathFault stream s := rfl
@[simp] theorem exec_taperAckTimer (s : State) : exec (.taperAckTimer) s = execTaperAckTimer s := rfl
@[simp] theorem exec_cpPeriodMeasure (oscillating : Bool) (frequency duty : Nat) (negative : Int) (s : State) : exec (.cpPeriodMeasure oscillating frequency duty negative) s = execCpPeriodMeasure oscillating frequency duty negative s := rfl
@[simp] theorem exec_pilotRead (addr size : Nat) (s : State) : exec (.pilotRead addr size) s = execPilotRead addr size s := rfl

/-- With nothing in the queue one cycle of the time base passes. -/
theorem step_of_idle (s : State) (h : s.pending = []) : step s = .next s.tick := by simp [step, h]

/-- The front command is carried out on the state with the rest of the queue. -/
theorem step_of_front (s : State) (c : Instr) (rest : List Instr) (h : s.pending = c :: rest) : step s = exec c { s with pending := rest } := by
  simp [step, h]

end Sys2Proof.Machine
end

