-- ==== Sys2Proof/Laws/Commands.lean ====
section
/-! SUPPORT. What the shared commands do when they are admitted: one law for each operation through which several rows go. -/
set_option Elab.async false
namespace Sys2Proof.Machine

/-- What an admitted access means. -/
theorem State.admits_iff (s : State) (c : Ctx) (idx sub : Nat) (wick : Bool) :
    s.admits c idx sub wick = true ↔ s.answers c = true ∧ s.linkBars c wick = false ∧ (s.running || wick) = true ∧ s.locked idx sub = false := by
  simp [State.admits, and_assoc]

/-- An admitted command whose checks pass is carried out. -/
theorem State.cmdWrite_admits (s : State) (c : Ctx) (idx sub : Nat) (wick : Bool) (checks : List (Option Nat)) (act : State → State)
    (h : s.admits c idx sub wick = true) (hc : firstAbort checks = none) : s.cmdWrite c idx sub true wick checks act = (act s).done c := by
  obtain ⟨ha, hb, hm, hl⟩ := (s.admits_iff c idx sub wick).mp h
  exact s.cmdWrite_done c idx sub wick checks act ha hb hm hl hc

/-- An admitted write whose checks pass is carried out and counted. -/
theorem State.rwWrite_admits (s : State) (c : Ctx) (idx sub : Nat) (wick : Bool) (checks : List (Option Nat)) (act : State → State)
    (h : s.admits c idx sub wick = true) (hc : firstAbort checks = none) :
    s.rwWrite c idx sub true wick checks act = ((act s).changed).done c := by
  obtain ⟨ha, hb, hm, hl⟩ := (s.admits_iff c idx sub wick).mp h
  exact s.rwWrite_done c idx sub wick checks act ha hb hm hl hc

/-- A channel command ends with its outcome, and with its result when it is DONE (R250). -/
theorem State.scWrite_admits (s : State) (c : Ctx) (act : State → Nat × Nat × State) (h : s.admits c 0x2800 0x0D false = true)
    (hb : s.get (Reg.scOutcome.of c) ≠ outBusy) :
    s.scWrite c act = (if (act s).1 = outDone then ((act s).2.2.set (Reg.scOutcome.of c) (act s).1).set (Reg.scResult.of c) (act s).2.1
      else (act s).2.2.set (Reg.scOutcome.of c) (act s).1).done c :=
  s.cmdWrite_admits c 0x2800 0x0D false _ _ h (by simp [hb])

/-- A vault command waits for the vault (R297). -/
theorem State.vaultWrite_admits (s : State) (c : Ctx) (code : Nat) (h : s.admits c 0x2900 0x0B false = true)
    (hb : s.get (Reg.vltOutcome.of c) ≠ outBusy) :
    s.vaultWrite c code = (s.vaultSubmit (.command (s.vaultCmd c code))).done c :=
  s.cmdWrite_admits c 0x2900 0x0B false _ _ h (by simp [hb])

/-- A vault in service takes a request that is no install into its queue, and the request's outcome reads BUSY (R302). -/
theorem State.vaultSubmit_waits (s : State) (r : VaultReq) (h2 : s.get Reg.vltState ≠ 2) (h3 : s.get Reg.vltState ≠ 3)
    (hr : ∀ i, r ≠ .install i) :
    s.vaultSubmit r = { s.set r.outcome outBusy with vaultWaiting := s.vaultWaiting ++ [r] } := by
  unfold State.vaultSubmit
  split
  · contradiction
  · contradiction
  · cases r <;> first | rfl | exact absurd rfl (hr _)

/-- A session command whose checks pass is carried out (R438). -/
theorem State.sessionCommand_admits (s : State) (c : Ctx) (k : Nat) (act : State → State) (h : s.admits c 0x2D30 1 false = true)
    (hi : s.fuses.variant.hasInlet = true) (hb : s.get (Reg.msOutcome.of c) ≠ outBusy) (hc : firstAbort (s.sessionChecks c k) = none)
    (h2 : s.get Reg.vltState ≠ 2) (h3 : s.get Reg.drbgStopped ≠ 1) : s.sessionCommand c k act = (act s).done c := by
  unfold State.sessionCommand
  rw [hi, s.cmdWrite_admits c 0x2D30 1 false _ _ h (by simp [hb])]
  simp [hc, h2, h3]

/-- A reset command is carried out under its confirmation, which it clears (R523). -/
theorem State.rstCommand_admits (s : State) (c : Ctx) (act : State → Bool → State) (h : s.admits c 0x3180 2 true = true)
    (hb : s.get Reg.rstOutcome ≠ outBusy) :
    s.rstCommand c act = (act (s.set Reg.rstConfirm 0) (s.get Reg.rstConfirm = s.fuses.serial % 2 ^ 32)).done c :=
  s.cmdWrite_admits c 0x3180 2 true _ _ h (by simp [hb])

/-- A mode request whose conditions hold begins its transition (R459, R478). -/
theorem State.pwrRequest_admits (s : State) (c : Ctx) (target pins : Nat) (h : s.admits c 0x2100 2 true = true)
    (hb : s.get Reg.pwrOutcome ≠ outBusy) (hm : s.mode.code ≠ target) (hr : s.requestRefusal target pins = none) :
    s.pwrRequest c target pins = (let t := s.sets [(Reg.pwrOutcome, outBusy), (Reg.pwrTarget, target + 1), (Reg.pwrAskedAt, s.now + 1)]
      if target = 1 then t.outputsLose else if target = 0 then t.sendTwin 3 else t).done c := by
  unfold State.pwrRequest
  rw [s.cmdWrite_admits c 0x2100 2 true _ _ h (by simp [hb])]
  simp [hm, hr]

/-- A bit of bits gathered over a list: it stood before, or the list names it and it passes. -/
theorem testBit_gather (p : Nat → Prop) [DecidablePred p] (b : Nat) : ∀ (l : List Nat) (m : Nat),
    (l.foldl (fun m k => if p k then m ||| 2 ^ k else m) m).testBit b = (m.testBit b || (decide (b ∈ l) && decide (p b)))
  | [], m => by simp
  | k :: l, m => by
    rw [List.foldl_cons, testBit_gather p b l]
    by_cases h : k = b
    · subst h
      by_cases hp : p k <;> simp [hp]
    · by_cases hp : p k <;> simp [hp, Nat.testBit_or, h, Ne.symm h]

/-- The bit of a site in `State.droopSites`: its level lies below the set point less the margin (R476). -/
theorem droopSites_bit (l : List Nat) (s : State) (k : Nat) (h : k < 16) :
    bitOf (s.droopSites l) k = true ↔ l.getD k s.fuses.coreSetpoint + s.get Reg.thrDroopMargin.latched < s.fuses.coreSetpoint := by
  have := testBit_gather (fun k => l.getD k s.fuses.coreSetpoint + s.get Reg.thrDroopMargin.latched < s.fuses.coreSetpoint) k (List.range 16) 0
  simp only [Nat.zero_testBit, Bool.false_or, List.mem_range, h, decide_true, Bool.true_and] at this
  rw [Nat.testBit_eq_decide_div_mod_eq] at this
  rw [← decide_eq_true_iff (p := l.getD k s.fuses.coreSetpoint + s.get Reg.thrDroopMargin.latched < s.fuses.coreSetpoint), ← this]
  simp [bitOf, State.droopSites]
end Sys2Proof.Machine
end

