-- ==== Sys2Proof/Laws/Memory.lean ====
section
/-! SUPPORT. The laws of memory: what a byte reads as after a write, and that every operation over memory keeps the canonical form. -/
set_option Elab.async false
namespace Sys2Proof.Machine

/-! ## One byte -/

theorem Mem.get_of_all_lt (l : List Host.Cell) (a : Nat) (h : l.all (fun c => a < c.1) = true) : Mem.get l a = memDflt a := by
  induction l with
  | nil => rfl
  | cons c t ih =>
    obtain ⟨k, b⟩ := c
    simp only [List.all_cons, Bool.and_eq_true, decide_eq_true_eq] at h
    have : k ≠ a := by have := h.1; omega
    simp [Mem.get, this, ih h.2]

theorem Mem.get_del_self (l : List Host.Cell) (a : Nat) : Mem.get (Mem.del l a) a = memDflt a := by
  induction l with
  | nil => rfl
  | cons c t ih =>
    obtain ⟨k, b⟩ := c
    by_cases hk : k = a
    · simpa [Mem.del, hk] using ih
    · simpa [Mem.del, hk, Mem.get] using ih

theorem Mem.get_del_of_ne (l : List Host.Cell) (a q : Nat) (h : q ≠ a) : Mem.get (Mem.del l a) q = Mem.get l q := by
  induction l with
  | nil => rfl
  | cons c t ih =>
    obtain ⟨k, b⟩ := c
    by_cases hk : k = a
    · subst hk
      have hq : k ≠ q := fun e => h e.symm
      simpa [Mem.del, Mem.get, hq] using ih
    · by_cases hq : k = q
      · simp [Mem.del, Mem.get, hq, h]
      · simpa [Mem.del, hk, Mem.get, hq] using ih

theorem Mem.get_ins_self (l : List Host.Cell) (a : Nat) (b : Byte) : Mem.get (Mem.ins l a b) a = b := by
  induction l with
  | nil => simp [Mem.ins, Mem.get]
  | cons c t ih =>
    obtain ⟨k, d⟩ := c
    simp only [Mem.ins]
    split
    · simp [Mem.get]
    · split
      · simp [Mem.get]
      · next hk _ => simp [Mem.get, hk, ih]

theorem Mem.get_ins_of_ne (l : List Host.Cell) (a q : Nat) (b : Byte) (h : q ≠ a) : Mem.get (Mem.ins l a b) q = Mem.get l q := by
  induction l with
  | nil => simp [Mem.ins, Mem.get, h.symm]
  | cons c t ih =>
    obtain ⟨k, d⟩ := c
    simp only [Mem.ins]
    split
    · next hk => subst hk; simp [Mem.get, h.symm]
    · split
      · simp [Mem.get, h.symm]
      · simp [Mem.get, ih]

/-- A byte reads as what was written. -/
theorem Mem.get_put_self (l : List Host.Cell) (a : Nat) (b : Byte) : Mem.get (Mem.put l a b) a = b := by
  unfold Mem.put
  split
  · next h => rw [Mem.get_del_self, h]
  · exact Mem.get_ins_self l a b

/-- A write leaves every other byte alone. -/
theorem Mem.get_put_of_ne (l : List Host.Cell) (a q : Nat) (b : Byte) (h : q ≠ a) : Mem.get (Mem.put l a b) q = Mem.get l q := by
  unfold Mem.put
  split
  · exact Mem.get_del_of_ne l a q h
  · exact Mem.get_ins_of_ne l a q b h

/-! ## Runs of bytes -/

/-- Bytes outside a written range keep their values. -/
theorem Mem.get_putAll_outside (l : List Host.Cell) (a q : Nat) (b : List Byte) (h : q < a ∨ a + b.length ≤ q) :
    Mem.get (Mem.putAll l a b) q = Mem.get l q := by
  induction b generalizing l a with
  | nil => rfl
  | cons x t ih =>
    simp only [List.length_cons] at h
    simp only [Mem.putAll]
    rw [ih _ _ (by omega), Mem.get_put_of_ne _ _ _ _ (by omega)]

/-- Bytes of a written range read as what was written. -/
theorem Mem.get_putAll_inside (l : List Host.Cell) (a k : Nat) (b : List Byte) (h : k < b.length) :
    Mem.get (Mem.putAll l a b) (a + k) = b[k] := by
  induction b generalizing l a k with
  | nil => simp at h
  | cons x t ih =>
    simp only [Mem.putAll]
    cases k with
    | zero =>
      rw [Mem.get_putAll_outside _ _ _ _ (by omega)]
      exact Mem.get_put_self l a x
    | succ n =>
      have := ih (Mem.put l a x) (a + 1) n (by simpa using h)
      rw [show a + (n + 1) = a + 1 + n by omega, this]
      simp

/-- Reading back a write. -/
theorem State.bytesAt_setBytes (s : State) (a : Nat) (b : List Byte) : (s.setBytes a b).bytesAt a b.length = b := by
  apply List.ext_getElem
  · simp [State.bytesAt]
  · intro k h1 h2
    simp only [State.bytesAt, State.setBytes, List.getElem_map, List.getElem_range]
    exact Mem.get_putAll_inside s.mem a k b h2

/-! ## The canonical form -/

theorem Mem.wf_cons (k : Nat) (b : Byte) (t : List Host.Cell) :
    Mem.wf ((k, b) :: t) = true ↔ b ≠ memDflt k ∧ t.all (fun c => k < c.1) = true ∧ Mem.wf t = true := by
  simp [Mem.wf, and_assoc]

/-- Taking entries away keeps the form. -/
theorem Mem.wf_filter (l : List Host.Cell) (p : Host.Cell → Bool) (h : Mem.wf l = true) : Mem.wf (l.filter p) = true := by
  induction l with
  | nil => exact h
  | cons c t ih =>
    obtain ⟨k, b⟩ := c
    rw [Mem.wf_cons] at h
    by_cases hp : p (k, b) = true
    · rw [List.filter_cons_of_pos hp, Mem.wf_cons]
      refine ⟨h.1, ?_, ih h.2.2⟩
      rw [List.all_eq_true] at h ⊢
      exact fun x hx => h.2.1 x (List.mem_filter.mp hx).1
    · rw [List.filter_cons_of_neg hp]
      exact ih h.2.2

theorem Mem.all_ins (l : List Host.Cell) (a m : Nat) (b : Byte) (ha : m < a) (h : l.all (fun c => m < c.1) = true) :
    (Mem.ins l a b).all (fun c => m < c.1) = true := by
  induction l with
  | nil => simp [Mem.ins, ha]
  | cons c t ih =>
    obtain ⟨k, d⟩ := c
    simp only [List.all_cons, Bool.and_eq_true] at h
    simp only [Mem.ins]
    split
    · simp only [List.all_cons, Bool.and_eq_true]; exact ⟨by simpa using ha, h.2⟩
    · split
      · simp only [List.all_cons, Bool.and_eq_true]; exact ⟨by simpa using ha, h.1, h.2⟩
      · simp only [List.all_cons, Bool.and_eq_true]; exact ⟨h.1, ih h.2⟩

/-- Setting one byte to a value that an unlisted address does not read as keeps the form. -/
theorem Mem.wf_ins (l : List Host.Cell) (a : Nat) (b : Byte) (hb : b ≠ memDflt a) (h : Mem.wf l = true) : Mem.wf (Mem.ins l a b) = true := by
  induction l with
  | nil => simp [Mem.ins, Mem.wf, hb]
  | cons c t ih =>
    obtain ⟨k, d⟩ := c
    rw [Mem.wf_cons] at h
    simp only [Mem.ins]
    split
    · next hk => subst hk; rw [Mem.wf_cons]; exact ⟨hb, h.2.1, h.2.2⟩
    · next hk =>
      split
      · next hlt =>
        rw [Mem.wf_cons]
        refine ⟨hb, ?_, by rw [Mem.wf_cons]; exact h⟩
        simp only [List.all_cons, Bool.and_eq_true, decide_eq_true_eq]
        refine ⟨hlt, ?_⟩
        have h2 := h.2.1
        rw [List.all_eq_true] at h2 ⊢
        intro x hx
        have := h2 x hx
        simp only [decide_eq_true_eq] at this ⊢
        omega
      · next hlt =>
        rw [Mem.wf_cons]
        exact ⟨h.1, Mem.all_ins t a k b (by omega) h.2.1, ih h.2.2⟩

/-- A write of one byte keeps the canonical form. -/
theorem Mem.wf_put (l : List Host.Cell) (a : Nat) (b : Byte) (h : Mem.wf l = true) : Mem.wf (Mem.put l a b) = true := by
  unfold Mem.put
  split
  · exact Mem.wf_filter l _ h
  · next hb => exact Mem.wf_ins l a b hb h

/-- A write of bytes keeps the canonical form. -/
theorem Mem.wf_putAll (l : List Host.Cell) (a : Nat) (b : List Byte) (h : Mem.wf l = true) : Mem.wf (Mem.putAll l a b) = true := by
  induction b generalizing l a with
  | nil => exact h
  | cons x t ih => exact ih _ _ (Mem.wf_put l a x h)

/-- Writing and erasing memory keep the canonical form. -/
theorem State.wf_setBytes (s : State) (a : Nat) (b : List Byte) (h : Mem.wf s.mem = true) : Mem.wf (s.setBytes a b).mem = true :=
  Mem.wf_putAll s.mem a b h
theorem State.wf_eraseBytes (s : State) (a n : Nat) (h : Mem.wf s.mem = true) : Mem.wf (s.eraseBytes a n).mem = true :=
  Mem.wf_filter s.mem _ h

end Sys2Proof.Machine
end

