-- ==== Sys2Proof/Laws/FrameBase.lean ====
section
/-! SUPPORT. What the operations of registers, frames, ports and schedules can touch: one law for each, with the parts of the state that it may change as bits of a mask
in the order of `Part`, and that it keeps the canonical forms. -/
set_option Elab.async false
namespace Sys2Proof.Machine

/-- What a change may touch, and what it keeps: every part whose bit the mask does not have, and the canonical forms. -/
structure Within (m : Nat) (s t : State) : Prop where
  same : ∀ p : Part, m.testBit p.ctorIdx = false → p.same s t
  regs : regsWf s.regs = true → regsWf t.regs = true
  mem : Mem.wf s.mem = true → Mem.wf t.mem = true

/-- What a command may touch, of an outcome. -/
structure OWithin (m : Nat) (s : State) (o : Host.Outcome State Fault Refusal) : Prop where
  within : ∀ t, o = .next t → Within m s t

theorem Part.same_refl (p : Part) (s : State) : p.same s s := by cases p <;> rfl
theorem Part.same_trans (p : Part) (s t u : State) (h : p.same s t) (k : p.same t u) : p.same s u := by
  cases p <;> exact Eq.trans k h

theorem Within.refl (m : Nat) (s : State) : Within m s s := ⟨fun p _ => p.same_refl s, id, id⟩

theorem testBit_of_or {a m : Nat} (i : Nat) (h : (a ||| m) = m) (k : m.testBit i = false) : a.testBit i = false := by
  rw [← h, Nat.testBit_or] at k
  exact (Bool.or_eq_false_iff.mp k).1

theorem or_sub {a b m : Nat} (h : (b ||| m) = m) (k : (a ||| b) = b) : (a ||| m) = m := by rw [← h, ← Nat.or_assoc, k]

theorem Within.mono {a m : Nat} {s t : State} (h : Within a s t) (hm : (a ||| m) = m) : Within m s t :=
  ⟨fun p hp => h.same p (testBit_of_or _ hm hp), h.regs, h.mem⟩

theorem Within.trans {m : Nat} {s t u : State} (h : Within m s t) (k : Within m t u) : Within m s u :=
  ⟨fun p hp => p.same_trans s t u (h.same p hp) (k.same p hp), fun x => k.regs (h.regs x), fun x => k.mem (h.mem x)⟩

/-- One more step. -/
theorem Within.next {a m : Nat} {s t u : State} (h : Within m s t) (k : Within a t u) (hm : (a ||| m) = m) : Within m s u :=
  h.trans (k.mono hm)

theorem Within.next_foldl {α : Type} {m : Nat} {s t : State} {l : List α} {f : State → α → State} (h : Within m s t)
    (k : ∀ u x, Within m u (f u x)) : Within m s (l.foldl f t) := by
  induction l generalizing t with
  | nil => exact h
  | cons x l ih => exact ih (h.trans (k t x))

theorem Within.of2 {α : Type} {m : Nat} {s t : State} {a : α} {x : α × State} (h : x = (a, t)) (k : Within m s x.2) : Within m s t := by
  subst h; exact k

theorem OWithin.next {m : Nat} {s t : State} (h : Within m s t) : OWithin m s (.next t) :=
  ⟨fun u hu => by injection hu with hu; subst hu; exact h⟩

theorem OWithin.after {a m : Nat} {s u : State} {o : Host.Outcome State Fault Refusal} (h : Within m s u) (k : OWithin a u o)
    (hm : (a ||| m) = m) : OWithin m s o :=
  ⟨fun t ht => h.next (k.within t ht) hm⟩

theorem Within.next_foldl1 {α β : Type} {m : Nat} {s : State} {l : List α} {f : State × β → α → State × β} {a : State × β}
    (h : Within m s a.1) (k : ∀ b x, Within m b.1 (f b x).1) : Within m s (l.foldl f a).1 := by
  induction l generalizing a with
  | nil => exact h
  | cons x l ih => exact ih (h.trans (k a x))

theorem Within.next_foldl2 {α β : Type} {m : Nat} {s : State} {l : List α} {f : β × State → α → β × State} {a : β × State}
    (h : Within m s a.2) (k : ∀ b x, Within m b.2 (f b x).2) : Within m s (l.foldl f a).2 := by
  induction l generalizing a with
  | nil => exact h
  | cons x l ih => exact ih (h.trans (k a x))

theorem OWithin.mono {a m : Nat} {s : State} {o : Host.Outcome State Fault Refusal} (h : OWithin a s o) (hm : (a ||| m) = m) : OWithin m s o :=
  ⟨fun t ht => (h.within t ht).mono hm⟩

theorem Within.lit {m : Nat} {s t : State} (h : ∀ p : Part, m.testBit p.ctorIdx = false → p.same s t) (hr : t.regs = s.regs)
    (hm : t.mem = s.mem) : Within m s t :=
  ⟨h, fun x => by rw [hr]; exact x, fun x => by rw [hm]; exact x⟩

theorem Within.upd_acfPacks {m : Nat} {s u : State} {v0 : List AcfPack} (h : Within m s u) (hm : (0x2000000000000 ||| m) = m) :
    Within m s { u with acfPacks := v0 } :=
  h.next (Within.lit (fun p hp => by cases p <;> first | rfl | exact Bool.noConfusion (show true = false from hp)) rfl rfl) hm

theorem Within.upd_armed {m : Nat} {s u : State} {v0 : List Arm} (h : Within m s u) (hm : (0x80 ||| m) = m) :
    Within m s { u with armed := v0 } :=
  h.next (Within.lit (fun p hp => by cases p <;> first | rfl | exact Bool.noConfusion (show true = false from hp)) rfl rfl) hm

theorem Within.upd_blobs {m : Nat} {s u : State} {v0 : List (Reg × List Byte)} (h : Within m s u) (hm : (0x40 ||| m) = m) :
    Within m s { u with blobs := v0 } :=
  h.next (Within.lit (fun p hp => by cases p <;> first | rfl | exact Bool.noConfusion (show true = false from hp)) rfl rfl) hm

theorem Within.upd_boxes {m : Nat} {s u : State} {v0 : List EngineBox} (h : Within m s u) (hm : (0x400000000000 ||| m) = m) :
    Within m s { u with boxes := v0 } :=
  h.next (Within.lit (fun p hp => by cases p <;> first | rfl | exact Bool.noConfusion (show true = false from hp)) rfl rfl) hm

theorem Within.upd_bus {m : Nat} {s u : State} {v0 : BusResp} (h : Within m s u) (hm : (0x4000000000 ||| m) = m) :
    Within m s { u with bus := v0 } :=
  h.next (Within.lit (fun p hp => by cases p <;> first | rfl | exact Bool.noConfusion (show true = false from hp)) rfl rfl) hm

theorem Within.upd_bus_heldRead {m : Nat} {s u : State} {v0 : BusResp} {v1 : Option Fetch} (h : Within m s u) (hm : (0x14000000000 ||| m) = m) :
    Within m s { u with bus := v0, heldRead := v1 } :=
  h.next (Within.lit (fun p hp => by cases p <;> first | rfl | exact Bool.noConfusion (show true = false from hp)) rfl rfl) hm

theorem Within.upd_bus_semaphore {m : Nat} {s u : State} {v0 : BusResp} {v1 : Option Semaphore} (h : Within m s u) (hm : (0x44000000000 ||| m) = m) :
    Within m s { u with bus := v0, semaphore := v1 } :=
  h.next (Within.lit (fun p hp => by cases p <;> first | rfl | exact Bool.noConfusion (show true = false from hp)) rfl rfl) hm

theorem Within.upd_bus_wickRead {m : Nat} {s u : State} {v0 : BusResp} {v1 : Option WickRead} (h : Within m s u) (hm : (0x104000000000 ||| m) = m) :
    Within m s { u with bus := v0, wickRead := v1 } :=
  h.next (Within.lit (fun p hp => by cases p <;> first | rfl | exact Bool.noConfusion (show true = false from hp)) rfl rfl) hm

theorem Within.upd_cache {m : Nat} {s u : State} {v0 : List CacheLine} (h : Within m s u) (hm : (0x2000000000 ||| m) = m) :
    Within m s { u with cache := v0 } :=
  h.next (Within.lit (fun p hp => by cases p <;> first | rfl | exact Bool.noConfusion (show true = false from hp)) rfl rfl) hm

theorem Within.upd_canQueue {m : Nat} {s u : State} {v0 : List CanEntry} (h : Within m s u) (hm : (0x800000000000 ||| m) = m) :
    Within m s { u with canQueue := v0 } :=
  h.next (Within.lit (fun p hp => by cases p <;> first | rfl | exact Bool.noConfusion (show true = false from hp)) rfl rfl) hm

theorem Within.upd_coathKept {m : Nat} {s u : State} {v0 : List CoathKept} (h : Within m s u) (hm : (0x1000000000000000 ||| m) = m) :
    Within m s { u with coathKept := v0 } :=
  h.next (Within.lit (fun p hp => by cases p <;> first | rfl | exact Bool.noConfusion (show true = false from hp)) rfl rfl) hm

theorem Within.upd_crContexts {m : Nat} {s u : State} {v0 : List CrContext} (h : Within m s u) (hm : (0x40000000 ||| m) = m) :
    Within m s { u with crContexts := v0 } :=
  h.next (Within.lit (fun p hp => by cases p <;> first | rfl | exact Bool.noConfusion (show true = false from hp)) rfl rfl) hm

theorem Within.upd_crContexts_crJobs {m : Nat} {s u : State} {v0 : List CrContext} {v1 : List CrJob} (h : Within m s u) (hm : (0xc0000000 ||| m) = m) :
    Within m s { u with crContexts := v0, crJobs := v1 } :=
  h.next (Within.lit (fun p hp => by cases p <;> first | rfl | exact Bool.noConfusion (show true = false from hp)) rfl rfl) hm

theorem Within.upd_crJobs {m : Nat} {s u : State} {v0 : List CrJob} (h : Within m s u) (hm : (0x80000000 ||| m) = m) :
    Within m s { u with crJobs := v0 } :=
  h.next (Within.lit (fun p hp => by cases p <;> first | rfl | exact Bool.noConfusion (show true = false from hp)) rfl rfl) hm

theorem Within.upd_crossing {m : Nat} {s u : State} {v0 : List Crossing} (h : Within m s u) (hm : (0x400000 ||| m) = m) :
    Within m s { u with crossing := v0 } :=
  h.next (Within.lit (fun p hp => by cases p <;> first | rfl | exact Bool.noConfusion (show true = false from hp)) rfl rfl) hm

theorem Within.upd_drawn {m : Nat} {s u : State} {v0 : Nat} (h : Within m s u) (hm : (0x800 ||| m) = m) :
    Within m s { u with drawn := v0 } :=
  h.next (Within.lit (fun p hp => by cases p <;> first | rfl | exact Bool.noConfusion (show true = false from hp)) rfl rfl) hm

theorem Within.upd_egress {m : Nat} {s u : State} {v0 : List Egress} (h : Within m s u) (hm : (0x200000 ||| m) = m) :
    Within m s { u with egress := v0 } :=
  h.next (Within.lit (fun p hp => by cases p <;> first | rfl | exact Bool.noConfusion (show true = false from hp)) rfl rfl) hm

theorem Within.upd_entries {m : Nat} {s u : State} {v0 : List Entry} (h : Within m s u) (hm : (0x2000 ||| m) = m) :
    Within m s { u with entries := v0 } :=
  h.next (Within.lit (fun p hp => by cases p <;> first | rfl | exact Bool.noConfusion (show true = false from hp)) rfl rfl) hm

theorem Within.upd_entries_prep {m : Nat} {s u : State} {v0 : List Entry} {v1 : List Prep} (h : Within m s u) (hm : (0xa000 ||| m) = m) :
    Within m s { u with entries := v0, prep := v1 } :=
  h.next (Within.lit (fun p hp => by cases p <;> first | rfl | exact Bool.noConfusion (show true = false from hp)) rfl rfl) hm

theorem Within.upd_entries_records_staging_slow {m : Nat} {s u : State} {v0 : List Entry} {v1 : List (Nat × Nat)} {v2 : List Staged} {v3 : List SlowFrame} (h : Within m s u) (hm : (0x10c2000 ||| m) = m) :
    Within m s { u with entries := v0, records := v1, staging := v2, slow := v3 } :=
  h.next (Within.lit (fun p hp => by cases p <;> first | rfl | exact Bool.noConfusion (show true = false from hp)) rfl rfl) hm

theorem Within.upd_entries_wire {m : Nat} {s u : State} {v0 : List Entry} {v1 : List Wire} (h : Within m s u) (hm : (0x6000 ||| m) = m) :
    Within m s { u with entries := v0, wire := v1 } :=
  h.next (Within.lit (fun p hp => by cases p <;> first | rfl | exact Bool.noConfusion (show true = false from hp)) rfl rfl) hm

theorem Within.upd_entries_wire_prep {m : Nat} {s u : State} {v0 : List Entry} {v1 : List Wire} {v2 : List Prep} (h : Within m s u) (hm : (0xe000 ||| m) = m) :
    Within m s { u with entries := v0, wire := v1, prep := v2 } :=
  h.next (Within.lit (fun p hp => by cases p <;> first | rfl | exact Bool.noConfusion (show true = false from hp)) rfl rfl) hm

theorem Within.upd_errFlash {m : Nat} {s u : State} {v0 : List Record} (h : Within m s u) (hm : (0x100000000000000 ||| m) = m) :
    Within m s { u with errFlash := v0 } :=
  h.next (Within.lit (fun p hp => by cases p <;> first | rfl | exact Bool.noConfusion (show true = false from hp)) rfl rfl) hm

theorem Within.upd_errLog {m : Nat} {s u : State} {v0 : List Record} (h : Within m s u) (hm : (0x80000000000000 ||| m) = m) :
    Within m s { u with errLog := v0 } :=
  h.next (Within.lit (fun p hp => by cases p <;> first | rfl | exact Bool.noConfusion (show true = false from hp)) rfl rfl) hm

theorem Within.upd_fences {m : Nat} {s u : State} {v0 : List Fence} (h : Within m s u) (hm : (0x80000000000 ||| m) = m) :
    Within m s { u with fences := v0 } :=
  h.next (Within.lit (fun p hp => by cases p <;> first | rfl | exact Bool.noConfusion (show true = false from hp)) rfl rfl) hm

theorem Within.upd_fetches {m : Nat} {s u : State} {v0 : List Fetch} (h : Within m s u) (hm : (0x8000000000 ||| m) = m) :
    Within m s { u with fetches := v0 } :=
  h.next (Within.lit (fun p hp => by cases p <;> first | rfl | exact Bool.noConfusion (show true = false from hp)) rfl rfl) hm

theorem Within.upd_fetches_heldRead_wickRead {m : Nat} {s u : State} {v0 : List Fetch} {v1 : Option Fetch} {v2 : Option WickRead} (h : Within m s u) (hm : (0x118000000000 ||| m) = m) :
    Within m s { u with fetches := v0, heldRead := v1, wickRead := v2 } :=
  h.next (Within.lit (fun p hp => by cases p <;> first | rfl | exact Bool.noConfusion (show true = false from hp)) rfl rfl) hm

theorem Within.upd_fetches_posted {m : Nat} {s u : State} {v0 : List Fetch} {v1 : List Posted} (h : Within m s u) (hm : (0x28000000000 ||| m) = m) :
    Within m s { u with fetches := v0, posted := v1 } :=
  h.next (Within.lit (fun p hp => by cases p <;> first | rfl | exact Bool.noConfusion (show true = false from hp)) rfl rfl) hm

theorem Within.upd_flashLines {m : Nat} {s u : State} {v0 : List FlashLine} (h : Within m s u) (hm : (0x200000000 ||| m) = m) :
    Within m s { u with flashLines := v0 } :=
  h.next (Within.lit (fun p hp => by cases p <;> first | rfl | exact Bool.noConfusion (show true = false from hp)) rfl rfl) hm

theorem Within.upd_flushes {m : Nat} {s u : State} {v0 : List FlushWalk} (h : Within m s u) (hm : (0x800000 ||| m) = m) :
    Within m s { u with flushes := v0 } :=
  h.next (Within.lit (fun p hp => by cases p <;> first | rfl | exact Bool.noConfusion (show true = false from hp)) rfl rfl) hm

theorem Within.upd_frames {m : Nat} {s u : State} {v0 : List Frame} (h : Within m s u) (hm : (0x1000 ||| m) = m) :
    Within m s { u with frames := v0 } :=
  h.next (Within.lit (fun p hp => by cases p <;> first | rfl | exact Bool.noConfusion (show true = false from hp)) rfl rfl) hm

theorem Within.upd_granules {m : Nat} {s u : State} {v0 : List Granule} (h : Within m s u) (hm : (0x400000000 ||| m) = m) :
    Within m s { u with granules := v0 } :=
  h.next (Within.lit (fun p hp => by cases p <;> first | rfl | exact Bool.noConfusion (show true = false from hp)) rfl rfl) hm

theorem Within.upd_gwKeys {m : Nat} {s u : State} {v0 : List (Nat × Nat × List Byte)} (h : Within m s u) (hm : (0x1000000000 ||| m) = m) :
    Within m s { u with gwKeys := v0 } :=
  h.next (Within.lit (fun p hp => by cases p <;> first | rfl | exact Bool.noConfusion (show true = false from hp)) rfl rfl) hm

theorem Within.upd_heldRead {m : Nat} {s u : State} {v0 : Option Fetch} (h : Within m s u) (hm : (0x10000000000 ||| m) = m) :
    Within m s { u with heldRead := v0 } :=
  h.next (Within.lit (fun p hp => by cases p <;> first | rfl | exact Bool.noConfusion (show true = false from hp)) rfl rfl) hm

theorem Within.upd_images {m : Nat} {s u : State} {v0 : List CfgImage} (h : Within m s u) (hm : (0x10000000000000 ||| m) = m) :
    Within m s { u with images := v0 } :=
  h.next (Within.lit (fun p hp => by cases p <;> first | rfl | exact Bool.noConfusion (show true = false from hp)) rfl rfl) hm

theorem Within.upd_images_saving {m : Nat} {s u : State} {v0 : List CfgImage} {v1 : Option CfgImage} (h : Within m s u) (hm : (0x30000000000000 ||| m) = m) :
    Within m s { u with images := v0, saving := v1 } :=
  h.next (Within.lit (fun p hp => by cases p <;> first | rfl | exact Bool.noConfusion (show true = false from hp)) rfl rfl) hm

theorem Within.upd_installs {m : Nat} {s u : State} {v0 : List Install} (h : Within m s u) (hm : (0x4000000 ||| m) = m) :
    Within m s { u with installs := v0 } :=
  h.next (Within.lit (fun p hp => by cases p <;> first | rfl | exact Bool.noConfusion (show true = false from hp)) rfl rfl) hm

theorem Within.upd_installs_vaultWaiting {m : Nat} {s u : State} {v0 : List Install} {v1 : List VaultReq} (h : Within m s u) (hm : (0x14000000 ||| m) = m) :
    Within m s { u with installs := v0, vaultWaiting := v1 } :=
  h.next (Within.lit (fun p hp => by cases p <;> first | rfl | exact Bool.noConfusion (show true = false from hp)) rfl rfl) hm

theorem Within.upd_installs_vaultWaiting_vaultRunning {m : Nat} {s u : State} {v0 : List Install} {v1 : List VaultReq} {v2 : Option VaultReq} (h : Within m s u) (hm : (0x34000000 ||| m) = m) :
    Within m s { u with installs := v0, vaultWaiting := v1, vaultRunning := v2 } :=
  h.next (Within.lit (fun p hp => by cases p <;> first | rfl | exact Bool.noConfusion (show true = false from hp)) rfl rfl) hm

theorem Within.upd_ivtasA {m : Nat} {s u : State} {v0 : List Byte} (h : Within m s u) (hm : (0x200000000000000 ||| m) = m) :
    Within m s { u with ivtasA := v0 } :=
  h.next (Within.lit (fun p hp => by cases p <;> first | rfl | exact Bool.noConfusion (show true = false from hp)) rfl rfl) hm

theorem Within.upd_ivtasB {m : Nat} {s u : State} {v0 : List Byte} (h : Within m s u) (hm : (0x400000000000000 ||| m) = m) :
    Within m s { u with ivtasB := v0 } :=
  h.next (Within.lit (fun p hp => by cases p <;> first | rfl | exact Bool.noConfusion (show true = false from hp)) rfl rfl) hm

theorem Within.upd_kidKeys {m : Nat} {s u : State} {v0 : List (Nat × List Byte)} (h : Within m s u) (hm : (0x800000000 ||| m) = m) :
    Within m s { u with kidKeys := v0 } :=
  h.next (Within.lit (fun p hp => by cases p <;> first | rfl | exact Bool.noConfusion (show true = false from hp)) rfl rfl) hm

theorem Within.upd_linQueue {m : Nat} {s u : State} {v0 : List LinEntry} (h : Within m s u) (hm : (0x1000000000000 ||| m) = m) :
    Within m s { u with linQueue := v0 } :=
  h.next (Within.lit (fun p hp => by cases p <;> first | rfl | exact Bool.noConfusion (show true = false from hp)) rfl rfl) hm

theorem Within.upd_lostCells {m : Nat} {s u : State} {v0 : List Nat} (h : Within m s u) (hm : (0x100000 ||| m) = m) :
    Within m s { u with lostCells := v0 } :=
  h.next (Within.lit (fun p hp => by cases p <;> first | rfl | exact Bool.noConfusion (show true = false from hp)) rfl rfl) hm

theorem Within.upd_mode {m : Nat} {s u : State} {v0 : Mode} (h : Within m s u) (hm : (0x2 ||| m) = m) :
    Within m s { u with mode := v0 } :=
  h.next (Within.lit (fun p hp => by cases p <;> first | rfl | exact Bool.noConfusion (show true = false from hp)) rfl rfl) hm

theorem Within.upd_now {m : Nat} {s u : State} {v0 : Nat} (h : Within m s u) (hm : (0x8 ||| m) = m) :
    Within m s { u with now := v0 } :=
  h.next (Within.lit (fun p hp => by cases p <;> first | rfl | exact Bool.noConfusion (show true = false from hp)) rfl rfl) hm

theorem Within.upd_pend {m : Nat} {s u : State} {v0 : List (Reg × Nat)} (h : Within m s u) (hm : (0x20 ||| m) = m) :
    Within m s { u with pend := v0 } :=
  h.next (Within.lit (fun p hp => by cases p <;> first | rfl | exact Bool.noConfusion (show true = false from hp)) rfl rfl) hm

theorem Within.upd_pend_prep_spec {m : Nat} {s u : State} {v0 : List (Reg × Nat)} {v1 : List Prep} {v2 : List SpecWindow} (h : Within m s u) (hm : (0x18020 ||| m) = m) :
    Within m s { u with pend := v0, prep := v1, spec := v2 } :=
  h.next (Within.lit (fun p hp => by cases p <;> first | rfl | exact Bool.noConfusion (show true = false from hp)) rfl rfl) hm

theorem Within.upd_posted {m : Nat} {s u : State} {v0 : List Posted} (h : Within m s u) (hm : (0x20000000000 ||| m) = m) :
    Within m s { u with posted := v0 } :=
  h.next (Within.lit (fun p hp => by cases p <;> first | rfl | exact Bool.noConfusion (show true = false from hp)) rfl rfl) hm

theorem Within.upd_prep {m : Nat} {s u : State} {v0 : List Prep} (h : Within m s u) (hm : (0x8000 ||| m) = m) :
    Within m s { u with prep := v0 } :=
  h.next (Within.lit (fun p hp => by cases p <;> first | rfl | exact Bool.noConfusion (show true = false from hp)) rfl rfl) hm

theorem Within.upd_prep_spec {m : Nat} {s u : State} {v0 : List Prep} {v1 : List SpecWindow} (h : Within m s u) (hm : (0x18000 ||| m) = m) :
    Within m s { u with prep := v0, spec := v1 } :=
  h.next (Within.lit (fun p hp => by cases p <;> first | rfl | exact Bool.noConfusion (show true = false from hp)) rfl rfl) hm

theorem Within.upd_pulses {m : Nat} {s u : State} {v0 : List Pulse} (h : Within m s u) (hm : (0x100 ||| m) = m) :
    Within m s { u with pulses := v0 } :=
  h.next (Within.lit (fun p hp => by cases p <;> first | rfl | exact Bool.noConfusion (show true = false from hp)) rfl rfl) hm

theorem Within.upd_records {m : Nat} {s u : State} {v0 : List (Nat × Nat)} (h : Within m s u) (hm : (0x40000 ||| m) = m) :
    Within m s { u with records := v0 } :=
  h.next (Within.lit (fun p hp => by cases p <;> first | rfl | exact Bool.noConfusion (show true = false from hp)) rfl rfl) hm

theorem Within.upd_records_staging {m : Nat} {s u : State} {v0 : List (Nat × Nat)} {v1 : List Staged} (h : Within m s u) (hm : (0xc0000 ||| m) = m) :
    Within m s { u with records := v0, staging := v1 } :=
  h.next (Within.lit (fun p hp => by cases p <;> first | rfl | exact Bool.noConfusion (show true = false from hp)) rfl rfl) hm

theorem Within.upd_reports {m : Nat} {s u : State} {v0 : List Report} (h : Within m s u) (hm : (0x200 ||| m) = m) :
    Within m s { u with reports := v0 } :=
  h.next (Within.lit (fun p hp => by cases p <;> first | rfl | exact Bool.noConfusion (show true = false from hp)) rfl rfl) hm

theorem Within.upd_resp {m : Nat} {s u : State} {v0 : Resp} (h : Within m s u) (hm : (0x400 ||| m) = m) :
    Within m s { u with resp := v0 } :=
  h.next (Within.lit (fun p hp => by cases p <;> first | rfl | exact Bool.noConfusion (show true = false from hp)) rfl rfl) hm

theorem Within.upd_saEvents {m : Nat} {s u : State} {v0 : List Nat} (h : Within m s u) (hm : (0x2000000 ||| m) = m) :
    Within m s { u with saEvents := v0 } :=
  h.next (Within.lit (fun p hp => by cases p <;> first | rfl | exact Bool.noConfusion (show true = false from hp)) rfl rfl) hm

theorem Within.upd_saving {m : Nat} {s u : State} {v0 : Option CfgImage} (h : Within m s u) (hm : (0x20000000000000 ||| m) = m) :
    Within m s { u with saving := v0 } :=
  h.next (Within.lit (fun p hp => by cases p <;> first | rfl | exact Bool.noConfusion (show true = false from hp)) rfl rfl) hm

theorem Within.upd_sdo {m : Nat} {s u : State} {v0 : Option SdoTransfer} (h : Within m s u) (hm : (0x2000000000000000 ||| m) = m) :
    Within m s { u with sdo := v0 } :=
  h.next (Within.lit (fun p hp => by cases p <;> first | rfl | exact Bool.noConfusion (show true = false from hp)) rfl rfl) hm

theorem Within.upd_sealRecords {m : Nat} {s u : State} {v0 : List SealRecord} (h : Within m s u) (hm : (0x4000000000000 ||| m) = m) :
    Within m s { u with sealRecords := v0 } :=
  h.next (Within.lit (fun p hp => by cases p <;> first | rfl | exact Bool.noConfusion (show true = false from hp)) rfl rfl) hm

theorem Within.upd_semaphore {m : Nat} {s u : State} {v0 : Option Semaphore} (h : Within m s u) (hm : (0x40000000000 ||| m) = m) :
    Within m s { u with semaphore := v0 } :=
  h.next (Within.lit (fun p hp => by cases p <;> first | rfl | exact Bool.noConfusion (show true = false from hp)) rfl rfl) hm

theorem Within.upd_sessions {m : Nat} {s u : State} {v0 : List Session} (h : Within m s u) (hm : (0x8000000000000 ||| m) = m) :
    Within m s { u with sessions := v0 } :=
  h.next (Within.lit (fun p hp => by cases p <;> first | rfl | exact Bool.noConfusion (show true = false from hp)) rfl rfl) hm

theorem Within.upd_slow {m : Nat} {s u : State} {v0 : List SlowFrame} (h : Within m s u) (hm : (0x1000000 ||| m) = m) :
    Within m s { u with slow := v0 } :=
  h.next (Within.lit (fun p hp => by cases p <;> first | rfl | exact Bool.noConfusion (show true = false from hp)) rfl rfl) hm

theorem Within.upd_spTags {m : Nat} {s u : State} {v0 : List SpTag} (h : Within m s u) (hm : (0x200000000000 ||| m) = m) :
    Within m s { u with spTags := v0 } :=
  h.next (Within.lit (fun p hp => by cases p <;> first | rfl | exact Bool.noConfusion (show true = false from hp)) rfl rfl) hm

theorem Within.upd_spec {m : Nat} {s u : State} {v0 : List SpecWindow} (h : Within m s u) (hm : (0x10000 ||| m) = m) :
    Within m s { u with spec := v0 } :=
  h.next (Within.lit (fun p hp => by cases p <;> first | rfl | exact Bool.noConfusion (show true = false from hp)) rfl rfl) hm

theorem Within.upd_staging {m : Nat} {s u : State} {v0 : List Staged} (h : Within m s u) (hm : (0x80000 ||| m) = m) :
    Within m s { u with staging := v0 } :=
  h.next (Within.lit (fun p hp => by cases p <;> first | rfl | exact Bool.noConfusion (show true = false from hp)) rfl rfl) hm

theorem Within.upd_starting {m : Nat} {s u : State} {v0 : Bool} (h : Within m s u) (hm : (0x4 ||| m) = m) :
    Within m s { u with starting := v0 } :=
  h.next (Within.lit (fun p hp => by cases p <;> first | rfl | exact Bool.noConfusion (show true = false from hp)) rfl rfl) hm

theorem Within.upd_streaming {m : Nat} {s u : State} {v0 : Option CfgImage} (h : Within m s u) (hm : (0x40000000000000 ||| m) = m) :
    Within m s { u with streaming := v0 } :=
  h.next (Within.lit (fun p hp => by cases p <;> first | rfl | exact Bool.noConfusion (show true = false from hp)) rfl rfl) hm

theorem Within.upd_taperTx {m : Nat} {s u : State} {v0 : List Byte} (h : Within m s u) (hm : (0x800000000000000 ||| m) = m) :
    Within m s { u with taperTx := v0 } :=
  h.next (Within.lit (fun p hp => by cases p <;> first | rfl | exact Bool.noConfusion (show true = false from hp)) rfl rfl) hm

theorem Within.upd_vault {m : Nat} {s u : State} {v0 : List VaultSlot} (h : Within m s u) (hm : (0x8000000 ||| m) = m) :
    Within m s { u with vault := v0 } :=
  h.next (Within.lit (fun p hp => by cases p <;> first | rfl | exact Bool.noConfusion (show true = false from hp)) rfl rfl) hm

theorem Within.upd_vaultRunning {m : Nat} {s u : State} {v0 : Option VaultReq} (h : Within m s u) (hm : (0x20000000 ||| m) = m) :
    Within m s { u with vaultRunning := v0 } :=
  h.next (Within.lit (fun p hp => by cases p <;> first | rfl | exact Bool.noConfusion (show true = false from hp)) rfl rfl) hm

theorem Within.upd_vaultWaiting {m : Nat} {s u : State} {v0 : List VaultReq} (h : Within m s u) (hm : (0x10000000 ||| m) = m) :
    Within m s { u with vaultWaiting := v0 } :=
  h.next (Within.lit (fun p hp => by cases p <;> first | rfl | exact Bool.noConfusion (show true = false from hp)) rfl rfl) hm

theorem Within.upd_verdicts {m : Nat} {s u : State} {v0 : List Verdict} (h : Within m s u) (hm : (0x20000 ||| m) = m) :
    Within m s { u with verdicts := v0 } :=
  h.next (Within.lit (fun p hp => by cases p <;> first | rfl | exact Bool.noConfusion (show true = false from hp)) rfl rfl) hm

theorem Within.upd_verdicts_records_staging {m : Nat} {s u : State} {v0 : List Verdict} {v1 : List (Nat × Nat)} {v2 : List Staged} (h : Within m s u) (hm : (0xe0000 ||| m) = m) :
    Within m s { u with verdicts := v0, records := v1, staging := v2 } :=
  h.next (Within.lit (fun p hp => by cases p <;> first | rfl | exact Bool.noConfusion (show true = false from hp)) rfl rfl) hm

theorem Within.upd_wickRead {m : Nat} {s u : State} {v0 : Option WickRead} (h : Within m s u) (hm : (0x100000000000 ||| m) = m) :
    Within m s { u with wickRead := v0 } :=
  h.next (Within.lit (fun p hp => by cases p <;> first | rfl | exact Bool.noConfusion (show true = false from hp)) rfl rfl) hm

theorem Within.upd_wire {m : Nat} {s u : State} {v0 : List Wire} (h : Within m s u) (hm : (0x4000 ||| m) = m) :
    Within m s { u with wire := v0 } :=
  h.next (Within.lit (fun p hp => by cases p <;> first | rfl | exact Bool.noConfusion (show true = false from hp)) rfl rfl) hm

theorem Grp.ctorIdx_inj (a b : Grp) (h : a.ctorIdx = b.ctorIdx) : a = b := by
  have ha := Grp.ofNat_ctorIdx a
  have hb := Grp.ofNat_ctorIdx b
  rw [← ha, ← hb, h]

theorem Reg.before_iff (r q : Reg) : r.before q = true ↔ r.grp.ctorIdx < q.grp.ctorIdx ∨ (r.grp = q.grp ∧ (r.inst < q.inst ∨ (r.inst = q.inst ∧
    (r.sub < q.sub ∨ (r.sub = q.sub ∧ (r.row < q.row ∨ (r.row = q.row ∧ r.bank < q.bank))))))) := by
  simp [Reg.before]

theorem Reg.before_trans (a b c : Reg) (h : a.before b = true) (k : b.before c = true) : a.before c = true := by
  rw [Reg.before_iff] at *
  obtain ⟨g, i, x, y, z⟩ := a
  obtain ⟨g2, i2, x2, y2, z2⟩ := b
  obtain ⟨g3, i3, x3, y3, z3⟩ := c
  simp only at *
  rcases h with h | ⟨rfl, h⟩
  · rcases k with k | ⟨rfl, k⟩
    · exact .inl (by omega)
    · exact .inl h
  · rcases k with k | ⟨rfl, k⟩
    · exact .inl k
    · exact .inr ⟨rfl, by omega⟩

theorem Reg.before_total (a b : Reg) (h : a ≠ b) (k : a.before b = false) : b.before a = true := by
  have k' : ¬ a.before b = true := by simp [k]
  rw [Reg.before_iff] at *
  obtain ⟨g, i, x, y, z⟩ := a
  obtain ⟨g2, i2, x2, y2, z2⟩ := b
  simp only at *
  by_cases hg : g = g2
  · subst hg
    simp only [Nat.lt_irrefl, true_and, false_or] at k'
    have h' : ¬ (i = i2 ∧ x = x2 ∧ y = y2 ∧ z = z2) := fun e => h (by obtain ⟨rfl, rfl, rfl, rfl⟩ := e; rfl)
    exact .inr ⟨rfl, by omega⟩
  · have hn : g.ctorIdx ≠ g2.ctorIdx := fun e => hg (Grp.ctorIdx_inj _ _ e)
    exact .inl (by omega)

theorem regsWf_cons (r : Reg) (v : Nat) (t : List (Reg × Nat)) :
    regsWf ((r, v) :: t) = true ↔ v ≠ r.dflt ∧ (∀ e ∈ t, r.before e.1 = true) ∧ regsWf t = true := by
  simp [regsWf, and_assoc]

/-- Taking entries away keeps the form. -/
theorem regsWf_filter (l : List (Reg × Nat)) (p : Reg × Nat → Bool) (h : regsWf l = true) : regsWf (l.filter p) = true := by
  induction l with
  | nil => exact h
  | cons e t ih =>
    obtain ⟨k, w⟩ := e
    rw [regsWf_cons] at h
    by_cases hp : p (k, w) = true
    · rw [List.filter_cons_of_pos hp, regsWf_cons]
      exact ⟨h.1, fun x hx => h.2.1 x (List.mem_filter.mp hx).1, ih h.2.2⟩
    · rw [List.filter_cons_of_neg hp]
      exact ih h.2.2

theorem Assoc.mem_put (l : List (Reg × Nat)) (r : Reg) (v : Nat) (e : Reg × Nat) (h : e ∈ Assoc.put l r v) : e = (r, v) ∨ e ∈ l := by
  induction l with
  | nil => simpa [Assoc.put] using h
  | cons c t ih =>
    obtain ⟨k, w⟩ := c
    simp only [Assoc.put] at h
    split at h
    · rcases List.mem_cons.mp h with h | h
      · exact .inl h
      · exact .inr (List.mem_cons_of_mem _ h)
    · split at h
      · rcases List.mem_cons.mp h with h | h
        · exact .inl h
        · exact .inr h
      · rcases List.mem_cons.mp h with h | h
        · exact .inr (h ▸ List.mem_cons_self)
        · exact (ih h).imp_right (List.mem_cons_of_mem _)

/-- Setting an entry keeps the form. -/
theorem regsWf_put (l : List (Reg × Nat)) (r : Reg) (v : Nat) (hv : v ≠ r.dflt) (h : regsWf l = true) : regsWf (Assoc.put l r v) = true := by
  induction l with
  | nil => simp [Assoc.put, regsWf, hv]
  | cons c t ih =>
    obtain ⟨k, w⟩ := c
    rw [regsWf_cons] at h
    simp only [Assoc.put]
    split
    · next hk => subst hk; rw [regsWf_cons]; exact ⟨hv, h.2.1, h.2.2⟩
    · next hk =>
      split
      · next hb =>
        rw [regsWf_cons]
        refine ⟨hv, fun e he => ?_, by rw [regsWf_cons]; exact h⟩
        rcases List.mem_cons.mp he with he | he
        · subst he; exact hb
        · exact Reg.before_trans r k e.1 hb (h.2.1 e he)
      · next hb =>
        rw [regsWf_cons]
        refine ⟨h.1, fun e he => ?_, ih h.2.2⟩
        rcases Assoc.mem_put t r v e he with he | he
        · subst he; exact Reg.before_total r k (fun e => hk e.symm) (by simpa using hb)
        · exact h.2.1 e he

theorem regsWf_putReg (l : List (Reg × Nat)) (r : Reg) (v : Nat) (h : regsWf l = true) : regsWf (putReg l r v) = true := by
  unfold putReg
  split
  · exact regsWf_filter l _ h
  · next hv => exact regsWf_put l r v hv h

/-- A change of the register file that keeps its form. -/
theorem Within.regs_only {m : Nat} {s u : State} {l : List (Reg × Nat)} (h : Within m s u) (k : regsWf u.regs = true → regsWf l = true)
    (hm : (0x10 ||| m) = m) : Within m s { u with regs := l } :=
  h.next (a := 0x10) ⟨fun p hp => by cases p <;> first | rfl | exact Bool.noConfusion (show true = false from hp), k, id⟩ hm

theorem Within.mem_only {m : Nat} {s u : State} {l : List Host.Cell} (h : Within m s u) (k : Mem.wf u.mem = true → Mem.wf l = true)
    (hm : (0x100000000 ||| m) = m) : Within m s { u with mem := l } :=
  h.next (a := 0x100000000) ⟨fun p hp => by cases p <;> first | rfl | exact Bool.noConfusion (show true = false from hp), id, k⟩ hm

/-- Entries of the register file are taken away. -/
theorem Within.regs_filter {m : Nat} {s u : State} {p : Reg × Nat → Bool} (h : Within m s u) (hm : (0x10 ||| m) = m) :
    Within m s { u with regs := u.regs.filter p } := Within.regs_only h (regsWf_filter _ _) hm

theorem State.set_frame (s : State) (r : Reg) (v : Nat) : Within 0x10 s (s.set r v) :=
  Within.regs_only (Within.refl _ s) (regsWf_putReg _ r v) rfl

theorem State.sets_frame (s : State) (l : List (Reg × Nat)) : Within 0x10 s (State.sets s l) := by
  unfold State.sets
  repeat' (first
    | with_reducible exact Within.refl _ _
    | with_reducible apply Within.next (k := State.set_frame _ _ _)
    | with_reducible apply Within.next_foldl
    | with_reducible apply Within.next_foldl1
    | with_reducible apply Within.next_foldl2
    | with_reducible intro _
    | split
    | dsimp only
    | exact (rfl : (_ : Nat) = _))

theorem State.count_frame (s : State) (r : Reg) (w : Nat) (n : Nat) : Within 0x10 s (State.count s r w n) := by
  unfold State.count
  repeat' (first
    | with_reducible exact Within.refl _ _
    | with_reducible apply Within.next (k := State.set_frame _ _ _)
    | split
    | dsimp only
    | exact (rfl : (_ : Nat) = _))

theorem State.countSat_frame (s : State) (r : Reg) (w : Nat) : Within 0x10 s (State.countSat s r w) := by
  unfold State.countSat
  repeat' (first
    | with_reducible exact Within.refl _ _
    | with_reducible apply Within.next (k := State.set_frame _ _ _)
    | split
    | dsimp only
    | exact (rfl : (_ : Nat) = _))

theorem State.uncount_frame (s : State) (r : Reg) (n : Nat) : Within 0x10 s (State.uncount s r n) := by
  unfold State.uncount
  repeat' (first
    | with_reducible exact Within.refl _ _
    | with_reducible apply Within.next (k := State.set_frame _ _ _)
    | split
    | dsimp only
    | exact (rfl : (_ : Nat) = _))

theorem State.clearRange_frame (s : State) (g : Grp) (i lo hi : Nat) : Within 0x10 s (s.clearRange g i lo hi) :=
  Within.regs_only (Within.refl _ s) (regsWf_filter _ _) rfl

theorem State.pendSet_frame (s : State) (r : Reg) (v : Nat) : Within 0x20 s (State.pendSet s r v) := by
  unfold State.pendSet
  repeat' (first
    | with_reducible exact Within.refl _ _
    | split
    | dsimp only
    | with_reducible apply Within.upd_pend
    | exact (rfl : (_ : Nat) = _))

theorem State.setBlob_frame (s : State) (r : Reg) (b : List Byte) : Within 0x40 s (State.setBlob s r b) := by
  unfold State.setBlob
  repeat' (first
    | with_reducible exact Within.refl _ _
    | split
    | dsimp only
    | with_reducible apply Within.upd_blobs
    | exact (rfl : (_ : Nat) = _))

theorem State.clearBlob_frame (s : State) (r : Reg) : Within 0x40 s (State.clearBlob s r) := by
  unfold State.clearBlob
  repeat' (first
    | with_reducible exact Within.refl _ _
    | split
    | dsimp only
    | with_reducible apply Within.upd_blobs
    | exact (rfl : (_ : Nat) = _))

theorem State.draw_frame (s : State) (w : Nat) : Within 0x800 s (State.draw s w).2 := by
  unfold State.draw
  repeat' (first
    | with_reducible exact Within.refl _ _
    | split
    | dsimp only
    | with_reducible apply Within.upd_drawn
    | exact (rfl : (_ : Nat) = _))

theorem State.refuse_frame (s : State) (c : Ctx) (abort : Nat) : Within 0x410 s (State.refuse s c abort) := by
  unfold State.refuse
  repeat' (first
    | with_reducible exact Within.refl _ _
    | with_reducible apply Within.next (k := State.set_frame _ _ _)
    | split
    | dsimp only
    | with_reducible apply Within.upd_resp
    | exact (rfl : (_ : Nat) = _))

theorem State.done_frame (s : State) (c : Ctx) : Within 0x400 s (State.done s c) := by
  unfold State.done
  repeat' (first
    | with_reducible exact Within.refl _ _
    | split
    | dsimp only
    | with_reducible apply Within.upd_resp
    | exact (rfl : (_ : Nat) = _))

theorem State.reply_frame (s : State) (c : Ctx) (v : Nat) (bytes : List Byte) : Within 0x400 s (State.reply s c v bytes) := by
  unfold State.reply
  repeat' (first
    | with_reducible exact Within.refl _ _
    | split
    | dsimp only
    | with_reducible apply Within.upd_resp
    | exact (rfl : (_ : Nat) = _))

theorem State.changed_frame (s : State) : Within 0x10 s (State.changed s) := by
  unfold State.changed
  repeat' (first
    | with_reducible exact Within.refl _ _
    | with_reducible apply Within.next (k := State.countSat_frame _ _ _)
    | split
    | dsimp only
    | exact (rfl : (_ : Nat) = _))

theorem State.access_next {m : Nat} {s u : State} {c : Ctx} {present wick : Bool} {checks : List (Option Nat)} {act : State → State}
    {kind : Option Nat} (h : Within m s u) (k : ∀ v, Within m v (act v)) (hm : (0x410 ||| m) = m) :
    Within m s (u.access c present wick checks act kind) := by
  unfold State.access
  split
  · split
    · exact h.next (State.refuse_frame _ _ _) hm
    · split
      · exact h.next (State.refuse_frame _ _ _) hm
      · exact h.trans (k _)
  · exact h

theorem State.cmdWrite_next {m : Nat} {s u : State} {c : Ctx} {idx sub : Nat} {present wick : Bool} {checks : List (Option Nat)}
    {act : State → State} {kind : Option Nat} (h : Within m s u) (k : ∀ v, Within m v (act v)) (hm : (0x410 ||| m) = m) :
    Within m s (u.cmdWrite c idx sub present wick checks act kind) :=
  State.access_next h (fun v => (k v).next (State.done_frame _ _) (or_sub hm rfl)) hm

theorem State.rwWrite_next {m : Nat} {s u : State} {c : Ctx} {idx sub : Nat} {present wick : Bool} {checks : List (Option Nat)}
    {act : State → State} {kind : Option Nat} (h : Within m s u) (k : ∀ v, Within m v (act v)) (hm : (0x410 ||| m) = m) :
    Within m s (u.rwWrite c idx sub present wick checks act kind) :=
  State.access_next h (fun v => ((k v).next (State.changed_frame _) (or_sub hm rfl)).next
    (State.done_frame _ _) (or_sub hm rfl)) hm

theorem State.takeLate_frame (s : State) (o : Owner) (sameCycle : Bool) : Within 0x10 s (State.takeLate s o sameCycle) := by
  unfold State.takeLate
  repeat' (first
    | with_reducible exact Within.refl _ _
    | with_reducible apply Within.next (k := State.set_frame _ _ _)
    | split
    | dsimp only
    | exact (rfl : (_ : Nat) = _))

theorem State.abandonSave_frame (s : State) : Within 0x20000000000010 s (State.abandonSave s) := by
  unfold State.abandonSave
  repeat' (first
    | with_reducible exact Within.refl _ _
    | with_reducible apply Within.next (k := State.sets_frame _ _)
    | split
    | dsimp only
    | with_reducible apply Within.upd_saving
    | exact (rfl : (_ : Nat) = _))

theorem State.handedOver_frame (s : State) (o : Owner) : Within 0x20000000000010 s (State.handedOver s o) := by
  unfold State.handedOver
  repeat' (first
    | with_reducible exact Within.refl _ _
    | with_reducible apply Within.next (k := State.sets_frame _ _)
    | with_reducible apply Within.next (k := State.count_frame _ _ _ _)
    | with_reducible apply Within.next (k := State.changed_frame _)
    | with_reducible apply Within.next (k := State.abandonSave_frame _)
    | split
    | dsimp only
    | exact (rfl : (_ : Nat) = _))

theorem State.ecntPulse_frame (s : State) (i : Nat) : Within 0x10 s (State.ecntPulse s i) := by
  unfold State.ecntPulse
  repeat' (first
    | with_reducible exact Within.refl _ _
    | with_reducible apply Within.next (k := State.count_frame _ _ _ _)
    | split
    | dsimp only
    | exact (rfl : (_ : Nat) = _))

theorem State.irqPulse_frame (s : State) (src : Nat) : Within 0x10 s (State.irqPulse s src) := by
  unfold State.irqPulse
  repeat' (first
    | with_reducible exact Within.refl _ _
    | with_reducible apply Within.next (k := State.set_frame _ _ _)
    | with_reducible apply Within.next (k := State.countSat_frame _ _ _)
    | split
    | dsimp only
    | exact (rfl : (_ : Nat) = _))

theorem State.consume_frame (s : State) (r : Reg) : Within 0x110 s (State.consume s r) := by
  unfold State.consume
  repeat' (first
    | with_reducible exact Within.refl _ _
    | with_reducible apply Within.next (k := State.set_frame _ _ _)
    | with_reducible apply Within.next (k := State.ecntPulse_frame _ _)
    | with_reducible apply Within.next (k := State.irqPulse_frame _ _)
    | split
    | dsimp only
    | with_reducible apply Within.upd_pulses
    | exact (rfl : (_ : Nat) = _))

theorem State.deliver_frame (s : State) (line : Nat) (wick : Bool) : Within 0x110 s (State.deliver s line wick) := by
  unfold State.deliver
  repeat' (first
    | with_reducible exact Within.refl _ _
    | with_reducible apply Within.next (k := State.consume_frame _ _)
    | with_reducible apply Within.next_foldl
    | with_reducible apply Within.next_foldl1
    | with_reducible apply Within.next_foldl2
    | with_reducible intro _
    | split
    | dsimp only
    | exact (rfl : (_ : Nat) = _))

theorem State.sendSideband_frame (s : State) (toWick : Bool) (input : Nat) (line : Nat) : Within 0x110 s (State.sendSideband s toWick input line) := by
  unfold State.sendSideband
  repeat' (first
    | with_reducible exact Within.refl _ _
    | with_reducible apply Within.next (k := State.set_frame _ _ _)
    | with_reducible apply Within.next (k := State.count_frame _ _ _ _)
    | split
    | dsimp only
    | with_reducible apply Within.upd_pulses
    | exact (rfl : (_ : Nat) = _))

theorem State.pulseLine_frame (s : State) (line : Nat) (wick : Bool) : Within 0x110 s (State.pulseLine s line wick) := by
  unfold State.pulseLine
  repeat' (first
    | with_reducible exact Within.refl _ _
    | with_reducible apply Within.next (k := State.deliver_frame _ _ _)
    | with_reducible apply Within.next (k := State.sendSideband_frame _ _ _ _)
    | split
    | dsimp only
    | exact (rfl : (_ : Nat) = _))

theorem State.pulse_frame (s : State) (unit : Nat) (inst : Nat) : Within 0x110 s (State.pulse s unit inst) := by
  unfold State.pulse
  repeat' (first
    | with_reducible exact Within.refl _ _
    | with_reducible apply Within.next (k := State.pulseLine_frame _ _ _)
    | split
    | dsimp only
    | exact (rfl : (_ : Nat) = _))

theorem State.reportLost_frame (s : State) (cls : Nat) : Within 0x10 s (State.reportLost s cls) := by
  unfold State.reportLost
  repeat' (first
    | with_reducible exact Within.refl _ _
    | with_reducible apply Within.next (k := State.set_frame _ _ _)
    | with_reducible apply Within.next (k := State.countSat_frame _ _ _)
    | split
    | dsimp only
    | exact (rfl : (_ : Nat) = _))

theorem State.report_frame (s : State) (r : Report) : Within 0x210 s (State.report s r) := by
  unfold State.report
  repeat' (first
    | with_reducible exact Within.refl _ _
    | with_reducible apply Within.next (k := State.set_frame _ _ _)
    | with_reducible apply Within.next (k := State.reportLost_frame _ _)
    | split
    | dsimp only
    | with_reducible apply Within.upd_reports
    | exact (rfl : (_ : Nat) = _))

theorem State.reportObj_frame (s : State) (cls : Nat) (unit : Nat) (idx : Nat) (sub : Nat) (inst : Nat) (detail : List Byte) : Within 0x210 s (State.reportObj s cls unit idx sub inst detail) := by
  unfold State.reportObj
  repeat' (first
    | with_reducible exact Within.refl _ _
    | with_reducible apply Within.next (k := State.report_frame _ _)
    | split
    | dsimp only
    | exact (rfl : (_ : Nat) = _))

theorem State.settleClass_frame (s : State) (n : Nat) (c : Nat) (t : Nat) : Within 0x10 s (State.settleClass s n c t) := by
  unfold State.settleClass
  repeat' (first
    | with_reducible exact Within.refl _ _
    | with_reducible apply Within.next (k := State.sets_frame _ _)
    | split
    | dsimp only
    | exact (rfl : (_ : Nat) = _))

theorem State.settleTo_frame (s : State) (n : Nat) (t : Nat) : Within 0x10 s (State.settleTo s n t) := by
  unfold State.settleTo
  repeat' (first
    | with_reducible exact Within.refl _ _
    | with_reducible apply Within.next (k := State.set_frame _ _ _)
    | with_reducible apply Within.next (k := State.settleClass_frame _ _ _ _)
    | with_reducible apply Within.next_foldl
    | with_reducible apply Within.next_foldl1
    | with_reducible apply Within.next_foldl2
    | with_reducible intro _
    | split
    | dsimp only
    | exact (rfl : (_ : Nat) = _))

theorem State.settle_frame (s : State) (n : Nat) : Within 0x10 s (State.settle s n) := by
  unfold State.settle
  repeat' (first
    | with_reducible exact Within.refl _ _
    | with_reducible apply Within.next (k := State.settleTo_frame _ _ _)
    | split
    | dsimp only
    | exact (rfl : (_ : Nat) = _))

theorem State.updFrame_frame (s : State) (id : Nat) (g : Frame → Frame) : Within 0x1000 s (State.updFrame s id g) := by
  unfold State.updFrame
  repeat' (first
    | with_reducible exact Within.refl _ _
    | split
    | dsimp only
    | with_reducible apply Within.upd_frames
    | exact (rfl : (_ : Nat) = _))

theorem State.takeCells_frame (s : State) (n : Nat) : Within 0x10 s (State.takeCells s n) := by
  unfold State.takeCells
  repeat' (first
    | with_reducible exact Within.refl _ _
    | with_reducible apply Within.next (k := State.set_frame _ _ _)
    | split
    | dsimp only
    | exact (rfl : (_ : Nat) = _))

theorem State.freeFrame_frame (s : State) (id : Nat) : Within 0x1010 s (State.freeFrame s id) := by
  unfold State.freeFrame
  repeat' (first
    | with_reducible exact Within.refl _ _
    | with_reducible apply Within.next (k := State.set_frame _ _ _)
    | split
    | dsimp only
    | with_reducible apply Within.upd_frames
    | exact (rfl : (_ : Nat) = _))

theorem State.pickCells_frame (s : State) (used : List Nat) (k : Nat) : Within 0x800 s (s.pickCells used k).2 := by
  induction k with
  | zero => exact Within.refl _ _
  | succ k ih => exact ih.next (State.draw_frame _ 18) rfl

theorem State.storeFrame_frame (s : State) (f : Frame) : Within 0x1810 s (State.storeFrame s f).1 := by
  unfold State.storeFrame
  repeat' (first
    | with_reducible exact Within.refl _ _
    | with_reducible apply Within.next (k := State.set_frame _ _ _)
    | with_reducible apply Within.next (k := State.takeCells_frame _ _)
    | with_reducible apply Within.next (k := State.pickCells_frame _ _ _)
    | split
    | dsimp only
    | with_reducible apply Within.upd_frames
    | exact (rfl : (_ : Nat) = _))

theorem State.unref_frame (s : State) (id : Nat) : Within 0x1010 s (State.unref s id) := by
  unfold State.unref
  repeat' (first
    | with_reducible exact Within.refl _ _
    | with_reducible apply Within.next (k := State.updFrame_frame _ _ _)
    | with_reducible apply Within.next (k := State.freeFrame_frame _ _)
    | split
    | dsimp only
    | exact (rfl : (_ : Nat) = _))

theorem State.gapAt_frame (s : State) (e : Entry) (ctr : Nat → Reg) : Within 0x8010 s (State.gapAt s e ctr) := by
  unfold State.gapAt
  repeat' (first
    | with_reducible exact Within.refl _ _
    | with_reducible apply Within.next (k := State.count_frame _ _ _ _)
    | split
    | dsimp only
    | with_reducible apply Within.upd_prep
    | exact (rfl : (_ : Nat) = _))

theorem State.dropEntry_frame (s : State) (e : Entry) (gap : Nat → Reg) : Within 0xb010 s (State.dropEntry s e gap) := by
  unfold State.dropEntry
  repeat' (first
    | with_reducible exact Within.refl _ _
    | with_reducible apply Within.next (k := State.settle_frame _ _)
    | with_reducible apply Within.next (k := State.unref_frame _ _)
    | with_reducible apply Within.next (k := State.gapAt_frame _ _ _)
    | split
    | dsimp only
    | with_reducible apply Within.upd_entries
    | exact (rfl : (_ : Nat) = _))

theorem State.dropFrame_frame (s : State) (id : Nat) (gap : Nat → Reg) : Within 0x10cb010 s (State.dropFrame s id gap) := by
  unfold State.dropFrame
  repeat' (first
    | with_reducible exact Within.refl _ _
    | with_reducible apply Within.next (k := State.settle_frame _ _)
    | with_reducible apply Within.next (k := State.freeFrame_frame _ _)
    | with_reducible apply Within.next (k := State.gapAt_frame _ _ _)
    | with_reducible apply Within.next_foldl
    | with_reducible apply Within.next_foldl1
    | with_reducible apply Within.next_foldl2
    | with_reducible intro _
    | split
    | dsimp only
    | with_reducible apply Within.upd_entries_records_staging_slow
    | exact (rfl : (_ : Nat) = _))

theorem State.enqueue_frame (s : State) (id : Nat) (port : Nat) (queue : Nat) (plain : Bool) : Within 0x3810 s (State.enqueue s id port queue plain) := by
  unfold State.enqueue
  repeat' (first
    | with_reducible exact Within.refl _ _
    | with_reducible apply Within.next (k := State.count_frame _ _ _ _)
    | with_reducible apply Within.next (k := State.draw_frame _ _)
    | with_reducible apply Within.next (k := State.settle_frame _ _)
    | with_reducible apply Within.next (k := State.updFrame_frame _ _ _)
    | split
    | dsimp only
    | with_reducible apply Within.upd_entries
    | exact (rfl : (_ : Nat) = _))

theorem State.makeRoom_frame (s : State) (id rank port : Nat) (a : Admission) :
    Within 0xb010 s (s.makeRoom id rank port a).2 := by
  unfold State.makeRoom
  repeat' (first
    | with_reducible exact Within.refl _ _
    | with_reducible apply Within.next (k := State.count_frame _ _ _ _)
    | with_reducible apply Within.next (k := State.dropEntry_frame _ _ _)
    | split
    | dsimp only
    | exact (rfl : (_ : Nat) = _))

theorem State.linkCopy_frame (s : State) (id : Nat) (t : Nat × Nat × Bool) : Within 0x3810 s (State.linkCopy s id t) := by
  unfold State.linkCopy
  repeat' (first
    | with_reducible exact Within.refl _ _
    | with_reducible apply Within.next (k := State.count_frame _ _ _ _)
    | with_reducible apply Within.next (k := State.enqueue_frame _ _ _ _ _)
    | split
    | dsimp only
    | exact (rfl : (_ : Nat) = _))

theorem State.admitCopies_frame (s : State) (id : Nat) (cells : Nat) (rank : Nat) (ts : List (Nat × Nat × Bool)) : Within 0xb810 s (State.admitCopies s id cells rank ts) := by
  unfold State.admitCopies
  repeat' (first
    | with_reducible exact Within.refl _ _
    | with_reducible apply Within.next (k := State.makeRoom_frame _ _ _ _ _)
    | with_reducible apply Within.next (k := State.linkCopy_frame _ _ _)
    | with_reducible apply Within.next_foldl
    | with_reducible apply Within.next_foldl1
    | with_reducible apply Within.next_foldl2
    | with_reducible intro _
    | split
    | dsimp only
    | exact (rfl : (_ : Nat) = _))

theorem State.moveIn_frame (s : State) (f : Frame) (p : Nat) : Within 0x10cb010 s (State.moveIn s f p) := by
  unfold State.moveIn
  repeat' (first
    | with_reducible exact Within.refl _ _
    | with_reducible apply Within.next (k := State.count_frame _ _ _ _)
    | with_reducible apply Within.next (k := State.updFrame_frame _ _ _)
    | with_reducible apply Within.next (k := State.dropFrame_frame _ _ _)
    | split
    | dsimp only
    | exact (rfl : (_ : Nat) = _))

theorem State.admitAll_frame (s : State) (id : Nat) (targets : List (Nat × Nat × Bool)) : Within 0x10cb810 s (State.admitAll s id targets) := by
  unfold State.admitAll
  repeat' (first
    | with_reducible exact Within.refl _ _
    | with_reducible apply Within.next (k := State.count_frame _ _ _ _)
    | with_reducible apply Within.next (k := State.updFrame_frame _ _ _)
    | with_reducible apply Within.next (k := State.freeFrame_frame _ _)
    | with_reducible apply Within.next (k := State.admitCopies_frame _ _ _ _ _)
    | with_reducible apply Within.next (k := State.moveIn_frame _ _ _)
    | with_reducible apply Within.next_foldl
    | with_reducible apply Within.next_foldl1
    | with_reducible apply Within.next_foldl2
    | with_reducible intro _
    | split
    | dsimp only
    | exact (rfl : (_ : Nat) = _))

theorem State.numberRtag_frame (s : State) (id : Nat) : Within 0x1010 s (State.numberRtag s id) := by
  unfold State.numberRtag
  repeat' (first
    | with_reducible exact Within.refl _ _
    | with_reducible apply Within.next (k := State.set_frame _ _ _)
    | with_reducible apply Within.next (k := State.updFrame_frame _ _ _)
    | split
    | dsimp only
    | exact (rfl : (_ : Nat) = _))

theorem execBufReclaim_frame (ctx : Ctx) (value : Nat) (s : State) : OWithin 0x410 s (execBufReclaim ctx value s) := by
  unfold execBufReclaim
  repeat' (first
    | with_reducible exact Within.refl _ _
    | with_reducible apply Within.next (k := State.sets_frame _ _)
    | with_reducible apply State.cmdWrite_next
    | with_reducible apply OWithin.next
    | with_reducible intro _
    | split
    | dsimp only
    | exact (rfl : (_ : Nat) = _))

theorem execReclaimDone_frame (s : State) : OWithin 0x100010 s (execReclaimDone s) := by
  unfold execReclaimDone
  repeat' (first
    | with_reducible exact Within.refl _ _
    | with_reducible apply Within.next (k := State.sets_frame _ _)
    | with_reducible apply OWithin.next
    | split
    | dsimp only
    | with_reducible apply Within.upd_lostCells
    | exact (rfl : (_ : Nat) = _))

theorem State.startFlush_frame (s : State) (port : Nat) (queues : List Nat) : Within 0x800000 s (State.startFlush s port queues) := by
  unfold State.startFlush
  repeat' (first
    | with_reducible exact Within.refl _ _
    | split
    | dsimp only
    | with_reducible apply Within.upd_flushes
    | exact (rfl : (_ : Nat) = _))

theorem execQFlush_frame (ctx : Ctx) (port : Nat) (value : Nat) (s : State) : OWithin 0x800410 s (execQFlush ctx port value s) := by
  unfold execQFlush
  repeat' (first
    | with_reducible exact Within.refl _ _
    | with_reducible apply Within.next (k := State.set_frame _ _ _)
    | with_reducible apply State.cmdWrite_next
    | with_reducible apply Within.next (k := State.startFlush_frame _ _ _)
    | with_reducible apply OWithin.next
    | with_reducible intro _
    | split
    | dsimp only
    | exact (rfl : (_ : Nat) = _))

theorem State.flushWalk_frame (s : State) (w : FlushWalk) : Within 0xb010 s (State.flushWalk s w) := by
  unfold State.flushWalk
  repeat' (first
    | with_reducible exact Within.refl _ _
    | with_reducible apply Within.next (k := State.count_frame _ _ _ _)
    | with_reducible apply Within.next (k := State.dropEntry_frame _ _ _)
    | with_reducible apply Within.next_foldl
    | with_reducible apply Within.next_foldl1
    | with_reducible apply Within.next_foldl2
    | with_reducible intro _
    | split
    | dsimp only
    | exact (rfl : (_ : Nat) = _))

theorem State.endFlush_frame (s : State) (port : Nat) : Within 0x80b010 s (State.endFlush s port) := by
  unfold State.endFlush
  repeat' (first
    | with_reducible exact Within.refl _ _
    | with_reducible apply Within.next (k := State.flushWalk_frame _ _)
    | with_reducible apply Within.next_foldl
    | with_reducible apply Within.next_foldl1
    | with_reducible apply Within.next_foldl2
    | with_reducible intro _
    | split
    | dsimp only
    | with_reducible apply Within.upd_flushes
    | exact (rfl : (_ : Nat) = _))

theorem execFlushDone_frame (port : Nat) (s : State) : OWithin 0x80b010 s (execFlushDone port s) := by
  unfold execFlushDone
  repeat' (first
    | with_reducible exact Within.refl _ _
    | with_reducible apply Within.next (k := State.set_frame _ _ _)
    | with_reducible apply Within.next (k := State.startFlush_frame _ _ _)
    | with_reducible apply Within.next (k := State.endFlush_frame _ _)
    | with_reducible apply OWithin.next
    | split
    | dsimp only
    | exact (rfl : (_ : Nat) = _))

theorem State.fdbClear_frame (s : State) (row : Nat) : Within 0x10 s (State.fdbClear s row) := by
  unfold State.fdbClear
  repeat' (first
    | with_reducible exact Within.refl _ _
    | with_reducible apply Within.next (k := State.sets_frame _ _)
    | split
    | dsimp only
    | exact (rfl : (_ : Nat) = _))

theorem execFdbForget_frame (ctx : Ctx) (value : Nat) (s : State) : OWithin 0x410 s (execFdbForget ctx value s) := by
  unfold execFdbForget
  repeat' (first
    | with_reducible exact Within.refl _ _
    | with_reducible apply State.cmdWrite_next
    | with_reducible apply Within.next (k := State.fdbClear_frame _ _)
    | with_reducible apply Within.next_foldl
    | with_reducible apply Within.next_foldl1
    | with_reducible apply Within.next_foldl2
    | with_reducible apply OWithin.next
    | with_reducible intro _
    | split
    | dsimp only
    | exact (rfl : (_ : Nat) = _))

theorem execQcntClear_frame (ctx : Ctx) (port : Nat) (value : Nat) (s : State) : OWithin 0x410 s (execQcntClear ctx port value s) := by
  unfold execQcntClear
  repeat' (first
    | with_reducible exact Within.refl _ _
    | with_reducible apply Within.next (k := State.clearRange_frame _ _ _ _ _)
    | with_reducible apply State.cmdWrite_next
    | with_reducible apply OWithin.next
    | with_reducible intro _
    | split
    | dsimp only
    | exact (rfl : (_ : Nat) = _))

theorem State.setFloor_frame (s : State) (v : Nat) : Within 0x110 s (State.setFloor s v) := by
  unfold State.setFloor
  repeat' (first
    | with_reducible exact Within.refl _ _
    | with_reducible apply Within.next (k := State.set_frame _ _ _)
    | with_reducible apply Within.next (k := State.pulse_frame _ _ _)
    | split
    | dsimp only
    | exact (rfl : (_ : Nat) = _))

theorem execRankFloorRaise_frame (s : State) : OWithin 0x110 s (execRankFloorRaise s) := by
  unfold execRankFloorRaise
  repeat' (first
    | with_reducible exact Within.refl _ _
    | with_reducible apply Within.next (k := State.set_frame _ _ _)
    | with_reducible apply Within.next (k := State.count_frame _ _ _ _)
    | with_reducible apply Within.next (k := State.setFloor_frame _ _)
    | with_reducible apply OWithin.next
    | split
    | dsimp only
    | exact (rfl : (_ : Nat) = _))

theorem execRankFloorLower_frame (s : State) : OWithin 0x110 s (execRankFloorLower s) := by
  unfold execRankFloorLower
  repeat' (first
    | with_reducible exact Within.refl _ _
    | with_reducible apply Within.next (k := State.set_frame _ _ _)
    | with_reducible apply Within.next (k := State.setFloor_frame _ _)
    | with_reducible apply OWithin.next
    | split
    | dsimp only
    | exact (rfl : (_ : Nat) = _))

theorem execStagingTimeout_frame (port : Nat) (s : State) : OWithin 0x10cb010 s (execStagingTimeout port s) := by
  unfold execStagingTimeout
  repeat' (first
    | with_reducible exact Within.refl _ _
    | with_reducible apply Within.next (k := State.count_frame _ _ _ _)
    | with_reducible apply Within.next (k := State.dropFrame_frame _ _ _)
    | with_reducible apply OWithin.next
    | split
    | dsimp only
    | exact (rfl : (_ : Nat) = _))

theorem State.writeCells_frame (s : State) (k : Nat) : Within 0x10 s (s.writeCells k) := by
  induction k generalizing s with
  | zero => exact Within.refl _ _
  | succ k ih =>
    unfold State.writeCells
    split
    · exact ((Within.refl _ _).next (State.sets_frame _ _) rfl).trans (ih _)
    · exact Within.refl _ _

theorem State.drainFifos_frame (s : State) : Within 0x10 s (State.drainFifos s) := by
  unfold State.drainFifos
  repeat' (first
    | with_reducible exact Within.refl _ _
    | with_reducible apply Within.next (k := State.set_frame _ _ _)
    | with_reducible apply Within.next (k := State.writeCells_frame _ _)
    | split
    | dsimp only
    | exact (rfl : (_ : Nat) = _))

theorem State.saEvent_frame (s : State) (kind : Nat) (slot : Nat) : Within 0x2000110 s (State.saEvent s kind slot) := by
  unfold State.saEvent
  repeat' (first
    | with_reducible exact Within.refl _ _
    | with_reducible apply Within.next (k := State.count_frame _ _ _ _)
    | with_reducible apply Within.next (k := State.pulse_frame _ _ _)
    | split
    | dsimp only
    | with_reducible apply Within.upd_saEvents
    | exact (rfl : (_ : Nat) = _))

theorem State.retireSlot_frame (s : State) (row : Nat) : Within 0x2010110 s (State.retireSlot s row) := by
  unfold State.retireSlot
  repeat' (first
    | with_reducible exact Within.refl _ _
    | with_reducible apply Within.next (k := State.sets_frame _ _)
    | with_reducible apply Within.next (k := State.saEvent_frame _ _ _)
    | split
    | dsimp only
    | with_reducible apply Within.upd_spec
    | exact (rfl : (_ : Nat) = _))

theorem State.slotActive_frame (s : State) (row : Nat) : Within 0x10 s (State.slotActive s row) := by
  unfold State.slotActive
  repeat' (first
    | with_reducible exact Within.refl _ _
    | with_reducible apply Within.next (k := State.sets_frame _ _)
    | split
    | dsimp only
    | exact (rfl : (_ : Nat) = _))

theorem State.prepGap_frame (s : State) (p : Prep) (ctr : Nat → Reg) : Within 0xa010 s (State.prepGap s p ctr) := by
  unfold State.prepGap
  repeat' (first
    | with_reducible exact Within.refl _ _
    | with_reducible apply Within.next (k := State.count_frame _ _ _ _)
    | split
    | dsimp only
    | with_reducible apply Within.upd_entries_prep
    | exact (rfl : (_ : Nat) = _))

theorem State.prepHandover_frame (s : State) (c : Nat) (row : Nat) : Within 0xa010 s (State.prepHandover s c row) := by
  unfold State.prepHandover
  repeat' (first
    | with_reducible exact Within.refl _ _
    | with_reducible apply Within.next (k := State.prepGap_frame _ _ _)
    | with_reducible apply Within.next_foldl
    | with_reducible apply Within.next_foldl1
    | with_reducible apply Within.next_foldl2
    | with_reducible intro _
    | split
    | dsimp only
    | exact (rfl : (_ : Nat) = _))

theorem State.makeCurrent_frame (s : State) (row : Nat) : Within 0x201a110 s (State.makeCurrent s row) := by
  unfold State.makeCurrent
  repeat' (first
    | with_reducible exact Within.refl _ _
    | with_reducible apply Within.next (k := State.set_frame _ _ _)
    | with_reducible apply Within.next (k := State.sets_frame _ _)
    | with_reducible apply Within.next (k := State.retireSlot_frame _ _)
    | with_reducible apply Within.next (k := State.slotActive_frame _ _)
    | with_reducible apply Within.next (k := State.prepHandover_frame _ _ _)
    | split
    | dsimp only
    | exact (rfl : (_ : Nat) = _))

theorem State.endWire_frame (s : State) (w : Wire) : Within 0x2017110 s (State.endWire s w) := by
  unfold State.endWire
  repeat' (first
    | with_reducible exact Within.refl _ _
    | with_reducible apply Within.next (k := State.set_frame _ _ _)
    | with_reducible apply Within.next (k := State.settle_frame _ _)
    | with_reducible apply Within.next (k := State.unref_frame _ _)
    | with_reducible apply Within.next (k := State.retireSlot_frame _ _)
    | split
    | dsimp only
    | with_reducible apply Within.upd_entries_wire
    | exact (rfl : (_ : Nat) = _))

theorem State.cutWire_frame (s : State) (port : Nat) : Within 0x2017110 s (State.cutWire s port) := by
  unfold State.cutWire
  repeat' (first
    | with_reducible exact Within.refl _ _
    | with_reducible apply Within.next (k := State.count_frame _ _ _ _)
    | with_reducible apply Within.next (k := State.endWire_frame _ _)
    | with_reducible apply Within.next_foldl
    | with_reducible apply Within.next_foldl1
    | with_reducible apply Within.next_foldl2
    | with_reducible intro _
    | split
    | dsimp only
    | exact (rfl : (_ : Nat) = _))

theorem State.latch_frame (s : State) (l : List Reg) : Within 0x10 s (State.latch s l) := by
  unfold State.latch
  repeat' (first
    | with_reducible exact Within.refl _ _
    | with_reducible apply Within.next (k := State.set_frame _ _ _)
    | with_reducible apply Within.next_foldl
    | with_reducible apply Within.next_foldl1
    | with_reducible apply Within.next_foldl2
    | with_reducible intro _
    | split
    | dsimp only
    | exact (rfl : (_ : Nat) = _))

theorem State.linkComesUp_frame (s : State) (n : Nat) (speed : Nat) (warm : Bool) : Within 0x110 s (State.linkComesUp s n speed warm) := by
  unfold State.linkComesUp
  repeat' (first
    | with_reducible exact Within.refl _ _
    | with_reducible apply Within.next (k := State.set_frame _ _ _)
    | with_reducible apply Within.next (k := State.sets_frame _ _)
    | with_reducible apply Within.next (k := State.count_frame _ _ _ _)
    | with_reducible apply Within.next (k := State.pulse_frame _ _ _)
    | split
    | dsimp only
    | exact (rfl : (_ : Nat) = _))

theorem State.linkGoesDown_frame (s : State) (n : Nat) : Within 0x2017110 s (State.linkGoesDown s n) := by
  unfold State.linkGoesDown
  repeat' (first
    | with_reducible exact Within.refl _ _
    | with_reducible apply Within.next (k := State.set_frame _ _ _)
    | with_reducible apply Within.next (k := State.sets_frame _ _)
    | with_reducible apply Within.next (k := State.count_frame _ _ _ _)
    | with_reducible apply Within.next (k := State.pulse_frame _ _ _)
    | with_reducible apply Within.next (k := State.cutWire_frame _ _)
    | split
    | dsimp only
    | exact (rfl : (_ : Nat) = _))

theorem State.powerLanes_frame (s : State) (n : Nat) (on : Bool) : Within 0x10 s (State.powerLanes s n on) := by
  unfold State.powerLanes
  repeat' (first
    | with_reducible exact Within.refl _ _
    | with_reducible apply Within.next (k := State.sets_frame _ _)
    | split
    | dsimp only
    | exact (rfl : (_ : Nat) = _))

theorem State.senseTemp_frame (s : State) : Within 0x810 s (State.senseTemp s) := by
  unfold State.senseTemp
  repeat' (first
    | with_reducible exact Within.refl _ _
    | with_reducible apply Within.next (k := State.sets_frame _ _)
    | with_reducible apply Within.next (k := State.draw_frame _ _)
    | split
    | dsimp only
    | exact (rfl : (_ : Nat) = _))

theorem State.trainFully_frame (s : State) (n : Nat) : Within 0x10 s (State.trainFully s n) := by
  unfold State.trainFully
  repeat' (first
    | with_reducible exact Within.refl _ _
    | with_reducible apply Within.next (k := State.sets_frame _ _)
    | with_reducible apply Within.next (k := State.count_frame _ _ _ _)
    | split
    | dsimp only
    | exact (rfl : (_ : Nat) = _))

theorem State.linkStart_frame (s : State) (n : Nat) : Within 0x910 s (State.linkStart s n) := by
  unfold State.linkStart
  repeat' (first
    | with_reducible exact Within.refl _ _
    | with_reducible apply Within.next (k := State.sets_frame _ _)
    | with_reducible apply Within.next (k := State.latch_frame _ _)
    | with_reducible apply Within.next (k := State.linkComesUp_frame _ _ _ _)
    | with_reducible apply Within.next (k := State.powerLanes_frame _ _ _)
    | with_reducible apply Within.next (k := State.senseTemp_frame _)
    | with_reducible apply Within.next (k := State.trainFully_frame _ _)
    | split
    | dsimp only
    | exact (rfl : (_ : Nat) = _))

theorem execPortEnable_frame (ctx : Ctx) (n : Nat) (s : State) : OWithin 0xd10 s (execPortEnable ctx n s) := by
  unfold execPortEnable
  repeat' (first
    | with_reducible exact Within.refl _ _
    | with_reducible apply Within.next (k := State.set_frame _ _ _)
    | with_reducible apply State.rwWrite_next
    | with_reducible apply Within.next (k := State.linkStart_frame _ _)
    | with_reducible apply OWithin.next
    | with_reducible intro _
    | split
    | dsimp only
    | exact (rfl : (_ : Nat) = _))

theorem execPortDisable_frame (ctx : Ctx) (n : Nat) (s : State) : OWithin 0x2017510 s (execPortDisable ctx n s) := by
  unfold execPortDisable
  repeat' (first
    | with_reducible exact Within.refl _ _
    | with_reducible apply Within.next (k := State.set_frame _ _ _)
    | with_reducible apply State.rwWrite_next
    | with_reducible apply Within.next (k := State.linkGoesDown_frame _ _)
    | with_reducible apply OWithin.next
    | with_reducible intro _
    | split
    | dsimp only
    | exact (rfl : (_ : Nat) = _))

theorem execPortRestart_frame (ctx : Ctx) (n : Nat) (s : State) : OWithin 0x2017d10 s (execPortRestart ctx n s) := by
  unfold execPortRestart
  repeat' (first
    | with_reducible exact Within.refl _ _
    | with_reducible apply State.cmdWrite_next
    | with_reducible apply Within.next (k := State.linkGoesDown_frame _ _)
    | with_reducible apply Within.next (k := State.linkStart_frame _ _)
    | with_reducible apply OWithin.next
    | with_reducible intro _
    | split
    | dsimp only
    | exact (rfl : (_ : Nat) = _))

theorem execPortRestartFull_frame (ctx : Ctx) (n : Nat) (s : State) : OWithin 0x2017d10 s (execPortRestartFull ctx n s) := by
  unfold execPortRestartFull
  repeat' (first
    | with_reducible exact Within.refl _ _
    | with_reducible apply Within.next (k := State.set_frame _ _ _)
    | with_reducible apply State.cmdWrite_next
    | with_reducible apply Within.next (k := State.linkGoesDown_frame _ _)
    | with_reducible apply Within.next (k := State.linkStart_frame _ _)
    | with_reducible apply OWithin.next
    | with_reducible intro _
    | split
    | dsimp only
    | exact (rfl : (_ : Nat) = _))

theorem State.warmFallback_frame (s : State) (n : Nat) : Within 0x10 s (State.warmFallback s n) := by
  unfold State.warmFallback
  repeat' (first
    | with_reducible exact Within.refl _ _
    | with_reducible apply Within.next (k := State.sets_frame _ _)
    | with_reducible apply Within.next (k := State.count_frame _ _ _ _)
    | split
    | dsimp only
    | exact (rfl : (_ : Nat) = _))

theorem execLinkUp_frame (port : Nat) (speed : Nat) (s : State) : OWithin 0x110 s (execLinkUp port speed s) := by
  unfold execLinkUp
  repeat' (first
    | with_reducible exact Within.refl _ _
    | with_reducible apply Within.next (k := State.linkComesUp_frame _ _ _ _)
    | with_reducible apply Within.next (k := State.warmFallback_frame _ _)
    | with_reducible apply OWithin.next
    | split
    | dsimp only
    | exact (rfl : (_ : Nat) = _))

theorem execLinkDown_frame (port : Nat) (since : Nat) (cause : Nat) (s : State) : OWithin 0x2017910 s (execLinkDown port since cause s) := by
  unfold execLinkDown
  repeat' (first
    | with_reducible exact Within.refl _ _
    | with_reducible apply Within.next (k := State.set_frame _ _ _)
    | with_reducible apply Within.next (k := State.linkGoesDown_frame _ _)
    | with_reducible apply Within.next (k := State.linkStart_frame _ _)
    | with_reducible apply OWithin.next
    | split
    | dsimp only
    | exact (rfl : (_ : Nat) = _))

theorem execWarmLockTimeout_frame (port : Nat) (s : State) : OWithin 0x10 s (execWarmLockTimeout port s) := by
  unfold execWarmLockTimeout
  repeat' (first
    | with_reducible exact Within.refl _ _
    | with_reducible apply Within.next (k := State.warmFallback_frame _ _)
    | with_reducible apply OWithin.next
    | split
    | dsimp only
    | exact (rfl : (_ : Nat) = _))

theorem execMergeVerifyTimeout_frame (port : Nat) (s : State) : OWithin 0x10 s (execMergeVerifyTimeout port s) := by
  unfold execMergeVerifyTimeout
  repeat' (first
    | with_reducible exact Within.refl _ _
    | with_reducible apply Within.next (k := State.set_frame _ _ _)
    | with_reducible apply Within.next (k := State.sets_frame _ _)
    | with_reducible apply OWithin.next
    | split
    | dsimp only
    | exact (rfl : (_ : Nat) = _))

theorem State.verifyResponse_frame (s : State) (port : Nat) : Within 0x10 s (State.verifyResponse s port) := by
  unfold State.verifyResponse
  repeat' (first
    | with_reducible exact Within.refl _ _
    | with_reducible apply Within.next (k := State.set_frame _ _ _)
    | split
    | dsimp only
    | exact (rfl : (_ : Nat) = _))

theorem State.verifyRequest_frame (s : State) (port : Nat) : Within 0x10 s (State.verifyRequest s port) := by
  unfold State.verifyRequest
  repeat' (first
    | with_reducible exact Within.refl _ _
    | with_reducible apply Within.next (k := State.count_frame _ _ _ _)
    | split
    | dsimp only
    | exact (rfl : (_ : Nat) = _))

theorem State.pauseSet_frame (s : State) (port : Nat) (row : Nat) (quanta : Nat) : Within 0x10 s (State.pauseSet s port row quanta) := by
  unfold State.pauseSet
  repeat' (first
    | with_reducible exact Within.refl _ _
    | with_reducible apply Within.next (k := State.set_frame _ _ _)
    | split
    | dsimp only
    | exact (rfl : (_ : Nat) = _))

theorem execPauseFrameReceive_frame (port : Nat) (pfc : Bool) (enables : Nat) (times : List Nat) (s : State) : OWithin 0x10 s (execPauseFrameReceive port pfc enables times s) := by
  unfold execPauseFrameReceive
  repeat' (first
    | with_reducible exact Within.refl _ _
    | with_reducible apply Within.next (k := State.count_frame _ _ _ _)
    | with_reducible apply Within.next (k := State.pauseSet_frame _ _ _ _)
    | with_reducible apply Within.next_foldl
    | with_reducible apply Within.next_foldl1
    | with_reducible apply Within.next_foldl2
    | with_reducible apply OWithin.next
    | with_reducible intro _
    | split
    | dsimp only
    | exact (rfl : (_ : Nat) = _))

theorem execPauseTimeExpire_frame (port : Nat) (s : State) : OWithin 0x10 s (execPauseTimeExpire port s) := by
  unfold execPauseTimeExpire
  repeat' (first
    | with_reducible exact Within.refl _ _
    | with_reducible apply Within.next (k := State.set_frame _ _ _)
    | with_reducible apply Within.next_foldl
    | with_reducible apply Within.next_foldl1
    | with_reducible apply Within.next_foldl2
    | with_reducible apply OWithin.next
    | with_reducible intro _
    | split
    | dsimp only
    | exact (rfl : (_ : Nat) = _))

theorem execPlcaBeacon_frame (k : Nat) (s : State) : OWithin 0x10 s (execPlcaBeacon k s) := by
  unfold execPlcaBeacon
  repeat' (first
    | with_reducible exact Within.refl _ _
    | with_reducible apply Within.next (k := State.set_frame _ _ _)
    | with_reducible apply Within.next (k := State.latch_frame _ _)
    | with_reducible apply OWithin.next
    | split
    | dsimp only
    | exact (rfl : (_ : Nat) = _))

theorem execPlcaBeaconTimeout_frame (k : Nat) (opportunities : Nat) (s : State) : OWithin 0x10 s (execPlcaBeaconTimeout k opportunities s) := by
  unfold execPlcaBeaconTimeout
  repeat' (first
    | with_reducible exact Within.refl _ _
    | with_reducible apply Within.next (k := State.set_frame _ _ _)
    | with_reducible apply OWithin.next
    | split
    | dsimp only
    | exact (rfl : (_ : Nat) = _))

theorem execPcntClear_frame (ctx : Ctx) (n : Nat) (value : Nat) (s : State) : OWithin 0x410 s (execPcntClear ctx n value s) := by
  unfold execPcntClear
  repeat' (first
    | with_reducible exact Within.refl _ _
    | with_reducible apply Within.next (k := State.clearRange_frame _ _ _ _ _)
    | with_reducible apply State.cmdWrite_next
    | with_reducible apply OWithin.next
    | with_reducible intro _
    | split
    | dsimp only
    | exact (rfl : (_ : Nat) = _))

theorem State.portsSnuff_frame (s : State) : Within 0x2017110 s (State.portsSnuff s) := by
  unfold State.portsSnuff
  repeat' (first
    | with_reducible exact Within.refl _ _
    | with_reducible apply Within.next (k := State.set_frame _ _ _)
    | with_reducible apply Within.next (k := State.cutWire_frame _ _)
    | with_reducible apply Within.next (k := State.linkGoesDown_frame _ _)
    | with_reducible apply Within.next_foldl
    | with_reducible apply Within.next_foldl1
    | with_reducible apply Within.next_foldl2
    | with_reducible intro _
    | split
    | dsimp only
    | exact (rfl : (_ : Nat) = _))

theorem State.laneBlocks_frame (s : State) (n k : Nat) : Within 0x800 s (s.laneBlocks n k).2 := by
  induction k with
  | zero => exact Within.refl _ _
  | succ k ih => exact ih.next (State.draw_frame _ 352) rfl

theorem State.savePort_frame (s : State) (n : Nat) : Within 0x850 s (State.savePort s n) := by
  unfold State.savePort
  repeat' (first
    | with_reducible exact Within.refl _ _
    | with_reducible apply Within.next (k := State.set_frame _ _ _)
    | with_reducible apply Within.next (k := State.setBlob_frame _ _ _)
    | with_reducible apply Within.next (k := State.senseTemp_frame _)
    | with_reducible apply Within.next (k := State.laneBlocks_frame _ _ _)
    | split
    | dsimp only
    | exact (rfl : (_ : Nat) = _))

theorem State.cutBlock_frame (s : State) (n : Nat) : Within 0x40 s (State.cutBlock s n) := by
  unfold State.cutBlock
  repeat' (first
    | with_reducible exact Within.refl _ _
    | with_reducible apply Within.next (k := State.setBlob_frame _ _ _)
    | split
    | dsimp only
    | exact (rfl : (_ : Nat) = _))

theorem State.savePorts_frame (s : State) (ports : List Nat) : Within 0x850 s (State.savePorts s ports) := by
  unfold State.savePorts
  repeat' (first
    | with_reducible exact Within.refl _ _
    | with_reducible apply Within.next (k := State.set_frame _ _ _)
    | with_reducible apply Within.next (k := State.savePort_frame _ _)
    | with_reducible apply Within.next_foldl
    | with_reducible apply Within.next_foldl1
    | with_reducible apply Within.next_foldl2
    | with_reducible intro _
    | split
    | dsimp only
    | exact (rfl : (_ : Nat) = _))

theorem State.gclPlan_frame (s : State) (n : Nat) (t : Nat) : Within 0x10 s (State.gclPlan s n t) := by
  unfold State.gclPlan
  repeat' (first
    | with_reducible exact Within.refl _ _
    | with_reducible apply Within.next (k := State.sets_frame _ _)
    | split
    | dsimp only
    | exact (rfl : (_ : Nat) = _))

theorem State.holdDue_frame (s : State) (n : Nat) : Within 0x4010 s (State.holdDue s n) := by
  unfold State.holdDue
  repeat' (first
    | with_reducible exact Within.refl _ _
    | with_reducible apply Within.next (k := State.count_frame _ _ _ _)
    | with_reducible apply Within.next_foldl
    | with_reducible apply Within.next_foldl1
    | with_reducible apply Within.next_foldl2
    | with_reducible intro _
    | split
    | dsimp only
    | with_reducible apply Within.upd_wire
    | exact (rfl : (_ : Nat) = _))

theorem State.askStop_frame (s : State) (n : Nat) : Within 0x4000 s (State.askStop s n) := by
  unfold State.askStop
  repeat' (first
    | with_reducible exact Within.refl _ _
    | split
    | dsimp only
    | with_reducible apply Within.upd_wire
    | exact (rfl : (_ : Nat) = _))

theorem State.rehold_frame (s : State) (n : Nat) : Within 0x4010 s (State.rehold s n) := by
  unfold State.rehold
  repeat' (first
    | with_reducible exact Within.refl _ _
    | with_reducible apply Within.next (k := State.settle_frame _ _)
    | with_reducible apply Within.next (k := State.holdDue_frame _ _)
    | with_reducible apply Within.next (k := State.askStop_frame _ _)
    | split
    | dsimp only
    | exact (rfl : (_ : Nat) = _))

theorem State.requestHold_frame (s : State) (n : Nat) : Within 0x4010 s (State.requestHold s n) := by
  unfold State.requestHold
  repeat' (first
    | with_reducible exact Within.refl _ _
    | with_reducible apply Within.next (k := State.set_frame _ _ _)
    | with_reducible apply Within.next (k := State.count_frame _ _ _ _)
    | with_reducible apply Within.next (k := State.settle_frame _ _)
    | with_reducible apply Within.next (k := State.rehold_frame _ _)
    | split
    | dsimp only
    | exact (rfl : (_ : Nat) = _))

theorem State.releaseHold_frame (s : State) (n : Nat) : Within 0x4010 s (State.releaseHold s n) := by
  unfold State.releaseHold
  repeat' (first
    | with_reducible exact Within.refl _ _
    | with_reducible apply Within.next (k := State.set_frame _ _ _)
    | with_reducible apply Within.next (k := State.settle_frame _ _)
    | with_reducible apply Within.next (k := State.rehold_frame _ _)
    | split
    | dsimp only
    | exact (rfl : (_ : Nat) = _))

theorem State.setGates_frame (s : State) (n : Nat) (gates : Nat) : Within 0x4010 s (State.setGates s n gates) := by
  unfold State.setGates
  repeat' (first
    | with_reducible exact Within.refl _ _
    | with_reducible apply Within.next (k := State.set_frame _ _ _)
    | with_reducible apply Within.next (k := State.sets_frame _ _)
    | with_reducible apply Within.next (k := State.settle_frame _ _)
    | with_reducible apply Within.next (k := State.rehold_frame _ _)
    | with_reducible apply Within.next_foldl
    | with_reducible apply Within.next_foldl1
    | with_reducible apply Within.next_foldl2
    | with_reducible intro _
    | split
    | dsimp only
    | exact (rfl : (_ : Nat) = _))

theorem State.markOverruns_frame (s : State) (n : Nat) (gates : Nat) : Within 0x4000 s (State.markOverruns s n gates) := by
  unfold State.markOverruns
  repeat' (first
    | with_reducible exact Within.refl _ _
    | split
    | dsimp only
    | with_reducible apply Within.upd_wire
    | exact (rfl : (_ : Nat) = _))

theorem State.gateEntry_frame (s : State) (n : Nat) : Within 0x4110 s (State.gateEntry s n) := by
  unfold State.gateEntry
  repeat' (first
    | with_reducible exact Within.refl _ _
    | with_reducible apply Within.next (k := State.set_frame _ _ _)
    | with_reducible apply Within.next (k := State.sets_frame _ _)
    | with_reducible apply Within.next (k := State.pulse_frame _ _ _)
    | with_reducible apply Within.next (k := State.requestHold_frame _ _)
    | with_reducible apply Within.next (k := State.releaseHold_frame _ _)
    | with_reducible apply Within.next (k := State.setGates_frame _ _ _)
    | with_reducible apply Within.next (k := State.markOverruns_frame _ _ _)
    | split
    | dsimp only
    | exact (rfl : (_ : Nat) = _))

theorem State.gclStop_frame (s : State) (n : Nat) : Within 0x4030 s (State.gclStop s n) := by
  unfold State.gclStop
  repeat' (first
    | with_reducible exact Within.refl _ _
    | with_reducible apply Within.next (k := State.sets_frame _ _)
    | with_reducible apply Within.next (k := State.count_frame _ _ _ _)
    | with_reducible apply Within.next (k := State.pendSet_frame _ _ _)
    | with_reducible apply Within.next (k := State.releaseHold_frame _ _)
    | with_reducible apply Within.next (k := State.setGates_frame _ _ _)
    | split
    | dsimp only
    | exact (rfl : (_ : Nat) = _))

theorem execGateEntryStart_frame (port : Nat) (s : State) : OWithin 0x4110 s (execGateEntryStart port s) := by
  unfold execGateEntryStart
  repeat' (first
    | with_reducible exact Within.refl _ _
    | with_reducible apply Within.next (k := State.gateEntry_frame _ _)
    | with_reducible apply OWithin.next
    | split
    | dsimp only
    | exact (rfl : (_ : Nat) = _))

theorem execGateNotice_frame (port : Nat) (s : State) : OWithin 0x2000 s (execGateNotice port s) := by
  unfold execGateNotice
  repeat' (first
    | with_reducible exact Within.refl _ _
    | with_reducible apply OWithin.next
    | split
    | dsimp only
    | with_reducible apply Within.upd_entries
    | exact (rfl : (_ : Nat) = _))

theorem execHoldRequest_frame (port : Nat) (s : State) : OWithin 0x4010 s (execHoldRequest port s) := by
  unfold execHoldRequest
  repeat' (first
    | with_reducible exact Within.refl _ _
    | with_reducible apply Within.next (k := State.requestHold_frame _ _)
    | with_reducible apply OWithin.next
    | split
    | dsimp only
    | exact (rfl : (_ : Nat) = _))

theorem execHoldRelease_frame (port : Nat) (s : State) : OWithin 0x4010 s (execHoldRelease port s) := by
  unfold execHoldRelease
  repeat' (first
    | with_reducible exact Within.refl _ _
    | with_reducible apply Within.next (k := State.releaseHold_frame _ _)
    | with_reducible apply OWithin.next
    | split
    | dsimp only
    | exact (rfl : (_ : Nat) = _))

theorem State.startHold_frame (s : State) (c : Nat) : Within 0x10 s (State.startHold s c) := by
  unfold State.startHold
  repeat' (first
    | with_reducible exact Within.refl _ _
    | with_reducible apply Within.next (k := State.sets_frame _ _)
    | split
    | dsimp only
    | exact (rfl : (_ : Nat) = _))

theorem State.removeHead_frame (s : State) (e : Entry) (g : Guard) : Within 0xb010 s (State.removeHead s e g) := by
  unfold State.removeHead
  repeat' (first
    | with_reducible exact Within.refl _ _
    | with_reducible apply Within.next (k := State.count_frame _ _ _ _)
    | with_reducible apply Within.next (k := State.dropEntry_frame _ _ _)
    | with_reducible apply Within.next (k := State.startHold_frame _ _)
    | split
    | dsimp only
    | exact (rfl : (_ : Nat) = _))

theorem State.exhaustSlot_frame (s : State) (slot : Nat) : Within 0x2000000201a110 s (State.exhaustSlot s slot) := by
  unfold State.exhaustSlot
  repeat' (first
    | with_reducible exact Within.refl _ _
    | with_reducible apply Within.next (k := State.set_frame _ _ _)
    | with_reducible apply Within.next (k := State.handedOver_frame _ _)
    | with_reducible apply Within.next (k := State.saEvent_frame _ _ _)
    | with_reducible apply Within.next (k := State.makeCurrent_frame _ _)
    | split
    | dsimp only
    | exact (rfl : (_ : Nat) = _))

theorem State.reserve_frame (s : State) (e : Entry) (slot : Nat) (coldAt : Nat) : Within 0x2000000201a110 s (State.reserve s e slot coldAt) := by
  unfold State.reserve
  repeat' (first
    | with_reducible exact Within.refl _ _
    | with_reducible apply Within.next (k := State.set_frame _ _ _)
    | with_reducible apply Within.next (k := State.saEvent_frame _ _ _)
    | with_reducible apply Within.next (k := State.exhaustSlot_frame _ _)
    | split
    | dsimp only
    | with_reducible apply Within.upd_entries_prep
    | exact (rfl : (_ : Nat) = _))

theorem State.rebind_frame (s : State) (e : Entry) : Within 0xa000 s (State.rebind s e) := by
  unfold State.rebind
  repeat' (first
    | with_reducible exact Within.refl _ _
    | split
    | dsimp only
    | with_reducible apply Within.upd_entries_prep
    | exact (rfl : (_ : Nat) = _))

theorem State.cutChain_frame (s : State) (id : Nat) (kept : Nat) : Within 0x101010 s (State.cutChain s id kept) := by
  unfold State.cutChain
  repeat' (first
    | with_reducible exact Within.refl _ _
    | with_reducible apply Within.next (k := State.set_frame _ _ _)
    | with_reducible apply Within.next (k := State.updFrame_frame _ _ _)
    | split
    | dsimp only
    | with_reducible apply Within.upd_lostCells
    | exact (rfl : (_ : Nat) = _))

theorem State.loseChain_frame (s : State) (id : Nat) : Within 0x101010 s (State.loseChain s id) := by
  unfold State.loseChain
  repeat' (first
    | with_reducible exact Within.refl _ _
    | with_reducible apply Within.next (k := State.set_frame _ _ _)
    | with_reducible apply Within.next (k := State.updFrame_frame _ _ _)
    | split
    | dsimp only
    | with_reducible apply Within.upd_lostCells
    | exact (rfl : (_ : Nat) = _))

theorem State.eccReport_frame (s : State) (inst : Nat) : Within 0x210 s (State.eccReport s inst) := by
  unfold State.eccReport
  repeat' (first
    | with_reducible exact Within.refl _ _
    | with_reducible apply Within.next (k := State.count_frame _ _ _ _)
    | with_reducible apply Within.next (k := State.reportObj_frame _ _ _ _ _ _ _)
    | split
    | dsimp only
    | exact (rfl : (_ : Nat) = _))

theorem State.countNoFit_frame (s : State) (n : Nat) (c : Nat) : Within 0x10 s (State.countNoFit s n c) := by
  unfold State.countNoFit
  repeat' (first
    | with_reducible exact Within.refl _ _
    | with_reducible apply Within.next (k := State.set_frame _ _ _)
    | with_reducible apply Within.next (k := State.count_frame _ _ _ _)
    | split
    | dsimp only
    | exact (rfl : (_ : Nat) = _))

theorem State.pick_frame (s : State) (n : Nat) (l : List Nat) : Within 0x10 s (s.pick n l).2 := by
  induction l generalizing s with
  | nil => exact Within.refl _ _
  | cons c cs ih =>
    unfold State.pick
    split
    · exact ih s
    · exact (State.countNoFit_frame s n c).mono rfl |>.trans (ih _)
    · exact (State.startHold_frame s _).mono rfl |>.trans (ih _)
    · exact Within.refl _ _

theorem State.useNumber_frame (s : State) (e : Entry) : Within 0x8000 s (State.useNumber s e) := by
  unfold State.useNumber
  repeat' (first
    | with_reducible exact Within.refl _ _
    | split
    | dsimp only
    | with_reducible apply Within.upd_prep
    | exact (rfl : (_ : Nat) = _))

theorem State.frameBoundary_frame (s : State) (n : Nat) : Within 0x10 s (State.frameBoundary s n) := by
  unfold State.frameBoundary
  repeat' (first
    | with_reducible exact Within.refl _ _
    | with_reducible apply Within.next (k := State.latch_frame _ _)
    | split
    | dsimp only
    | exact (rfl : (_ : Nat) = _))

theorem State.launch_frame (s : State) (e : Entry) (f : Frame) (w : Wire) : Within 0xe010 s (State.launch s e f w) := by
  unfold State.launch
  repeat' (first
    | with_reducible exact Within.refl _ _
    | with_reducible apply Within.next (k := State.set_frame _ _ _)
    | with_reducible apply Within.next (k := State.count_frame _ _ _ _)
    | with_reducible apply Within.next (k := State.settle_frame _ _)
    | with_reducible apply Within.next (k := State.rehold_frame _ _)
    | with_reducible apply Within.next (k := State.frameBoundary_frame _ _)
    | split
    | dsimp only
    | with_reducible apply Within.upd_entries_wire_prep
    | exact (rfl : (_ : Nat) = _))

theorem State.defer_frame (s : State) (e : Entry) : Within 0x2010 s (State.defer s e) := by
  unfold State.defer
  repeat' (first
    | with_reducible exact Within.refl _ _
    | with_reducible apply Within.next (k := State.count_frame _ _ _ _)
    | split
    | dsimp only
    | with_reducible apply Within.upd_entries
    | exact (rfl : (_ : Nat) = _))

theorem State.startSecure_frame (s : State) (e : Entry) (f : Frame) (slot : Nat) (express : Bool) : Within 0x2000000201e110 s (State.startSecure s e f slot express) := by
  unfold State.startSecure
  repeat' (first
    | with_reducible exact Within.refl _ _
    | with_reducible apply Within.next (k := State.count_frame _ _ _ _)
    | with_reducible apply Within.next (k := State.reserve_frame _ _ _ _)
    | with_reducible apply Within.next (k := State.rebind_frame _ _)
    | with_reducible apply Within.next (k := State.launch_frame _ _ _ _)
    | with_reducible apply Within.next (k := State.defer_frame _ _)
    | split
    | dsimp only
    | exact (rfl : (_ : Nat) = _))

theorem State.startPicked_frame (s : State) (e : Entry) (f : Frame) (g : Guard) (ecc : Nat) (cell : Nat) : Within 0x2000000211f310 s (State.startPicked s e f g ecc cell) := by
  unfold State.startPicked
  repeat' (first
    | with_reducible exact Within.refl _ _
    | with_reducible apply Within.next (k := State.count_frame _ _ _ _)
    | with_reducible apply Within.next (k := State.updFrame_frame _ _ _)
    | with_reducible apply Within.next (k := State.dropEntry_frame _ _ _)
    | with_reducible apply Within.next (k := State.cutChain_frame _ _ _)
    | with_reducible apply Within.next (k := State.loseChain_frame _ _)
    | with_reducible apply Within.next (k := State.eccReport_frame _ _)
    | with_reducible apply Within.next (k := State.launch_frame _ _ _ _)
    | with_reducible apply Within.next (k := State.startSecure_frame _ _ _ _ _)
    | with_reducible apply Within.next_foldl
    | with_reducible apply Within.next_foldl1
    | with_reducible apply Within.next_foldl2
    | with_reducible intro _
    | split
    | dsimp only
    | with_reducible apply Within.upd_wire
    | exact (rfl : (_ : Nat) = _))

theorem State.sentOut_frame (s : State) (w : Wire) (f : Frame) : Within 0x200010 s (State.sentOut s w f) := by
  unfold State.sentOut
  repeat' (first
    | with_reducible exact Within.refl _ _
    | with_reducible apply Within.next (k := State.settleTo_frame _ _ _)
    | split
    | dsimp only
    | with_reducible apply Within.upd_egress
    | exact (rfl : (_ : Nat) = _))

theorem State.countSent_frame (s : State) (w : Wire) (f : Frame) : Within 0x10 s (State.countSent s w f) := by
  unfold State.countSent
  repeat' (first
    | with_reducible exact Within.refl _ _
    | with_reducible apply Within.next (k := State.count_frame _ _ _ _)
    | split
    | dsimp only
    | exact (rfl : (_ : Nat) = _))

theorem State.finish_frame (s : State) (w : Wire) (f : Frame) : Within 0x2217110 s (State.finish s w f) := by
  unfold State.finish
  repeat' (first
    | with_reducible exact Within.refl _ _
    | with_reducible apply Within.next (k := State.endWire_frame _ _)
    | with_reducible apply Within.next (k := State.rehold_frame _ _)
    | with_reducible apply Within.next (k := State.frameBoundary_frame _ _)
    | with_reducible apply Within.next (k := State.sentOut_frame _ _ _)
    | with_reducible apply Within.next (k := State.countSent_frame _ _ _)
    | split
    | dsimp only
    | exact (rfl : (_ : Nat) = _))

theorem execFrameTransmitEnd_frame (port : Nat) (s : State) : OWithin 0x2217110 s (execFrameTransmitEnd port s) := by
  unfold execFrameTransmitEnd
  repeat' (first
    | with_reducible exact Within.refl _ _
    | with_reducible apply Within.next (k := State.endWire_frame _ _)
    | with_reducible apply Within.next (k := State.holdDue_frame _ _)
    | with_reducible apply Within.next (k := State.rehold_frame _ _)
    | with_reducible apply Within.next (k := State.finish_frame _ _ _)
    | with_reducible apply OWithin.next
    | split
    | dsimp only
    | exact (rfl : (_ : Nat) = _))

end Sys2Proof.Machine
end

