-- ==== Sys2Proof/Laws/FrameFabric.lean ====
section
/-! SUPPORT. What the operations of streams, classification and the line cipher can touch: one law for each, with the parts of the state that it may change as bits of a mask
in the order of `Part`, and that it keeps the canonical forms. -/
set_option Elab.async false
namespace Sys2Proof.Machine

theorem State.meter_frame (s : State) (row : Nat) (ts : Nat) (len : Nat) : Within 0x10 s (State.meter s row ts len).2 := by
  unfold State.meter
  repeat' (first
    | with_reducible exact Within.refl _ _
    | with_reducible apply Within.next (k := State.set_frame _ _ _)
    | with_reducible apply Within.next (k := State.sets_frame _ _)
    | with_reducible apply Within.next (k := State.count_frame _ _ _ _)
    | split
    | dsimp only
    | exact (rfl : (_ : Nat) = _))

theorem State.srTimer_frame (s : State) (row : Nat) : Within 0x10 s (State.srTimer s row) := by
  unfold State.srTimer
  repeat' (first
    | with_reducible exact Within.refl _ _
    | with_reducible apply Within.next (k := State.set_frame _ _ _)
    | split
    | dsimp only
    | exact (rfl : (_ : Nat) = _))

theorem State.recover_frame (s : State) (row : Nat) (seq : Nat) : Within 0x10 s (State.recover s row seq).2 := by
  unfold State.recover
  repeat' (first
    | with_reducible exact Within.refl _ _
    | with_reducible apply Within.next (k := State.set_frame _ _ _)
    | with_reducible apply Within.next (k := State.sets_frame _ _)
    | with_reducible apply Within.next (k := State.count_frame _ _ _ _)
    | with_reducible apply Within.next (k := State.srTimer_frame _ _)
    | split
    | dsimp only
    | exact (rfl : (_ : Nat) = _))

theorem State.recoverStep_frame (s : State) (id : Nat) (row : Nat) (h : Hdr) : Within 0x20010 s (State.recoverStep s id row h).2 := by
  unfold State.recoverStep
  repeat' (first
    | with_reducible exact Within.refl _ _
    | with_reducible apply Within.next (k := State.count_frame _ _ _ _)
    | with_reducible apply Within.next (k := State.recover_frame _ _ _)
    | split
    | dsimp only
    | with_reducible apply Within.upd_verdicts
    | exact (rfl : (_ : Nat) = _))

theorem State.meterStep_frame (s : State) (f : Frame) (row : Nat) (sid : Nat) : Within 0x10 s (State.meterStep s f row sid).2 := by
  unfold State.meterStep
  repeat' (first
    | with_reducible exact Within.refl _ _
    | with_reducible apply Within.next (k := State.count_frame _ _ _ _)
    | with_reducible apply Within.next (k := State.meter_frame _ _ _ _)
    | split
    | dsimp only
    | exact (rfl : (_ : Nat) = _))

theorem State.sduFault_frame (s : State) (row : Nat) (f : Frame) : Within 0x10 s (State.sduFault s row f) := by
  unfold State.sduFault
  repeat' (first
    | with_reducible exact Within.refl _ _
    | with_reducible apply Within.next (k := State.set_frame _ _ _)
    | with_reducible apply Within.next (k := State.count_frame _ _ _ _)
    | split
    | dsimp only
    | exact (rfl : (_ : Nat) = _))

theorem State.streamStages_frame (s : State) (late : Bool) (id : Nat) (f : Frame) (h : Hdr) : Within 0x20010 s (State.streamStages s late id f h).2 := by
  unfold State.streamStages
  repeat' (first
    | with_reducible exact Within.refl _ _
    | with_reducible apply Within.next (k := State.set_frame _ _ _)
    | with_reducible apply Within.next (k := State.count_frame _ _ _ _)
    | with_reducible apply Within.next (k := State.recoverStep_frame _ _ _ _)
    | with_reducible apply Within.next (k := State.meterStep_frame _ _ _ _)
    | with_reducible apply Within.next (k := State.sduFault_frame _ _ _)
    | split
    | dsimp only
    | exact (rfl : (_ : Nat) = _))

theorem State.takeAny_frame (s : State) (row : Nat) : Within 0x10 s (State.takeAny s row) := by
  unfold State.takeAny
  repeat' (first
    | with_reducible exact Within.refl _ _
    | with_reducible apply Within.next (k := State.sets_frame _ _)
    | with_reducible apply Within.next (k := State.count_frame _ _ _ _)
    | split
    | dsimp only
    | exact (rfl : (_ : Nat) = _))

theorem execSrResetTimeout_frame (row : Nat) (s : State) : OWithin 0x10 s (execSrResetTimeout row s) := by
  unfold execSrResetTimeout
  repeat' (first
    | with_reducible exact Within.refl _ _
    | with_reducible apply Within.next (k := State.count_frame _ _ _ _)
    | with_reducible apply Within.next (k := State.takeAny_frame _ _)
    | with_reducible apply OWithin.next
    | split
    | dsimp only
    | exact (rfl : (_ : Nat) = _))

theorem State.recoveryFailed_frame (s : State) (f : Verdict) : Within 0x10 s (State.recoveryFailed s f) := by
  unfold State.recoveryFailed
  repeat' (first
    | with_reducible exact Within.refl _ _
    | with_reducible apply Within.next (k := State.set_frame _ _ _)
    | with_reducible apply Within.next (k := State.count_frame _ _ _ _)
    | split
    | dsimp only
    | exact (rfl : (_ : Nat) = _))

theorem execScntClear_frame (ctx : Ctx) (n : Nat) (value : Nat) (s : State) : OWithin 0x410 s (execScntClear ctx n value s) := by
  unfold execScntClear
  repeat' (first
    | with_reducible exact Within.refl _ _
    | with_reducible apply Within.next (k := State.clearRange_frame _ _ _ _ _)
    | with_reducible apply State.cmdWrite_next
    | with_reducible apply OWithin.next
    | with_reducible intro _
    | split
    | dsimp only
    | exact (rfl : (_ : Nat) = _))

theorem State.connClear_frame (s : State) (row : Nat) : Within 0x10 s (State.connClear s row) := by
  unfold State.connClear
  repeat' (first
    | with_reducible exact Within.refl _ _
    | with_reducible apply Within.next (k := State.sets_frame _ _)
    | split
    | dsimp only
    | exact (rfl : (_ : Nat) = _))

theorem State.connHit_frame (s : State) (row : Nat) (t : Tuple) (h : Hdr) : Within 0x10 s (State.connHit s row t h) := by
  unfold State.connHit
  repeat' (first
    | with_reducible exact Within.refl _ _
    | with_reducible apply Within.next (k := State.sets_frame _ _)
    | with_reducible apply Within.next (k := State.count_frame _ _ _ _)
    | with_reducible apply Within.next (k := State.connClear_frame _ _)
    | split
    | dsimp only
    | exact (rfl : (_ : Nat) = _))

theorem State.connInsert_frame (s : State) (t : Tuple) (profile : Nat) : ∀ t', State.connInsert s t profile = some t' → Within 0x10 s t' := by
  intro t' h'
  unfold State.connInsert at h'
  try dsimp only at h'
  repeat' (first | (split at h') | (cases h'))
  all_goals repeat' (first
    | with_reducible exact Within.refl _ _
    | with_reducible apply Within.next (k := State.set_frame _ _ _)
    | with_reducible apply Within.next (k := State.sets_frame _ _)
    | with_reducible apply Within.next (k := State.count_frame _ _ _ _)
    | split
    | dsimp only
    | exact (rfl : (_ : Nat) = _))

theorem State.connStage_frame (s : State) (port : Nat) (mode : Nat) (profile : Nat) (h : Hdr) : Within 0x10 s (State.connStage s port mode profile h).2 := by
  unfold State.connStage
  repeat' (first
    | with_reducible exact Within.refl _ _
    | with_reducible apply Within.next (k := State.count_frame _ _ _ _)
    | with_reducible apply Within.next (k := State.connHit_frame _ _ _ _)
    | (with_reducible refine Within.next ?_ (State.connInsert_frame _ _ _ _ (by assumption)) rfl)
    | split
    | dsimp only
    | exact (rfl : (_ : Nat) = _))

theorem execConnScan_frame (row : Nat) (s : State) : OWithin 0x10 s (execConnScan row s) := by
  unfold execConnScan
  repeat' (first
    | with_reducible exact Within.refl _ _
    | with_reducible apply Within.next (k := State.set_frame _ _ _)
    | with_reducible apply Within.next (k := State.count_frame _ _ _ _)
    | with_reducible apply Within.next (k := State.connClear_frame _ _)
    | with_reducible apply OWithin.next
    | split
    | dsimp only
    | exact (rfl : (_ : Nat) = _))

theorem State.fdbEcc_frame (s : State) (row : Nat) : Within 0x210 s (State.fdbEcc s row) := by
  unfold State.fdbEcc
  repeat' (first
    | with_reducible exact Within.refl _ _
    | with_reducible apply Within.next (k := State.set_frame _ _ _)
    | with_reducible apply Within.next (k := State.count_frame _ _ _ _)
    | with_reducible apply Within.next (k := State.reportObj_frame _ _ _ _ _ _ _)
    | split
    | dsimp only
    | exact (rfl : (_ : Nat) = _))

theorem State.fdbLookup_frame (s : State) (port : Nat) (vid : Nat) (h : Hdr) (ecc : Nat) : Within 0x210 s (State.fdbLookup s port vid h ecc).2.2 := by
  unfold State.fdbLookup
  repeat' (first
    | with_reducible exact Within.refl _ _
    | with_reducible apply Within.next (k := State.count_frame _ _ _ _)
    | with_reducible apply Within.next (k := State.fdbEcc_frame _ _)
    | split
    | dsimp only
    | exact (rfl : (_ : Nat) = _))

theorem State.fdbNote_frame (s : State) (port : Nat) (row : Nat) : Within 0x10 s (State.fdbNote s port row) := by
  unfold State.fdbNote
  repeat' (first
    | with_reducible exact Within.refl _ _
    | with_reducible apply Within.next (k := State.set_frame _ _ _)
    | split
    | dsimp only
    | exact (rfl : (_ : Nat) = _))

theorem State.fdbLearn_frame (s : State) (port : Nat) (vid : Nat) (mac : Nat) : Within 0x10 s (State.fdbLearn s port vid mac) := by
  unfold State.fdbLearn
  repeat' (first
    | with_reducible exact Within.refl _ _
    | with_reducible apply Within.next (k := State.set_frame _ _ _)
    | with_reducible apply Within.next (k := State.sets_frame _ _)
    | with_reducible apply Within.next (k := State.count_frame _ _ _ _)
    | with_reducible apply Within.next (k := State.fdbNote_frame _ _ _)
    | split
    | dsimp only
    | exact (rfl : (_ : Nat) = _))

theorem State.slowEnter_frame (s : State) (id : Nat) (reason : Nat) : Within 0x1001010 s (State.slowEnter s id reason) := by
  unfold State.slowEnter
  repeat' (first
    | with_reducible exact Within.refl _ _
    | with_reducible apply Within.next (k := State.count_frame _ _ _ _)
    | with_reducible apply Within.next (k := State.updFrame_frame _ _ _)
    | split
    | dsimp only
    | with_reducible apply Within.upd_slow
    | exact (rfl : (_ : Nat) = _))

theorem State.decide_frame (s : State) (id : Nat) (targets : List (Nat × Nat × Bool)) : Within 0x10cb810 s (State.decide s id targets) := by
  unfold State.decide
  repeat' (first
    | with_reducible exact Within.refl _ _
    | with_reducible apply Within.next (k := State.admitAll_frame _ _ _)
    | split
    | dsimp only
    | with_reducible apply Within.upd_staging
    | exact (rfl : (_ : Nat) = _))

theorem State.peekEntry_frame (s : State) (f : Frame) (e : Entry) : Within 0x2000000201a110 s (State.peekEntry s f e) := by
  unfold State.peekEntry
  repeat' (first
    | with_reducible exact Within.refl _ _
    | with_reducible apply Within.next (k := State.reserve_frame _ _ _ _)
    | split
    | dsimp only
    | exact (rfl : (_ : Nat) = _))

theorem State.peek_frame (s : State) (id : Nat) : Within 0x2000000201a110 s (State.peek s id) := by
  unfold State.peek
  repeat' (first
    | with_reducible exact Within.refl _ _
    | with_reducible apply Within.next (k := State.peekEntry_frame _ _ _)
    | with_reducible apply Within.next_foldl
    | with_reducible apply Within.next_foldl1
    | with_reducible apply Within.next_foldl2
    | with_reducible intro _
    | split
    | dsimp only
    | exact (rfl : (_ : Nat) = _))

theorem State.admitted_frame (s : State) (id : Nat) : Within 0x2000000201b110 s (State.admitted s id) := by
  unfold State.admitted
  repeat' (first
    | with_reducible exact Within.refl _ _
    | with_reducible apply Within.next (k := State.numberRtag_frame _ _)
    | with_reducible apply Within.next (k := State.peek_frame _ _)
    | split
    | dsimp only
    | exact (rfl : (_ : Nat) = _))

theorem execStagingGrant_frame (part : Nat) (s : State) : OWithin 0x200000030db910 s (execStagingGrant part s) := by
  unfold execStagingGrant
  repeat' (first
    | with_reducible exact Within.refl _ _
    | with_reducible apply Within.next (k := State.set_frame _ _ _)
    | with_reducible apply Within.next (k := State.admitAll_frame _ _ _)
    | with_reducible apply Within.next (k := State.admitted_frame _ _)
    | with_reducible apply OWithin.next
    | split
    | dsimp only
    | with_reducible apply Within.upd_staging
    | exact (rfl : (_ : Nat) = _))

theorem State.resolve_frame (s : State) (id : Nat) (r : StreamResult) (targets : List (Nat × Nat × Bool)) (g : Frame → Frame) : Within 0x200000030db910 s (State.resolve s id r targets g) := by
  unfold State.resolve
  repeat' (first
    | with_reducible exact Within.refl _ _
    | with_reducible apply Within.next (k := State.count_frame _ _ _ _)
    | with_reducible apply Within.next (k := State.updFrame_frame _ _ _)
    | with_reducible apply Within.next (k := State.sduFault_frame _ _ _)
    | with_reducible apply Within.next (k := State.decide_frame _ _ _)
    | with_reducible apply Within.next (k := State.admitted_frame _ _)
    | split
    | dsimp only
    | exact (rfl : (_ : Nat) = _))

theorem State.onlyCopies_frame (s : State) (id : Nat) (r : StreamResult) (copies : List (Nat × Nat × Bool)) (cls : Nat) : Within 0x200000030db910 s (State.onlyCopies s id r copies cls) := by
  unfold State.onlyCopies
  repeat' (first
    | with_reducible exact Within.refl _ _
    | with_reducible apply Within.next (k := State.resolve_frame _ _ _ _ _)
    | split
    | dsimp only
    | exact (rfl : (_ : Nat) = _))

theorem State.countCopies_frame (s : State) (port : Nat) (copies : List (Nat × Nat × Bool)) (a : Nat) : Within 0x10 s (State.countCopies s port copies a) := by
  unfold State.countCopies
  repeat' (first
    | with_reducible exact Within.refl _ _
    | with_reducible apply Within.next (k := State.count_frame _ _ _ _)
    | split
    | dsimp only
    | exact (rfl : (_ : Nat) = _))

theorem State.police_frame (s : State) (f : Frame) (a : Nat) : Within 0x10 s (State.police s f a).2 := by
  unfold State.police
  repeat' (first
    | with_reducible exact Within.refl _ _
    | with_reducible apply Within.next (k := State.meter_frame _ _ _ _)
    | split
    | dsimp only
    | exact (rfl : (_ : Nat) = _))

theorem State.findTargets_frame (s : State) (port : Nat) (h : Hdr) (a : Nat) (vop : Nat) (ecc : Nat) : Within 0x210 s (State.findTargets s port h a vop ecc).2.2 := by
  unfold State.findTargets
  repeat' (first
    | with_reducible exact Within.refl _ _
    | with_reducible apply Within.next (k := State.fdbLookup_frame _ _ _ _ _)
    | with_reducible apply Within.next (k := State.fdbLearn_frame _ _ _ _)
    | split
    | dsimp only
    | exact (rfl : (_ : Nat) = _))

theorem State.forward_frame (s : State) (id : Nat) (port : Nat) (h : Hdr) (r : StreamResult) (a : Nat) (cls : Nat) (ecc : Nat) : Within 0x200000030dbb10 s (State.forward s id port h r a cls ecc) := by
  unfold State.forward
  repeat' (first
    | with_reducible exact Within.refl _ _
    | with_reducible apply Within.next (k := State.count_frame _ _ _ _)
    | with_reducible apply Within.next (k := State.resolve_frame _ _ _ _ _)
    | with_reducible apply Within.next (k := State.countCopies_frame _ _ _ _)
    | with_reducible apply Within.next (k := State.findTargets_frame _ _ _ _ _ _)
    | split
    | dsimp only
    | exact (rfl : (_ : Nat) = _))

theorem State.toSlowPath_frame (s : State) (id : Nat) (port : Nat) (r : StreamResult) (a : Nat) (reason : Nat) (base : Nat) (copies : List (Nat × Nat × Bool)) : Within 0x200000030db910 s (State.toSlowPath s id port r a reason base copies) := by
  unfold State.toSlowPath
  repeat' (first
    | with_reducible exact Within.refl _ _
    | with_reducible apply Within.next (k := State.slowEnter_frame _ _ _)
    | with_reducible apply Within.next (k := State.onlyCopies_frame _ _ _ _ _)
    | with_reducible apply Within.next (k := State.countCopies_frame _ _ _ _)
    | split
    | dsimp only
    | exact (rfl : (_ : Nat) = _))

theorem State.applyAction_frame (s : State) (id : Nat) (port : Nat) (h : Hdr) (r : StreamResult) (a : Nat) (byDefault : Bool) (ecc : Nat) : Within 0x200000030dbb10 s (State.applyAction s id port h r a byDefault ecc) := by
  unfold State.applyAction
  repeat' (first
    | with_reducible exact Within.refl _ _
    | with_reducible apply Within.next (k := State.count_frame _ _ _ _)
    | with_reducible apply Within.next (k := State.connStage_frame _ _ _ _ _)
    | with_reducible apply Within.next (k := State.decide_frame _ _ _)
    | with_reducible apply Within.next (k := State.onlyCopies_frame _ _ _ _ _)
    | with_reducible apply Within.next (k := State.countCopies_frame _ _ _ _)
    | with_reducible apply Within.next (k := State.police_frame _ _ _)
    | with_reducible apply Within.next (k := State.forward_frame _ _ _ _ _ _ _ _)
    | with_reducible apply Within.next (k := State.toSlowPath_frame _ _ _ _ _ _ _ _)
    | split
    | dsimp only
    | exact (rfl : (_ : Nat) = _))

theorem State.classifyAs_frame (s : State) (late : Bool) (id : Nat) (port : Nat) (ecc : Nat) : Within 0x200000030fbb10 s (State.classifyAs s late id port ecc) := by
  unfold State.classifyAs
  repeat' (first
    | with_reducible exact Within.refl _ _
    | with_reducible apply Within.next (k := State.count_frame _ _ _ _)
    | with_reducible apply Within.next (k := State.updFrame_frame _ _ _)
    | with_reducible apply Within.next (k := State.streamStages_frame _ _ _ _ _)
    | with_reducible apply Within.next (k := State.slowEnter_frame _ _ _)
    | with_reducible apply Within.next (k := State.decide_frame _ _ _)
    | with_reducible apply Within.next (k := State.onlyCopies_frame _ _ _ _ _)
    | with_reducible apply Within.next (k := State.applyAction_frame _ _ _ _ _ _ _ _)
    | (with_reducible refine Within.of2 (by assumption) ?_)
    | split
    | dsimp only
    | exact (rfl : (_ : Nat) = _))

theorem State.stompFailing_frame (s : State) (id : Nat) : Within 0x1000 s (State.stompFailing s id) := by
  unfold State.stompFailing
  repeat' (first
    | with_reducible exact Within.refl _ _
    | with_reducible apply Within.next (k := State.updFrame_frame _ _ _)
    | split
    | dsimp only
    | exact (rfl : (_ : Nat) = _))

theorem State.dropFailing_frame (s : State) (f : Frame) : Within 0x10eb010 s (State.dropFailing s f) := by
  unfold State.dropFailing
  repeat' (first
    | with_reducible exact Within.refl _ _
    | with_reducible apply Within.next (k := State.count_frame _ _ _ _)
    | with_reducible apply Within.next (k := State.dropFrame_frame _ _ _)
    | split
    | dsimp only
    | with_reducible apply Within.upd_verdicts
    | exact (rfl : (_ : Nat) = _))

theorem State.classify_frame (s : State) (id : Nat) (port : Nat) (ecc : Nat) : Within 0x200000030fbb10 s (State.classify s id port ecc) := by
  unfold State.classify
  repeat' (first
    | with_reducible exact Within.refl _ _
    | with_reducible apply Within.next (k := State.classifyAs_frame _ _ _ _ _)
    | with_reducible apply Within.next (k := State.stompFailing_frame _ _)
    | with_reducible apply Within.next (k := State.dropFailing_frame _ _)
    | split
    | dsimp only
    | exact (rfl : (_ : Nat) = _))

theorem execParsePipelineEntry_frame (pipe : Nat) (ecc : Nat) (s : State) : OWithin 0x200000030fbb10 s (execParsePipelineEntry pipe ecc s) := by
  unfold execParsePipelineEntry
  repeat' (first
    | with_reducible exact Within.refl _ _
    | with_reducible apply Within.next (k := State.set_frame _ _ _)
    | with_reducible apply Within.next (k := State.classify_frame _ _ _ _)
    | with_reducible apply OWithin.next
    | split
    | dsimp only
    | with_reducible apply Within.upd_records
    | exact (rfl : (_ : Nat) = _))

theorem execCcntClear_frame (ctx : Ctx) (n : Nat) (value : Nat) (s : State) : OWithin 0x410 s (execCcntClear ctx n value s) := by
  unfold execCcntClear
  repeat' (first
    | with_reducible exact Within.refl _ _
    | with_reducible apply Within.next (k := State.clearRange_frame _ _ _ _ _)
    | with_reducible apply State.cmdWrite_next
    | with_reducible apply OWithin.next
    | with_reducible intro _
    | split
    | dsimp only
    | exact (rfl : (_ : Nat) = _))

theorem State.moveWindow_frame (s : State) (port : Nat) (slot : Nat) (pn : Nat) : Within 0x10000 s (State.moveWindow s port slot pn) := by
  unfold State.moveWindow
  repeat' (first
    | with_reducible exact Within.refl _ _
    | split
    | dsimp only
    | with_reducible apply Within.upd_spec
    | exact (rfl : (_ : Nat) = _))

theorem State.specMiss_frame (s : State) (port : Nat) : Within 0x10 s (State.specMiss s port) := by
  unfold State.specMiss
  repeat' (first
    | with_reducible exact Within.refl _ _
    | with_reducible apply Within.next (k := State.count_frame _ _ _ _)
    | split
    | dsimp only
    | exact (rfl : (_ : Nat) = _))

/-- The state that a receive verdict leaves. -/
def RxCipher.left : RxCipher → State
  | .discard s => s
  | .pass s _ _ => s
theorem State.rxCipher_left (s : State) (port : Nat) (b : List Byte) (bad : Bool) :
    Within 0x10010 s (s.rxCipher port b bad).left := by
  unfold State.rxCipher
  repeat' (first
    | with_reducible exact Within.refl _ _
    | with_reducible apply Within.next (k := State.count_frame _ _ _ _)
    | with_reducible apply Within.next (k := State.specMiss_frame _ _)
    | with_reducible apply Within.next (k := State.moveWindow_frame _ _ _ _)
    | split
    | dsimp only
    | dsimp only [RxCipher.left]
    | exact (rfl : (_ : Nat) = _))
theorem State.rxCipher_discard (s : State) (port : Nat) (b : List Byte) (bad : Bool) (t : State)
    (h : s.rxCipher port b bad = .discard t) : Within 0x10010 s t := by
  have k := s.rxCipher_left port b bad
  rw [h] at k
  exact k
theorem State.rxCipher_pass (s : State) (port : Nat) (b : List Byte) (bad : Bool) (t : State) (c : List Byte) (v : Verdict)
    (h : s.rxCipher port b bad = .pass t c v) : Within 0x10010 s t := by
  have k := s.rxCipher_left port b bad
  rw [h] at k
  exact k

theorem State.rxStamp_frame (s : State) (port : Nat) : Within 0x800 s (State.rxStamp s port).2 := by
  unfold State.rxStamp
  repeat' (first
    | with_reducible exact Within.refl _ _
    | with_reducible apply Within.next (k := State.draw_frame _ _)
    | split
    | dsimp only
    | exact (rfl : (_ : Nat) = _))

theorem State.fifoFill_frame (s : State) (port : Nat) (backlog : Nat) : Within 0x10 s (State.fifoFill s port backlog) := by
  unfold State.fifoFill
  repeat' (first
    | with_reducible exact Within.refl _ _
    | with_reducible apply Within.next (k := State.set_frame _ _ _)
    | with_reducible apply Within.next (k := State.sets_frame _ _)
    | split
    | dsimp only
    | exact (rfl : (_ : Nat) = _))

theorem State.writeFrame_frame (s : State) (port : Nat) (b : List Byte) (v : Verdict) (at' : Arrival) : Within 0xe1810 s (State.writeFrame s port b v at') := by
  unfold State.writeFrame
  repeat' (first
    | with_reducible exact Within.refl _ _
    | with_reducible apply Within.next (k := State.set_frame _ _ _)
    | with_reducible apply Within.next (k := State.count_frame _ _ _ _)
    | with_reducible apply Within.next (k := State.storeFrame_frame _ _)
    | with_reducible apply Within.next (k := State.fifoFill_frame _ _ _)
    | split
    | dsimp only
    | with_reducible apply Within.upd_verdicts
    | with_reducible apply Within.upd_verdicts_records_staging
    | exact (rfl : (_ : Nat) = _))

theorem State.rxCount_frame (s : State) (port : Nat) (rx : RxFrame) : Within 0x10 s (State.rxCount s port rx) := by
  unfold State.rxCount
  repeat' (first
    | with_reducible exact Within.refl _ _
    | with_reducible apply Within.next (k := State.count_frame _ _ _ _)
    | split
    | dsimp only
    | exact (rfl : (_ : Nat) = _))

theorem State.frameIn_frame (s : State) (port : Nat) (bad : Bool) (rx : RxFrame) (at' : Arrival) : Within 0xf1810 s (State.frameIn s port bad rx at') := by
  unfold State.frameIn
  repeat' (first
    | with_reducible exact Within.refl _ _
    | with_reducible apply Within.next (k := State.rxCipher_frame _ _ _ _)
    | with_reducible apply Within.next (k := State.writeFrame_frame _ _ _ _ _)
    | (with_reducible refine Within.next ?_ (State.rxCipher_discard _ _ _ _ _ (by assumption)) rfl)
    | (with_reducible refine Within.next ?_ (State.rxCipher_pass _ _ _ _ _ _ _ (by assumption)) rfl)
    | split
    | dsimp only
    | exact (rfl : (_ : Nat) = _))

theorem State.frameOn_frame (s : State) (port : Nat) (rx : RxFrame) : Within 0x4f1810 s (State.frameOn s port rx) := by
  unfold State.frameOn
  repeat' (first
    | with_reducible exact Within.refl _ _
    | with_reducible apply Within.next (k := State.count_frame _ _ _ _)
    | with_reducible apply Within.next (k := State.rxStamp_frame _ _)
    | with_reducible apply Within.next (k := State.frameIn_frame _ _ _ _ _)
    | split
    | dsimp only
    | with_reducible apply Within.upd_crossing
    | exact (rfl : (_ : Nat) = _))

theorem State.loseCrossing_frame (s : State) : Within 0x400010 s (State.loseCrossing s) := by
  unfold State.loseCrossing
  repeat' (first
    | with_reducible exact Within.refl _ _
    | with_reducible apply Within.next (k := State.count_frame _ _ _ _)
    | with_reducible apply Within.next_foldl
    | with_reducible apply Within.next_foldl1
    | with_reducible apply Within.next_foldl2
    | with_reducible intro _
    | split
    | dsimp only
    | with_reducible apply Within.upd_crossing
    | exact (rfl : (_ : Nat) = _))

theorem execFrameReceive_frame (port : Nat) (rx : RxFrame) (s : State) : OWithin 0x4f1810 s (execFrameReceive port rx s) := by
  unfold execFrameReceive
  repeat' (first
    | with_reducible exact Within.refl _ _
    | with_reducible apply Within.next (k := State.count_frame _ _ _ _)
    | with_reducible apply Within.next (k := State.verifyResponse_frame _ _)
    | with_reducible apply Within.next (k := State.verifyRequest_frame _ _)
    | with_reducible apply Within.next (k := State.rxCount_frame _ _ _)
    | with_reducible apply Within.next (k := State.frameOn_frame _ _ _)
    | with_reducible apply OWithin.next
    | split
    | dsimp only
    | exact (rfl : (_ : Nat) = _))

theorem State.acceptRx_frame (s : State) (port : Nat) (slot : Nat) (pn : Nat) : Within 0x2000110 s (State.acceptRx s port slot pn) := by
  unfold State.acceptRx
  repeat' (first
    | with_reducible exact Within.refl _ _
    | with_reducible apply Within.next (k := State.set_frame _ _ _)
    | with_reducible apply Within.next (k := State.sets_frame _ _)
    | with_reducible apply Within.next (k := State.count_frame _ _ _ _)
    | with_reducible apply Within.next (k := State.saEvent_frame _ _ _)
    | split
    | dsimp only
    | exact (rfl : (_ : Nat) = _))

theorem State.verdictFrame_frame (s : State) (v : Verdict) : Within 0x10cb010 s (State.verdictFrame s v) := by
  unfold State.verdictFrame
  repeat' (first
    | with_reducible exact Within.refl _ _
    | with_reducible apply Within.next (k := State.count_frame _ _ _ _)
    | with_reducible apply Within.next (k := State.updFrame_frame _ _ _)
    | with_reducible apply Within.next (k := State.dropFrame_frame _ _ _)
    | split
    | dsimp only
    | exact (rfl : (_ : Nat) = _))

theorem State.verdictLate_frame (s : State) (v : Verdict) : Within 0x10cb010 s (State.verdictLate s v) := by
  unfold State.verdictLate
  repeat' (first
    | with_reducible exact Within.refl _ _
    | with_reducible apply Within.next (k := State.count_frame _ _ _ _)
    | with_reducible apply Within.next (k := State.verdictFrame_frame _ _)
    | split
    | dsimp only
    | exact (rfl : (_ : Nat) = _))

theorem State.verdictFails_frame (s : State) (v : Verdict) : Within 0x10cb010 s (State.verdictFails s v) := by
  unfold State.verdictFails
  repeat' (first
    | with_reducible exact Within.refl _ _
    | with_reducible apply Within.next (k := State.count_frame _ _ _ _)
    | with_reducible apply Within.next (k := State.recoveryFailed_frame _ _)
    | with_reducible apply Within.next (k := State.verdictFrame_frame _ _)
    | split
    | dsimp only
    | exact (rfl : (_ : Nat) = _))

theorem execRxVerdict_frame (port : Nat) (s : State) : OWithin 0x30eb110 s (execRxVerdict port s) := by
  unfold execRxVerdict
  repeat' (first
    | with_reducible exact Within.refl _ _
    | with_reducible apply Within.next (k := State.count_frame _ _ _ _)
    | with_reducible apply Within.next (k := State.updFrame_frame _ _ _)
    | with_reducible apply Within.next (k := State.acceptRx_frame _ _ _ _)
    | with_reducible apply Within.next (k := State.verdictLate_frame _ _)
    | with_reducible apply Within.next (k := State.verdictFails_frame _ _)
    | with_reducible apply OWithin.next
    | (with_reducible refine Within.of2 (by assumption) ?_)
    | split
    | dsimp only
    | with_reducible apply Within.upd_verdicts
    | exact (rfl : (_ : Nat) = _))

theorem execLookaheadReserve_frame (port : Nat) (s : State) : OWithin 0x2000000201b110 s (execLookaheadReserve port s) := by
  unfold execLookaheadReserve
  repeat' (first
    | with_reducible exact Within.refl _ _
    | with_reducible apply Within.next (k := State.removeHead_frame _ _ _)
    | with_reducible apply Within.next (k := State.reserve_frame _ _ _ _)
    | with_reducible apply Within.next (k := State.rebind_frame _ _)
    | with_reducible apply OWithin.next
    | split
    | dsimp only
    | exact (rfl : (_ : Nat) = _))

theorem State.recapacity_frame (s : State) : Within 0x10 s (State.recapacity s) := by
  unfold State.recapacity
  repeat' (first
    | with_reducible exact Within.refl _ _
    | with_reducible apply Within.next (k := State.sets_frame _ _)
    | split
    | dsimp only
    | exact (rfl : (_ : Nat) = _))

theorem State.retirePair_frame (s : State) (tx : Bool) (pair : Nat) : Within 0x310 s (State.retirePair s tx pair) := by
  unfold State.retirePair
  repeat' (first
    | with_reducible exact Within.refl _ _
    | with_reducible apply Within.next (k := State.set_frame _ _ _)
    | with_reducible apply Within.next (k := State.uncount_frame _ _ _)
    | with_reducible apply Within.next (k := State.pulse_frame _ _ _)
    | with_reducible apply Within.next (k := State.reportObj_frame _ _ _ _ _ _ _)
    | with_reducible apply Within.next (k := State.recapacity_frame _)
    | split
    | dsimp only
    | exact (rfl : (_ : Nat) = _))

theorem State.retireUnit_frame (s : State) (unit : Nat) (port : Nat) (pair : Nat) : Within 0x310 s (State.retireUnit s unit port pair) := by
  unfold State.retireUnit
  repeat' (first
    | with_reducible exact Within.refl _ _
    | with_reducible apply Within.next (k := State.set_frame _ _ _)
    | with_reducible apply Within.next (k := State.pulse_frame _ _ _)
    | with_reducible apply Within.next (k := State.reportObj_frame _ _ _ _ _ _ _)
    | with_reducible apply Within.next (k := State.retirePair_frame _ _ _)
    | split
    | dsimp only
    | exact (rfl : (_ : Nat) = _))

theorem State.testUnits_frame (s : State) (unit : Nat) (mask : Nat) : Within 0xb10 s (State.testUnits s unit mask) := by
  unfold State.testUnits
  repeat' (first
    | with_reducible exact Within.refl _ _
    | with_reducible apply Within.next (k := State.draw_frame _ _)
    | with_reducible apply Within.next (k := State.retireUnit_frame _ _ _ _)
    | with_reducible apply Within.next_foldl
    | with_reducible apply Within.next_foldl1
    | with_reducible apply Within.next_foldl2
    | with_reducible intro _
    | split
    | dsimp only
    | exact (rfl : (_ : Nat) = _))

theorem State.releaseTx_frame (s : State) (port : Nat) : Within 0xc010 s (State.releaseTx s port) := by
  unfold State.releaseTx
  repeat' (first
    | with_reducible exact Within.refl _ _
    | with_reducible apply Within.next (k := State.set_frame _ _ _)
    | split
    | dsimp only
    | with_reducible apply Within.upd_prep
    | with_reducible apply Within.upd_wire
    | exact (rfl : (_ : Nat) = _))

theorem State.releaseBlock_frame (s : State) (unit : Nat) (port : Nat) : Within 0x1c010 s (State.releaseBlock s unit port) := by
  unfold State.releaseBlock
  repeat' (first
    | with_reducible exact Within.refl _ _
    | with_reducible apply Within.next (k := State.releaseTx_frame _ _)
    | split
    | dsimp only
    | with_reducible apply Within.upd_spec
    | exact (rfl : (_ : Nat) = _))

theorem State.checkFails_frame (s : State) (port : Nat) : Within 0x20000 s (State.checkFails s port) := by
  unfold State.checkFails
  repeat' (first
    | with_reducible exact Within.refl _ _
    | split
    | dsimp only
    | with_reducible apply Within.upd_verdicts
    | exact (rfl : (_ : Nat) = _))

theorem execKeystreamBlockResult_frame (unit : Nat) (port : Nat) (pair : Nat) (ok1 : Bool) (ok2 : Bool) (s : State) : OWithin 0x3c310 s (execKeystreamBlockResult unit port pair ok1 ok2 s) := by
  unfold execKeystreamBlockResult
  repeat' (first
    | with_reducible exact Within.refl _ _
    | with_reducible apply Within.next (k := State.count_frame _ _ _ _)
    | with_reducible apply Within.next (k := State.retireUnit_frame _ _ _ _)
    | with_reducible apply Within.next (k := State.releaseBlock_frame _ _ _)
    | with_reducible apply Within.next (k := State.checkFails_frame _ _)
    | with_reducible apply OWithin.next
    | split
    | dsimp only
    | exact (rfl : (_ : Nat) = _))

theorem execLcClear_frame (ctx : Ctx) (n : Nat) (value : Nat) (s : State) : OWithin 0x410 s (execLcClear ctx n value s) := by
  unfold execLcClear
  repeat' (first
    | with_reducible exact Within.refl _ _
    | with_reducible apply Within.next (k := State.clearRange_frame _ _ _ _ _)
    | with_reducible apply State.cmdWrite_next
    | with_reducible apply OWithin.next
    | with_reducible intro _
    | split
    | dsimp only
    | exact (rfl : (_ : Nat) = _))

theorem State.ingressFrame_frame (s : State) (port : Nat) (tag : Option Nat) (reclassified : Bool) (clocks : List Nat) (b : List Byte) : Within 0xc1810 s (State.ingressFrame s port tag reclassified clocks b) := by
  unfold State.ingressFrame
  repeat' (first
    | with_reducible exact Within.refl _ _
    | with_reducible apply Within.next (k := State.count_frame _ _ _ _)
    | with_reducible apply Within.next (k := State.storeFrame_frame _ _)
    | split
    | dsimp only
    | with_reducible apply Within.upd_records_staging
    | exact (rfl : (_ : Nat) = _))

theorem State.hostFrame_frame (s : State) (tag : Option Nat) (b : List Byte) : Within 0xc1810 s (State.hostFrame s tag b) := by
  unfold State.hostFrame
  repeat' (first
    | with_reducible exact Within.refl _ _
    | with_reducible apply Within.next (k := State.ingressFrame_frame _ _ _ _ _ _)
    | split
    | dsimp only
    | exact (rfl : (_ : Nat) = _))

theorem State.wickSend_frame (s : State) (tag : Nat) (b : List Byte) : Within 0x4c1810 s (State.wickSend s tag b) := by
  unfold State.wickSend
  repeat' (first
    | with_reducible exact Within.refl _ _
    | with_reducible apply Within.next (k := State.count_frame _ _ _ _)
    | with_reducible apply Within.next (k := State.hostFrame_frame _ _ _)
    | split
    | dsimp only
    | with_reducible apply Within.upd_crossing
    | exact (rfl : (_ : Nat) = _))

theorem State.crossOver_frame (s : State) : Within 0x4f1810 s (State.crossOver s) := by
  unfold State.crossOver
  repeat' (first
    | with_reducible exact Within.refl _ _
    | with_reducible apply Within.next (k := State.frameIn_frame _ _ _ _ _)
    | with_reducible apply Within.next (k := State.hostFrame_frame _ _ _)
    | with_reducible apply Within.next_foldl
    | with_reducible apply Within.next_foldl1
    | with_reducible apply Within.next_foldl2
    | with_reducible intro _
    | split
    | dsimp only
    | with_reducible apply Within.upd_crossing
    | exact (rfl : (_ : Nat) = _))

theorem State.hostPass_frame (s : State) (q : Nat) : Within 0x10 s (State.hostPass s q) := by
  unfold State.hostPass
  repeat' (first
    | with_reducible exact Within.refl _ _
    | with_reducible apply Within.next (k := State.countNoFit_frame _ _ _)
    | (with_reducible refine Within.of2 (by assumption) ?_)
    | split
    | dsimp only
    | exact (rfl : (_ : Nat) = _))

theorem State.hostCharge_frame (s : State) (c : Nat) (bytes : Nat) : Within 0x10 s (State.hostCharge s c bytes) := by
  unfold State.hostCharge
  repeat' (first
    | with_reducible exact Within.refl _ _
    | with_reducible apply Within.next (k := State.sets_frame _ _)
    | split
    | dsimp only
    | exact (rfl : (_ : Nat) = _))

theorem State.takeHost_frame (s : State) (e : Entry) : Within 0x3010 s (State.takeHost s e) := by
  unfold State.takeHost
  repeat' (first
    | with_reducible exact Within.refl _ _
    | with_reducible apply Within.next (k := State.set_frame _ _ _)
    | with_reducible apply Within.next (k := State.settle_frame _ _)
    | with_reducible apply Within.next (k := State.unref_frame _ _)
    | with_reducible apply Within.next (k := State.hostCharge_frame _ _ _)
    | split
    | dsimp only
    | with_reducible apply Within.upd_entries
    | exact (rfl : (_ : Nat) = _))

theorem State.hostError_frame (s : State) (e : Entry) (ecc : Nat) (cell : Nat) : Within 0x10b210 s (State.hostError s e ecc cell) := by
  unfold State.hostError
  repeat' (first
    | with_reducible exact Within.refl _ _
    | with_reducible apply Within.next (k := State.count_frame _ _ _ _)
    | with_reducible apply Within.next (k := State.updFrame_frame _ _ _)
    | with_reducible apply Within.next (k := State.dropEntry_frame _ _ _)
    | with_reducible apply Within.next (k := State.cutChain_frame _ _ _)
    | with_reducible apply Within.next (k := State.loseChain_frame _ _)
    | with_reducible apply Within.next (k := State.eccReport_frame _ _)
    | with_reducible apply Within.next_foldl
    | with_reducible apply Within.next_foldl1
    | with_reducible apply Within.next_foldl2
    | with_reducible intro _
    | split
    | dsimp only
    | exact (rfl : (_ : Nat) = _))

theorem State.hostMeets_frame (s : State) (ecc : Nat) (cell : Nat) : Within 0x10b210 s (State.hostMeets s ecc cell) := by
  unfold State.hostMeets
  repeat' (first
    | with_reducible exact Within.refl _ _
    | with_reducible apply Within.next (k := State.hostError_frame _ _ _ _)
    | (with_reducible refine Within.of2 (by assumption) ?_)
    | split
    | dsimp only
    | exact (rfl : (_ : Nat) = _))

theorem execFrameTransmitStart_frame (port : Nat) (ecc : Nat) (cell : Nat) (s : State) : OWithin 0x2000000211f310 s (execFrameTransmitStart port ecc cell s) := by
  unfold execFrameTransmitStart
  repeat' (first
    | with_reducible exact Within.refl _ _
    | with_reducible apply Within.next (k := State.set_frame _ _ _)
    | with_reducible apply Within.next (k := State.count_frame _ _ _ _)
    | with_reducible apply Within.next (k := State.dropEntry_frame _ _ _)
    | with_reducible apply Within.next (k := State.rehold_frame _ _)
    | with_reducible apply Within.next (k := State.removeHead_frame _ _ _)
    | with_reducible apply Within.next (k := State.pick_frame _ _ _)
    | with_reducible apply Within.next (k := State.useNumber_frame _ _)
    | with_reducible apply Within.next (k := State.startPicked_frame _ _ _ _ _ _)
    | with_reducible apply Within.next (k := State.hostMeets_frame _ _ _)
    | with_reducible apply OWithin.next
    | (with_reducible refine Within.of2 (by assumption) ?_)
    | split
    | dsimp only
    | exact (rfl : (_ : Nat) = _))

end Sys2Proof.Machine
end

