-- ==== Sys2Proof/Laws/FrameUnits.lean ====
section
/-! SUPPORT. What the operations of outputs, memory, events, the vault, the link, claims and channels can touch: one law for each, with the parts of the state that it may change as bits of a mask
in the order of `Part`, and that it keeps the canonical forms. -/
set_option Elab.async false
namespace Sys2Proof.Machine

theorem State.rampSettle_frame (s : State) : Within 0x10 s (State.rampSettle s) := by
  unfold State.rampSettle
  repeat' (first
    | with_reducible exact Within.refl _ _
    | with_reducible apply Within.next (k := State.set_frame _ _ _)
    | split
    | dsimp only
    | exact (rfl : (_ : Nat) = _))

theorem State.cdOpenNow_frame (s : State) (k : Nat) : Within 0x10 s (State.cdOpenNow s k) := by
  unfold State.cdOpenNow
  repeat' (first
    | with_reducible exact Within.refl _ _
    | with_reducible apply Within.next (k := State.sets_frame _ _)
    | with_reducible apply Within.next (k := State.rampSettle_frame _)
    | split
    | dsimp only
    | exact (rfl : (_ : Nat) = _))

theorem State.s2Switch_frame (s : State) (v : Nat) : Within 0x10 s (State.s2Switch s v) := by
  unfold State.s2Switch
  repeat' (first
    | with_reducible exact Within.refl _ _
    | with_reducible apply Within.next (k := State.sets_frame _ _)
    | split
    | dsimp only
    | exact (rfl : (_ : Nat) = _))

theorem State.cdOpen_frame (s : State) (k : Nat) : Within 0x10 s (State.cdOpen s k) := by
  unfold State.cdOpen
  repeat' (first
    | with_reducible exact Within.refl _ _
    | with_reducible apply Within.next (k := State.set_frame _ _ _)
    | with_reducible apply Within.next (k := State.sets_frame _ _)
    | with_reducible apply Within.next (k := State.cdOpenNow_frame _ _)
    | with_reducible apply Within.next (k := State.s2Switch_frame _ _)
    | split
    | dsimp only
    | exact (rfl : (_ : Nat) = _))

theorem State.cdClose_frame (s : State) (k : Nat) : Within 0x10 s (State.cdClose s k) := by
  unfold State.cdClose
  repeat' (first
    | with_reducible exact Within.refl _ _
    | with_reducible apply Within.next (k := State.sets_frame _ _)
    | with_reducible apply Within.next (k := State.rampSettle_frame _)
    | split
    | dsimp only
    | exact (rfl : (_ : Nat) = _))

theorem State.cdSettle_frame (s : State) : Within 0x10 s (State.cdSettle s) := by
  unfold State.cdSettle
  repeat' (first
    | with_reducible exact Within.refl _ _
    | with_reducible apply Within.next (k := State.cdOpenNow_frame _ _)
    | with_reducible apply Within.next_foldl
    | with_reducible apply Within.next_foldl1
    | with_reducible apply Within.next_foldl2
    | with_reducible intro _
    | split
    | dsimp only
    | exact (rfl : (_ : Nat) = _))

theorem State.drive_frame (s : State) (o : Nat) (v : Nat) : Within 0x10 s (State.drive s o v) := by
  unfold State.drive
  repeat' (first
    | with_reducible exact Within.refl _ _
    | with_reducible apply Within.next (k := State.set_frame _ _ _)
    | with_reducible apply Within.next (k := State.s2Switch_frame _ _)
    | with_reducible apply Within.next (k := State.cdOpen_frame _ _)
    | with_reducible apply Within.next (k := State.cdClose_frame _ _)
    | split
    | dsimp only
    | exact (rfl : (_ : Nat) = _))

theorem State.driveSafe_frame (s : State) (g : Nat) : Within 0x10 s (State.driveSafe s g) := by
  unfold State.driveSafe
  repeat' (first
    | with_reducible exact Within.refl _ _
    | with_reducible apply Within.next (k := State.drive_frame _ _ _)
    | with_reducible apply Within.next_foldl
    | with_reducible apply Within.next_foldl1
    | with_reducible apply Within.next_foldl2
    | with_reducible intro _
    | split
    | dsimp only
    | exact (rfl : (_ : Nat) = _))

theorem State.driveRelease_frame (s : State) (g : Nat) : Within 0x10 s (State.driveRelease s g) := by
  unfold State.driveRelease
  repeat' (first
    | with_reducible exact Within.refl _ _
    | with_reducible apply Within.next (k := State.drive_frame _ _ _)
    | with_reducible apply Within.next_foldl
    | with_reducible apply Within.next_foldl1
    | with_reducible apply Within.next_foldl2
    | with_reducible intro _
    | split
    | dsimp only
    | exact (rfl : (_ : Nat) = _))

theorem State.driveTaken_frame (s : State) (g : Nat) : Within 0x10 s (State.driveTaken s g) := by
  unfold State.driveTaken
  repeat' (first
    | with_reducible exact Within.refl _ _
    | with_reducible apply Within.next (k := State.drive_frame _ _ _)
    | with_reducible apply Within.next_foldl
    | with_reducible apply Within.next_foldl1
    | with_reducible apply Within.next_foldl2
    | with_reducible intro _
    | split
    | dsimp only
    | exact (rfl : (_ : Nat) = _))

theorem State.groupEnter_frame (s : State) (g : Nat) (st : Nat) : Within 0x10 s (State.groupEnter s g st) := by
  unfold State.groupEnter
  repeat' (first
    | with_reducible exact Within.refl _ _
    | with_reducible apply Within.next (k := State.set_frame _ _ _)
    | with_reducible apply Within.next (k := State.driveSafe_frame _ _)
    | with_reducible apply Within.next (k := State.driveRelease_frame _ _)
    | with_reducible apply Within.next (k := State.driveTaken_frame _ _)
    | split
    | dsimp only
    | exact (rfl : (_ : Nat) = _))

theorem State.decideGroup_frame (s : State) (loss : Bool) (g : Nat) : Within 0x110 s (State.decideGroup s loss g) := by
  unfold State.decideGroup
  repeat' (first
    | with_reducible exact Within.refl _ _
    | with_reducible apply Within.next (k := State.set_frame _ _ _)
    | with_reducible apply Within.next (k := State.count_frame _ _ _ _)
    | with_reducible apply Within.next (k := State.pulse_frame _ _ _)
    | with_reducible apply Within.next (k := State.groupEnter_frame _ _ _)
    | with_reducible apply Within.next_foldl
    | with_reducible apply Within.next_foldl1
    | with_reducible apply Within.next_foldl2
    | with_reducible intro _
    | split
    | dsimp only
    | exact (rfl : (_ : Nat) = _))

theorem State.decideOwners_frame (s : State) (loss : Bool) : Within 0x110 s (State.decideOwners s loss) := by
  unfold State.decideOwners
  repeat' (first
    | with_reducible exact Within.refl _ _
    | with_reducible apply Within.next (k := State.decideGroup_frame _ _ _)
    | with_reducible apply Within.next_foldl
    | with_reducible apply Within.next_foldl1
    | with_reducible apply Within.next_foldl2
    | with_reducible intro _
    | split
    | dsimp only
    | exact (rfl : (_ : Nat) = _))

theorem State.outputWrite_frame (s : State) (o : Nat) (v : Nat) : Within 0x10 s (State.outputWrite s o v) := by
  unfold State.outputWrite
  repeat' (first
    | with_reducible exact Within.refl _ _
    | with_reducible apply Within.next (k := State.set_frame _ _ _)
    | with_reducible apply Within.next (k := State.drive_frame _ _ _)
    | split
    | dsimp only
    | exact (rfl : (_ : Nat) = _))

theorem State.sendTwin_frame (s : State) (type : Nat) : Within 0x4c1850 s (State.sendTwin s type) := by
  unfold State.sendTwin
  repeat' (first
    | with_reducible exact Within.refl _ _
    | with_reducible apply Within.next (k := State.set_frame _ _ _)
    | with_reducible apply Within.next (k := State.setBlob_frame _ _ _)
    | with_reducible apply Within.next (k := State.wickSend_frame _ _ _)
    | split
    | dsimp only
    | exact (rfl : (_ : Nat) = _))

theorem State.twinChange_frame (old : State) (s : State) : Within 0x4c1850 s (State.twinChange old s) := by
  unfold State.twinChange
  repeat' (first
    | with_reducible exact Within.refl _ _
    | with_reducible apply Within.next (k := State.sendTwin_frame _ _)
    | split
    | dsimp only
    | exact (rfl : (_ : Nat) = _))

theorem State.claimsGone_frame (s : State) (c : Nat) : Within 0x10 s (State.claimsGone s c) := by
  unfold State.claimsGone
  repeat' (first
    | with_reducible exact Within.refl _ _
    | with_reducible apply Within.next (k := State.sets_frame _ _)
    | with_reducible apply Within.next_foldl
    | with_reducible apply Within.next_foldl1
    | with_reducible apply Within.next_foldl2
    | with_reducible intro _
    | split
    | dsimp only
    | exact (rfl : (_ : Nat) = _))

theorem State.claimsBack_frame (s : State) (c : Nat) : Within 0x10 s (State.claimsBack s c) := by
  unfold State.claimsBack
  repeat' (first
    | with_reducible exact Within.refl _ _
    | with_reducible apply Within.next (k := State.set_frame _ _ _)
    | with_reducible apply Within.next_foldl
    | with_reducible apply Within.next_foldl1
    | with_reducible apply Within.next_foldl2
    | with_reducible intro _
    | split
    | dsimp only
    | exact (rfl : (_ : Nat) = _))

theorem State.clusterLeaves_frame (s : State) (c : Nat) (st : Nat) : Within 0x10 s (State.clusterLeaves s c st) := by
  unfold State.clusterLeaves
  repeat' (first
    | with_reducible exact Within.refl _ _
    | with_reducible apply Within.next (k := State.set_frame _ _ _)
    | with_reducible apply Within.next (k := State.claimsGone_frame _ _)
    | split
    | dsimp only
    | exact (rfl : (_ : Nat) = _))

theorem State.outputsLose_frame (s : State) : Within 0x4c1950 s (State.outputsLose s) := by
  unfold State.outputsLose
  repeat' (first
    | with_reducible exact Within.refl _ _
    | with_reducible apply Within.next (k := State.pulse_frame _ _ _)
    | with_reducible apply Within.next (k := State.groupEnter_frame _ _ _)
    | with_reducible apply Within.next (k := State.decideOwners_frame _ _)
    | with_reducible apply Within.next (k := State.sendTwin_frame _ _)
    | with_reducible apply Within.next (k := State.clusterLeaves_frame _ _ _)
    | with_reducible apply Within.next_foldl
    | with_reducible apply Within.next_foldl1
    | with_reducible apply Within.next_foldl2
    | with_reducible intro _
    | split
    | dsimp only
    | exact (rfl : (_ : Nat) = _))

theorem State.enterMode_frame (s : State) (m : Mode) : Within 0x112 s (State.enterMode s m) := by
  unfold State.enterMode
  repeat' (first
    | with_reducible exact Within.refl _ _
    | with_reducible apply Within.next (k := State.sets_frame _ _)
    | with_reducible apply Within.next (k := State.pulse_frame _ _ _)
    | split
    | dsimp only
    | with_reducible apply Within.upd_mode
    | exact (rfl : (_ : Nat) = _))

theorem State.applyStep_frame (s : State) : Within 0x110 s (State.applyStep s) := by
  unfold State.applyStep
  repeat' (first
    | with_reducible exact Within.refl _ _
    | with_reducible apply Within.next (k := State.set_frame _ _ _)
    | with_reducible apply Within.next (k := State.count_frame _ _ _ _)
    | with_reducible apply Within.next (k := State.pulse_frame _ _ _)
    | with_reducible apply Within.next (k := State.setFloor_frame _ _)
    | with_reducible apply Within.next (k := State.recapacity_frame _)
    | split
    | dsimp only
    | exact (rfl : (_ : Nat) = _))

theorem State.snuff_frame (s : State) (cls : Nat) (unit : Nat) (code : Nat) (address : Nat) (inst : Nat) (detail : List Byte) : Within 0x24d7b52 s (State.snuff s cls unit code address inst detail) := by
  unfold State.snuff
  repeat' (first
    | with_reducible exact Within.refl _ _
    | with_reducible apply Within.next (k := State.set_frame _ _ _)
    | with_reducible apply Within.next (k := State.sets_frame _ _)
    | with_reducible apply Within.next (k := State.report_frame _ _)
    | with_reducible apply Within.next (k := State.portsSnuff_frame _)
    | with_reducible apply Within.next (k := State.twinChange_frame _ _)
    | with_reducible apply Within.next (k := State.outputsLose_frame _)
    | with_reducible apply Within.next (k := State.enterMode_frame _ _)
    | split
    | dsimp only
    | exact (rfl : (_ : Nat) = _))

theorem State.setBytes_frame (s : State) (a : Nat) (b : List Byte) : Within 0x100000000 s (s.setBytes a b) :=
  Within.mem_only (Within.refl _ s) (Mem.wf_putAll _ a b) rfl

theorem State.eraseBytes_frame (s : State) (a n : Nat) : Within 0x100000000 s (s.eraseBytes a n) :=
  Within.mem_only (Within.refl _ s) (Mem.wf_filter _ _) rfl

theorem State.initGranule_frame (s : State) (g : Nat) : Within 0x500000000 s (State.initGranule s g) := by
  unfold State.initGranule
  repeat' (first
    | with_reducible exact Within.refl _ _
    | with_reducible apply Within.next (k := State.eraseBytes_frame _ _ _)
    | split
    | dsimp only
    | with_reducible apply Within.upd_granules
    | exact (rfl : (_ : Nat) = _))

theorem State.tagLine_frame (s : State) (l : Nat) : Within 0x400000000 s (State.tagLine s l) := by
  unfold State.tagLine
  repeat' (first
    | with_reducible exact Within.refl _ _
    | split
    | dsimp only
    | with_reducible apply Within.upd_granules
    | exact (rfl : (_ : Nat) = _))

theorem State.tagFailure_frame (s : State) (line : Nat) (kind : Nat) (k : Nat) (init : Nat) : Within 0x24d7b52 s (State.tagFailure s line kind k init) := by
  unfold State.tagFailure
  repeat' (first
    | with_reducible exact Within.refl _ _
    | with_reducible apply Within.next (k := State.sets_frame _ _)
    | with_reducible apply Within.next (k := State.snuff_frame _ _ _ _ _ _ _)
    | split
    | dsimp only
    | exact (rfl : (_ : Nat) = _))

theorem State.refuseAccess_frame (s : State) (r : Refused) : Within 0x10 s (s.refuseAccess r) := by
  cases r with
  | bus => exact Within.refl _ _
  | counted r => exact State.count_frame s r _ _

theorem State.memRead_frame (s : State) (init : Nat) (a : Nat) (n : Nat) (tamper : Bool) : Within 0x24d7b52 s (State.memRead s init a n tamper).2 := by
  unfold State.memRead
  repeat' (first
    | with_reducible exact Within.refl _ _
    | with_reducible apply Within.next (k := State.tagFailure_frame _ _ _ _ _)
    | with_reducible apply Within.next (k := State.refuseAccess_frame _ _)
    | split
    | dsimp only
    | exact (rfl : (_ : Nat) = _))

theorem State.memWrite_frame (s : State) (init : Nat) (a : Nat) (b : List Byte) (tamper : Bool) (closing : Bool) : Within 0x7024d7b52 s (State.memWrite s init a b tamper closing).2 := by
  unfold State.memWrite
  repeat' (first
    | with_reducible exact Within.refl _ _
    | with_reducible apply Within.next (k := State.count_frame _ _ _ _)
    | with_reducible apply Within.next (k := State.setBytes_frame _ _ _)
    | with_reducible apply Within.next (k := State.initGranule_frame _ _)
    | with_reducible apply Within.next (k := State.tagLine_frame _ _)
    | with_reducible apply Within.next (k := State.tagFailure_frame _ _ _ _ _)
    | with_reducible apply Within.next (k := State.refuseAccess_frame _ _)
    | with_reducible apply Within.next_foldl
    | with_reducible apply Within.next_foldl1
    | with_reducible apply Within.next_foldl2
    | with_reducible intro _
    | split
    | dsimp only
    | with_reducible apply Within.upd_flashLines
    | exact (rfl : (_ : Nat) = _))

theorem execEvPulse_frame (ctx : Ctx) (value : Nat) (s : State) : OWithin 0x510 s (execEvPulse ctx value s) := by
  unfold execEvPulse
  repeat' (first
    | with_reducible exact Within.refl _ _
    | with_reducible apply State.cmdWrite_next
    | with_reducible apply Within.next (k := State.pulseLine_frame _ _ _)
    | with_reducible apply OWithin.next
    | with_reducible intro _
    | split
    | dsimp only
    | exact (rfl : (_ : Nat) = _))

theorem execEventSidebandDeliver_frame (toWick : Bool) (input : Nat) (s : State) : OWithin 0x110 s (execEventSidebandDeliver toWick input s) := by
  unfold execEventSidebandDeliver
  repeat' (first
    | with_reducible exact Within.refl _ _
    | with_reducible apply Within.next (k := State.count_frame _ _ _ _)
    | with_reducible apply Within.next (k := State.deliver_frame _ _ _)
    | with_reducible apply OWithin.next
    | split
    | dsimp only
    | with_reducible apply Within.upd_pulses
    | exact (rfl : (_ : Nat) = _))

theorem execEcntClear_frame (ctx : Ctx) (i : Nat) (value : Nat) (s : State) : OWithin 0x410 s (execEcntClear ctx i value s) := by
  unfold execEcntClear
  repeat' (first
    | with_reducible exact Within.refl _ _
    | with_reducible apply Within.next (k := State.set_frame _ _ _)
    | with_reducible apply State.cmdWrite_next
    | with_reducible apply OWithin.next
    | with_reducible intro _
    | split
    | dsimp only
    | exact (rfl : (_ : Nat) = _))

theorem State.irqTake_frame (s : State) (target : Nat) : Within 0x10 s (State.irqTake s target).2 := by
  unfold State.irqTake
  repeat' (first
    | with_reducible exact Within.refl _ _
    | with_reducible apply Within.next (k := State.set_frame _ _ _)
    | split
    | dsimp only
    | exact (rfl : (_ : Nat) = _))

theorem State.irqGive_frame (s : State) (target : Nat) (source : Nat) : Within 0x10 s (State.irqGive s target source) := by
  unfold State.irqGive
  repeat' (first
    | with_reducible exact Within.refl _ _
    | with_reducible apply Within.next (k := State.set_frame _ _ _)
    | split
    | dsimp only
    | exact (rfl : (_ : Nat) = _))

theorem execIrqClaim_frame (target : Nat) (s : State) : OWithin 0x410 s (execIrqClaim target s) := by
  unfold execIrqClaim
  repeat' (first
    | with_reducible exact Within.refl _ _
    | with_reducible apply Within.next (k := State.reply_frame _ _ _ _)
    | with_reducible apply Within.next (k := State.irqTake_frame _ _)
    | with_reducible apply OWithin.next
    | split
    | dsimp only
    | exact (rfl : (_ : Nat) = _))

theorem execIrqComplete_frame (target : Nat) (source : Nat) (s : State) : OWithin 0x410 s (execIrqComplete target source s) := by
  unfold execIrqComplete
  repeat' (first
    | with_reducible exact Within.refl _ _
    | with_reducible apply Within.next (k := State.done_frame _ _)
    | with_reducible apply Within.next (k := State.irqGive_frame _ _ _)
    | with_reducible apply OWithin.next
    | split
    | dsimp only
    | exact (rfl : (_ : Nat) = _))

theorem State.placeKey_frame (s : State) (k : VaultSlot) : Within 0x8000000 s (State.placeKey s k) := by
  unfold State.placeKey
  repeat' (first
    | with_reducible exact Within.refl _ _
    | split
    | dsimp only
    | with_reducible apply Within.upd_vault
    | exact (rfl : (_ : Nat) = _))

theorem State.emptyKey_frame (s : State) (n : Nat) : Within 0x8000000 s (State.emptyKey s n) := by
  unfold State.emptyKey
  repeat' (first
    | with_reducible exact Within.refl _ _
    | split
    | dsimp only
    | with_reducible apply Within.upd_vault
    | exact (rfl : (_ : Nat) = _))

theorem State.reseed_frame (s : State) : Within 0x10 s (State.reseed s) := by
  unfold State.reseed
  repeat' (first
    | with_reducible exact Within.refl _ _
    | with_reducible apply Within.next (k := State.set_frame _ _ _)
    | with_reducible apply Within.next (k := State.count_frame _ _ _ _)
    | split
    | dsimp only
    | exact (rfl : (_ : Nat) = _))

theorem State.drbgRequest_frame (s : State) : Within 0x10 s (State.drbgRequest s) := by
  unfold State.drbgRequest
  repeat' (first
    | with_reducible exact Within.refl _ _
    | with_reducible apply Within.next (k := State.set_frame _ _ _)
    | with_reducible apply Within.next (k := State.reseed_frame _)
    | split
    | dsimp only
    | exact (rfl : (_ : Nat) = _))

theorem State.random_frame (s : State) (n : Nat) : Within 0x810 s (State.random s n).2 := by
  unfold State.random
  repeat' (first
    | with_reducible exact Within.refl _ _
    | with_reducible apply Within.next (k := State.draw_frame _ _)
    | with_reducible apply Within.next (k := State.drbgRequest_frame _)
    | split
    | dsimp only
    | exact (rfl : (_ : Nat) = _))

theorem State.newKey_frame (s : State) (alg : Nat) : Within 0x810 s (State.newKey s alg).2 := by
  unfold State.newKey
  repeat' (first
    | with_reducible exact Within.refl _ _
    | with_reducible apply Within.next (k := State.draw_frame _ _)
    | with_reducible apply Within.next (k := State.random_frame _ _)
    | split
    | dsimp only
    | exact (rfl : (_ : Nat) = _))

theorem State.vaultOutput_frame (s : State) (ctx : Ctx) (b : List Byte) : Within 0x50 s (State.vaultOutput s ctx b) := by
  unfold State.vaultOutput
  repeat' (first
    | with_reducible exact Within.refl _ _
    | with_reducible apply Within.next (k := State.set_frame _ _ _)
    | with_reducible apply Within.next (k := State.setBlob_frame _ _ _)
    | split
    | dsimp only
    | exact (rfl : (_ : Nat) = _))

theorem State.crUnloadSlot_frame (s : State) (n : Nat) : Within 0xc0000400 s (State.crUnloadSlot s n) := by
  unfold State.crUnloadSlot
  repeat' (first
    | with_reducible exact Within.refl _ _
    | with_reducible apply Within.next (k := State.done_frame _ _)
    | split
    | dsimp only
    | with_reducible apply Within.upd_crContexts_crJobs
    | exact (rfl : (_ : Nat) = _))

theorem State.derivedLen_frame (s : State) (alg : Nat) : Within 0x800 s (State.derivedLen s alg).2 := by
  unfold State.derivedLen
  repeat' (first
    | with_reducible exact Within.refl _ _
    | with_reducible apply Within.next (k := State.draw_frame _ _)
    | split
    | dsimp only
    | exact (rfl : (_ : Nat) = _))

theorem State.vaultOperate_frame (s : State) (c : VaultCmd) : Within 0xc8000c50 s (State.vaultOperate s c).2 := by
  unfold State.vaultOperate
  repeat' (first
    | with_reducible exact Within.refl _ _
    | with_reducible apply Within.next (k := State.set_frame _ _ _)
    | with_reducible apply Within.next (k := State.placeKey_frame _ _)
    | with_reducible apply Within.next (k := State.emptyKey_frame _ _)
    | with_reducible apply Within.next (k := State.reseed_frame _)
    | with_reducible apply Within.next (k := State.drbgRequest_frame _)
    | with_reducible apply Within.next (k := State.random_frame _ _)
    | with_reducible apply Within.next (k := State.newKey_frame _ _)
    | with_reducible apply Within.next (k := State.vaultOutput_frame _ _ _)
    | with_reducible apply Within.next (k := State.crUnloadSlot_frame _ _)
    | with_reducible apply Within.next (k := State.derivedLen_frame _ _)
    | split
    | dsimp only
    | exact (rfl : (_ : Nat) = _))

theorem State.vaultRun_frame (s : State) (c : VaultCmd) : Within 0xc8000c50 s (State.vaultRun s c).2 := by
  unfold State.vaultRun
  repeat' (first
    | with_reducible exact Within.refl _ _
    | with_reducible apply Within.next (k := State.vaultOperate_frame _ _)
    | split
    | dsimp only
    | exact (rfl : (_ : Nat) = _))

theorem State.vaultFinish_frame (s : State) (r : VaultReq) (code : Nat) : Within 0x50 s (State.vaultFinish s r code) := by
  unfold State.vaultFinish
  repeat' (first
    | with_reducible exact Within.refl _ _
    | with_reducible apply Within.next (k := State.set_frame _ _ _)
    | with_reducible apply Within.next (k := State.clearBlob_frame _ _)
    | split
    | dsimp only
    | exact (rfl : (_ : Nat) = _))

theorem State.vaultSubmit_frame (s : State) (r : VaultReq) : Within 0x14000050 s (State.vaultSubmit s r) := by
  unfold State.vaultSubmit
  repeat' (first
    | with_reducible exact Within.refl _ _
    | with_reducible apply Within.next (k := State.set_frame _ _ _)
    | with_reducible apply Within.next (k := State.vaultFinish_frame _ _ _)
    | split
    | dsimp only
    | with_reducible apply Within.upd_installs
    | with_reducible apply Within.upd_vaultWaiting
    | exact (rfl : (_ : Nat) = _))

theorem State.vaultFails_frame (s : State) : Within 0x34000050 s (State.vaultFails s) := by
  unfold State.vaultFails
  repeat' (first
    | with_reducible exact Within.refl _ _
    | with_reducible apply Within.next (k := State.set_frame _ _ _)
    | with_reducible apply Within.next (k := State.vaultFinish_frame _ _ _)
    | with_reducible apply Within.next_foldl
    | with_reducible apply Within.next_foldl1
    | with_reducible apply Within.next_foldl2
    | with_reducible intro _
    | split
    | dsimp only
    | with_reducible apply Within.upd_installs_vaultWaiting_vaultRunning
    | exact (rfl : (_ : Nat) = _))

theorem State.vaultTake_frame (s : State) (r : VaultReq) : Within 0x20000010 s (State.vaultTake s r) := by
  unfold State.vaultTake
  repeat' (first
    | with_reducible exact Within.refl _ _
    | with_reducible apply Within.next (k := State.set_frame _ _ _)
    | split
    | dsimp only
    | with_reducible apply Within.upd_vaultRunning
    | exact (rfl : (_ : Nat) = _))

theorem State.vaultNext_frame (s : State) : Within 0x34000010 s (State.vaultNext s) := by
  unfold State.vaultNext
  repeat' (first
    | with_reducible exact Within.refl _ _
    | with_reducible apply Within.next (k := State.set_frame _ _ _)
    | with_reducible apply Within.next (k := State.vaultTake_frame _ _)
    | split
    | dsimp only
    | with_reducible apply Within.upd_installs
    | with_reducible apply Within.upd_vaultWaiting
    | exact (rfl : (_ : Nat) = _))

theorem execVaultCommandStart_frame (s : State) : OWithin 0x34000010 s (execVaultCommandStart s) := by
  unfold execVaultCommandStart
  repeat' (first
    | with_reducible exact Within.refl _ _
    | with_reducible apply Within.next (k := State.vaultNext_frame _)
    | with_reducible apply OWithin.next
    | split
    | dsimp only
    | exact (rfl : (_ : Nat) = _))

theorem State.vaultIdle_frame (s : State) : Within 0x20000010 s (State.vaultIdle s) := by
  unfold State.vaultIdle
  repeat' (first
    | with_reducible exact Within.refl _ _
    | with_reducible apply Within.next (k := State.set_frame _ _ _)
    | split
    | dsimp only
    | with_reducible apply Within.upd_vaultRunning
    | exact (rfl : (_ : Nat) = _))

theorem State.crLoad_frame (s : State) (context : Nat) (slot : Nat) (mode : Nat) (field : Nat) (start : Nat) (last : Nat) : Within 0x40000000 s (State.crLoad s context slot mode field start last).2 := by
  unfold State.crLoad
  repeat' (first
    | with_reducible exact Within.refl _ _
    | split
    | dsimp only
    | with_reducible apply Within.upd_crContexts
    | exact (rfl : (_ : Nat) = _))

theorem State.gwKeyLoad_frame (s : State) (k : Nat) (slot : Nat) : Within 0x1000000000 s (State.gwKeyLoad s k slot).2 := by
  unfold State.gwKeyLoad
  repeat' (first
    | with_reducible exact Within.refl _ _
    | split
    | dsimp only
    | with_reducible apply Within.upd_gwKeys
    | exact (rfl : (_ : Nat) = _))

theorem execVaultCommandDone_frame (s : State) : OWithin 0x10e8000c50 s (execVaultCommandDone s) := by
  unfold execVaultCommandDone
  repeat' (first
    | with_reducible exact Within.refl _ _
    | with_reducible apply Within.next (k := State.vaultRun_frame _ _)
    | with_reducible apply Within.next (k := State.vaultFinish_frame _ _ _)
    | with_reducible apply Within.next (k := State.vaultIdle_frame _)
    | with_reducible apply Within.next (k := State.crLoad_frame _ _ _ _ _ _ _)
    | with_reducible apply Within.next (k := State.gwKeyLoad_frame _ _ _)
    | with_reducible apply OWithin.next
    | split
    | dsimp only
    | exact (rfl : (_ : Nat) = _))

theorem State.vaultWrite_frame (s : State) (ctx : Ctx) (code : Nat) : Within 0x14000450 s (State.vaultWrite s ctx code) := by
  unfold State.vaultWrite
  repeat' (first
    | with_reducible exact Within.refl _ _
    | with_reducible apply State.cmdWrite_next
    | with_reducible apply Within.next (k := State.vaultSubmit_frame _ _)
    | with_reducible intro _
    | split
    | dsimp only
    | exact (rfl : (_ : Nat) = _))

theorem execVaultGenerate_frame (ctx : Ctx) (s : State) : OWithin 0x14000450 s (execVaultGenerate ctx s) := by
  unfold execVaultGenerate
  repeat' (first
    | with_reducible exact Within.refl _ _
    | with_reducible apply Within.next (k := State.vaultWrite_frame _ _ _)
    | with_reducible apply OWithin.next
    | split
    | dsimp only
    | exact (rfl : (_ : Nat) = _))

theorem execVaultImportClear_frame (ctx : Ctx) (s : State) : OWithin 0x14000450 s (execVaultImportClear ctx s) := by
  unfold execVaultImportClear
  repeat' (first
    | with_reducible exact Within.refl _ _
    | with_reducible apply Within.next (k := State.vaultWrite_frame _ _ _)
    | with_reducible apply OWithin.next
    | split
    | dsimp only
    | exact (rfl : (_ : Nat) = _))

theorem execVaultImportWrapped_frame (ctx : Ctx) (s : State) : OWithin 0x14000450 s (execVaultImportWrapped ctx s) := by
  unfold execVaultImportWrapped
  repeat' (first
    | with_reducible exact Within.refl _ _
    | with_reducible apply Within.next (k := State.vaultWrite_frame _ _ _)
    | with_reducible apply OWithin.next
    | split
    | dsimp only
    | exact (rfl : (_ : Nat) = _))

theorem execVaultExportWrapped_frame (ctx : Ctx) (s : State) : OWithin 0x14000450 s (execVaultExportWrapped ctx s) := by
  unfold execVaultExportWrapped
  repeat' (first
    | with_reducible exact Within.refl _ _
    | with_reducible apply Within.next (k := State.vaultWrite_frame _ _ _)
    | with_reducible apply OWithin.next
    | split
    | dsimp only
    | exact (rfl : (_ : Nat) = _))

theorem execVaultNarrowPolicy_frame (ctx : Ctx) (s : State) : OWithin 0x14000450 s (execVaultNarrowPolicy ctx s) := by
  unfold execVaultNarrowPolicy
  repeat' (first
    | with_reducible exact Within.refl _ _
    | with_reducible apply Within.next (k := State.vaultWrite_frame _ _ _)
    | with_reducible apply OWithin.next
    | split
    | dsimp only
    | exact (rfl : (_ : Nat) = _))

theorem execVaultDestroy_frame (ctx : Ctx) (s : State) : OWithin 0x14000450 s (execVaultDestroy ctx s) := by
  unfold execVaultDestroy
  repeat' (first
    | with_reducible exact Within.refl _ _
    | with_reducible apply Within.next (k := State.vaultWrite_frame _ _ _)
    | with_reducible apply OWithin.next
    | split
    | dsimp only
    | exact (rfl : (_ : Nat) = _))

theorem execVaultSign_frame (ctx : Ctx) (s : State) : OWithin 0x14000450 s (execVaultSign ctx s) := by
  unfold execVaultSign
  repeat' (first
    | with_reducible exact Within.refl _ _
    | with_reducible apply Within.next (k := State.vaultWrite_frame _ _ _)
    | with_reducible apply OWithin.next
    | split
    | dsimp only
    | exact (rfl : (_ : Nat) = _))

theorem execVaultVerify_frame (ctx : Ctx) (s : State) : OWithin 0x14000450 s (execVaultVerify ctx s) := by
  unfold execVaultVerify
  repeat' (first
    | with_reducible exact Within.refl _ _
    | with_reducible apply Within.next (k := State.vaultWrite_frame _ _ _)
    | with_reducible apply OWithin.next
    | split
    | dsimp only
    | exact (rfl : (_ : Nat) = _))

theorem execVaultEcdh_frame (ctx : Ctx) (s : State) : OWithin 0x14000450 s (execVaultEcdh ctx s) := by
  unfold execVaultEcdh
  repeat' (first
    | with_reducible exact Within.refl _ _
    | with_reducible apply Within.next (k := State.vaultWrite_frame _ _ _)
    | with_reducible apply OWithin.next
    | split
    | dsimp only
    | exact (rfl : (_ : Nat) = _))

theorem execVaultHkdf_frame (ctx : Ctx) (s : State) : OWithin 0x14000450 s (execVaultHkdf ctx s) := by
  unfold execVaultHkdf
  repeat' (first
    | with_reducible exact Within.refl _ _
    | with_reducible apply Within.next (k := State.vaultWrite_frame _ _ _)
    | with_reducible apply OWithin.next
    | split
    | dsimp only
    | exact (rfl : (_ : Nat) = _))

theorem execVaultKdfCtr_frame (ctx : Ctx) (s : State) : OWithin 0x14000450 s (execVaultKdfCtr ctx s) := by
  unfold execVaultKdfCtr
  repeat' (first
    | with_reducible exact Within.refl _ _
    | with_reducible apply Within.next (k := State.vaultWrite_frame _ _ _)
    | with_reducible apply OWithin.next
    | split
    | dsimp only
    | exact (rfl : (_ : Nat) = _))

theorem execVaultRandom_frame (ctx : Ctx) (s : State) : OWithin 0x14000450 s (execVaultRandom ctx s) := by
  unfold execVaultRandom
  repeat' (first
    | with_reducible exact Within.refl _ _
    | with_reducible apply Within.next (k := State.vaultWrite_frame _ _ _)
    | with_reducible apply OWithin.next
    | split
    | dsimp only
    | exact (rfl : (_ : Nat) = _))

theorem execVaultAttest_frame (ctx : Ctx) (s : State) : OWithin 0x14000450 s (execVaultAttest ctx s) := by
  unfold execVaultAttest
  repeat' (first
    | with_reducible exact Within.refl _ _
    | with_reducible apply Within.next (k := State.vaultWrite_frame _ _ _)
    | with_reducible apply OWithin.next
    | split
    | dsimp only
    | exact (rfl : (_ : Nat) = _))

theorem execEntropyFailure_frame (s : State) : OWithin 0x210 s (execEntropyFailure s) := by
  unfold execEntropyFailure
  repeat' (first
    | with_reducible exact Within.refl _ _
    | with_reducible apply Within.next (k := State.sets_frame _ _)
    | with_reducible apply Within.next (k := State.count_frame _ _ _ _)
    | with_reducible apply Within.next (k := State.reportObj_frame _ _ _ _ _ _ _)
    | with_reducible apply OWithin.next
    | split
    | dsimp only
    | exact (rfl : (_ : Nat) = _))

theorem execEntropyRecover_frame (s : State) : OWithin 0x10 s (execEntropyRecover s) := by
  unfold execEntropyRecover
  repeat' (first
    | with_reducible exact Within.refl _ _
    | with_reducible apply Within.next (k := State.set_frame _ _ _)
    | with_reducible apply Within.next (k := State.sets_frame _ _)
    | with_reducible apply Within.next (k := State.reseed_frame _)
    | with_reducible apply OWithin.next
    | split
    | dsimp only
    | exact (rfl : (_ : Nat) = _))

theorem State.zeroiseSlots_frame (s : State) : Within 0x18030 s (State.zeroiseSlots s) := by
  unfold State.zeroiseSlots
  repeat' (first
    | with_reducible exact Within.refl _ _
    | with_reducible apply Within.next (k := State.sets_frame _ _)
    | with_reducible apply Within.next_foldl
    | with_reducible apply Within.next_foldl1
    | with_reducible apply Within.next_foldl2
    | with_reducible intro _
    | split
    | dsimp only
    | with_reducible apply Within.upd_pend_prep_spec
    | exact (rfl : (_ : Nat) = _))

theorem State.destroyFor_frame (s : State) (target : Nat) : Within 0xc8018470 s (State.destroyFor s target) := by
  unfold State.destroyFor
  repeat' (first
    | with_reducible exact Within.refl _ _
    | with_reducible apply Within.next (k := State.clearBlob_frame _ _)
    | with_reducible apply Within.next (k := State.done_frame _ _)
    | with_reducible apply Within.next (k := State.zeroiseSlots_frame _)
    | split
    | dsimp only
    | with_reducible apply Within.upd_crContexts_crJobs
    | with_reducible apply Within.upd_vault
    | exact (rfl : (_ : Nat) = _))

theorem State.writeJournal_frame (s : State) (kind : Nat) (src : Nat) (dst : Nat) : Within 0x50 s (State.writeJournal s kind src dst) := by
  unfold State.writeJournal
  repeat' (first
    | with_reducible exact Within.refl _ _
    | with_reducible apply Within.next (k := State.set_frame _ _ _)
    | with_reducible apply Within.next (k := State.setBlob_frame _ _ _)
    | split
    | dsimp only
    | exact (rfl : (_ : Nat) = _))

theorem execLifeCycleTransition_frame (ctx : Ctx) (value : Nat) (s : State) : OWithin 0xdc018470 s (execLifeCycleTransition ctx value s) := by
  unfold execLifeCycleTransition
  repeat' (first
    | with_reducible exact Within.refl _ _
    | with_reducible apply Within.next (k := State.set_frame _ _ _)
    | with_reducible apply Within.next (k := State.sets_frame _ _)
    | with_reducible apply State.cmdWrite_next
    | with_reducible apply Within.next (k := State.vaultFinish_frame _ _ _)
    | with_reducible apply Within.next (k := State.destroyFor_frame _ _)
    | with_reducible apply Within.next (k := State.writeJournal_frame _ _ _ _)
    | with_reducible apply Within.next_foldl
    | with_reducible apply Within.next_foldl1
    | with_reducible apply Within.next_foldl2
    | with_reducible apply OWithin.next
    | with_reducible intro _
    | split
    | dsimp only
    | with_reducible apply Within.upd_installs_vaultWaiting
    | exact (rfl : (_ : Nat) = _))

theorem execTransitionComplete_frame (s : State) : OWithin 0xc8018470 s (execTransitionComplete s) := by
  unfold execTransitionComplete
  repeat' (first
    | with_reducible exact Within.refl _ _
    | with_reducible apply Within.next (k := State.sets_frame _ _)
    | with_reducible apply Within.next (k := State.destroyFor_frame _ _)
    | with_reducible apply Within.next (k := State.writeJournal_frame _ _ _ _)
    | with_reducible apply OWithin.next
    | split
    | dsimp only
    | exact (rfl : (_ : Nat) = _))

theorem State.busError_frame (s : State) (a : Nat) (cause : Nat) : Within 0x4000000000 s (State.busError s a cause) := by
  unfold State.busError
  repeat' (first
    | with_reducible exact Within.refl _ _
    | split
    | dsimp only
    | with_reducible apply Within.upd_bus
    | exact (rfl : (_ : Nat) = _))

theorem State.busOk_frame (s : State) (b : List Byte) : Within 0x4000000000 s (State.busOk s b) := by
  unfold State.busOk
  repeat' (first
    | with_reducible exact Within.refl _ _
    | split
    | dsimp only
    | with_reducible apply Within.upd_bus
    | exact (rfl : (_ : Nat) = _))

theorem State.plicLoad_frame (s : State) (off : Nat) : Within 0x10 s (State.plicLoad s off).2 := by
  unfold State.plicLoad
  repeat' (first
    | with_reducible exact Within.refl _ _
    | with_reducible apply Within.next (k := State.irqTake_frame _ _)
    | split
    | dsimp only
    | exact (rfl : (_ : Nat) = _))

theorem State.plicWrite_frame (s : State) (off : Nat) (v : Nat) : Within 0x10 s (State.plicWrite s off v) := by
  unfold State.plicWrite
  repeat' (first
    | with_reducible exact Within.refl _ _
    | with_reducible apply Within.next (k := State.set_frame _ _ _)
    | with_reducible apply Within.next (k := State.irqGive_frame _ _ _)
    | with_reducible apply Within.next_foldl
    | with_reducible apply Within.next_foldl1
    | with_reducible apply Within.next_foldl2
    | with_reducible intro _
    | split
    | dsimp only
    | exact (rfl : (_ : Nat) = _))

theorem execMemoryRead_frame (init : Nat) (addr : Nat) (len : Nat) (cached : Bool) (tamper : Bool) (s : State) : OWithin 0x60024d7b52 s (execMemoryRead init addr len cached tamper s) := by
  unfold execMemoryRead
  repeat' (first
    | with_reducible exact Within.refl _ _
    | with_reducible apply Within.next (k := State.memRead_frame _ _ _ _ _)
    | with_reducible apply Within.next (k := State.busError_frame _ _ _)
    | with_reducible apply Within.next (k := State.busOk_frame _ _)
    | with_reducible apply Within.next (k := State.plicLoad_frame _ _)
    | with_reducible apply OWithin.next
    | split
    | dsimp only
    | with_reducible apply Within.upd_cache
    | exact (rfl : (_ : Nat) = _))

theorem execMemoryWrite_frame (init : Nat) (addr : Nat) (data : List Byte) (cached : Bool) (tamper : Bool) (s : State) : OWithin 0x67024d7b52 s (execMemoryWrite init addr data cached tamper s) := by
  unfold execMemoryWrite
  repeat' (first
    | with_reducible exact Within.refl _ _
    | with_reducible apply Within.next (k := State.memWrite_frame _ _ _ _ _ _)
    | with_reducible apply Within.next (k := State.busError_frame _ _ _)
    | with_reducible apply Within.next (k := State.busOk_frame _ _)
    | with_reducible apply Within.next (k := State.plicWrite_frame _ _ _)
    | with_reducible apply OWithin.next
    | split
    | dsimp only
    | with_reducible apply Within.upd_cache
    | exact (rfl : (_ : Nat) = _))

theorem State.writeBack_frame (s : State) (c : CacheLine) (closing : Bool) : Within 0x7024d7b52 s (State.writeBack s c closing).2 := by
  unfold State.writeBack
  repeat' (first
    | with_reducible exact Within.refl _ _
    | with_reducible apply Within.next (k := State.memWrite_frame _ _ _ _ _ _)
    | split
    | dsimp only
    | exact (rfl : (_ : Nat) = _))

theorem State.dropLine_frame (s : State) (core : Nat) (line : Nat) : Within 0x2000000000 s (State.dropLine s core line) := by
  unfold State.dropLine
  repeat' (first
    | with_reducible exact Within.refl _ _
    | split
    | dsimp only
    | with_reducible apply Within.upd_cache
    | exact (rfl : (_ : Nat) = _))

theorem State.cboWrite_frame (s : State) (core : Nat) (addr : Nat) (keep : Bool) : Within 0x67024d7b52 s (State.cboWrite s core addr keep) := by
  unfold State.cboWrite
  repeat' (first
    | with_reducible exact Within.refl _ _
    | with_reducible apply Within.next (k := State.busError_frame _ _ _)
    | with_reducible apply Within.next (k := State.busOk_frame _ _)
    | with_reducible apply Within.next (k := State.writeBack_frame _ _ _)
    | with_reducible apply Within.next (k := State.dropLine_frame _ _ _)
    | split
    | dsimp only
    | with_reducible apply Within.upd_cache
    | exact (rfl : (_ : Nat) = _))

theorem execCboClean_frame (core : Nat) (addr : Nat) (s : State) : OWithin 0x67024d7b52 s (execCboClean core addr s) := by
  unfold execCboClean
  repeat' (first
    | with_reducible exact Within.refl _ _
    | with_reducible apply Within.next (k := State.cboWrite_frame _ _ _ _)
    | with_reducible apply OWithin.next
    | split
    | dsimp only
    | exact (rfl : (_ : Nat) = _))

theorem execCboFlush_frame (core : Nat) (addr : Nat) (s : State) : OWithin 0x67024d7b52 s (execCboFlush core addr s) := by
  unfold execCboFlush
  repeat' (first
    | with_reducible exact Within.refl _ _
    | with_reducible apply Within.next (k := State.cboWrite_frame _ _ _ _)
    | with_reducible apply OWithin.next
    | split
    | dsimp only
    | exact (rfl : (_ : Nat) = _))

theorem execCboInval_frame (core : Nat) (addr : Nat) (cbie : Nat) (s : State) : OWithin 0x67024d7b52 s (execCboInval core addr cbie s) := by
  unfold execCboInval
  repeat' (first
    | with_reducible exact Within.refl _ _
    | with_reducible apply Within.next (k := State.busError_frame _ _ _)
    | with_reducible apply Within.next (k := State.busOk_frame _ _)
    | with_reducible apply Within.next (k := State.dropLine_frame _ _ _)
    | with_reducible apply Within.next (k := State.cboWrite_frame _ _ _ _)
    | with_reducible apply OWithin.next
    | split
    | dsimp only
    | exact (rfl : (_ : Nat) = _))

theorem execKeyidProgram_frame (ctx : Ctx) (k : Nat) (s : State) : OWithin 0x14000450 s (execKeyidProgram ctx k s) := by
  unfold execKeyidProgram
  repeat' (first
    | with_reducible exact Within.refl _ _
    | with_reducible apply Within.next (k := State.set_frame _ _ _)
    | with_reducible apply Within.next (k := State.sets_frame _ _)
    | with_reducible apply State.cmdWrite_next
    | with_reducible apply Within.next (k := State.vaultSubmit_frame _ _)
    | with_reducible apply OWithin.next
    | with_reducible intro _
    | split
    | dsimp only
    | exact (rfl : (_ : Nat) = _))

theorem State.kidMake_frame (s : State) (k : Nat) : Within 0x810 s (State.kidMake s k).2.2 := by
  unfold State.kidMake
  repeat' (first
    | with_reducible exact Within.refl _ _
    | with_reducible apply Within.next (k := State.random_frame _ _)
    | split
    | dsimp only
    | exact (rfl : (_ : Nat) = _))

theorem State.kidLoad_frame (s : State) (k : Nat) (key : List Byte) : Within 0x800000010 s (State.kidLoad s k key) := by
  unfold State.kidLoad
  repeat' (first
    | with_reducible exact Within.refl _ _
    | with_reducible apply Within.next (k := State.set_frame _ _ _)
    | split
    | dsimp only
    | with_reducible apply Within.upd_kidKeys
    | exact (rfl : (_ : Nat) = _))

theorem execKeyidProgramDone_frame (s : State) : OWithin 0x820000850 s (execKeyidProgramDone s) := by
  unfold execKeyidProgramDone
  repeat' (first
    | with_reducible exact Within.refl _ _
    | with_reducible apply Within.next (k := State.count_frame _ _ _ _)
    | with_reducible apply Within.next (k := State.vaultFinish_frame _ _ _)
    | with_reducible apply Within.next (k := State.vaultIdle_frame _)
    | with_reducible apply Within.next (k := State.kidMake_frame _ _)
    | with_reducible apply Within.next (k := State.kidLoad_frame _ _ _)
    | with_reducible apply OWithin.next
    | split
    | dsimp only
    | exact (rfl : (_ : Nat) = _))

theorem execKeyidClose_frame (ctx : Ctx) (k : Nat) (s : State) : OWithin 0x410 s (execKeyidClose ctx k s) := by
  unfold execKeyidClose
  repeat' (first
    | with_reducible exact Within.refl _ _
    | with_reducible apply Within.next (k := State.set_frame _ _ _)
    | with_reducible apply Within.next (k := State.sets_frame _ _)
    | with_reducible apply State.cmdWrite_next
    | with_reducible apply OWithin.next
    | with_reducible intro _
    | split
    | dsimp only
    | exact (rfl : (_ : Nat) = _))

theorem execKeyidCloseDone_frame (k : Nat) (s : State) : OWithin 0x27024d7b52 s (execKeyidCloseDone k s) := by
  unfold execKeyidCloseDone
  repeat' (first
    | with_reducible exact Within.refl _ _
    | with_reducible apply Within.next (k := State.sets_frame _ _)
    | with_reducible apply Within.next (k := State.writeBack_frame _ _ _)
    | with_reducible apply Within.next_foldl
    | with_reducible apply Within.next_foldl1
    | with_reducible apply Within.next_foldl2
    | with_reducible apply OWithin.next
    | with_reducible intro _
    | split
    | dsimp only
    | with_reducible apply Within.upd_cache
    | exact (rfl : (_ : Nat) = _))

theorem execKeyidRetire_frame (ctx : Ctx) (k : Nat) (s : State) : OWithin 0x800000410 s (execKeyidRetire ctx k s) := by
  unfold execKeyidRetire
  repeat' (first
    | with_reducible exact Within.refl _ _
    | with_reducible apply Within.next (k := State.set_frame _ _ _)
    | with_reducible apply Within.next (k := State.sets_frame _ _)
    | with_reducible apply State.cmdWrite_next
    | with_reducible apply OWithin.next
    | with_reducible intro _
    | split
    | dsimp only
    | with_reducible apply Within.upd_kidKeys
    | exact (rfl : (_ : Nat) = _))

theorem execFlashErase_frame (ctx : Ctx) (addr : Nat) (s : State) : OWithin 0x410 s (execFlashErase ctx addr s) := by
  unfold execFlashErase
  repeat' (first
    | with_reducible exact Within.refl _ _
    | with_reducible apply Within.next (k := State.set_frame _ _ _)
    | with_reducible apply Within.next (k := State.sets_frame _ _)
    | with_reducible apply State.cmdWrite_next
    | with_reducible apply OWithin.next
    | with_reducible intro _
    | split
    | dsimp only
    | exact (rfl : (_ : Nat) = _))

theorem State.eraseFlash_frame (s : State) (a : Nat) (n : Nat) : Within 0x300000000 s (State.eraseFlash s a n) := by
  unfold State.eraseFlash
  repeat' (first
    | with_reducible exact Within.refl _ _
    | with_reducible apply Within.next (k := State.eraseBytes_frame _ _ _)
    | split
    | dsimp only
    | with_reducible apply Within.upd_flashLines
    | exact (rfl : (_ : Nat) = _))

theorem execFlashEraseDone_frame (s : State) : OWithin 0x300000010 s (execFlashEraseDone s) := by
  unfold execFlashEraseDone
  repeat' (first
    | with_reducible exact Within.refl _ _
    | with_reducible apply Within.next (k := State.sets_frame _ _)
    | with_reducible apply Within.next (k := State.eraseFlash_frame _ _ _)
    | with_reducible apply OWithin.next
    | split
    | dsimp only
    | exact (rfl : (_ : Nat) = _))

theorem execInitSweepGranule_frame (s : State) : OWithin 0x500000000 s (execInitSweepGranule s) := by
  unfold execInitSweepGranule
  repeat' (first
    | with_reducible exact Within.refl _ _
    | with_reducible apply Within.next (k := State.initGranule_frame _ _)
    | with_reducible apply Within.next_foldl
    | with_reducible apply Within.next_foldl1
    | with_reducible apply Within.next_foldl2
    | with_reducible apply OWithin.next
    | with_reducible intro _
    | split
    | dsimp only
    | exact (rfl : (_ : Nat) = _))

theorem State.touchGranule_frame (s : State) (a : Nat) (n : Nat) : Within 0x40000000000 s (State.touchGranule s a n) := by
  unfold State.touchGranule
  repeat' (first
    | with_reducible exact Within.refl _ _
    | split
    | dsimp only
    | with_reducible apply Within.upd_semaphore
    | exact (rfl : (_ : Nat) = _))

theorem State.lateFault_frame (s : State) (p : Posted) (kind : Nat) : Within 0x10 s (State.lateFault s p kind) := by
  unfold State.lateFault
  repeat' (first
    | with_reducible exact Within.refl _ _
    | with_reducible apply Within.next (k := State.set_frame _ _ _)
    | with_reducible apply Within.next (k := State.sets_frame _ _)
    | with_reducible apply Within.next (k := State.count_frame _ _ _ _)
    | split
    | dsimp only
    | exact (rfl : (_ : Nat) = _))

theorem State.applyPiece_frame (s : State) (p : Posted) : Within 0x407024d7b52 s (State.applyPiece s p) := by
  unfold State.applyPiece
  repeat' (first
    | with_reducible exact Within.refl _ _
    | with_reducible apply Within.next (k := State.setBytes_frame _ _ _)
    | with_reducible apply Within.next (k := State.memWrite_frame _ _ _ _ _ _)
    | with_reducible apply Within.next (k := State.touchGranule_frame _ _ _)
    | with_reducible apply Within.next (k := State.lateFault_frame _ _ _)
    | split
    | dsimp only
    | exact (rfl : (_ : Nat) = _))

theorem State.postWrite_frame (s : State) (init : Nat) (a : Nat) (b : List Byte) : Within 0x28000000010 s (State.postWrite s init a b) := by
  unfold State.postWrite
  repeat' (first
    | with_reducible exact Within.refl _ _
    | with_reducible apply Within.next (k := State.lateFault_frame _ _ _)
    | with_reducible apply Within.next_foldl
    | with_reducible apply Within.next_foldl1
    | with_reducible apply Within.next_foldl2
    | with_reducible intro _
    | split
    | dsimp only
    | with_reducible apply Within.upd_fetches_posted
    | exact (rfl : (_ : Nat) = _))

theorem execChimneyPostedWrite_frame (init : Nat) (addr : Nat) (data : List Byte) (s : State) : OWithin 0x6c100000010 s (execChimneyPostedWrite init addr data s) := by
  unfold execChimneyPostedWrite
  repeat' (first
    | with_reducible exact Within.refl _ _
    | with_reducible apply Within.next (k := State.setBytes_frame _ _ _)
    | with_reducible apply Within.next (k := State.busError_frame _ _ _)
    | with_reducible apply Within.next (k := State.busOk_frame _ _)
    | with_reducible apply Within.next (k := State.touchGranule_frame _ _ _)
    | with_reducible apply Within.next (k := State.postWrite_frame _ _ _ _)
    | with_reducible apply OWithin.next
    | split
    | dsimp only
    | with_reducible apply Within.upd_bus
    | exact (rfl : (_ : Nat) = _))

theorem execWriteAck_frame (k : Nat) (s : State) : OWithin 0x607024d7b52 s (execWriteAck k s) := by
  unfold execWriteAck
  repeat' (first
    | with_reducible exact Within.refl _ _
    | with_reducible apply Within.next (k := State.applyPiece_frame _ _)
    | with_reducible apply OWithin.next
    | split
    | dsimp only
    | with_reducible apply Within.upd_posted
    | exact (rfl : (_ : Nat) = _))

theorem State.retry_frame (s : State) : Within 0x4000000010 s (State.retry s) := by
  unfold State.retry
  repeat' (first
    | with_reducible exact Within.refl _ _
    | with_reducible apply Within.next (k := State.count_frame _ _ _ _)
    | split
    | dsimp only
    | with_reducible apply Within.upd_bus
    | exact (rfl : (_ : Nat) = _))

theorem State.holdRead_frame (s : State) (f : Fetch) : Within 0x14000000010 s (State.holdRead s f) := by
  unfold State.holdRead
  repeat' (first
    | with_reducible exact Within.refl _ _
    | with_reducible apply Within.next (k := State.count_frame _ _ _ _)
    | with_reducible apply Within.next (k := State.retry_frame _)
    | split
    | dsimp only
    | with_reducible apply Within.upd_bus_heldRead
    | exact (rfl : (_ : Nat) = _))

theorem execChimneyRead_frame (init : Nat) (addr : Nat) (size : Nat) (s : State) : OWithin 0x1c000000010 s (execChimneyRead init addr size s) := by
  unfold execChimneyRead
  repeat' (first
    | with_reducible exact Within.refl _ _
    | with_reducible apply Within.next (k := State.busError_frame _ _ _)
    | with_reducible apply Within.next (k := State.busOk_frame _ _)
    | with_reducible apply Within.next (k := State.retry_frame _)
    | with_reducible apply Within.next (k := State.holdRead_frame _ _)
    | with_reducible apply OWithin.next
    | split
    | dsimp only
    | with_reducible apply Within.upd_bus
    | with_reducible apply Within.upd_fetches
    | exact (rfl : (_ : Nat) = _))

theorem execChimneyFetchDone_frame (held : Bool) (k : Nat) (s : State) : OWithin 0x1c000000010 s (execChimneyFetchDone held k s) := by
  unfold execChimneyFetchDone
  repeat' (first
    | with_reducible exact Within.refl _ _
    | with_reducible apply Within.next (k := State.set_frame _ _ _)
    | with_reducible apply Within.next (k := State.busError_frame _ _ _)
    | with_reducible apply Within.next (k := State.busOk_frame _ _)
    | with_reducible apply OWithin.next
    | split
    | dsimp only
    | with_reducible apply Within.upd_fetches
    | with_reducible apply Within.upd_heldRead
    | exact (rfl : (_ : Nat) = _))

theorem execFetchStale_frame (k : Nat) (s : State) : OWithin 0x8000000010 s (execFetchStale k s) := by
  unfold execFetchStale
  repeat' (first
    | with_reducible exact Within.refl _ _
    | with_reducible apply Within.next (k := State.count_frame _ _ _ _)
    | with_reducible apply OWithin.next
    | split
    | dsimp only
    | with_reducible apply Within.upd_fetches
    | exact (rfl : (_ : Nat) = _))

theorem execLr_frame (hart : Nat) (addr : Nat) (size : Nat) (s : State) : OWithin 0x54000000010 s (execLr hart addr size s) := by
  unfold execLr
  repeat' (first
    | with_reducible exact Within.refl _ _
    | with_reducible apply Within.next (k := State.busError_frame _ _ _)
    | with_reducible apply Within.next (k := State.retry_frame _)
    | with_reducible apply Within.next (k := State.holdRead_frame _ _)
    | with_reducible apply OWithin.next
    | split
    | dsimp only
    | with_reducible apply Within.upd_bus
    | with_reducible apply Within.upd_semaphore
    | exact (rfl : (_ : Nat) = _))

theorem execSc_frame (hart : Nat) (addr : Nat) (data : List Byte) (s : State) : OWithin 0x6c000000010 s (execSc hart addr data s) := by
  unfold execSc
  repeat' (first
    | with_reducible exact Within.refl _ _
    | with_reducible apply Within.next (k := State.count_frame _ _ _ _)
    | with_reducible apply Within.next (k := State.busError_frame _ _ _)
    | with_reducible apply Within.next (k := State.postWrite_frame _ _ _ _)
    | with_reducible apply OWithin.next
    | split
    | dsimp only
    | with_reducible apply Within.upd_bus
    | with_reducible apply Within.upd_bus_semaphore
    | with_reducible apply Within.upd_semaphore
    | exact (rfl : (_ : Nat) = _))

theorem execSemaphoreTimeout_frame (s : State) : OWithin 0x40000000010 s (execSemaphoreTimeout s) := by
  unfold execSemaphoreTimeout
  repeat' (first
    | with_reducible exact Within.refl _ _
    | with_reducible apply Within.next (k := State.count_frame _ _ _ _)
    | with_reducible apply OWithin.next
    | split
    | dsimp only
    | with_reducible apply Within.upd_semaphore
    | exact (rfl : (_ : Nat) = _))

theorem State.pilotData_frame (s : State) (addr : Nat) (size : Nat) : Within 0x104000000000 s (State.pilotData s addr size) := by
  unfold State.pilotData
  repeat' (first
    | with_reducible exact Within.refl _ _
    | with_reducible apply Within.next (k := State.busError_frame _ _ _)
    | with_reducible apply Within.next (k := State.busOk_frame _ _)
    | split
    | dsimp only
    | with_reducible apply Within.upd_wickRead
    | exact (rfl : (_ : Nat) = _))

theorem execPilotRead_frame (addr : Nat) (size : Nat) (s : State) : OWithin 0x104000000000 s (execPilotRead addr size s) := by
  unfold execPilotRead
  repeat' (first
    | with_reducible exact Within.refl _ _
    | with_reducible apply Within.next (k := State.busError_frame _ _ _)
    | with_reducible apply Within.next (k := State.pilotData_frame _ _ _)
    | with_reducible apply OWithin.next
    | split
    | dsimp only
    | with_reducible apply Within.upd_bus_wickRead
    | exact (rfl : (_ : Nat) = _))

theorem execWickBackoff_frame (s : State) : OWithin 0x100000000010 s (execWickBackoff s) := by
  unfold execWickBackoff
  repeat' (first
    | with_reducible exact Within.refl _ _
    | with_reducible apply Within.next (k := State.count_frame _ _ _ _)
    | with_reducible apply OWithin.next
    | split
    | dsimp only
    | with_reducible apply Within.upd_wickRead
    | exact (rfl : (_ : Nat) = _))

theorem execBackoffReissue_frame (s : State) : OWithin 0x104000000000 s (execBackoffReissue s) := by
  unfold execBackoffReissue
  repeat' (first
    | with_reducible exact Within.refl _ _
    | with_reducible apply Within.next (k := State.pilotData_frame _ _ _)
    | with_reducible apply OWithin.next
    | split
    | dsimp only
    | with_reducible apply Within.upd_wickRead
    | exact (rfl : (_ : Nat) = _))

theorem execFence_frame (init : Nat) (writes : Bool) (reads : Bool) (s : State) : OWithin 0x80000000000 s (execFence init writes reads s) := by
  unfold execFence
  repeat' (first
    | with_reducible exact Within.refl _ _
    | with_reducible apply OWithin.next
    | split
    | dsimp only
    | with_reducible apply Within.upd_fences
    | exact (rfl : (_ : Nat) = _))

theorem State.fenceEnd_frame (s : State) (init : Nat) : Within 0x10 s (State.fenceEnd s init).2.2 := by
  unfold State.fenceEnd
  repeat' (first
    | with_reducible exact Within.refl _ _
    | with_reducible apply Within.next (k := State.set_frame _ _ _)
    | split
    | dsimp only
    | exact (rfl : (_ : Nat) = _))

theorem execFenceComplete_frame (init : Nat) (s : State) : OWithin 0x84000000810 s (execFenceComplete init s) := by
  unfold execFenceComplete
  repeat' (first
    | with_reducible exact Within.refl _ _
    | with_reducible apply Within.next (k := State.draw_frame _ _)
    | with_reducible apply Within.next (k := State.busOk_frame _ _)
    | with_reducible apply Within.next (k := State.fenceEnd_frame _ _)
    | with_reducible apply OWithin.next
    | split
    | dsimp only
    | with_reducible apply Within.upd_bus
    | with_reducible apply Within.upd_fences
    | exact (rfl : (_ : Nat) = _))

theorem State.loseSideband_frame (s : State) : Within 0x100 s (State.loseSideband s) := by
  unfold State.loseSideband
  repeat' (first
    | with_reducible exact Within.refl _ _
    | split
    | dsimp only
    | with_reducible apply Within.upd_pulses
    | exact (rfl : (_ : Nat) = _))

theorem State.retrain_frame (s : State) : Within 0x10 s (State.retrain s) := by
  unfold State.retrain
  repeat' (first
    | with_reducible exact Within.refl _ _
    | with_reducible apply Within.next (k := State.sets_frame _ _)
    | with_reducible apply Within.next (k := State.count_frame _ _ _ _)
    | split
    | dsimp only
    | exact (rfl : (_ : Nat) = _))

theorem execFlitCrcError_frame (f : FlitHeard) (s : State) : OWithin 0x10 s (execFlitCrcError f s) := by
  unfold execFlitCrcError
  repeat' (first
    | with_reducible exact Within.refl _ _
    | with_reducible apply Within.next (k := State.set_frame _ _ _)
    | with_reducible apply Within.next (k := State.count_frame _ _ _ _)
    | with_reducible apply OWithin.next
    | split
    | dsimp only
    | exact (rfl : (_ : Nat) = _))

theorem execChimneyLockLoss_frame (lockLost : Bool) (s : State) : OWithin 0x10 s (execChimneyLockLoss lockLost s) := by
  unfold execChimneyLockLoss
  repeat' (first
    | with_reducible exact Within.refl _ _
    | with_reducible apply Within.next (k := State.retrain_frame _)
    | with_reducible apply OWithin.next
    | split
    | dsimp only
    | exact (rfl : (_ : Nat) = _))

theorem State.chimneyDown_frame (s : State) : Within 0x13c000400310 s (State.chimneyDown s) := by
  unfold State.chimneyDown
  repeat' (first
    | with_reducible exact Within.refl _ _
    | with_reducible apply Within.next (k := State.set_frame _ _ _)
    | with_reducible apply Within.next (k := State.reportObj_frame _ _ _ _ _ _ _)
    | with_reducible apply Within.next (k := State.loseCrossing_frame _)
    | with_reducible apply Within.next (k := State.applyStep_frame _)
    | with_reducible apply Within.next (k := State.busError_frame _ _ _)
    | with_reducible apply Within.next (k := State.lateFault_frame _ _ _)
    | with_reducible apply Within.next (k := State.loseSideband_frame _)
    | with_reducible apply Within.next_foldl
    | with_reducible apply Within.next_foldl1
    | with_reducible apply Within.next_foldl2
    | with_reducible intro _
    | split
    | dsimp only
    | with_reducible apply Within.upd_fetches_heldRead_wickRead
    | with_reducible apply Within.upd_posted
    | exact (rfl : (_ : Nat) = _))

theorem State.pilotResume_frame (s : State) : Within 0x104000000000 s (State.pilotResume s) := by
  unfold State.pilotResume
  repeat' (first
    | with_reducible exact Within.refl _ _
    | with_reducible apply Within.next (k := State.pilotData_frame _ _ _)
    | split
    | dsimp only
    | exact (rfl : (_ : Nat) = _))

theorem execRetrainResult_frame (ok : Bool) (s : State) : OWithin 0x13c0004f1b10 s (execRetrainResult ok s) := by
  unfold execRetrainResult
  repeat' (first
    | with_reducible exact Within.refl _ _
    | with_reducible apply Within.next (k := State.set_frame _ _ _)
    | with_reducible apply Within.next (k := State.sets_frame _ _)
    | with_reducible apply Within.next (k := State.crossOver_frame _)
    | with_reducible apply Within.next (k := State.applyStep_frame _)
    | with_reducible apply Within.next (k := State.retrain_frame _)
    | with_reducible apply Within.next (k := State.chimneyDown_frame _)
    | with_reducible apply Within.next (k := State.pilotResume_frame _)
    | with_reducible apply OWithin.next
    | split
    | dsimp only
    | exact (rfl : (_ : Nat) = _))

theorem execChmRetrain_frame (ctx : Ctx) (value : Nat) (s : State) : OWithin 0x410 s (execChmRetrain ctx value s) := by
  unfold execChmRetrain
  repeat' (first
    | with_reducible exact Within.refl _ _
    | with_reducible apply Within.next (k := State.set_frame _ _ _)
    | with_reducible apply State.cmdWrite_next
    | with_reducible apply Within.next (k := State.retrain_frame _)
    | with_reducible apply OWithin.next
    | with_reducible intro _
    | split
    | dsimp only
    | exact (rfl : (_ : Nat) = _))

theorem execChmFaultClear_frame (ctx : Ctx) (value : Nat) (s : State) : OWithin 0x410 s (execChmFaultClear ctx value s) := by
  unfold execChmFaultClear
  repeat' (first
    | with_reducible exact Within.refl _ _
    | with_reducible apply Within.next (k := State.set_frame _ _ _)
    | with_reducible apply Within.next (k := State.sets_frame _ _)
    | with_reducible apply State.cmdWrite_next
    | with_reducible apply Within.next_foldl
    | with_reducible apply Within.next_foldl1
    | with_reducible apply Within.next_foldl2
    | with_reducible apply OWithin.next
    | with_reducible intro _
    | split
    | dsimp only
    | exact (rfl : (_ : Nat) = _))

theorem execHbBeat_frame (ctx : Ctx) (value : Nat) (mailbox : Bool) (pilotLine : Bool) (s : State) : OWithin 0x4c1d50 s (execHbBeat ctx value mailbox pilotLine s) := by
  unfold execHbBeat
  repeat' (first
    | with_reducible exact Within.refl _ _
    | with_reducible apply Within.next (k := State.set_frame _ _ _)
    | with_reducible apply State.cmdWrite_next
    | with_reducible apply Within.next (k := State.decideOwners_frame _ _)
    | with_reducible apply Within.next (k := State.twinChange_frame _ _)
    | with_reducible apply Within.next (k := State.claimsBack_frame _ _)
    | with_reducible apply OWithin.next
    | with_reducible intro _
    | split
    | dsimp only
    | exact (rfl : (_ : Nat) = _))

theorem execHeartbeatTimeout_frame (c : Nat) (s : State) : OWithin 0x4c1b50 s (execHeartbeatTimeout c s) := by
  unfold execHeartbeatTimeout
  repeat' (first
    | with_reducible exact Within.refl _ _
    | with_reducible apply Within.next (k := State.count_frame _ _ _ _)
    | with_reducible apply Within.next (k := State.pulse_frame _ _ _)
    | with_reducible apply Within.next (k := State.reportObj_frame _ _ _ _ _ _ _)
    | with_reducible apply Within.next (k := State.decideOwners_frame _ _)
    | with_reducible apply Within.next (k := State.twinChange_frame _ _)
    | with_reducible apply Within.next (k := State.clusterLeaves_frame _ _ _)
    | with_reducible apply OWithin.next
    | split
    | dsimp only
    | exact (rfl : (_ : Nat) = _))

theorem execHeartbeatPathFault_frame (c : Nat) (pilotLine : Bool) (s : State) : OWithin 0x210 s (execHeartbeatPathFault c pilotLine s) := by
  unfold execHeartbeatPathFault
  repeat' (first
    | with_reducible exact Within.refl _ _
    | with_reducible apply Within.next (k := State.set_frame _ _ _)
    | with_reducible apply Within.next (k := State.reportObj_frame _ _ _ _ _ _ _)
    | with_reducible apply OWithin.next
    | split
    | dsimp only
    | exact (rfl : (_ : Nat) = _))

theorem execLockstepFault_frame (unit : Nat) (s : State) : OWithin 0x344c1b50 s (execLockstepFault unit s) := by
  unfold execLockstepFault
  repeat' (first
    | with_reducible exact Within.refl _ _
    | with_reducible apply Within.next (k := State.count_frame _ _ _ _)
    | with_reducible apply Within.next (k := State.pulse_frame _ _ _)
    | with_reducible apply Within.next (k := State.reportObj_frame _ _ _ _ _ _ _)
    | with_reducible apply Within.next (k := State.decideOwners_frame _ _)
    | with_reducible apply Within.next (k := State.twinChange_frame _ _)
    | with_reducible apply Within.next (k := State.clusterLeaves_frame _ _ _)
    | with_reducible apply Within.next (k := State.vaultFails_frame _)
    | with_reducible apply OWithin.next
    | split
    | dsimp only
    | exact (rfl : (_ : Nat) = _))

theorem execCgClaim_frame (ctx : Ctx) (g : Nat) (value : Nat) (s : State) : OWithin 0x4c1d50 s (execCgClaim ctx g value s) := by
  unfold execCgClaim
  repeat' (first
    | with_reducible exact Within.refl _ _
    | with_reducible apply Within.next (k := State.set_frame _ _ _)
    | with_reducible apply State.rwWrite_next
    | with_reducible apply Within.next (k := State.decideOwners_frame _ _)
    | with_reducible apply Within.next (k := State.twinChange_frame _ _)
    | with_reducible apply OWithin.next
    | with_reducible intro _
    | split
    | dsimp only
    | exact (rfl : (_ : Nat) = _))

theorem execOutCommand_frame (ctx : Ctx) (o : Nat) (value : Nat) (s : State) : OWithin 0x4c1c50 s (execOutCommand ctx o value s) := by
  unfold execOutCommand
  repeat' (first
    | with_reducible exact Within.refl _ _
    | with_reducible apply Within.next (k := State.set_frame _ _ _)
    | with_reducible apply State.rwWrite_next
    | with_reducible apply Within.next (k := State.outputWrite_frame _ _ _)
    | with_reducible apply Within.next (k := State.twinChange_frame _ _)
    | with_reducible apply OWithin.next
    | with_reducible intro _
    | split
    | dsimp only
    | exact (rfl : (_ : Nat) = _))

theorem execHoldExpire_frame (g : Nat) (s : State) : OWithin 0x4c1850 s (execHoldExpire g s) := by
  unfold execHoldExpire
  repeat' (first
    | with_reducible exact Within.refl _ _
    | with_reducible apply Within.next (k := State.count_frame _ _ _ _)
    | with_reducible apply Within.next (k := State.groupEnter_frame _ _ _)
    | with_reducible apply Within.next (k := State.twinChange_frame _ _)
    | with_reducible apply OWithin.next
    | split
    | dsimp only
    | exact (rfl : (_ : Nat) = _))

theorem execTwinFramePeriodic_frame (s : State) : OWithin 0x4c1850 s (execTwinFramePeriodic s) := by
  unfold execTwinFramePeriodic
  repeat' (first
    | with_reducible exact Within.refl _ _
    | with_reducible apply Within.next (k := State.set_frame _ _ _)
    | with_reducible apply Within.next (k := State.sendTwin_frame _ _)
    | with_reducible apply OWithin.next
    | split
    | dsimp only
    | exact (rfl : (_ : Nat) = _))

theorem State.twinApply_frame (s : State) (stream : Bool) (p : List Byte) : Within 0x110 s (State.twinApply s stream p) := by
  unfold State.twinApply
  repeat' (first
    | with_reducible exact Within.refl _ _
    | with_reducible apply Within.next (k := State.set_frame _ _ _)
    | with_reducible apply Within.next (k := State.sets_frame _ _)
    | with_reducible apply Within.next (k := State.count_frame _ _ _ _)
    | with_reducible apply Within.next (k := State.pulse_frame _ _ _)
    | with_reducible apply Within.next_foldl
    | with_reducible apply Within.next_foldl1
    | with_reducible apply Within.next_foldl2
    | with_reducible intro _
    | split
    | dsimp only
    | exact (rfl : (_ : Nat) = _))

theorem State.twinMarks_frame (s : State) (p : List Byte) : Within 0x10 s (State.twinMarks s p) := by
  unfold State.twinMarks
  repeat' (first
    | with_reducible exact Within.refl _ _
    | with_reducible apply Within.next (k := State.groupEnter_frame _ _ _)
    | with_reducible apply Within.next_foldl
    | with_reducible apply Within.next_foldl1
    | with_reducible apply Within.next_foldl2
    | with_reducible intro _
    | split
    | dsimp only
    | exact (rfl : (_ : Nat) = _))

theorem execTwinFrameReceive_frame (stream : Bool) (bytes : List Byte) (s : State) : OWithin 0x4c3950 s (execTwinFrameReceive stream bytes s) := by
  unfold execTwinFrameReceive
  repeat' (first
    | with_reducible exact Within.refl _ _
    | with_reducible apply Within.next (k := State.count_frame _ _ _ _)
    | with_reducible apply Within.next (k := State.hostPass_frame _ _)
    | with_reducible apply Within.next (k := State.takeHost_frame _ _)
    | with_reducible apply Within.next (k := State.decideOwners_frame _ _)
    | with_reducible apply Within.next (k := State.twinChange_frame _ _)
    | with_reducible apply Within.next (k := State.twinApply_frame _ _ _)
    | with_reducible apply Within.next (k := State.twinMarks_frame _ _)
    | with_reducible apply OWithin.next
    | (with_reducible refine Within.of2 (by assumption) ?_)
    | split
    | dsimp only
    | exact (rfl : (_ : Nat) = _))

theorem execTwinTimeout_frame (s : State) : OWithin 0x4c1b50 s (execTwinTimeout s) := by
  unfold execTwinTimeout
  repeat' (first
    | with_reducible exact Within.refl _ _
    | with_reducible apply Within.next (k := State.set_frame _ _ _)
    | with_reducible apply Within.next (k := State.count_frame _ _ _ _)
    | with_reducible apply Within.next (k := State.pulse_frame _ _ _)
    | with_reducible apply Within.next (k := State.reportObj_frame _ _ _ _ _ _ _)
    | with_reducible apply Within.next (k := State.decideOwners_frame _ _)
    | with_reducible apply Within.next (k := State.twinChange_frame _ _)
    | with_reducible apply OWithin.next
    | split
    | dsimp only
    | exact (rfl : (_ : Nat) = _))

theorem execTwinPathFault_frame (stream : Bool) (s : State) : OWithin 0x210 s (execTwinPathFault stream s) := by
  unfold execTwinPathFault
  repeat' (first
    | with_reducible exact Within.refl _ _
    | with_reducible apply Within.next (k := State.set_frame _ _ _)
    | with_reducible apply Within.next (k := State.reportObj_frame _ _ _ _ _ _ _)
    | with_reducible apply OWithin.next
    | split
    | dsimp only
    | exact (rfl : (_ : Nat) = _))

theorem State.applyValue_frame (s : State) (e : Reg × Nat) : Within 0x10 s (State.applyValue s e) := by
  unfold State.applyValue
  repeat' (first
    | with_reducible exact Within.refl _ _
    | with_reducible apply Within.next (k := State.set_frame _ _ _)
    | with_reducible apply Within.next (k := State.countSat_frame _ _ _)
    | split
    | dsimp only
    | exact (rfl : (_ : Nat) = _))

theorem State.applyText_frame (s : State) (e : Reg × List Byte) : Within 0x50 s (State.applyText s e) := by
  unfold State.applyText
  repeat' (first
    | with_reducible exact Within.refl _ _
    | with_reducible apply Within.next (k := State.countSat_frame _ _ _)
    | with_reducible apply Within.next (k := State.setBlob_frame _ _ _)
    | split
    | dsimp only
    | exact (rfl : (_ : Nat) = _))

theorem State.applySection_frame (s : State) (critical : Bool) (img : CfgImage) : Within 0x50 s (State.applySection s critical img) := by
  unfold State.applySection
  repeat' (first
    | with_reducible exact Within.refl _ _
    | with_reducible apply Within.next (k := State.applyValue_frame _ _)
    | with_reducible apply Within.next (k := State.applyText_frame _ _)
    | with_reducible apply Within.next_foldl
    | with_reducible apply Within.next_foldl1
    | with_reducible apply Within.next_foldl2
    | with_reducible intro _
    | split
    | dsimp only
    | exact (rfl : (_ : Nat) = _))

theorem State.setIvtas_frame (s : State) (slot : Nat) (b : List Byte) : Within 0x600000000000000 s (State.setIvtas s slot b) := by
  unfold State.setIvtas
  repeat' (first
    | with_reducible exact Within.refl _ _
    | split
    | dsimp only
    | with_reducible apply Within.upd_ivtasA
    | with_reducible apply Within.upd_ivtasB
    | exact (rfl : (_ : Nat) = _))

theorem State.writeSelector_frame (s : State) : Within 0x40 s (State.writeSelector s) := by
  unfold State.writeSelector
  repeat' (first
    | with_reducible exact Within.refl _ _
    | with_reducible apply Within.next (k := State.setBlob_frame _ _ _)
    | split
    | dsimp only
    | exact (rfl : (_ : Nat) = _))

theorem State.tearSelector_frame (s : State) : Within 0x40 s (State.tearSelector s) := by
  unfold State.tearSelector
  repeat' (first
    | with_reducible exact Within.refl _ _
    | with_reducible apply Within.next (k := State.setBlob_frame _ _ _)
    | split
    | dsimp only
    | exact (rfl : (_ : Nat) = _))

theorem State.readSelector_frame (s : State) : Within 0x10 s (State.readSelector s) := by
  unfold State.readSelector
  repeat' (first
    | with_reducible exact Within.refl _ _
    | with_reducible apply Within.next (k := State.sets_frame _ _)
    | split
    | dsimp only
    | exact (rfl : (_ : Nat) = _))

theorem State.fallBack_frame (s : State) : Within 0x250 s (State.fallBack s).1 := by
  unfold State.fallBack
  repeat' (first
    | with_reducible exact Within.refl _ _
    | with_reducible apply Within.next (k := State.sets_frame _ _)
    | with_reducible apply Within.next (k := State.count_frame _ _ _ _)
    | with_reducible apply Within.next (k := State.reportObj_frame _ _ _ _ _ _ _)
    | with_reducible apply Within.next (k := State.writeSelector_frame _)
    | split
    | dsimp only
    | exact (rfl : (_ : Nat) = _))

theorem State.scWrite_next {m : Nat} {s u : State} {c : Ctx} {act : State → Nat × Nat × State} (h : Within m s u)
    (k : ∀ v, Within m v (act v).2.2) (hm : (0x410 ||| m) = m) : Within m s (u.scWrite c act) := by
  have hr : (0x10 ||| m) = m := or_sub hm rfl
  refine State.cmdWrite_next h (fun v => ?_) hm
  dsimp only
  split
  · exact ((k v).next (State.set_frame _ _ _) hr).next (State.set_frame _ _ _) hr
  · exact (k v).next (State.set_frame _ _ _) hr

theorem execScOpen_frame (ctx : Ctx) (s : State) : OWithin 0x410 s (execScOpen ctx s) := by
  unfold execScOpen
  repeat' (first
    | with_reducible exact Within.refl _ _
    | with_reducible apply Within.next (k := State.sets_frame _ _)
    | with_reducible apply State.scWrite_next
    | with_reducible apply OWithin.next
    | with_reducible intro _
    | split
    | dsimp only
    | exact (rfl : (_ : Nat) = _))

theorem State.dropPendRow_frame (s : State) (row : Nat) : Within 0x20 s (State.dropPendRow s row) := by
  unfold State.dropPendRow
  repeat' (first
    | with_reducible exact Within.refl _ _
    | split
    | dsimp only
    | with_reducible apply Within.upd_pend
    | exact (rfl : (_ : Nat) = _))

theorem State.deactivate_frame (s : State) (row : Nat) : Within 0x18030 s (State.deactivate s row) := by
  unfold State.deactivate
  repeat' (first
    | with_reducible exact Within.refl _ _
    | with_reducible apply Within.next (k := State.sets_frame _ _)
    | with_reducible apply Within.next (k := State.dropPendRow_frame _ _)
    | split
    | dsimp only
    | with_reducible apply Within.upd_prep_spec
    | exact (rfl : (_ : Nat) = _))

theorem execScClose_frame (ctx : Ctx) (s : State) : OWithin 0x18430 s (execScClose ctx s) := by
  unfold execScClose
  repeat' (first
    | with_reducible exact Within.refl _ _
    | with_reducible apply Within.next (k := State.sets_frame _ _)
    | with_reducible apply State.scWrite_next
    | with_reducible apply Within.next (k := State.deactivate_frame _ _)
    | with_reducible apply OWithin.next
    | with_reducible intro _
    | split
    | dsimp only
    | exact (rfl : (_ : Nat) = _))

theorem execScInstall_frame (ctx : Ctx) (s : State) : OWithin 0x14000450 s (execScInstall ctx s) := by
  unfold execScInstall
  repeat' (first
    | with_reducible exact Within.refl _ _
    | with_reducible apply Within.next (k := State.set_frame _ _ _)
    | with_reducible apply State.cmdWrite_next
    | with_reducible apply Within.next (k := State.vaultSubmit_frame _ _)
    | with_reducible apply OWithin.next
    | (with_reducible refine Within.of2 (by assumption) ?_)
    | with_reducible intro _
    | split
    | dsimp only
    | exact (rfl : (_ : Nat) = _))

theorem State.pendSlot_frame (s : State) (l : List (Reg × Nat)) : Within 0x830 s (State.pendSlot s l) := by
  unfold State.pendSlot
  repeat' (first
    | with_reducible exact Within.refl _ _
    | with_reducible apply Within.next (k := State.pendSet_frame _ _ _)
    | with_reducible apply Within.next (k := State.draw_frame _ _)
    | with_reducible apply Within.next (k := State.takeLate_frame _ _ _)
    | with_reducible apply Within.next_foldl
    | with_reducible apply Within.next_foldl1
    | with_reducible apply Within.next_foldl2
    | with_reducible intro _
    | split
    | dsimp only
    | exact (rfl : (_ : Nat) = _))

theorem execScRetire_frame (ctx : Ctx) (s : State) : OWithin 0xc30 s (execScRetire ctx s) := by
  unfold execScRetire
  repeat' (first
    | with_reducible exact Within.refl _ _
    | with_reducible apply State.scWrite_next
    | with_reducible apply Within.next (k := State.pendSlot_frame _ _)
    | with_reducible apply OWithin.next
    | with_reducible intro _
    | split
    | dsimp only
    | exact (rfl : (_ : Nat) = _))

theorem State.handRow_frame (s : State) (row : Nat) : Within 0x201a130 s (State.handRow s row) := by
  unfold State.handRow
  repeat' (first
    | with_reducible exact Within.refl _ _
    | with_reducible apply Within.next (k := State.set_frame _ _ _)
    | with_reducible apply Within.next (k := State.sets_frame _ _)
    | with_reducible apply Within.next (k := State.retireSlot_frame _ _)
    | with_reducible apply Within.next (k := State.slotActive_frame _ _)
    | with_reducible apply Within.next (k := State.prepHandover_frame _ _ _)
    | with_reducible apply Within.next (k := State.makeCurrent_frame _ _)
    | with_reducible apply Within.next (k := State.dropPendRow_frame _ _)
    | split
    | dsimp only
    | exact (rfl : (_ : Nat) = _))

theorem State.handRows_frame (s : State) (rows : List Nat) : Within 0x201a130 s (State.handRows s rows) := by
  unfold State.handRows
  repeat' (first
    | with_reducible exact Within.refl _ _
    | with_reducible apply Within.next (k := State.set_frame _ _ _)
    | with_reducible apply Within.next (k := State.handRow_frame _ _)
    | with_reducible apply Within.next_foldl
    | with_reducible apply Within.next_foldl1
    | with_reducible apply Within.next_foldl2
    | with_reducible intro _
    | split
    | dsimp only
    | exact (rfl : (_ : Nat) = _))

theorem execScActivate_frame (ctx : Ctx) (s : State) : OWithin 0x2000000201a530 s (execScActivate ctx s) := by
  unfold execScActivate
  repeat' (first
    | with_reducible exact Within.refl _ _
    | with_reducible apply Within.next (k := State.handedOver_frame _ _)
    | with_reducible apply State.scWrite_next
    | with_reducible apply Within.next (k := State.handRows_frame _ _)
    | with_reducible apply OWithin.next
    | with_reducible intro _
    | split
    | dsimp only
    | exact (rfl : (_ : Nat) = _))

theorem State.writeInstall_frame (s : State) (i : Install) (r : Nat) (key : List Byte) : Within 0x830 s (State.writeInstall s i r key) := by
  unfold State.writeInstall
  repeat' (first
    | with_reducible exact Within.refl _ _
    | with_reducible apply Within.next (k := State.pendSlot_frame _ _)
    | split
    | dsimp only
    | exact (rfl : (_ : Nat) = _))

theorem State.runInstall_frame (s : State) (i : Install) : Within 0x2010930 s (State.runInstall s i).2.2 := by
  unfold State.runInstall
  repeat' (first
    | with_reducible exact Within.refl _ _
    | with_reducible apply Within.next (k := State.count_frame _ _ _ _)
    | with_reducible apply Within.next (k := State.retireSlot_frame _ _)
    | with_reducible apply Within.next (k := State.writeInstall_frame _ _ _ _)
    | (with_reducible refine Within.of2 (by assumption) ?_)
    | split
    | dsimp only
    | exact (rfl : (_ : Nat) = _))

theorem execInstallDone_frame (s : State) : OWithin 0x22010930 s (execInstallDone s) := by
  unfold execInstallDone
  repeat' (first
    | with_reducible exact Within.refl _ _
    | with_reducible apply Within.next (k := State.set_frame _ _ _)
    | with_reducible apply Within.next (k := State.vaultIdle_frame _)
    | with_reducible apply Within.next (k := State.runInstall_frame _ _)
    | with_reducible apply OWithin.next
    | split
    | dsimp only
    | exact (rfl : (_ : Nat) = _))

theorem execRxOverlapExpire_frame (row : Nat) (s : State) : OWithin 0x2010110 s (execRxOverlapExpire row s) := by
  unfold execRxOverlapExpire
  repeat' (first
    | with_reducible exact Within.refl _ _
    | with_reducible apply Within.next (k := State.retireSlot_frame _ _)
    | with_reducible apply OWithin.next
    | split
    | dsimp only
    | exact (rfl : (_ : Nat) = _))

theorem execExhaustHoldExpire_frame (c : Nat) (s : State) : OWithin 0x10 s (execExhaustHoldExpire c s) := by
  unfold execExhaustHoldExpire
  repeat' (first
    | with_reducible exact Within.refl _ _
    | with_reducible apply Within.next (k := State.sets_frame _ _)
    | with_reducible apply OWithin.next
    | split
    | dsimp only
    | exact (rfl : (_ : Nat) = _))

theorem execSaEventFifoRead_frame (ctx : Ctx) (s : State) : OWithin 0x2000410 s (execSaEventFifoRead ctx s) := by
  unfold execSaEventFifoRead
  repeat' (first
    | with_reducible exact Within.refl _ _
    | with_reducible apply Within.next (k := State.reply_frame _ _ _ _)
    | with_reducible apply State.access_next
    | with_reducible apply OWithin.next
    | with_reducible intro _
    | split
    | dsimp only
    | with_reducible apply Within.upd_saEvents
    | exact (rfl : (_ : Nat) = _))

theorem execScpClear_frame (ctx : Ctx) (n : Nat) (value : Nat) (s : State) : OWithin 0x410 s (execScpClear ctx n value s) := by
  unfold execScpClear
  repeat' (first
    | with_reducible exact Within.refl _ _
    | with_reducible apply Within.next (k := State.clearRange_frame _ _ _ _ _)
    | with_reducible apply State.cmdWrite_next
    | with_reducible apply OWithin.next
    | with_reducible intro _
    | split
    | dsimp only
    | exact (rfl : (_ : Nat) = _))

end Sys2Proof.Machine
end

