-- ==== Sys2Proof/Laws/FrameGateway.lean ====
section
/-! SUPPORT. What the operations of the gateway, the inlet, the seal, the time base and Cresset can touch: one law for each, with the parts of the state that it may change as bits of a mask
in the order of `Part`, and that it keeps the canonical forms. -/
set_option Elab.async false
namespace Sys2Proof.Machine

theorem State.fvVerify_frame (s : State) (row : Nat) (d : List Byte) : Within 0x10 s (State.fvVerify s row d).2 := by
  unfold State.fvVerify
  repeat' (first
    | with_reducible exact Within.refl _ _
    | with_reducible apply Within.next (k := State.set_frame _ _ _)
    | with_reducible apply Within.next (k := State.count_frame _ _ _ _)
    | split
    | dsimp only
    | exact (rfl : (_ : Nat) = _))

theorem State.fvGenerate_frame (s : State) (row : Nat) (user : List Byte) : Within 0x10 s (State.fvGenerate s row user).2 := by
  unfold State.fvGenerate
  repeat' (first
    | with_reducible exact Within.refl _ _
    | with_reducible apply Within.next (k := State.set_frame _ _ _)
    | with_reducible apply Within.next (k := State.count_frame _ _ _ _)
    | split
    | dsimp only
    | exact (rfl : (_ : Nat) = _))

theorem State.canSend_frame (s : State) (ch : Nat) (m : BusMsg) (cyc : Option Nat) : Within 0x800000000010 s (State.canSend s ch m cyc) := by
  unfold State.canSend
  repeat' (first
    | with_reducible exact Within.refl _ _
    | with_reducible apply Within.next (k := State.count_frame _ _ _ _)
    | split
    | dsimp only
    | with_reducible apply Within.upd_canQueue
    | exact (rfl : (_ : Nat) = _))

theorem State.linPump_frame (k l : Nat) (s : State) : Within 0x1000000000010 s (State.linPump k l s) := by
  induction k generalizing s with
  | zero => exact Within.refl _ _
  | succ k ih =>
    unfold State.linPump
    repeat' (first
    | with_reducible exact Within.refl _ _
    | exact (rfl : (_ : Nat) = _)
      | with_reducible apply Within.next (k := ih _)
      | with_reducible apply Within.next (k := State.count_frame _ _ _ _)
      | split
      | dsimp only
      | with_reducible apply Within.upd_linQueue)

theorem State.linSend_frame (s : State) (e : LinEntry) : Within 0x1000000000010 s (State.linSend s e) := by
  unfold State.linSend
  repeat' (first
    | with_reducible exact Within.refl _ _
    | with_reducible apply Within.next (k := State.count_frame _ _ _ _)
    | with_reducible apply Within.next (k := State.linPump_frame _ _ _)
    | split
    | dsimp only
    | with_reducible apply Within.upd_linQueue
    | exact (rfl : (_ : Nat) = _))

theorem State.acfSend_frame (s : State) (st : Nat) : Within 0x20000004c1810 s (State.acfSend s st) := by
  unfold State.acfSend
  repeat' (first
    | with_reducible exact Within.refl _ _
    | with_reducible apply Within.next (k := State.set_frame _ _ _)
    | with_reducible apply Within.next (k := State.count_frame _ _ _ _)
    | with_reducible apply Within.next (k := State.wickSend_frame _ _ _)
    | split
    | dsimp only
    | with_reducible apply Within.upd_acfPacks
    | exact (rfl : (_ : Nat) = _))

theorem State.acfPack_frame (s : State) (st : Nat) (bus : Nat) (m : BusMsg) (stamp : List Nat) : Within 0x20000004c1810 s (State.acfPack s st bus m stamp) := by
  unfold State.acfPack
  repeat' (first
    | with_reducible exact Within.refl _ _
    | with_reducible apply Within.next (k := State.count_frame _ _ _ _)
    | with_reducible apply Within.next (k := State.acfSend_frame _ _)
    | split
    | dsimp only
    | with_reducible apply Within.upd_acfPacks
    | exact (rfl : (_ : Nat) = _))

theorem State.cycUpdate_frame (s : State) (e : Nat) (d : List Byte) : Within 0x50 s (State.cycUpdate s e d) := by
  unfold State.cycUpdate
  repeat' (first
    | with_reducible exact Within.refl _ _
    | with_reducible apply Within.next (k := State.set_frame _ _ _)
    | with_reducible apply Within.next (k := State.count_frame _ _ _ _)
    | with_reducible apply Within.next (k := State.setBlob_frame _ _ _)
    | split
    | dsimp only
    | exact (rfl : (_ : Nat) = _))

theorem State.routeCyclic_frame (s : State) (e : Nat) (d : List Byte) : Within 0x50 s (State.routeCyclic s e d) := by
  unfold State.routeCyclic
  repeat' (first
    | with_reducible exact Within.refl _ _
    | with_reducible apply Within.next (k := State.set_frame _ _ _)
    | with_reducible apply Within.next (k := State.cycUpdate_frame _ _ _)
    | split
    | dsimp only
    | exact (rfl : (_ : Nat) = _))

theorem State.routeAuth_frame (s : State) (auth : Nat) (f : Nat) (d : List Byte) : Within 0x10 s (State.routeAuth s auth f d).2 := by
  unfold State.routeAuth
  repeat' (first
    | with_reducible exact Within.refl _ _
    | with_reducible apply Within.next (k := State.fvVerify_frame _ _ _)
    | with_reducible apply Within.next (k := State.fvGenerate_frame _ _ _)
    | split
    | dsimp only
    | exact (rfl : (_ : Nat) = _))

theorem State.route_frame (s : State) (src : Nat) (stream : Nat) (bus : Nat) (m : BusMsg) (stamp : List Nat) : Within 0x28000004c1850 s (State.route s src stream bus m stamp) := by
  unfold State.route
  repeat' (first
    | with_reducible exact Within.refl _ _
    | with_reducible apply Within.next (k := State.count_frame _ _ _ _)
    | with_reducible apply Within.next (k := State.canSend_frame _ _ _ _)
    | with_reducible apply Within.next (k := State.acfPack_frame _ _ _ _ _)
    | with_reducible apply Within.next (k := State.routeCyclic_frame _ _ _)
    | with_reducible apply Within.next (k := State.routeAuth_frame _ _ _ _)
    | with_reducible apply Within.next_foldl
    | with_reducible apply Within.next_foldl1
    | with_reducible apply Within.next_foldl2
    | (with_reducible refine Within.of2 (by assumption) ?_)
    | with_reducible intro _
    | split
    | dsimp only
    | exact (rfl : (_ : Nat) = _))

theorem State.busStamp_frame (s : State) (age : Nat) : Within 0x800 s (State.busStamp s age).2 := by
  unfold State.busStamp
  repeat' (first
    | with_reducible exact Within.refl _ _
    | with_reducible apply Within.next (k := State.draw_frame _ _)
    | split
    | dsimp only
    | exact (rfl : (_ : Nat) = _))

theorem State.canEnter_frame (s : State) (ch : Nat) (st : Nat) : Within 0x10 s (State.canEnter s ch st) := by
  unfold State.canEnter
  repeat' (first
    | with_reducible exact Within.refl _ _
    | with_reducible apply Within.next (k := State.set_frame _ _ _)
    | split
    | dsimp only
    | exact (rfl : (_ : Nat) = _))

theorem State.canIntegrated_frame (s : State) (ch : Nat) : Within 0x10 s (State.canIntegrated s ch) := by
  unfold State.canIntegrated
  repeat' (first
    | with_reducible exact Within.refl _ _
    | with_reducible apply Within.next (k := State.set_frame _ _ _)
    | split
    | dsimp only
    | exact (rfl : (_ : Nat) = _))

theorem State.canCounts_frame (s : State) (ch : Nat) (tec : Nat) (rec : Nat) : Within 0x10 s (State.canCounts s ch tec rec) := by
  unfold State.canCounts
  repeat' (first
    | with_reducible exact Within.refl _ _
    | with_reducible apply Within.next (k := State.set_frame _ _ _)
    | with_reducible apply Within.next (k := State.canEnter_frame _ _ _)
    | split
    | dsimp only
    | exact (rfl : (_ : Nat) = _))

theorem State.canHeard_frame (s : State) (ch : Nat) : Within 0x10 s (State.canHeard s ch) := by
  unfold State.canHeard
  repeat' (first
    | with_reducible exact Within.refl _ _
    | with_reducible apply Within.next (k := State.canIntegrated_frame _ _)
    | with_reducible apply Within.next (k := State.canCounts_frame _ _ _ _)
    | split
    | dsimp only
    | exact (rfl : (_ : Nat) = _))

theorem State.canReceive_frame (s : State) (ch : Nat) (m : BusMsg) (stamp : List Nat) : Within 0x28000004c1850 s (State.canReceive s ch m stamp) := by
  unfold State.canReceive
  repeat' (first
    | with_reducible exact Within.refl _ _
    | with_reducible apply Within.next (k := State.count_frame _ _ _ _)
    | with_reducible apply Within.next (k := State.route_frame _ _ _ _ _ _)
    | with_reducible apply Within.next (k := State.canHeard_frame _ _)
    | split
    | dsimp only
    | exact (rfl : (_ : Nat) = _))

theorem State.canOffer_frame (k ch : Nat) (s : State) : Within 0x800000000010 s (State.canOffer k ch s).2 := by
  induction k generalizing s with
  | zero => exact Within.refl _ _
  | succ k ih =>
    unfold State.canOffer
    repeat' (first
    | with_reducible exact Within.refl _ _
    | exact (rfl : (_ : Nat) = _)
      | with_reducible apply Within.next (k := ih _)
      | with_reducible apply Within.next (k := State.count_frame _ _ _ _)
      | split
      | dsimp only
      | with_reducible apply Within.upd_canQueue)

theorem execCanArbitration_frame (ch : Nat) (won : Bool) (s : State) : OWithin 0x800000000010 s (execCanArbitration ch won s) := by
  unfold execCanArbitration
  repeat' (first
    | with_reducible exact Within.refl _ _
    | with_reducible apply Within.next (k := State.canIntegrated_frame _ _)
    | with_reducible apply Within.next (k := State.canOffer_frame _ _ _)
    | with_reducible apply OWithin.next
    | split
    | dsimp only
    | with_reducible apply Within.upd_canQueue
    | exact (rfl : (_ : Nat) = _))

theorem State.canQuit_frame (s : State) (ch : Nat) : Within 0x10 s (State.canQuit s ch) := by
  unfold State.canQuit
  repeat' (first
    | with_reducible exact Within.refl _ _
    | with_reducible apply Within.next (k := State.canEnter_frame _ _ _)
    | split
    | dsimp only
    | exact (rfl : (_ : Nat) = _))

theorem execCanTxDone_frame (ch : Nat) (s : State) : OWithin 0x800000000010 s (execCanTxDone ch s) := by
  unfold execCanTxDone
  repeat' (first
    | with_reducible exact Within.refl _ _
    | with_reducible apply Within.next (k := State.count_frame _ _ _ _)
    | with_reducible apply Within.next (k := State.canCounts_frame _ _ _ _)
    | with_reducible apply Within.next (k := State.canQuit_frame _ _)
    | with_reducible apply OWithin.next
    | split
    | dsimp only
    | with_reducible apply Within.upd_canQueue
    | exact (rfl : (_ : Nat) = _))

theorem execCanError_frame (ch : Nat) (transmitter : Bool) (severe : Bool) (s : State) : OWithin 0x800000000010 s (execCanError ch transmitter severe s) := by
  unfold execCanError
  repeat' (first
    | with_reducible exact Within.refl _ _
    | with_reducible apply Within.next (k := State.count_frame _ _ _ _)
    | with_reducible apply Within.next (k := State.canCounts_frame _ _ _ _)
    | with_reducible apply Within.next (k := State.canQuit_frame _ _)
    | with_reducible apply OWithin.next
    | split
    | dsimp only
    | with_reducible apply Within.upd_canQueue
    | exact (rfl : (_ : Nat) = _))

theorem execCanBusOff_frame (ch : Nat) (s : State) : OWithin 0x800000000010 s (execCanBusOff ch s) := by
  unfold execCanBusOff
  repeat' (first
    | with_reducible exact Within.refl _ _
    | with_reducible apply Within.next (k := State.set_frame _ _ _)
    | with_reducible apply Within.next (k := State.count_frame _ _ _ _)
    | with_reducible apply Within.next (k := State.canEnter_frame _ _ _)
    | with_reducible apply OWithin.next
    | split
    | dsimp only
    | with_reducible apply Within.upd_canQueue
    | exact (rfl : (_ : Nat) = _))

theorem execCanRecover_frame (ctx : Ctx) (ch : Nat) (value : Nat) (s : State) : OWithin 0x410 s (execCanRecover ctx ch value s) := by
  unfold execCanRecover
  repeat' (first
    | with_reducible exact Within.refl _ _
    | with_reducible apply Within.next (k := State.set_frame _ _ _)
    | with_reducible apply State.cmdWrite_next
    | with_reducible apply OWithin.next
    | with_reducible intro _
    | split
    | dsimp only
    | exact (rfl : (_ : Nat) = _))

theorem execCanBusoffRecovery_frame (ch : Nat) (s : State) : OWithin 0x10 s (execCanBusoffRecovery ch s) := by
  unfold execCanBusoffRecovery
  repeat' (first
    | with_reducible exact Within.refl _ _
    | with_reducible apply Within.next (k := State.set_frame _ _ _)
    | with_reducible apply Within.next (k := State.canCounts_frame _ _ _ _)
    | with_reducible apply OWithin.next
    | split
    | dsimp only
    | exact (rfl : (_ : Nat) = _))

theorem execCanEnable_frame (ctx : Ctx) (ch : Nat) (value : Nat) (s : State) : OWithin 0x410 s (execCanEnable ctx ch value s) := by
  unfold execCanEnable
  repeat' (first
    | with_reducible exact Within.refl _ _
    | with_reducible apply Within.next (k := State.set_frame _ _ _)
    | with_reducible apply Within.next (k := State.sets_frame _ _)
    | with_reducible apply State.rwWrite_next
    | with_reducible apply Within.next_foldl
    | with_reducible apply Within.next_foldl1
    | with_reducible apply Within.next_foldl2
    | with_reducible apply OWithin.next
    | with_reducible intro _
    | split
    | dsimp only
    | exact (rfl : (_ : Nat) = _))

theorem execCanClear_frame (ctx : Ctx) (ch : Nat) (value : Nat) (s : State) : OWithin 0x410 s (execCanClear ctx ch value s) := by
  unfold execCanClear
  repeat' (first
    | with_reducible exact Within.refl _ _
    | with_reducible apply Within.next (k := State.clearRange_frame _ _ _ _ _)
    | with_reducible apply State.cmdWrite_next
    | with_reducible apply OWithin.next
    | with_reducible intro _
    | split
    | dsimp only
    | exact (rfl : (_ : Nat) = _))

theorem State.linNext_frame (s : State) (l : Nat) : Within 0x1000000000010 s (State.linNext s l) := by
  unfold State.linNext
  repeat' (first
    | with_reducible exact Within.refl _ _
    | with_reducible apply Within.next (k := State.linPump_frame _ _ _)
    | split
    | dsimp only
    | with_reducible apply Within.upd_linQueue
    | exact (rfl : (_ : Nat) = _))

theorem execLinResponseReceive_frame (l : Nat) (id : Nat) (data : List Byte) (e : LinEnd) (s : State) : OWithin 0x38000004c1850 s (execLinResponseReceive l id data e s) := by
  unfold execLinResponseReceive
  repeat' (first
    | with_reducible exact Within.refl _ _
    | with_reducible apply Within.next (k := State.count_frame _ _ _ _)
    | with_reducible apply Within.next (k := State.route_frame _ _ _ _ _ _)
    | with_reducible apply Within.next (k := State.busStamp_frame _ _)
    | with_reducible apply Within.next (k := State.linNext_frame _ _)
    | with_reducible apply OWithin.next
    | split
    | dsimp only
    | exact (rfl : (_ : Nat) = _))

theorem execLinResponseTimeout_frame (l : Nat) (s : State) : OWithin 0x1000000000010 s (execLinResponseTimeout l s) := by
  unfold execLinResponseTimeout
  repeat' (first
    | with_reducible exact Within.refl _ _
    | with_reducible apply Within.next (k := State.count_frame _ _ _ _)
    | with_reducible apply Within.next (k := State.linNext_frame _ _)
    | with_reducible apply OWithin.next
    | split
    | dsimp only
    | exact (rfl : (_ : Nat) = _))

theorem execLinClear_frame (ctx : Ctx) (l : Nat) (value : Nat) (s : State) : OWithin 0x410 s (execLinClear ctx l value s) := by
  unfold execLinClear
  repeat' (first
    | with_reducible exact Within.refl _ _
    | with_reducible apply Within.next (k := State.clearRange_frame _ _ _ _ _)
    | with_reducible apply State.cmdWrite_next
    | with_reducible apply OWithin.next
    | with_reducible intro _
    | split
    | dsimp only
    | exact (rfl : (_ : Nat) = _))

theorem execLinSendWake_frame (ctx : Ctx) (l : Nat) (value : Nat) (s : State) : OWithin 0x410 s (execLinSendWake ctx l value s) := by
  unfold execLinSendWake
  repeat' (first
    | with_reducible exact Within.refl _ _
    | with_reducible apply Within.next (k := State.set_frame _ _ _)
    | with_reducible apply State.cmdWrite_next
    | with_reducible apply OWithin.next
    | with_reducible intro _
    | split
    | dsimp only
    | exact (rfl : (_ : Nat) = _))

theorem State.cycSeal_frame (s : State) (e : Nat) (d : List Byte) : Within 0x10 s (State.cycSeal s e d).2 := by
  unfold State.cycSeal
  repeat' (first
    | with_reducible exact Within.refl _ _
    | with_reducible apply Within.next (k := State.fvGenerate_frame _ _ _)
    | split
    | dsimp only
    | exact (rfl : (_ : Nat) = _))

theorem State.cycQueue_frame (s : State) (e : Nat) (d : List Byte) : Within 0x1800000000010 s (State.cycQueue s e d) := by
  unfold State.cycQueue
  repeat' (first
    | with_reducible exact Within.refl _ _
    | with_reducible apply Within.next (k := State.count_frame _ _ _ _)
    | with_reducible apply Within.next (k := State.canSend_frame _ _ _ _)
    | with_reducible apply Within.next (k := State.linSend_frame _ _)
    | split
    | dsimp only
    | with_reducible apply Within.upd_canQueue
    | exact (rfl : (_ : Nat) = _))

theorem execCyclicRelease_frame (e : Nat) (s : State) : OWithin 0x1800000000010 s (execCyclicRelease e s) := by
  unfold execCyclicRelease
  repeat' (first
    | with_reducible exact Within.refl _ _
    | with_reducible apply Within.next (k := State.set_frame _ _ _)
    | with_reducible apply Within.next (k := State.count_frame _ _ _ _)
    | with_reducible apply Within.next (k := State.cycSeal_frame _ _ _)
    | with_reducible apply Within.next (k := State.cycQueue_frame _ _ _)
    | with_reducible apply OWithin.next
    | split
    | dsimp only
    | exact (rfl : (_ : Nat) = _))

theorem execLinHeaderReceive_frame (l : Nat) (id : Nat) (s : State) : OWithin 0x50 s (execLinHeaderReceive l id s) := by
  unfold execLinHeaderReceive
  repeat' (first
    | with_reducible exact Within.refl _ _
    | with_reducible apply Within.next (k := State.count_frame _ _ _ _)
    | with_reducible apply Within.next (k := State.setBlob_frame _ _ _)
    | with_reducible apply Within.next (k := State.cycSeal_frame _ _ _)
    | with_reducible apply OWithin.next
    | split
    | dsimp only
    | exact (rfl : (_ : Nat) = _))

theorem execCycDataWrite_frame (ctx : Ctx) (e : Nat) (data : List Byte) (s : State) : OWithin 0x450 s (execCycDataWrite ctx e data s) := by
  unfold execCycDataWrite
  repeat' (first
    | with_reducible exact Within.refl _ _
    | with_reducible apply State.rwWrite_next
    | with_reducible apply Within.next (k := State.cycUpdate_frame _ _ _)
    | with_reducible apply OWithin.next
    | with_reducible intro _
    | split
    | dsimp only
    | exact (rfl : (_ : Nat) = _))

theorem State.acfWalk_frame (k st : Nat) (b : List Byte) (s : State) : Within 0x28000004c1850 s (State.acfWalk k st b s) := by
  induction k generalizing s b with
  | zero => exact Within.refl _ _
  | succ k ih =>
    unfold State.acfWalk
    repeat' (first
    | with_reducible exact Within.refl _ _
    | exact (rfl : (_ : Nat) = _)
      | with_reducible apply Within.next (k := ih _ _)
      | with_reducible apply Within.next (k := State.route_frame _ _ _ _ _ _)
      | with_reducible apply Within.next (k := State.count_frame _ _ _ _)
      | split
      | dsimp only)

theorem State.acfTake_frame (s : State) (b : List Byte) : Within 0x28000004c1850 s (State.acfTake s b) := by
  unfold State.acfTake
  repeat' (first
    | with_reducible exact Within.refl _ _
    | with_reducible apply Within.next (k := State.set_frame _ _ _)
    | with_reducible apply Within.next (k := State.count_frame _ _ _ _)
    | with_reducible apply Within.next (k := State.acfWalk_frame _ _ _ _)
    | split
    | dsimp only
    | exact (rfl : (_ : Nat) = _))

theorem execAcfUnpack_frame (s : State) : OWithin 0x28000004c3850 s (execAcfUnpack s) := by
  unfold execAcfUnpack
  repeat' (first
    | with_reducible exact Within.refl _ _
    | with_reducible apply Within.next (k := State.count_frame _ _ _ _)
    | with_reducible apply Within.next (k := State.hostPass_frame _ _)
    | with_reducible apply Within.next (k := State.takeHost_frame _ _)
    | with_reducible apply Within.next (k := State.acfTake_frame _ _)
    | with_reducible apply OWithin.next
    | (with_reducible refine Within.of2 (by assumption) ?_)
    | split
    | dsimp only
    | exact (rfl : (_ : Nat) = _))

theorem execAcfMaxWaitExpire_frame (stream : Nat) (s : State) : OWithin 0x20000004c1810 s (execAcfMaxWaitExpire stream s) := by
  unfold execAcfMaxWaitExpire
  repeat' (first
    | with_reducible exact Within.refl _ _
    | with_reducible apply Within.next (k := State.acfSend_frame _ _)
    | with_reducible apply OWithin.next
    | split
    | dsimp only
    | exact (rfl : (_ : Nat) = _))

theorem execAcfClear_frame (ctx : Ctx) (stream : Nat) (value : Nat) (s : State) : OWithin 0x410 s (execAcfClear ctx stream value s) := by
  unfold execAcfClear
  repeat' (first
    | with_reducible exact Within.refl _ _
    | with_reducible apply Within.next (k := State.clearRange_frame _ _ _ _ _)
    | with_reducible apply State.cmdWrite_next
    | with_reducible apply OWithin.next
    | with_reducible intro _
    | split
    | dsimp only
    | exact (rfl : (_ : Nat) = _))

theorem execGwKeyLoad_frame (ctx : Ctx) (k : Nat) (value : Nat) (s : State) : OWithin 0x14000450 s (execGwKeyLoad ctx k value s) := by
  unfold execGwKeyLoad
  repeat' (first
    | with_reducible exact Within.refl _ _
    | with_reducible apply Within.next (k := State.set_frame _ _ _)
    | with_reducible apply State.rwWrite_next
    | with_reducible apply Within.next (k := State.vaultSubmit_frame _ _)
    | with_reducible apply OWithin.next
    | with_reducible intro _
    | split
    | dsimp only
    | exact (rfl : (_ : Nat) = _))

theorem execCpStateChange_frame (level : Int) (count : Nat) (s : State) : OWithin 0x110 s (execCpStateChange level count s) := by
  unfold execCpStateChange
  repeat' (first
    | with_reducible exact Within.refl _ _
    | with_reducible apply Within.next (k := State.set_frame _ _ _)
    | with_reducible apply Within.next (k := State.pulse_frame _ _ _)
    | with_reducible apply Within.next (k := State.cdSettle_frame _)
    | with_reducible apply OWithin.next
    | split
    | dsimp only
    | exact (rfl : (_ : Nat) = _))

theorem execCpPeriodMeasure_frame (oscillating : Bool) (frequency : Nat) (duty : Nat) (negative : Int) (s : State) : OWithin 0x10 s (execCpPeriodMeasure oscillating frequency duty negative s) := by
  unfold execCpPeriodMeasure
  repeat' (first
    | with_reducible exact Within.refl _ _
    | with_reducible apply Within.next (k := State.sets_frame _ _)
    | with_reducible apply OWithin.next
    | split
    | dsimp only
    | exact (rfl : (_ : Nat) = _))

theorem execPpMeasure_frame (ohms : Nat) (s : State) : OWithin 0x10 s (execPpMeasure ohms s) := by
  unfold execPpMeasure
  repeat' (first
    | with_reducible exact Within.refl _ _
    | with_reducible apply Within.next (k := State.set_frame _ _ _)
    | with_reducible apply OWithin.next
    | split
    | dsimp only
    | exact (rfl : (_ : Nat) = _))

theorem execCpS2Write_frame (ctx : Ctx) (value : Nat) (s : State) : OWithin 0x4c1c50 s (execCpS2Write ctx value s) := by
  unfold execCpS2Write
  repeat' (first
    | with_reducible exact Within.refl _ _
    | with_reducible apply Within.next (k := State.set_frame _ _ _)
    | with_reducible apply State.rwWrite_next
    | with_reducible apply Within.next (k := State.outputWrite_frame _ _ _)
    | with_reducible apply Within.next (k := State.twinChange_frame _ _)
    | with_reducible apply OWithin.next
    | with_reducible intro _
    | split
    | dsimp only
    | exact (rfl : (_ : Nat) = _))

theorem execInletTempSample_frame (t : Nat) (ohms : Option Nat) (s : State) : OWithin 0xb10 s (execInletTempSample t ohms s) := by
  unfold execInletTempSample
  repeat' (first
    | with_reducible exact Within.refl _ _
    | with_reducible apply Within.next (k := State.set_frame _ _ _)
    | with_reducible apply Within.next (k := State.draw_frame _ _)
    | with_reducible apply Within.next (k := State.pulse_frame _ _ _)
    | with_reducible apply Within.next (k := State.reportObj_frame _ _ _ _ _ _ _)
    | with_reducible apply Within.next (k := State.cdOpen_frame _ _)
    | with_reducible apply Within.next_foldl
    | with_reducible apply Within.next_foldl1
    | with_reducible apply Within.next_foldl2
    | with_reducible apply OWithin.next
    | with_reducible intro _
    | split
    | dsimp only
    | exact (rfl : (_ : Nat) = _))

theorem execCdCommand_frame (ctx : Ctx) (k : Nat) (value : Nat) (s : State) : OWithin 0x4c1c50 s (execCdCommand ctx k value s) := by
  unfold execCdCommand
  repeat' (first
    | with_reducible exact Within.refl _ _
    | with_reducible apply Within.next (k := State.set_frame _ _ _)
    | with_reducible apply State.rwWrite_next
    | with_reducible apply Within.next (k := State.outputWrite_frame _ _ _)
    | with_reducible apply Within.next (k := State.twinChange_frame _ _)
    | with_reducible apply OWithin.next
    | with_reducible intro _
    | split
    | dsimp only
    | exact (rfl : (_ : Nat) = _))

theorem execRampWaitExpire_frame (k : Nat) (s : State) : OWithin 0x4c1850 s (execRampWaitExpire k s) := by
  unfold execRampWaitExpire
  repeat' (first
    | with_reducible exact Within.refl _ _
    | with_reducible apply Within.next (k := State.count_frame _ _ _ _)
    | with_reducible apply Within.next (k := State.cdOpenNow_frame _ _)
    | with_reducible apply Within.next (k := State.twinChange_frame _ _)
    | with_reducible apply OWithin.next
    | split
    | dsimp only
    | exact (rfl : (_ : Nat) = _))

theorem execCdOvercurrent_frame (k : Nat) (current : Nat) (s : State) : OWithin 0x4c1a50 s (execCdOvercurrent k current s) := by
  unfold execCdOvercurrent
  repeat' (first
    | with_reducible exact Within.refl _ _
    | with_reducible apply Within.next (k := State.sets_frame _ _)
    | with_reducible apply Within.next (k := State.reportObj_frame _ _ _ _ _ _ _)
    | with_reducible apply Within.next (k := State.cdOpenNow_frame _ _)
    | with_reducible apply Within.next (k := State.twinChange_frame _ _)
    | with_reducible apply OWithin.next
    | split
    | dsimp only
    | exact (rfl : (_ : Nat) = _))

theorem execCdOpenLoad_frame (k : Nat) (current : Nat) (micros : Nat) (s : State) : OWithin 0x10 s (execCdOpenLoad k current micros s) := by
  unfold execCdOpenLoad
  repeat' (first
    | with_reducible exact Within.refl _ _
    | with_reducible apply Within.next (k := State.set_frame _ _ _)
    | with_reducible apply OWithin.next
    | split
    | dsimp only
    | exact (rfl : (_ : Nat) = _))

theorem execCdClearFault_frame (ctx : Ctx) (k : Nat) (value : Nat) (s : State) : OWithin 0x410 s (execCdClearFault ctx k value s) := by
  unfold execCdClearFault
  repeat' (first
    | with_reducible exact Within.refl _ _
    | with_reducible apply Within.next (k := State.set_frame _ _ _)
    | with_reducible apply State.cmdWrite_next
    | with_reducible apply OWithin.next
    | with_reducible intro _
    | split
    | dsimp only
    | exact (rfl : (_ : Nat) = _))

theorem State.sessionFlag_frame (s : State) (b : Nat) : Within 0x8000000000000 s (State.sessionFlag s b) := by
  unfold State.sessionFlag
  repeat' (first
    | with_reducible exact Within.refl _ _
    | split
    | dsimp only
    | with_reducible apply Within.upd_sessions
    | exact (rfl : (_ : Nat) = _))

theorem State.addEnergy_frame (s : State) (units : Reg) (total : Reg) (n : Nat) : Within 0x10 s (State.addEnergy s units total n) := by
  unfold State.addEnergy
  repeat' (first
    | with_reducible exact Within.refl _ _
    | with_reducible apply Within.next (k := State.sets_frame _ _)
    | split
    | dsimp only
    | exact (rfl : (_ : Nat) = _))

theorem State.takeSample_frame (s : State) (d : List Byte) (stamp : List Nat) : Within 0x8000000000010 s (State.takeSample s d stamp) := by
  unfold State.takeSample
  repeat' (first
    | with_reducible exact Within.refl _ _
    | with_reducible apply Within.next (k := State.set_frame _ _ _)
    | with_reducible apply Within.next (k := State.sets_frame _ _)
    | with_reducible apply Within.next (k := State.count_frame _ _ _ _)
    | with_reducible apply Within.next (k := State.cdSettle_frame _)
    | with_reducible apply Within.next (k := State.sessionFlag_frame _ _)
    | with_reducible apply Within.next (k := State.addEnergy_frame _ _ _ _)
    | split
    | dsimp only
    | exact (rfl : (_ : Nat) = _))

theorem State.sampleMessage_frame (s : State) (m : BusMsg) (stamp : List Nat) : Within 0x8000000000010 s (State.sampleMessage s m stamp) := by
  unfold State.sampleMessage
  repeat' (first
    | with_reducible exact Within.refl _ _
    | with_reducible apply Within.next (k := State.count_frame _ _ _ _)
    | with_reducible apply Within.next (k := State.fvVerify_frame _ _ _)
    | with_reducible apply Within.next (k := State.sessionFlag_frame _ _)
    | with_reducible apply Within.next (k := State.takeSample_frame _ _ _)
    | split
    | dsimp only
    | exact (rfl : (_ : Nat) = _))

theorem execTotaliserSample_frame (ch : Nat) (m : BusHeard) (s : State) : OWithin 0x8000000000810 s (execTotaliserSample ch m s) := by
  unfold execTotaliserSample
  repeat' (first
    | with_reducible exact Within.refl _ _
    | with_reducible apply Within.next (k := State.busStamp_frame _ _)
    | with_reducible apply Within.next (k := State.sampleMessage_frame _ _ _)
    | with_reducible apply OWithin.next
    | split
    | dsimp only
    | exact (rfl : (_ : Nat) = _))

theorem State.sealWrite_frame (s : State) (r : SealRecord) (time : Nat) (qualifier : Nat) (payload : List Byte) : Within 0x4000000000810 s (State.sealWrite s r time qualifier payload) := by
  unfold State.sealWrite
  repeat' (first
    | with_reducible exact Within.refl _ _
    | with_reducible apply Within.next (k := State.sets_frame _ _)
    | with_reducible apply Within.next (k := State.random_frame _ _)
    | split
    | dsimp only
    | with_reducible apply Within.upd_sealRecords
    | exact (rfl : (_ : Nat) = _))

theorem State.sealAppend_frame (s : State) (r : SealRecord) (payload : List Byte) : Within 0x4000000000810 s (State.sealAppend s r payload) := by
  unfold State.sealAppend
  repeat' (first
    | with_reducible exact Within.refl _ _
    | with_reducible apply Within.next (k := State.sealWrite_frame _ _ _ _ _)
    | split
    | dsimp only
    | exact (rfl : (_ : Nat) = _))

theorem State.sealEvent_frame (s : State) (code : Nat) (idx : Nat) (sub : Nat) (ctx : Nat) : Within 0x4000000000810 s (State.sealEvent s code idx sub ctx) := by
  unfold State.sealEvent
  repeat' (first
    | with_reducible exact Within.refl _ _
    | with_reducible apply Within.next (k := State.sealAppend_frame _ _ _)
    | split
    | dsimp only
    | exact (rfl : (_ : Nat) = _))

theorem State.sealCount_frame (s : State) (idx : Nat) (sub : Nat) (ctx : Nat) : Within 0x4000000000810 s (State.sealCount s idx sub ctx) := by
  unfold State.sealCount
  repeat' (first
    | with_reducible exact Within.refl _ _
    | with_reducible apply Within.next (k := State.set_frame _ _ _)
    | with_reducible apply Within.next (k := State.sealEvent_frame _ _ _ _ _)
    | split
    | dsimp only
    | exact (rfl : (_ : Nat) = _))

theorem State.sealRefused_frame (s : State) (ctx : Ctx) (idx : Nat) (sub : Nat) : Within 0x4000000000810 s (State.sealRefused s ctx idx sub) := by
  unfold State.sealRefused
  repeat' (first
    | with_reducible exact Within.refl _ _
    | with_reducible apply Within.next (k := State.set_frame _ _ _)
    | with_reducible apply Within.next (k := State.sealEvent_frame _ _ _ _ _)
    | with_reducible apply Within.next (k := State.sealCount_frame _ _ _ _)
    | split
    | dsimp only
    | exact (rfl : (_ : Nat) = _))

theorem State.sessionCommand_next {m : Nat} {s u : State} {c : Ctx} {k : Nat} {act : State → State} (h : Within m s u)
    (ha : ∀ v, Within m v (act v)) (hm : (0x410 ||| m) = m) : Within m s (u.sessionCommand c k act) := by
  have hr : (0x10 ||| m) = m := or_sub hm rfl
  refine State.cmdWrite_next h (fun v => ?_) hm
  split
  · exact (Within.refl _ _).next (State.set_frame _ _ _) hr
  · split
    · exact (Within.refl _ _).next (State.set_frame _ _ _) hr
    · exact ha v

theorem execSessionOpen_frame (ctx : Ctx) (s : State) : OWithin 0xc000000000c10 s (execSessionOpen ctx s) := by
  unfold execSessionOpen
  repeat' (first
    | with_reducible exact Within.refl _ _
    | with_reducible apply Within.next (k := State.sets_frame _ _)
    | with_reducible apply Within.next (k := State.sealAppend_frame _ _ _)
    | with_reducible apply State.sessionCommand_next
    | with_reducible apply OWithin.next
    | with_reducible intro _
    | split
    | dsimp only
    | with_reducible apply Within.upd_sessions
    | exact (rfl : (_ : Nat) = _))

theorem execCountersign_frame (ctx : Ctx) (s : State) : OWithin 0x8000014000450 s (execCountersign ctx s) := by
  unfold execCountersign
  repeat' (first
    | with_reducible exact Within.refl _ _
    | with_reducible apply Within.next (k := State.vaultSubmit_frame _ _)
    | with_reducible apply State.sessionCommand_next
    | with_reducible apply OWithin.next
    | with_reducible intro _
    | split
    | dsimp only
    | with_reducible apply Within.upd_sessions
    | exact (rfl : (_ : Nat) = _))

theorem State.sealVoid_frame (s : State) : Within 0x4000000000000 s (State.sealVoid s) := by
  unfold State.sealVoid
  repeat' (first
    | with_reducible exact Within.refl _ _
    | split
    | dsimp only
    | with_reducible apply Within.upd_sealRecords
    | exact (rfl : (_ : Nat) = _))

theorem State.sealAttempts_frame (j : SealJob) (k : Nat) (s : State) : Within 0x4000000000810 s (State.sealAttempts j k s) := by
  induction k generalizing s with
  | zero => exact Within.refl _ _
  | succ k ih =>
    unfold State.sealAttempts
    exact (((State.sealWrite_frame s _ _ _ _).mono rfl).next (State.sealVoid_frame _) rfl).trans (ih _)

theorem execCountersignDone_frame (fails : Nat) (s : State) : OWithin 0xc000020000b50 s (execCountersignDone fails s) := by
  unfold execCountersignDone
  repeat' (first
    | with_reducible exact Within.refl _ _
    | with_reducible apply Within.next (k := State.set_frame _ _ _)
    | with_reducible apply Within.next (k := State.setBlob_frame _ _ _)
    | with_reducible apply Within.next (k := State.pulse_frame _ _ _)
    | with_reducible apply Within.next (k := State.reportObj_frame _ _ _ _ _ _ _)
    | with_reducible apply Within.next (k := State.random_frame _ _)
    | with_reducible apply Within.next (k := State.vaultFinish_frame _ _ _)
    | with_reducible apply Within.next (k := State.vaultIdle_frame _)
    | with_reducible apply Within.next (k := State.sealWrite_frame _ _ _ _ _)
    | with_reducible apply Within.next (k := State.sealAttempts_frame _ _ _)
    | with_reducible apply OWithin.next
    | split
    | dsimp only
    | with_reducible apply Within.upd_sessions
    | exact (rfl : (_ : Nat) = _))

theorem State.closeSession_frame (s : State) (reason : Nat) (reading : Nat) (postTime : Nat) : Within 0x4000000000810 s (State.closeSession s reason reading postTime) := by
  unfold State.closeSession
  repeat' (first
    | with_reducible exact Within.refl _ _
    | with_reducible apply Within.next (k := State.set_frame _ _ _)
    | with_reducible apply Within.next (k := State.sealAppend_frame _ _ _)
    | split
    | dsimp only
    | exact (rfl : (_ : Nat) = _))

theorem execSessionClose_frame (ctx : Ctx) (s : State) : OWithin 0x4000000000c10 s (execSessionClose ctx s) := by
  unfold execSessionClose
  repeat' (first
    | with_reducible exact Within.refl _ _
    | with_reducible apply Within.next (k := State.set_frame _ _ _)
    | with_reducible apply State.sessionCommand_next
    | with_reducible apply Within.next (k := State.closeSession_frame _ _ _ _)
    | with_reducible apply OWithin.next
    | with_reducible intro _
    | split
    | dsimp only
    | exact (rfl : (_ : Nat) = _))

theorem State.sealLock_next {m : Nat} {s u : State} {c : Ctx} {idx sub : Nat} {act : State → State} (h : Within m s u)
    (ha : ∀ v, Within m v (act v)) (hm : (0x4000000000c10 ||| m) = m) : Within m s (u.sealLock c idx sub act) := by
  have hb : (0x410 ||| m) = m := or_sub hm rfl
  have hc : (0x4000000000810 ||| m) = m := or_sub hm rfl
  unfold State.sealLock
  split
  · exact h.trans (ha u)
  · split
    · exact (h.next (State.sealRefused_frame _ _ _ _) hc).next (State.refuse_frame _ _ _) hb
    · split
      · exact h.next (State.refuse_frame _ _ _) hb
      · exact h.trans (ha u)

theorem execSealClose_frame (ctx : Ctx) (value : Nat) (s : State) : OWithin 0x4000014000c50 s (execSealClose ctx value s) := by
  unfold execSealClose
  repeat' (first
    | with_reducible exact Within.refl _ _
    | with_reducible apply Within.next (k := State.set_frame _ _ _)
    | with_reducible apply State.cmdWrite_next
    | with_reducible apply Within.next (k := State.vaultSubmit_frame _ _)
    | with_reducible apply State.sealLock_next
    | with_reducible apply OWithin.next
    | with_reducible intro _
    | split
    | dsimp only
    | exact (rfl : (_ : Nat) = _))

theorem execSealCloseDone_frame (s : State) : OWithin 0x4000028000850 s (execSealCloseDone s) := by
  unfold execSealCloseDone
  repeat' (first
    | with_reducible exact Within.refl _ _
    | with_reducible apply Within.next (k := State.sets_frame _ _)
    | with_reducible apply Within.next (k := State.placeKey_frame _ _)
    | with_reducible apply Within.next (k := State.newKey_frame _ _)
    | with_reducible apply Within.next (k := State.vaultFinish_frame _ _ _)
    | with_reducible apply Within.next (k := State.vaultIdle_frame _)
    | with_reducible apply Within.next (k := State.sealAppend_frame _ _ _)
    | with_reducible apply OWithin.next
    | split
    | dsimp only
    | exact (rfl : (_ : Nat) = _))

theorem execMsAcknowledge_frame (ctx : Ctx) (value : Nat) (s : State) : OWithin 0x410 s (execMsAcknowledge ctx value s) := by
  unfold execMsAcknowledge
  repeat' (first
    | with_reducible exact Within.refl _ _
    | with_reducible apply Within.next (k := State.set_frame _ _ _)
    | with_reducible apply State.cmdWrite_next
    | with_reducible apply OWithin.next
    | with_reducible intro _
    | split
    | dsimp only
    | exact (rfl : (_ : Nat) = _))

theorem execMsExport_frame (ctx : Ctx) (value : Nat) (s : State) : OWithin 0x410 s (execMsExport ctx value s) := by
  unfold execMsExport
  repeat' (first
    | with_reducible exact Within.refl _ _
    | with_reducible apply Within.next (k := State.set_frame _ _ _)
    | with_reducible apply Within.next (k := State.sets_frame _ _)
    | with_reducible apply State.cmdWrite_next
    | with_reducible apply OWithin.next
    | with_reducible intro _
    | split
    | dsimp only
    | exact (rfl : (_ : Nat) = _))

theorem execExportDone_frame (s : State) : OWithin 0x850 s (execExportDone s) := by
  unfold execExportDone
  repeat' (first
    | with_reducible exact Within.refl _ _
    | with_reducible apply Within.next (k := State.set_frame _ _ _)
    | with_reducible apply Within.next (k := State.sets_frame _ _)
    | with_reducible apply Within.next (k := State.setBlob_frame _ _ _)
    | with_reducible apply Within.next (k := State.random_frame _ _)
    | with_reducible apply OWithin.next
    | split
    | dsimp only
    | exact (rfl : (_ : Nat) = _))

theorem State.tickDomain_frame (s : State) (d : Nat) : Within 0x10 s (State.tickDomain s d) := by
  unfold State.tickDomain
  repeat' (first
    | with_reducible exact Within.refl _ _
    | with_reducible apply Within.next (k := State.set_frame _ _ _)
    | split
    | dsimp only
    | exact (rfl : (_ : Nat) = _))

theorem State.tickFollower_frame (s : State) : Within 0x10 s (State.tickFollower s) := by
  unfold State.tickFollower
  repeat' (first
    | with_reducible exact Within.refl _ _
    | with_reducible apply Within.next (k := State.set_frame _ _ _)
    | split
    | dsimp only
    | exact (rfl : (_ : Nat) = _))

theorem State.tick_frame (s : State) : Within 0x18 s (State.tick s) := by
  unfold State.tick
  repeat' (first
    | with_reducible exact Within.refl _ _
    | with_reducible apply Within.next (k := State.set_frame _ _ _)
    | with_reducible apply Within.next (k := State.count_frame _ _ _ _)
    | with_reducible apply Within.next (k := State.drainFifos_frame _)
    | with_reducible apply Within.next (k := State.tickDomain_frame _ _)
    | with_reducible apply Within.next (k := State.tickFollower_frame _)
    | with_reducible apply Within.next_foldl
    | with_reducible apply Within.next_foldl1
    | with_reducible apply Within.next_foldl2
    | with_reducible intro _
    | split
    | dsimp only
    | with_reducible apply Within.upd_now
    | exact (rfl : (_ : Nat) = _))

theorem State.domEnter_frame (s : State) (d : Nat) (v : Nat) : Within 0x110 s (State.domEnter s d v) := by
  unfold State.domEnter
  repeat' (first
    | with_reducible exact Within.refl _ _
    | with_reducible apply Within.next (k := State.set_frame _ _ _)
    | with_reducible apply Within.next (k := State.pulse_frame _ _ _)
    | split
    | dsimp only
    | exact (rfl : (_ : Nat) = _))

theorem State.domSetState_frame (s : State) (d : Nat) (v : Nat) : Within 0x110 s (State.domSetState s d v) := by
  unfold State.domSetState
  repeat' (first
    | with_reducible exact Within.refl _ _
    | with_reducible apply Within.next (k := State.domEnter_frame _ _ _)
    | with_reducible apply Within.next_foldl
    | with_reducible apply Within.next_foldl1
    | with_reducible apply Within.next_foldl2
    | with_reducible intro _
    | split
    | dsimp only
    | exact (rfl : (_ : Nat) = _))

theorem State.domFollow_frame (s : State) (p : Nat) (d : Nat) : Within 0x110 s (State.domFollow s p d) := by
  unfold State.domFollow
  repeat' (first
    | with_reducible exact Within.refl _ _
    | with_reducible apply Within.next (k := State.sets_frame _ _)
    | with_reducible apply Within.next (k := State.count_frame _ _ _ _)
    | with_reducible apply Within.next (k := State.domSetState_frame _ _ _)
    | split
    | dsimp only
    | exact (rfl : (_ : Nat) = _))

theorem State.monitorExpire_frame (s : State) (d : Nat) : Within 0x110 s (State.monitorExpire s d) := by
  unfold State.monitorExpire
  repeat' (first
    | with_reducible exact Within.refl _ _
    | with_reducible apply Within.next (k := State.set_frame _ _ _)
    | with_reducible apply Within.next (k := State.domSetState_frame _ _ _)
    | with_reducible apply Within.next (k := State.domFollow_frame _ _ _)
    | split
    | dsimp only
    | exact (rfl : (_ : Nat) = _))

theorem State.monitorRestart_frame (s : State) (d : Nat) : Within 0x10 s (State.monitorRestart s d) := by
  unfold State.monitorRestart
  repeat' (first
    | with_reducible exact Within.refl _ _
    | with_reducible apply Within.next (k := State.set_frame _ _ _)
    | split
    | dsimp only
    | exact (rfl : (_ : Nat) = _))

theorem execTbSnapshot_frame (ctx : Ctx) (value : Nat) (s : State) : OWithin 0x410 s (execTbSnapshot ctx value s) := by
  unfold execTbSnapshot
  repeat' (first
    | with_reducible exact Within.refl _ _
    | with_reducible apply Within.next (k := State.sets_frame _ _)
    | with_reducible apply State.cmdWrite_next
    | with_reducible apply OWithin.next
    | with_reducible intro _
    | split
    | dsimp only
    | exact (rfl : (_ : Nat) = _))

theorem execFollowerAlign_frame (ok : Bool) (error : Nat) (s : State) : OWithin 0x210 s (execFollowerAlign ok error s) := by
  unfold execFollowerAlign
  repeat' (first
    | with_reducible exact Within.refl _ _
    | with_reducible apply Within.next (k := State.set_frame _ _ _)
    | with_reducible apply Within.next (k := State.sets_frame _ _)
    | with_reducible apply Within.next (k := State.count_frame _ _ _ _)
    | with_reducible apply Within.next (k := State.reportObj_frame _ _ _ _ _ _ _)
    | with_reducible apply OWithin.next
    | split
    | dsimp only
    | exact (rfl : (_ : Nat) = _))

theorem execSyncArrival_frame (port : Nat) (domainNumber : Nat) (s : State) : OWithin 0x110 s (execSyncArrival port domainNumber s) := by
  unfold execSyncArrival
  repeat' (first
    | with_reducible exact Within.refl _ _
    | with_reducible apply Within.next (k := State.domSetState_frame _ _ _)
    | with_reducible apply Within.next (k := State.monitorRestart_frame _ _)
    | with_reducible apply Within.next_foldl
    | with_reducible apply Within.next_foldl1
    | with_reducible apply Within.next_foldl2
    | with_reducible apply OWithin.next
    | with_reducible intro _
    | split
    | dsimp only
    | exact (rfl : (_ : Nat) = _))

theorem execSyncMonitorExpire_frame (d : Nat) (s : State) : OWithin 0x110 s (execSyncMonitorExpire d s) := by
  unfold execSyncMonitorExpire
  repeat' (first
    | with_reducible exact Within.refl _ _
    | with_reducible apply Within.next (k := State.monitorExpire_frame _ _)
    | with_reducible apply OWithin.next
    | split
    | dsimp only
    | exact (rfl : (_ : Nat) = _))

theorem execDomEnable_frame (ctx : Ctx) (d : Nat) (s : State) : OWithin 0x510 s (execDomEnable ctx d s) := by
  unfold execDomEnable
  repeat' (first
    | with_reducible exact Within.refl _ _
    | with_reducible apply Within.next (k := State.set_frame _ _ _)
    | with_reducible apply State.rwWrite_next
    | with_reducible apply Within.next (k := State.domSetState_frame _ _ _)
    | with_reducible apply Within.next (k := State.monitorRestart_frame _ _)
    | with_reducible apply OWithin.next
    | with_reducible intro _
    | split
    | dsimp only
    | exact (rfl : (_ : Nat) = _))

theorem execDomRole_frame (ctx : Ctx) (d : Nat) (value : Nat) (s : State) : OWithin 0x510 s (execDomRole ctx d value s) := by
  unfold execDomRole
  repeat' (first
    | with_reducible exact Within.refl _ _
    | with_reducible apply Within.next (k := State.set_frame _ _ _)
    | with_reducible apply State.rwWrite_next
    | with_reducible apply Within.next (k := State.domSetState_frame _ _ _)
    | with_reducible apply Within.next (k := State.monitorRestart_frame _ _)
    | with_reducible apply OWithin.next
    | with_reducible intro _
    | split
    | dsimp only
    | exact (rfl : (_ : Nat) = _))

theorem execDomStandbyWrite_frame (ctx : Ctx) (d : Nat) (value : Nat) (s : State) : OWithin 0x510 s (execDomStandbyWrite ctx d value s) := by
  unfold execDomStandbyWrite
  repeat' (first
    | with_reducible exact Within.refl _ _
    | with_reducible apply Within.next (k := State.set_frame _ _ _)
    | with_reducible apply State.rwWrite_next
    | with_reducible apply Within.next (k := State.domSetState_frame _ _ _)
    | with_reducible apply Within.next (k := State.domFollow_frame _ _ _)
    | with_reducible apply OWithin.next
    | with_reducible intro _
    | split
    | dsimp only
    | exact (rfl : (_ : Nat) = _))

theorem execDomSyncTimeoutWrite_frame (ctx : Ctx) (d : Nat) (value : Nat) (s : State) : OWithin 0x510 s (execDomSyncTimeoutWrite ctx d value s) := by
  unfold execDomSyncTimeoutWrite
  repeat' (first
    | with_reducible exact Within.refl _ _
    | with_reducible apply Within.next (k := State.set_frame _ _ _)
    | with_reducible apply State.rwWrite_next
    | with_reducible apply Within.next (k := State.monitorExpire_frame _ _)
    | with_reducible apply OWithin.next
    | with_reducible intro _
    | split
    | dsimp only
    | exact (rfl : (_ : Nat) = _))

theorem State.capture_frame (s : State) (k : Nat) (time : Nat) (qualifier : Nat) : Within 0x10 s (State.capture s k time qualifier) := by
  unfold State.capture
  repeat' (first
    | with_reducible exact Within.refl _ _
    | with_reducible apply Within.next (k := State.sets_frame _ _)
    | with_reducible apply Within.next (k := State.count_frame _ _ _ _)
    | split
    | dsimp only
    | exact (rfl : (_ : Nat) = _))

theorem execCapture_frame (k : Nat) (s : State) : OWithin 0x110 s (execCapture k s) := by
  unfold execCapture
  repeat' (first
    | with_reducible exact Within.refl _ _
    | with_reducible apply Within.next (k := State.capture_frame _ _ _ _)
    | with_reducible apply OWithin.next
    | split
    | dsimp only
    | with_reducible apply Within.upd_pulses
    | exact (rfl : (_ : Nat) = _))

theorem execCapTimeRead_frame (ctx : Ctx) (k : Nat) (s : State) : OWithin 0x410 s (execCapTimeRead ctx k s) := by
  unfold execCapTimeRead
  repeat' (first
    | with_reducible exact Within.refl _ _
    | with_reducible apply Within.next (k := State.set_frame _ _ _)
    | with_reducible apply Within.next (k := State.reply_frame _ _ _ _)
    | with_reducible apply State.access_next
    | with_reducible apply OWithin.next
    | with_reducible intro _
    | split
    | dsimp only
    | exact (rfl : (_ : Nat) = _))

theorem State.updContext_frame (s : State) (n : Nat) (g : CrContext → CrContext) : Within 0x40000000 s (State.updContext s n g) := by
  unfold State.updContext
  repeat' (first
    | with_reducible exact Within.refl _ _
    | split
    | dsimp only
    | with_reducible apply Within.upd_crContexts
    | exact (rfl : (_ : Nat) = _))

theorem execCrLoad_frame (ctx : Ctx) (s : State) : OWithin 0x54000450 s (execCrLoad ctx s) := by
  unfold execCrLoad
  repeat' (first
    | with_reducible exact Within.refl _ _
    | with_reducible apply State.cmdWrite_next
    | with_reducible apply Within.next (k := State.vaultSubmit_frame _ _)
    | with_reducible apply Within.next (k := State.crLoad_frame _ _ _ _ _ _ _)
    | with_reducible apply OWithin.next
    | with_reducible intro _
    | split
    | dsimp only
    | exact (rfl : (_ : Nat) = _))

theorem execCrUnload_frame (ctx : Ctx) (s : State) : OWithin 0xc0000410 s (execCrUnload ctx s) := by
  unfold execCrUnload
  repeat' (first
    | with_reducible exact Within.refl _ _
    | with_reducible apply Within.next (k := State.set_frame _ _ _)
    | with_reducible apply Within.next (k := State.done_frame _ _)
    | with_reducible apply State.cmdWrite_next
    | with_reducible apply OWithin.next
    | with_reducible intro _
    | split
    | dsimp only
    | with_reducible apply Within.upd_crContexts_crJobs
    | exact (rfl : (_ : Nat) = _))

theorem execCrqProduce_frame (ctx : Ctx) (q : Nat) (value : Nat) (s : State) : OWithin 0x410 s (execCrqProduce ctx q value s) := by
  unfold execCrqProduce
  repeat' (first
    | with_reducible exact Within.refl _ _
    | with_reducible apply Within.next (k := State.set_frame _ _ _)
    | with_reducible apply State.rwWrite_next
    | with_reducible apply OWithin.next
    | with_reducible intro _
    | split
    | dsimp only
    | exact (rfl : (_ : Nat) = _))

theorem execCressetStartPulse_frame (q : Nat) (s : State) : OWithin 0x110 s (execCressetStartPulse q s) := by
  unfold execCressetStartPulse
  repeat' (first
    | with_reducible exact Within.refl _ _
    | with_reducible apply Within.next (k := State.set_frame _ _ _)
    | with_reducible apply Within.next (k := State.count_frame _ _ _ _)
    | with_reducible apply OWithin.next
    | (with_reducible refine Within.of2 (by assumption) ?_)
    | split
    | dsimp only
    | with_reducible apply Within.upd_pulses
    | exact (rfl : (_ : Nat) = _))

theorem State.crRetire_frame (s : State) (cores : Nat) : Within 0x210 s (State.crRetire s cores) := by
  unfold State.crRetire
  repeat' (first
    | with_reducible exact Within.refl _ _
    | with_reducible apply Within.next (k := State.set_frame _ _ _)
    | with_reducible apply Within.next (k := State.reportObj_frame _ _ _ _ _ _ _)
    | split
    | dsimp only
    | exact (rfl : (_ : Nat) = _))

theorem State.crTest_frame (s : State) (mask : Nat) : Within 0xa10 s (State.crTest s mask) := by
  unfold State.crTest
  repeat' (first
    | with_reducible exact Within.refl _ _
    | with_reducible apply Within.next (k := State.draw_frame _ _)
    | with_reducible apply Within.next (k := State.crRetire_frame _ _)
    | split
    | dsimp only
    | exact (rfl : (_ : Nat) = _))

theorem State.crRead_frame (s : State) (a : Nat) (n : Nat) : Within 0x24d7b52 s (State.crRead s a n).2 := by
  unfold State.crRead
  repeat' (first
    | with_reducible exact Within.refl _ _
    | with_reducible apply Within.next (k := State.memRead_frame _ _ _ _ _)
    | split
    | dsimp only
    | exact (rfl : (_ : Nat) = _))

theorem State.crStart_frame (s : State) (q : Nat) (off : Nat) (w : List Nat) (cores : Nat) : Within 0xc24d7b52 s (State.crStart s q off w cores) := by
  unfold State.crStart
  repeat' (first
    | with_reducible exact Within.refl _ _
    | with_reducible apply Within.next (k := State.updContext_frame _ _ _)
    | with_reducible apply Within.next (k := State.crRead_frame _ _ _)
    | split
    | dsimp only
    | with_reducible apply Within.upd_crJobs
    | exact (rfl : (_ : Nat) = _))

theorem State.crTakePulse_frame (s : State) (q : Nat) : Within 0x10 s (State.crTakePulse s q) := by
  unfold State.crTakePulse
  repeat' (first
    | with_reducible exact Within.refl _ _
    | with_reducible apply Within.next (k := State.set_frame _ _ _)
    | with_reducible apply Within.next (k := State.uncount_frame _ _ _)
    | split
    | dsimp only
    | exact (rfl : (_ : Nat) = _))

theorem execCressetJobStart_frame (s : State) : OWithin 0xc24d7b52 s (execCressetJobStart s) := by
  unfold execCressetJobStart
  repeat' (first
    | with_reducible exact Within.refl _ _
    | with_reducible apply Within.next (k := State.sets_frame _ _)
    | with_reducible apply Within.next (k := State.memRead_frame _ _ _ _ _)
    | with_reducible apply Within.next (k := State.updContext_frame _ _ _)
    | with_reducible apply Within.next (k := State.crStart_frame _ _ _ _ _)
    | with_reducible apply Within.next (k := State.crTakePulse_frame _ _)
    | with_reducible apply OWithin.next
    | split
    | dsimp only
    | with_reducible apply Within.upd_crJobs
    | exact (rfl : (_ : Nat) = _))

theorem State.setJob_frame (s : State) (k : Nat) (j : CrJob) : Within 0x80000010 s (State.setJob s k j) := by
  unfold State.setJob
  repeat' (first
    | with_reducible exact Within.refl _ _
    | with_reducible apply Within.next (k := State.set_frame _ _ _)
    | split
    | dsimp only
    | with_reducible apply Within.upd_crJobs
    | exact (rfl : (_ : Nat) = _))

theorem State.crWrite_frame (s : State) (k : Nat) (j : CrJob) : Within 0x7824d7b52 s (State.crWrite s k j) := by
  unfold State.crWrite
  repeat' (first
    | with_reducible exact Within.refl _ _
    | with_reducible apply Within.next (k := State.memWrite_frame _ _ _ _ _ _)
    | with_reducible apply Within.next (k := State.setJob_frame _ _ _)
    | split
    | dsimp only
    | exact (rfl : (_ : Nat) = _))

theorem State.crRelease_frame (s : State) (k : Nat) (j : CrJob) : Within 0x7824d7b52 s (State.crRelease s k j) := by
  unfold State.crRelease
  repeat' (first
    | with_reducible exact Within.refl _ _
    | with_reducible apply Within.next (k := State.crWrite_frame _ _ _)
    | split
    | dsimp only
    | exact (rfl : (_ : Nat) = _))

theorem execCressetBlockDone_frame (k : Nat) (ok1 : Bool) (ok2 : Bool) (s : State) : OWithin 0x7824d7f52 s (execCressetBlockDone k ok1 ok2 s) := by
  unfold execCressetBlockDone
  repeat' (first
    | with_reducible exact Within.refl _ _
    | with_reducible apply Within.next (k := State.count_frame _ _ _ _)
    | with_reducible apply Within.next (k := State.done_frame _ _)
    | with_reducible apply Within.next (k := State.crRetire_frame _ _)
    | with_reducible apply Within.next (k := State.setJob_frame _ _ _)
    | with_reducible apply Within.next (k := State.crRelease_frame _ _ _)
    | with_reducible apply OWithin.next
    | split
    | dsimp only
    | exact (rfl : (_ : Nat) = _))

theorem execCressetJobDone_frame (q : Nat) (s : State) : OWithin 0x7824d7f52 s (execCressetJobDone q s) := by
  unfold execCressetJobDone
  repeat' (first
    | with_reducible exact Within.refl _ _
    | with_reducible apply Within.next (k := State.set_frame _ _ _)
    | with_reducible apply Within.next (k := State.count_frame _ _ _ _)
    | with_reducible apply Within.next (k := State.done_frame _ _)
    | with_reducible apply Within.next (k := State.pulse_frame _ _ _)
    | with_reducible apply Within.next (k := State.memWrite_frame _ _ _ _ _ _)
    | with_reducible apply OWithin.next
    | split
    | dsimp only
    | with_reducible apply Within.upd_crJobs
    | exact (rfl : (_ : Nat) = _))

end Sys2Proof.Machine
end

