-- ==== Sys2Proof/Laws/FrameStart.lean ====
section
/-! SUPPORT. What the operations of starts, engines, supply, resets, updates and commits can touch: one law for each, with the parts of the state that it may change as bits of a mask
in the order of `Part`, and that it keeps the canonical forms. -/
set_option Elab.async false
namespace Sys2Proof.Machine

theorem State.startClear_frame (s : State) (cause : Nat) (lost held : Bool) : Within 0x38e3fffdfffff7f4 s (s.startClear cause lost held) :=
  ⟨fun p hp => by cases p <;> first | rfl | exact Bool.noConfusion (show true = false from hp), regsWf_filter _ _, Mem.wf_filter _ _⟩

theorem State.sleepNs_frame (s : State) : Within 0x800 s (State.sleepNs s).2 := by
  unfold State.sleepNs
  repeat' (first
    | with_reducible exact Within.refl _ _
    | with_reducible apply Within.next (k := State.draw_frame _ _)
    | split
    | dsimp only
    | exact (rfl : (_ : Nat) = _))

theorem State.startClocks_frame (s : State) (lost : Bool) (ns : Nat) : Within 0x110 s (State.startClocks s lost ns) := by
  unfold State.startClocks
  repeat' (first
    | with_reducible exact Within.refl _ _
    | with_reducible apply Within.next (k := State.sets_frame _ _)
    | with_reducible apply Within.next (k := State.domEnter_frame _ _ _)
    | with_reducible apply Within.next_foldl
    | with_reducible apply Within.next_foldl1
    | with_reducible apply Within.next_foldl2
    | with_reducible intro _
    | split
    | dsimp only
    | exact (rfl : (_ : Nat) = _))

theorem State.startCounter_frame (s : State) (lost : Bool) : Within 0x10 s (State.startCounter s lost) := by
  unfold State.startCounter
  repeat' (first
    | with_reducible exact Within.refl _ _
    | with_reducible apply Within.next (k := State.sets_frame _ _)
    | split
    | dsimp only
    | exact (rfl : (_ : Nat) = _))

theorem State.startFresh_frame (s : State) (wake : Bool) : Within 0x10 s (State.startFresh s wake) := by
  unfold State.startFresh
  repeat' (first
    | with_reducible exact Within.refl _ _
    | with_reducible apply Within.next (k := State.set_frame _ _ _)
    | with_reducible apply Within.next_foldl
    | with_reducible apply Within.next_foldl1
    | with_reducible apply Within.next_foldl2
    | with_reducible intro _
    | split
    | dsimp only
    | exact (rfl : (_ : Nat) = _))

theorem State.startAssoc_frame (s : State) (restore : Bool) : Within 0x10 s (State.startAssoc s restore) := by
  unfold State.startAssoc
  repeat' (first
    | with_reducible exact Within.refl _ _
    | with_reducible apply Within.regs_filter
    | with_reducible apply Within.next (k := State.set_frame _ _ _)
    | with_reducible apply Within.next_foldl
    | with_reducible apply Within.next_foldl1
    | with_reducible apply Within.next_foldl2
    | with_reducible intro _
    | split
    | dsimp only
    | exact (rfl : (_ : Nat) = _))

theorem State.startTotals_frame (s : State) (lost : Bool) : Within 0x10 s (State.startTotals s lost) := by
  unfold State.startTotals
  repeat' (first
    | with_reducible exact Within.refl _ _
    | with_reducible apply Within.next (k := State.sets_frame _ _)
    | split
    | dsimp only
    | exact (rfl : (_ : Nat) = _))

theorem State.startErrors_frame (s : State) (lost : Bool) (held : Bool) : Within 0x10 s (State.startErrors s lost held) := by
  unfold State.startErrors
  repeat' (first
    | with_reducible exact Within.refl _ _
    | with_reducible apply Within.next (k := State.set_frame _ _ _)
    | with_reducible apply Within.next_foldl
    | with_reducible apply Within.next_foldl1
    | with_reducible apply Within.next_foldl2
    | with_reducible intro _
    | split
    | dsimp only
    | exact (rfl : (_ : Nat) = _))

theorem State.startRecord_frame (s : State) (code : Nat) : Within 0x210 s (State.startRecord s code) := by
  unfold State.startRecord
  repeat' (first
    | with_reducible exact Within.refl _ _
    | with_reducible apply Within.next (k := State.report_frame _ _)
    | split
    | dsimp only
    | exact (rfl : (_ : Nat) = _))

theorem State.startVault_frame (s : State) (bad : List Nat) : Within 0xc8018e70 s (State.startVault s bad) := by
  unfold State.startVault
  repeat' (first
    | with_reducible exact Within.refl _ _
    | with_reducible apply Within.next (k := State.set_frame _ _ _)
    | with_reducible apply Within.next (k := State.sets_frame _ _)
    | with_reducible apply Within.next (k := State.count_frame _ _ _ _)
    | with_reducible apply Within.next (k := State.reportObj_frame _ _ _ _ _ _ _)
    | with_reducible apply Within.next (k := State.placeKey_frame _ _)
    | with_reducible apply Within.next (k := State.emptyKey_frame _ _)
    | with_reducible apply Within.next (k := State.reseed_frame _)
    | with_reducible apply Within.next (k := State.newKey_frame _ _)
    | with_reducible apply Within.next (k := State.destroyFor_frame _ _)
    | with_reducible apply Within.next (k := State.writeJournal_frame _ _ _ _)
    | with_reducible apply Within.next (k := State.startRecord_frame _ _)
    | with_reducible apply Within.next_foldl
    | with_reducible apply Within.next_foldl1
    | with_reducible apply Within.next_foldl2
    | with_reducible intro _
    | split
    | dsimp only
    | exact (rfl : (_ : Nat) = _))

theorem State.startErases_frame (s : State) (sector : Nat) (slot : Nat) : Within 0x600000300000210 s (State.startErases s sector slot) := by
  unfold State.startErases
  repeat' (first
    | with_reducible exact Within.refl _ _
    | with_reducible apply Within.next (k := State.set_frame _ _ _)
    | with_reducible apply Within.next (k := State.eraseFlash_frame _ _ _)
    | with_reducible apply Within.next (k := State.setIvtas_frame _ _ _)
    | with_reducible apply Within.next (k := State.startRecord_frame _ _)
    | split
    | dsimp only
    | exact (rfl : (_ : Nat) = _))

theorem State.startSlots_frame (s : State) (floorBad : Bool) : Within 0x10 s (State.startSlots s floorBad) := by
  unfold State.startSlots
  repeat' (first
    | with_reducible exact Within.refl _ _
    | with_reducible apply Within.next (k := State.set_frame _ _ _)
    | with_reducible apply Within.next (k := State.readSelector_frame _)
    | split
    | dsimp only
    | exact (rfl : (_ : Nat) = _))

theorem State.startUpdate_frame (s : State) (cause : Nat) : Within 0x250 s (State.startUpdate s cause) := by
  unfold State.startUpdate
  repeat' (first
    | with_reducible exact Within.refl _ _
    | with_reducible apply Within.next (k := State.set_frame _ _ _)
    | with_reducible apply Within.next (k := State.fallBack_frame _)
    | with_reducible apply Within.next (k := State.startRecord_frame _ _)
    | split
    | dsimp only
    | exact (rfl : (_ : Nat) = _))

theorem State.sealRecovery_frame (s : State) (code : Nat) : Within 0x4000000000810 s (State.sealRecovery s code) := by
  unfold State.sealRecovery
  repeat' (first
    | with_reducible exact Within.refl _ _
    | with_reducible apply Within.next (k := State.sealEvent_frame _ _ _ _ _)
    | with_reducible apply Within.next (k := State.sealCount_frame _ _ _ _)
    | split
    | dsimp only
    | exact (rfl : (_ : Nat) = _))

theorem State.startClosure_frame (s : State) : Within 0x4000008000a10 s (State.startClosure s) := by
  unfold State.startClosure
  repeat' (first
    | with_reducible exact Within.refl _ _
    | with_reducible apply Within.next (k := State.set_frame _ _ _)
    | with_reducible apply Within.next (k := State.sets_frame _ _)
    | with_reducible apply Within.next (k := State.draw_frame _ _)
    | with_reducible apply Within.next (k := State.placeKey_frame _ _)
    | with_reducible apply Within.next (k := State.emptyKey_frame _ _)
    | with_reducible apply Within.next (k := State.newKey_frame _ _)
    | with_reducible apply Within.next (k := State.sealAppend_frame _ _ _)
    | with_reducible apply Within.next (k := State.startRecord_frame _ _)
    | split
    | dsimp only
    | exact (rfl : (_ : Nat) = _))

theorem State.startTorn_frame (s : State) (job : Option SealJob) : Within 0x4000000000810 s (State.startTorn s job).1 := by
  unfold State.startTorn
  repeat' (first
    | with_reducible exact Within.refl _ _
    | with_reducible apply Within.next (k := State.draw_frame _ _)
    | with_reducible apply Within.next (k := State.sealWrite_frame _ _ _ _ _)
    | with_reducible apply Within.next (k := State.sealVoid_frame _)
    | with_reducible apply Within.next (k := State.sealRecovery_frame _ _)
    | split
    | dsimp only
    | exact (rfl : (_ : Nat) = _))

theorem State.sealScan_frame (s : State) (job : Option SealJob) : Within 0x4000008000a10 s (State.sealScan s job) := by
  unfold State.sealScan
  repeat' (first
    | with_reducible exact Within.refl _ _
    | with_reducible apply Within.next (k := State.closeSession_frame _ _ _ _)
    | with_reducible apply Within.next (k := State.startRecord_frame _ _)
    | with_reducible apply Within.next (k := State.sealRecovery_frame _ _)
    | with_reducible apply Within.next (k := State.startClosure_frame _)
    | with_reducible apply Within.next (k := State.startTorn_frame _ _)
    | split
    | dsimp only
    | exact (rfl : (_ : Nat) = _))

theorem State.startBuses_frame (s : State) : Within 0x10 s (State.startBuses s) := by
  unfold State.startBuses
  repeat' (first
    | with_reducible exact Within.refl _ _
    | with_reducible apply Within.next (k := State.set_frame _ _ _)
    | with_reducible apply Within.next (k := State.latch_frame _ _)
    | with_reducible apply Within.next_foldl
    | with_reducible apply Within.next_foldl1
    | with_reducible apply Within.next_foldl2
    | with_reducible intro _
    | split
    | dsimp only
    | exact (rfl : (_ : Nat) = _))

theorem State.startRings_frame (s : State) : Within 0x10 s (State.startRings s) := by
  unfold State.startRings
  repeat' (first
    | with_reducible exact Within.refl _ _
    | with_reducible apply Within.next (k := State.latch_frame _ _)
    | with_reducible apply Within.next_foldl
    | with_reducible apply Within.next_foldl1
    | with_reducible apply Within.next_foldl2
    | with_reducible intro _
    | split
    | dsimp only
    | exact (rfl : (_ : Nat) = _))

theorem State.startKeys_frame (s : State) : Within 0x1800000810 s (State.startKeys s) := by
  unfold State.startKeys
  repeat' (first
    | with_reducible exact Within.refl _ _
    | with_reducible apply Within.next (k := State.set_frame _ _ _)
    | with_reducible apply Within.next (k := State.latch_frame _ _)
    | with_reducible apply Within.next (k := State.gwKeyLoad_frame _ _ _)
    | with_reducible apply Within.next (k := State.kidMake_frame _ _)
    | with_reducible apply Within.next (k := State.kidLoad_frame _ _ _)
    | with_reducible apply Within.next_foldl
    | with_reducible apply Within.next_foldl1
    | with_reducible apply Within.next_foldl2
    | with_reducible intro _
    | split
    | dsimp only
    | exact (rfl : (_ : Nat) = _))

theorem State.fillMeter_frame (s : State) (row : Nat) : Within 0x10 s (State.fillMeter s row) := by
  unfold State.fillMeter
  repeat' (first
    | with_reducible exact Within.refl _ _
    | with_reducible apply Within.next (k := State.sets_frame _ _)
    | split
    | dsimp only
    | exact (rfl : (_ : Nat) = _))

theorem State.startTables_frame (s : State) : Within 0x10 s (State.startTables s) := by
  unfold State.startTables
  repeat' (first
    | with_reducible exact Within.refl _ _
    | with_reducible apply Within.next (k := State.set_frame _ _ _)
    | with_reducible apply Within.next (k := State.gclPlan_frame _ _ _)
    | with_reducible apply Within.next (k := State.fillMeter_frame _ _)
    | with_reducible apply Within.next_foldl
    | with_reducible apply Within.next_foldl1
    | with_reducible apply Within.next_foldl2
    | with_reducible intro _
    | split
    | dsimp only
    | exact (rfl : (_ : Nat) = _))

theorem State.startPorts_frame (s : State) : Within 0x910 s (State.startPorts s) := by
  unfold State.startPorts
  repeat' (first
    | with_reducible exact Within.refl _ _
    | with_reducible apply Within.next (k := State.linkStart_frame _ _)
    | with_reducible apply Within.next_foldl
    | with_reducible apply Within.next_foldl1
    | with_reducible apply Within.next_foldl2
    | with_reducible intro _
    | split
    | dsimp only
    | exact (rfl : (_ : Nat) = _))

theorem State.startOutputs_frame (s : State) : Within 0x10 s (State.startOutputs s) := by
  unfold State.startOutputs
  repeat' (first
    | with_reducible exact Within.refl _ _
    | with_reducible apply Within.next (k := State.drive_frame _ _ _)
    | with_reducible apply Within.next (k := State.groupEnter_frame _ _ _)
    | with_reducible apply Within.next_foldl
    | with_reducible apply Within.next_foldl1
    | with_reducible apply Within.next_foldl2
    | with_reducible intro _
    | split
    | dsimp only
    | exact (rfl : (_ : Nat) = _))

theorem State.settle'_frame (s : State) : Within 0x1800000910 s (State.settle' s) := by
  unfold State.settle'
  repeat' (first
    | with_reducible exact Within.refl _ _
    | with_reducible apply Within.next (k := State.set_frame _ _ _)
    | with_reducible apply Within.next (k := State.latch_frame _ _)
    | with_reducible apply Within.next (k := State.startBuses_frame _)
    | with_reducible apply Within.next (k := State.startRings_frame _)
    | with_reducible apply Within.next (k := State.startKeys_frame _)
    | with_reducible apply Within.next (k := State.startTables_frame _)
    | with_reducible apply Within.next (k := State.startPorts_frame _)
    | with_reducible apply Within.next (k := State.startOutputs_frame _)
    | split
    | dsimp only
    | exact (rfl : (_ : Nat) = _))

theorem State.migrated_frame (s : State) (img : CfgImage) : Within 0x10 s (State.migrated s img).1 := by
  unfold State.migrated
  repeat' (first
    | with_reducible exact Within.refl _ _
    | with_reducible apply Within.next (k := State.sets_frame _ _)
    | split
    | dsimp only
    | exact (rfl : (_ : Nat) = _))

theorem State.migrationState_frame (s : State) (v : Nat) : Within 0x210 s (State.migrationState s v) := by
  unfold State.migrationState
  repeat' (first
    | with_reducible exact Within.refl _ _
    | with_reducible apply Within.next (k := State.set_frame _ _ _)
    | with_reducible apply Within.next (k := State.reportObj_frame _ _ _ _ _ _ _)
    | split
    | dsimp only
    | exact (rfl : (_ : Nat) = _))

theorem State.useImage_frame (s : State) (img : CfgImage) (older : Bool) : Within 0x40000000000250 s (State.useImage s img older) := by
  unfold State.useImage
  repeat' (first
    | with_reducible exact Within.refl _ _
    | with_reducible apply Within.next (k := State.sets_frame _ _)
    | with_reducible apply Within.next (k := State.applySection_frame _ _ _)
    | with_reducible apply Within.next (k := State.migrated_frame _ _)
    | with_reducible apply Within.next (k := State.migrationState_frame _ _)
    | split
    | dsimp only
    | with_reducible apply Within.upd_streaming
    | exact (rfl : (_ : Nat) = _))

theorem State.useDefaults_frame (s : State) (newer : Bool) : Within 0x210 s (State.useDefaults s newer) := by
  unfold State.useDefaults
  repeat' (first
    | with_reducible exact Within.refl _ _
    | with_reducible apply Within.next (k := State.set_frame _ _ _)
    | with_reducible apply Within.next (k := State.reportObj_frame _ _ _ _ _ _ _)
    | with_reducible apply Within.next (k := State.migrationState_frame _ _)
    | split
    | dsimp only
    | exact (rfl : (_ : Nat) = _))

theorem State.loadImage_frame (s : State) (bad : List Nat) : Within 0x40000000000250 s (State.loadImage s bad) := by
  unfold State.loadImage
  repeat' (first
    | with_reducible exact Within.refl _ _
    | with_reducible apply Within.next (k := State.useImage_frame _ _ _)
    | with_reducible apply Within.next (k := State.useDefaults_frame _ _)
    | (with_reducible refine Within.of2 (by assumption) ?_)
    | split
    | dsimp only
    | exact (rfl : (_ : Nat) = _))

theorem State.startValues_frame (s : State) (cause : Nat) (slept : Nat) (lost : Bool) (env : StartEnv) : Within 0x10 s (State.startValues s cause slept lost env) := by
  unfold State.startValues
  repeat' (first
    | with_reducible exact Within.refl _ _
    | with_reducible apply Within.next (k := State.sets_frame _ _)
    | split
    | dsimp only
    | exact (rfl : (_ : Nat) = _))

theorem State.startPower_frame (s : State) (target : Mode) : Within 0x10 s (State.startPower s target) := by
  unfold State.startPower
  repeat' (first
    | with_reducible exact Within.refl _ _
    | with_reducible apply Within.next (k := State.set_frame _ _ _)
    | with_reducible apply Within.next_foldl
    | with_reducible apply Within.next_foldl1
    | with_reducible apply Within.next_foldl2
    | with_reducible intro _
    | split
    | dsimp only
    | exact (rfl : (_ : Nat) = _))

theorem State.startCore_frame (o : State) (cause : Nat) (target : Mode) (env : StartEnv) : Within 0x3ee3fffffffffff4 o (State.startCore o cause target env) := by
  unfold State.startCore
  repeat' (first
    | with_reducible exact Within.refl _ _
    | with_reducible apply Within.next (k := State.startClear_frame _ _ _ _)
    | with_reducible apply Within.next (k := State.sleepNs_frame _)
    | with_reducible apply Within.next (k := State.startCounter_frame _ _)
    | with_reducible apply Within.next (k := State.startErrors_frame _ _ _)
    | with_reducible apply Within.next (k := State.startVault_frame _ _)
    | with_reducible apply Within.next (k := State.startErases_frame _ _ _)
    | with_reducible apply Within.next (k := State.startSlots_frame _ _)
    | with_reducible apply Within.next (k := State.startUpdate_frame _ _)
    | with_reducible apply Within.next (k := State.startValues_frame _ _ _ _ _)
    | with_reducible apply Within.next (k := State.startPower_frame _ _)
    | split
    | dsimp only
    | exact (rfl : (_ : Nat) = _))

theorem State.startTests_frame (s : State) (o : State) : Within 0xb10 s (State.startTests s o) := by
  unfold State.startTests
  repeat' (first
    | with_reducible exact Within.refl _ _
    | with_reducible apply Within.next (k := State.set_frame _ _ _)
    | with_reducible apply Within.next (k := State.recapacity_frame _)
    | with_reducible apply Within.next (k := State.testUnits_frame _ _ _)
    | with_reducible apply Within.next (k := State.crTest_frame _ _)
    | split
    | dsimp only
    | exact (rfl : (_ : Nat) = _))

theorem State.startData_frame (s : State) (wake : Bool) (valid : Bool) (held : Bool) (lost : Bool) : Within 0x10 s (State.startData s wake valid held lost) := by
  unfold State.startData
  repeat' (first
    | with_reducible exact Within.refl _ _
    | with_reducible apply Within.next (k := State.startFresh_frame _ _)
    | with_reducible apply Within.next (k := State.startAssoc_frame _ _)
    | with_reducible apply Within.next (k := State.startTotals_frame _ _)
    | split
    | dsimp only
    | exact (rfl : (_ : Nat) = _))

theorem State.startRun_frame (o : State) (cause : Nat) (target : Mode) (env : StartEnv) : Within 0x3ee7fffffffffff6 o (State.startRun o cause target env) := by
  unfold State.startRun
  repeat' (first
    | with_reducible exact Within.refl _ _
    | with_reducible apply Within.next (k := State.pulse_frame _ _ _)
    | with_reducible apply Within.next (k := State.enterMode_frame _ _)
    | with_reducible apply Within.next (k := State.sleepNs_frame _)
    | with_reducible apply Within.next (k := State.startClocks_frame _ _ _)
    | with_reducible apply Within.next (k := State.sealScan_frame _ _)
    | with_reducible apply Within.next (k := State.settle'_frame _)
    | with_reducible apply Within.next (k := State.loadImage_frame _ _)
    | with_reducible apply Within.next (k := State.startCore_frame _ _ _ _)
    | with_reducible apply Within.next (k := State.startTests_frame _ _)
    | with_reducible apply Within.next (k := State.startData_frame _ _ _ _ _)
    | split
    | dsimp only
    | with_reducible apply Within.upd_starting
    | exact (rfl : (_ : Nat) = _))

theorem State.setBox_frame (s : State) (b : EngineBox) : Within 0x400000000000 s (State.setBox s b) := by
  unfold State.setBox
  repeat' (first
    | with_reducible exact Within.refl _ _
    | split
    | dsimp only
    | with_reducible apply Within.upd_boxes
    | exact (rfl : (_ : Nat) = _))

theorem execSlowPathDispatch_frame (s : State) : OWithin 0x600001001010 s (execSlowPathDispatch s) := by
  unfold execSlowPathDispatch
  repeat' (first
    | with_reducible exact Within.refl _ _
    | with_reducible apply Within.next (k := State.set_frame _ _ _)
    | with_reducible apply Within.next (k := State.sets_frame _ _)
    | with_reducible apply Within.next (k := State.count_frame _ _ _ _)
    | with_reducible apply Within.next (k := State.unref_frame _ _)
    | with_reducible apply Within.next (k := State.setBox_frame _ _)
    | with_reducible apply OWithin.next
    | split
    | dsimp only
    | with_reducible apply Within.upd_slow
    | with_reducible apply Within.upd_spTags
    | exact (rfl : (_ : Nat) = _))

theorem State.engineSet_frame (s : State) (e : Nat) (rd : Nat) (v : Nat) : Within 0x10 s (State.engineSet s e rd v) := by
  unfold State.engineSet
  repeat' (first
    | with_reducible exact Within.refl _ _
    | with_reducible apply Within.next (k := State.set_frame _ _ _)
    | split
    | dsimp only
    | exact (rfl : (_ : Nat) = _))

theorem execSpIn_frame (e : Nat) (rd : Nat) (s : State) : OWithin 0x400000000010 s (execSpIn e rd s) := by
  unfold execSpIn
  repeat' (first
    | with_reducible exact Within.refl _ _
    | with_reducible apply Within.next (k := State.count_frame _ _ _ _)
    | with_reducible apply Within.next (k := State.setBox_frame _ _)
    | with_reducible apply Within.next (k := State.engineSet_frame _ _ _ _)
    | with_reducible apply OWithin.next
    | split
    | dsimp only
    | exact (rfl : (_ : Nat) = _))

theorem execSpLeft_frame (e : Nat) (rd : Nat) (s : State) : OWithin 0x10 s (execSpLeft e rd s) := by
  unfold execSpLeft
  repeat' (first
    | with_reducible exact Within.refl _ _
    | with_reducible apply Within.next (k := State.engineSet_frame _ _ _ _)
    | with_reducible apply OWithin.next
    | split
    | dsimp only
    | exact (rfl : (_ : Nat) = _))

theorem execSpDrop_frame (e : Nat) (s : State) : OWithin 0x400000000010 s (execSpDrop e s) := by
  unfold execSpDrop
  repeat' (first
    | with_reducible exact Within.refl _ _
    | with_reducible apply Within.next (k := State.count_frame _ _ _ _)
    | with_reducible apply Within.next (k := State.setBox_frame _ _)
    | with_reducible apply OWithin.next
    | split
    | dsimp only
    | exact (rfl : (_ : Nat) = _))

theorem execSpOut_frame (e : Nat) (rs1 : Nat) (s : State) : OWithin 0x400000000000 s (execSpOut e rs1 s) := by
  unfold execSpOut
  repeat' (first
    | with_reducible exact Within.refl _ _
    | with_reducible apply Within.next (k := State.setBox_frame _ _)
    | with_reducible apply OWithin.next
    | split
    | dsimp only
    | exact (rfl : (_ : Nat) = _))

theorem execSpSend_frame (e : Nat) (s : State) : OWithin 0x400000000000 s (execSpSend e s) := by
  unfold execSpSend
  repeat' (first
    | with_reducible exact Within.refl _ _
    | with_reducible apply Within.next (k := State.setBox_frame _ _)
    | with_reducible apply OWithin.next
    | split
    | dsimp only
    | exact (rfl : (_ : Nat) = _))

theorem State.resolveTag_frame (s : State) (tag : Nat) (gen : Nat) : Within 0x200000000010 s (State.resolveTag s tag gen) := by
  unfold State.resolveTag
  repeat' (first
    | with_reducible exact Within.refl _ _
    | with_reducible apply Within.next (k := State.count_frame _ _ _ _)
    | split
    | dsimp only
    | with_reducible apply Within.upd_spTags
    | exact (rfl : (_ : Nat) = _))

theorem execSpResolve_frame (e : Nat) (rs1 : Nat) (s : State) : OWithin 0x200000000010 s (execSpResolve e rs1 s) := by
  unfold execSpResolve
  repeat' (first
    | with_reducible exact Within.refl _ _
    | with_reducible apply Within.next (k := State.resolveTag_frame _ _ _)
    | with_reducible apply OWithin.next
    | split
    | dsimp only
    | exact (rfl : (_ : Nat) = _))

theorem execSpCrc_frame (e : Nat) (rd : Nat) (rs1 : Nat) (rs2 : Nat) (s : State) : OWithin 0x10 s (execSpCrc e rd rs1 rs2 s) := by
  unfold execSpCrc
  repeat' (first
    | with_reducible exact Within.refl _ _
    | with_reducible apply Within.next (k := State.engineSet_frame _ _ _ _)
    | with_reducible apply OWithin.next
    | split
    | dsimp only
    | exact (rfl : (_ : Nat) = _))

theorem execSpCsum_frame (e : Nat) (rd : Nat) (rs1 : Nat) (rs2 : Nat) (s : State) : OWithin 0x10 s (execSpCsum e rd rs1 rs2 s) := by
  unfold execSpCsum
  repeat' (first
    | with_reducible exact Within.refl _ _
    | with_reducible apply Within.next (k := State.engineSet_frame _ _ _ _)
    | with_reducible apply OWithin.next
    | split
    | dsimp only
    | exact (rfl : (_ : Nat) = _))

theorem execSpTime_frame (e : Nat) (rd : Nat) (s : State) : OWithin 0x10 s (execSpTime e rd s) := by
  unfold execSpTime
  repeat' (first
    | with_reducible exact Within.refl _ _
    | with_reducible apply Within.next (k := State.engineSet_frame _ _ _ _)
    | with_reducible apply OWithin.next
    | split
    | dsimp only
    | exact (rfl : (_ : Nat) = _))

theorem State.release_frame (s : State) (o : SpOut) : Within 0x10cba10 s (State.release s o) := by
  unfold State.release
  repeat' (first
    | with_reducible exact Within.refl _ _
    | with_reducible apply Within.next (k := State.count_frame _ _ _ _)
    | with_reducible apply Within.next (k := State.updFrame_frame _ _ _)
    | with_reducible apply Within.next (k := State.freeFrame_frame _ _)
    | with_reducible apply Within.next (k := State.fdbLookup_frame _ _ _ _ _)
    | with_reducible apply Within.next (k := State.decide_frame _ _ _)
    | with_reducible apply Within.next (k := State.ingressFrame_frame _ _ _ _ _ _)
    | split
    | dsimp only
    | with_reducible apply Within.upd_staging
    | exact (rfl : (_ : Nat) = _))

theorem State.storeOut_frame (s : State) (w : OutWord) (b : List Byte) : Within 0x1810 s (State.storeOut s w b).2 := by
  unfold State.storeOut
  repeat' (first
    | with_reducible exact Within.refl _ _
    | with_reducible apply Within.next (k := State.storeFrame_frame _ _)
    | split
    | dsimp only
    | exact (rfl : (_ : Nat) = _))

theorem State.collect_frame (s : State) (w : OutWord) (b : List Byte) : Within 0x2000010cba10 s (State.collect s w b) := by
  unfold State.collect
  repeat' (first
    | with_reducible exact Within.refl _ _
    | with_reducible apply Within.next (k := State.count_frame _ _ _ _)
    | with_reducible apply Within.next (k := State.release_frame _ _)
    | with_reducible apply Within.next (k := State.storeOut_frame _ _ _)
    | split
    | dsimp only
    | with_reducible apply Within.upd_spTags
    | exact (rfl : (_ : Nat) = _))

theorem execOutboxCollect_frame (e : Nat) (s : State) : OWithin 0x6000010cba10 s (execOutboxCollect e s) := by
  unfold execOutboxCollect
  repeat' (first
    | with_reducible exact Within.refl _ _
    | with_reducible apply Within.next (k := State.count_frame _ _ _ _)
    | with_reducible apply Within.next (k := State.setBox_frame _ _)
    | with_reducible apply Within.next (k := State.collect_frame _ _ _)
    | with_reducible apply OWithin.next
    | split
    | dsimp only
    | exact (rfl : (_ : Nat) = _))

theorem execTagRelease_frame (port : Nat) (s : State) : OWithin 0x2000010cba10 s (execTagRelease port s) := by
  unfold execTagRelease
  repeat' (first
    | with_reducible exact Within.refl _ _
    | with_reducible apply Within.next (k := State.release_frame _ _)
    | with_reducible apply Within.next_foldl
    | with_reducible apply Within.next_foldl1
    | with_reducible apply Within.next_foldl2
    | with_reducible apply OWithin.next
    | (with_reducible refine Within.of2 (by assumption) ?_)
    | with_reducible intro _
    | split
    | dsimp only
    | with_reducible apply Within.upd_spTags
    | exact (rfl : (_ : Nat) = _))

theorem execReorderTimeout_frame (tag : Nat) (s : State) : OWithin 0x200000000010 s (execReorderTimeout tag s) := by
  unfold execReorderTimeout
  repeat' (first
    | with_reducible exact Within.refl _ _
    | with_reducible apply Within.next (k := State.count_frame _ _ _ _)
    | with_reducible apply Within.next (k := State.resolveTag_frame _ _ _)
    | with_reducible apply OWithin.next
    | split
    | dsimp only
    | exact (rfl : (_ : Nat) = _))

theorem State.engineHalt_frame (s : State) (e : Nat) (st : Nat) : Within 0x600000000010 s (State.engineHalt s e st) := by
  unfold State.engineHalt
  repeat' (first
    | with_reducible exact Within.refl _ _
    | with_reducible apply Within.next (k := State.set_frame _ _ _)
    | with_reducible apply Within.next (k := State.count_frame _ _ _ _)
    | with_reducible apply Within.next (k := State.setBox_frame _ _)
    | split
    | dsimp only
    | with_reducible apply Within.upd_spTags
    | exact (rfl : (_ : Nat) = _))

theorem execEngineFault_frame (e : Nat) (cause : Nat) (pc : Nat) (s : State) : OWithin 0x600000000310 s (execEngineFault e cause pc s) := by
  unfold execEngineFault
  repeat' (first
    | with_reducible exact Within.refl _ _
    | with_reducible apply Within.next (k := State.sets_frame _ _)
    | with_reducible apply Within.next (k := State.pulse_frame _ _ _)
    | with_reducible apply Within.next (k := State.reportObj_frame _ _ _ _ _ _ _)
    | with_reducible apply Within.next (k := State.engineHalt_frame _ _ _)
    | with_reducible apply OWithin.next
    | split
    | dsimp only
    | exact (rfl : (_ : Nat) = _))

theorem execSeRun_frame (ctx : Ctx) (e : Nat) (s : State) : OWithin 0x410 s (execSeRun ctx e s) := by
  unfold execSeRun
  repeat' (first
    | with_reducible exact Within.refl _ _
    | with_reducible apply Within.next (k := State.sets_frame _ _)
    | with_reducible apply State.rwWrite_next
    | with_reducible apply OWithin.next
    | with_reducible intro _
    | split
    | dsimp only
    | exact (rfl : (_ : Nat) = _))

theorem execSeStop_frame (ctx : Ctx) (e : Nat) (s : State) : OWithin 0x600000000410 s (execSeStop ctx e s) := by
  unfold execSeStop
  repeat' (first
    | with_reducible exact Within.refl _ _
    | with_reducible apply Within.next (k := State.set_frame _ _ _)
    | with_reducible apply State.rwWrite_next
    | with_reducible apply Within.next (k := State.engineHalt_frame _ _ _)
    | with_reducible apply OWithin.next
    | with_reducible intro _
    | split
    | dsimp only
    | exact (rfl : (_ : Nat) = _))

theorem execRingReceiveWrite_frame (q : Nat) (s : State) : OWithin 0x7024d7b52 s (execRingReceiveWrite q s) := by
  unfold execRingReceiveWrite
  repeat' (first
    | with_reducible exact Within.refl _ _
    | with_reducible apply Within.next (k := State.set_frame _ _ _)
    | with_reducible apply Within.next (k := State.pulse_frame _ _ _)
    | with_reducible apply Within.next (k := State.hostPass_frame _ _)
    | with_reducible apply Within.next (k := State.takeHost_frame _ _)
    | with_reducible apply Within.next (k := State.memWrite_frame _ _ _ _ _ _)
    | with_reducible apply OWithin.next
    | (with_reducible refine Within.of2 (by assumption) ?_)
    | split
    | dsimp only
    | exact (rfl : (_ : Nat) = _))

theorem State.txRecords_frame (k : Nat) (s : State) : Within 0x2000034dfb52 s (State.txRecords k s) := by
  induction k generalizing s with
  | zero => exact Within.refl _ _
  | succ k ih =>
    unfold State.txRecords
    repeat' (first
    | with_reducible exact Within.refl _ _
    | exact (rfl : (_ : Nat) = _)
      | with_reducible apply Within.next (k := ih _)
      | with_reducible apply Within.next (k := State.collect_frame _ _ _)
      | with_reducible apply Within.next (k := State.count_frame _ _ _ _)
      | with_reducible apply Within.next (k := State.set_frame _ _ _)
      | with_reducible apply Within.next (k := State.memRead_frame _ _ _ _ _)
      | (with_reducible refine Within.of2 (by assumption) ?_)
      | split
      | dsimp only)

theorem execTxRingProduce_frame (ctx : Ctx) (value : Nat) (s : State) : OWithin 0x2000034dff52 s (execTxRingProduce ctx value s) := by
  unfold execTxRingProduce
  repeat' (first
    | with_reducible exact Within.refl _ _
    | with_reducible apply Within.next (k := State.set_frame _ _ _)
    | with_reducible apply State.rwWrite_next
    | with_reducible apply Within.next (k := State.txRecords_frame _ _)
    | with_reducible apply OWithin.next
    | with_reducible intro _
    | split
    | dsimp only
    | exact (rfl : (_ : Nat) = _))

theorem execVbatSample_frame (mv : Nat) (s : State) : OWithin 0x210 s (execVbatSample mv s) := by
  unfold execVbatSample
  repeat' (first
    | with_reducible exact Within.refl _ _
    | with_reducible apply Within.next (k := State.set_frame _ _ _)
    | with_reducible apply Within.next (k := State.sets_frame _ _)
    | with_reducible apply Within.next (k := State.count_frame _ _ _ _)
    | with_reducible apply Within.next (k := State.reportObj_frame _ _ _ _ _ _ _)
    | with_reducible apply Within.next_foldl
    | with_reducible apply Within.next_foldl1
    | with_reducible apply Within.next_foldl2
    | with_reducible apply OWithin.next
    | with_reducible intro _
    | split
    | dsimp only
    | exact (rfl : (_ : Nat) = _))

theorem State.vbatStep_frame (s : State) (n : Nat) : Within 0x110 s (State.vbatStep s n) := by
  unfold State.vbatStep
  repeat' (first
    | with_reducible exact Within.refl _ _
    | with_reducible apply Within.next (k := State.sets_frame _ _)
    | with_reducible apply Within.next (k := State.applyStep_frame _)
    | split
    | dsimp only
    | exact (rfl : (_ : Nat) = _))

theorem execThrottleStepDown_frame (s : State) : OWithin 0x110 s (execThrottleStepDown s) := by
  unfold execThrottleStepDown
  repeat' (first
    | with_reducible exact Within.refl _ _
    | with_reducible apply Within.next (k := State.vbatStep_frame _ _)
    | with_reducible apply OWithin.next
    | split
    | dsimp only
    | exact (rfl : (_ : Nat) = _))

theorem execThrottleStepUp_frame (s : State) : OWithin 0x110 s (execThrottleStepUp s) := by
  unfold execThrottleStepUp
  repeat' (first
    | with_reducible exact Within.refl _ _
    | with_reducible apply Within.next (k := State.vbatStep_frame _ _)
    | with_reducible apply OWithin.next
    | split
    | dsimp only
    | exact (rfl : (_ : Nat) = _))

theorem execDroopDetect_frame (levels : List Nat) (s : State) : OWithin 0x10 s (execDroopDetect levels s) := by
  unfold execDroopDetect
  repeat' (first
    | with_reducible exact Within.refl _ _
    | with_reducible apply Within.next (k := State.set_frame _ _ _)
    | with_reducible apply Within.next (k := State.count_frame _ _ _ _)
    | with_reducible apply OWithin.next
    | split
    | dsimp only
    | exact (rfl : (_ : Nat) = _))

theorem State.saveSleep_frame (s : State) (ember : Bool) (items : Nat) : Within 0x850 s (State.saveSleep s ember items) := by
  unfold State.saveSleep
  repeat' (first
    | with_reducible exact Within.refl _ _
    | with_reducible apply Within.regs_filter
    | with_reducible apply Within.next (k := State.set_frame _ _ _)
    | with_reducible apply Within.next (k := State.sets_frame _ _)
    | with_reducible apply Within.next (k := State.cutBlock_frame _ _)
    | with_reducible apply Within.next (k := State.savePorts_frame _ _)
    | with_reducible apply Within.next_foldl
    | with_reducible apply Within.next_foldl1
    | with_reducible apply Within.next_foldl2
    | with_reducible intro _
    | split
    | dsimp only
    | exact (rfl : (_ : Nat) = _))

theorem State.allSafe_frame (s : State) : Within 0x10 s (State.allSafe s) := by
  unfold State.allSafe
  repeat' (first
    | with_reducible exact Within.refl _ _
    | with_reducible apply Within.next (k := State.groupEnter_frame _ _ _)
    | with_reducible apply Within.next_foldl
    | with_reducible apply Within.next_foldl1
    | with_reducible apply Within.next_foldl2
    | with_reducible intro _
    | split
    | dsimp only
    | exact (rfl : (_ : Nat) = _))

theorem State.enterSleep_frame (s : State) (target : Mode) (items : Nat) (recover : Nat) : Within 0x952 s (State.enterSleep s target items recover) := by
  unfold State.enterSleep
  repeat' (first
    | with_reducible exact Within.refl _ _
    | with_reducible apply Within.next (k := State.sets_frame _ _)
    | with_reducible apply Within.next (k := State.groupEnter_frame _ _ _)
    | with_reducible apply Within.next (k := State.enterMode_frame _ _)
    | with_reducible apply Within.next (k := State.saveSleep_frame _ _ _)
    | with_reducible apply Within.next (k := State.allSafe_frame _)
    | with_reducible apply Within.next_foldl
    | with_reducible apply Within.next_foldl1
    | with_reducible apply Within.next_foldl2
    | with_reducible intro _
    | split
    | dsimp only
    | exact (rfl : (_ : Nat) = _))

theorem State.wake_frame (s : State) (source : Nat) (info : Nat) (env : StartEnv) : Within 0x3ee7fffffffffff6 s (State.wake s source info env) := by
  unfold State.wake
  repeat' (first
    | with_reducible exact Within.refl _ _
    | with_reducible apply Within.next (k := State.sets_frame _ _)
    | with_reducible apply Within.next (k := State.startRun_frame _ _ _ _)
    | split
    | dsimp only
    | exact (rfl : (_ : Nat) = _))

theorem State.wakeFire_frame (s : State) (sources : List WakeSource) (env : StartEnv) : Within 0x3ee7fffffffffff6 s (State.wakeFire s sources env) := by
  unfold State.wakeFire
  repeat' (first
    | with_reducible exact Within.refl _ _
    | with_reducible apply Within.next (k := State.set_frame _ _ _)
    | with_reducible apply Within.next (k := State.wake_frame _ _ _ _)
    | (with_reducible refine Within.of2 (by assumption) ?_)
    | split
    | dsimp only
    | exact (rfl : (_ : Nat) = _))

theorem execWakeEvent_frame (sources : List WakeSource) (env : StartEnv) (s : State) : OWithin 0x3ee7fffffffffff6 s (execWakeEvent sources env s) := by
  unfold execWakeEvent
  repeat' (first
    | with_reducible exact Within.refl _ _
    | with_reducible apply Within.next (k := State.wakeFire_frame _ _ _)
    | with_reducible apply OWithin.next
    | split
    | dsimp only
    | exact (rfl : (_ : Nat) = _))

theorem execProximityPoll_frame (ohms : Nat) (env : StartEnv) (s : State) : OWithin 0x3ee7fffffffffff6 s (execProximityPoll ohms env s) := by
  unfold execProximityPoll
  repeat' (first
    | with_reducible exact Within.refl _ _
    | with_reducible apply Within.next (k := State.wakeFire_frame _ _ _)
    | with_reducible apply OWithin.next
    | split
    | dsimp only
    | exact (rfl : (_ : Nat) = _))

theorem execWakeAlarmExpire_frame (env : StartEnv) (s : State) : OWithin 0x3ee7fffffffffff6 s (execWakeAlarmExpire env s) := by
  unfold execWakeAlarmExpire
  repeat' (first
    | with_reducible exact Within.refl _ _
    | with_reducible apply Within.next (k := State.wake_frame _ _ _ _)
    | with_reducible apply OWithin.next
    | split
    | dsimp only
    | exact (rfl : (_ : Nat) = _))

theorem execEmberLimitExpire_frame (s : State) : OWithin 0x112 s (execEmberLimitExpire s) := by
  unfold execEmberLimitExpire
  repeat' (first
    | with_reducible exact Within.refl _ _
    | with_reducible apply Within.next (k := State.sets_frame _ _)
    | with_reducible apply Within.next (k := State.enterMode_frame _ _)
    | with_reducible apply Within.next (k := State.allSafe_frame _)
    | with_reducible apply OWithin.next
    | split
    | dsimp only
    | exact (rfl : (_ : Nat) = _))

theorem State.crankRequest_frame (s : State) : Within 0x10 s (State.crankRequest s).1 := by
  unfold State.crankRequest
  repeat' (first
    | with_reducible exact Within.refl _ _
    | with_reducible apply Within.next (k := State.sets_frame _ _)
    | split
    | dsimp only
    | exact (rfl : (_ : Nat) = _))

theorem State.crankInto_frame (s : State) (items : Nat) (recover : Nat) : Within 0x4c1952 s (State.crankInto s items recover) := by
  unfold State.crankInto
  repeat' (first
    | with_reducible exact Within.refl _ _
    | with_reducible apply Within.next (k := State.outputsLose_frame _)
    | with_reducible apply Within.next (k := State.enterSleep_frame _ _ _ _)
    | with_reducible apply Within.next (k := State.crankRequest_frame _)
    | split
    | dsimp only
    | exact (rfl : (_ : Nat) = _))

theorem State.wakeLatchedNow_frame (s : State) (env : StartEnv) : Within 0x3ee7fffffffffff6 s (State.wakeLatchedNow s env) := by
  unfold State.wakeLatchedNow
  repeat' (first
    | with_reducible exact Within.refl _ _
    | with_reducible apply Within.next (k := State.wake_frame _ _ _ _)
    | split
    | dsimp only
    | exact (rfl : (_ : Nat) = _))

theorem execCrankEntry_frame (items : Nat) (s : State) : OWithin 0x4c1b52 s (execCrankEntry items s) := by
  unfold execCrankEntry
  repeat' (first
    | with_reducible exact Within.refl _ _
    | with_reducible apply Within.next (k := State.count_frame _ _ _ _)
    | with_reducible apply Within.next (k := State.reportObj_frame _ _ _ _ _ _ _)
    | with_reducible apply Within.next (k := State.crankInto_frame _ _ _)
    | with_reducible apply OWithin.next
    | split
    | dsimp only
    | exact (rfl : (_ : Nat) = _))

theorem execCrankRecovery_frame (env : StartEnv) (s : State) : OWithin 0x3ee7fffffffffff6 s (execCrankRecovery env s) := by
  unfold execCrankRecovery
  repeat' (first
    | with_reducible exact Within.refl _ _
    | with_reducible apply Within.next (k := State.wake_frame _ _ _ _)
    | with_reducible apply OWithin.next
    | split
    | dsimp only
    | exact (rfl : (_ : Nat) = _))

theorem execOvervoltageEntry_frame (s : State) : OWithin 0x4c1952 s (execOvervoltageEntry s) := by
  unfold execOvervoltageEntry
  repeat' (first
    | with_reducible exact Within.refl _ _
    | with_reducible apply Within.next (k := State.crankInto_frame _ _ _)
    | with_reducible apply OWithin.next
    | split
    | dsimp only
    | exact (rfl : (_ : Nat) = _))

theorem execOvervoltageRecovery_frame (env : StartEnv) (s : State) : OWithin 0x3ee7fffffffffff6 s (execOvervoltageRecovery env s) := by
  unfold execOvervoltageRecovery
  repeat' (first
    | with_reducible exact Within.refl _ _
    | with_reducible apply Within.next (k := State.wake_frame _ _ _ _)
    | with_reducible apply OWithin.next
    | split
    | dsimp only
    | exact (rfl : (_ : Nat) = _))

theorem execSupplyFault_frame (rail : Nat) (s : State) : OWithin 0x24d7b52 s (execSupplyFault rail s) := by
  unfold execSupplyFault
  repeat' (first
    | with_reducible exact Within.refl _ _
    | with_reducible apply Within.next (k := State.set_frame _ _ _)
    | with_reducible apply Within.next (k := State.sets_frame _ _)
    | with_reducible apply Within.next (k := State.reportObj_frame _ _ _ _ _ _ _)
    | with_reducible apply Within.next (k := State.snuff_frame _ _ _ _ _ _ _)
    | with_reducible apply Within.next (k := State.crankInto_frame _ _ _)
    | with_reducible apply OWithin.next
    | split
    | dsimp only
    | exact (rfl : (_ : Nat) = _))

theorem execVpreRetry_frame (again : Bool) (env : StartEnv) (s : State) : OWithin 0x3ee7fffffffffff6 s (execVpreRetry again env s) := by
  unfold execVpreRetry
  repeat' (first
    | with_reducible exact Within.refl _ _
    | with_reducible apply Within.next (k := State.sets_frame _ _)
    | with_reducible apply Within.next (k := State.reportObj_frame _ _ _ _ _ _ _)
    | with_reducible apply Within.next (k := State.wake_frame _ _ _ _)
    | with_reducible apply OWithin.next
    | split
    | dsimp only
    | exact (rfl : (_ : Nat) = _))

theorem State.pwrRequest_frame (s : State) (ctx : Ctx) (target : Nat) (pins : Nat) : Within 0x4c1d50 s (State.pwrRequest s ctx target pins) := by
  unfold State.pwrRequest
  repeat' (first
    | with_reducible exact Within.refl _ _
    | with_reducible apply Within.next (k := State.set_frame _ _ _)
    | with_reducible apply Within.next (k := State.sets_frame _ _)
    | with_reducible apply State.cmdWrite_next
    | with_reducible apply Within.next (k := State.sendTwin_frame _ _)
    | with_reducible apply Within.next (k := State.outputsLose_frame _)
    | with_reducible intro _
    | split
    | dsimp only
    | exact (rfl : (_ : Nat) = _))

theorem execPwrRequestDormant_frame (ctx : Ctx) (pins : Nat) (s : State) : OWithin 0x4c1d50 s (execPwrRequestDormant ctx pins s) := by
  unfold execPwrRequestDormant
  repeat' (first
    | with_reducible exact Within.refl _ _
    | with_reducible apply Within.next (k := State.pwrRequest_frame _ _ _ _)
    | with_reducible apply OWithin.next
    | split
    | dsimp only
    | exact (rfl : (_ : Nat) = _))

theorem execPwrRequestEmber_frame (ctx : Ctx) (pins : Nat) (s : State) : OWithin 0x4c1d50 s (execPwrRequestEmber ctx pins s) := by
  unfold execPwrRequestEmber
  repeat' (first
    | with_reducible exact Within.refl _ _
    | with_reducible apply Within.next (k := State.pwrRequest_frame _ _ _ _)
    | with_reducible apply OWithin.next
    | split
    | dsimp only
    | exact (rfl : (_ : Nat) = _))

theorem execPwrRequestGlow_frame (ctx : Ctx) (s : State) : OWithin 0x4c1d50 s (execPwrRequestGlow ctx s) := by
  unfold execPwrRequestGlow
  repeat' (first
    | with_reducible exact Within.refl _ _
    | with_reducible apply Within.next (k := State.pwrRequest_frame _ _ _ _)
    | with_reducible apply OWithin.next
    | split
    | dsimp only
    | exact (rfl : (_ : Nat) = _))

theorem execPwrRequestFlame_frame (ctx : Ctx) (s : State) : OWithin 0x4c1d50 s (execPwrRequestFlame ctx s) := by
  unfold execPwrRequestFlame
  repeat' (first
    | with_reducible exact Within.refl _ _
    | with_reducible apply Within.next (k := State.pwrRequest_frame _ _ _ _)
    | with_reducible apply OWithin.next
    | split
    | dsimp only
    | exact (rfl : (_ : Nat) = _))

theorem execPwrRequestTrim_frame (ctx : Ctx) (s : State) : OWithin 0x4c1d50 s (execPwrRequestTrim ctx s) := by
  unfold execPwrRequestTrim
  repeat' (first
    | with_reducible exact Within.refl _ _
    | with_reducible apply Within.next (k := State.pwrRequest_frame _ _ _ _)
    | with_reducible apply OWithin.next
    | split
    | dsimp only
    | exact (rfl : (_ : Nat) = _))

theorem State.serdesDark_frame (s : State) : Within 0x2017950 s (State.serdesDark s) := by
  unfold State.serdesDark
  repeat' (first
    | with_reducible exact Within.refl _ _
    | with_reducible apply Within.next (k := State.set_frame _ _ _)
    | with_reducible apply Within.next (k := State.linkGoesDown_frame _ _)
    | with_reducible apply Within.next (k := State.powerLanes_frame _ _ _)
    | with_reducible apply Within.next (k := State.savePorts_frame _ _)
    | with_reducible apply Within.next_foldl
    | with_reducible apply Within.next_foldl1
    | with_reducible apply Within.next_foldl2
    | with_reducible intro _
    | split
    | dsimp only
    | exact (rfl : (_ : Nat) = _))

theorem State.serdesLight_frame (s : State) : Within 0x910 s (State.serdesLight s) := by
  unfold State.serdesLight
  repeat' (first
    | with_reducible exact Within.refl _ _
    | with_reducible apply Within.next (k := State.set_frame _ _ _)
    | with_reducible apply Within.next (k := State.linkStart_frame _ _)
    | with_reducible apply Within.next_foldl
    | with_reducible apply Within.next_foldl1
    | with_reducible apply Within.next_foldl2
    | with_reducible intro _
    | split
    | dsimp only
    | exact (rfl : (_ : Nat) = _))

theorem State.enginesReset_frame (s : State) : Within 0x600000000010 s (State.enginesReset s) := by
  unfold State.enginesReset
  repeat' (first
    | with_reducible exact Within.refl _ _
    | with_reducible apply Within.next (k := State.set_frame _ _ _)
    | with_reducible apply Within.next (k := State.engineHalt_frame _ _ _)
    | with_reducible apply Within.next_foldl
    | with_reducible apply Within.next_foldl1
    | with_reducible apply Within.next_foldl2
    | with_reducible intro _
    | split
    | dsimp only
    | exact (rfl : (_ : Nat) = _))

theorem State.enginesOff_frame (s : State) : Within 0x600000000050 s (State.enginesOff s) := by
  unfold State.enginesOff
  repeat' (first
    | with_reducible exact Within.refl _ _
    | with_reducible apply Within.next (k := State.clearBlob_frame _ _)
    | with_reducible apply Within.next (k := State.setBox_frame _ _)
    | with_reducible apply Within.next (k := State.enginesReset_frame _)
    | with_reducible apply Within.next_foldl
    | with_reducible apply Within.next_foldl1
    | with_reducible apply Within.next_foldl2
    | with_reducible intro _
    | split
    | dsimp only
    | exact (rfl : (_ : Nat) = _))

theorem State.enginesReady_frame (s : State) : Within 0x10 s (State.enginesReady s) := by
  unfold State.enginesReady
  repeat' (first
    | with_reducible exact Within.refl _ _
    | with_reducible apply Within.next (k := State.set_frame _ _ _)
    | with_reducible apply Within.next_foldl
    | with_reducible apply Within.next_foldl1
    | with_reducible apply Within.next_foldl2
    | with_reducible intro _
    | split
    | dsimp only
    | exact (rfl : (_ : Nat) = _))

theorem State.intoTrim_frame (s : State) : Within 0x600000800910 s (State.intoTrim s) := by
  unfold State.intoTrim
  repeat' (first
    | with_reducible exact Within.refl _ _
    | with_reducible apply Within.next (k := State.set_frame _ _ _)
    | with_reducible apply Within.next (k := State.startFlush_frame _ _ _)
    | with_reducible apply Within.next (k := State.serdesLight_frame _)
    | with_reducible apply Within.next (k := State.enginesReset_frame _)
    | with_reducible apply Within.next_foldl
    | with_reducible apply Within.next_foldl1
    | with_reducible apply Within.next_foldl2
    | with_reducible intro _
    | split
    | dsimp only
    | exact (rfl : (_ : Nat) = _))

theorem State.outOfTrim_frame (s : State) : Within 0x80b010 s (State.outOfTrim s) := by
  unfold State.outOfTrim
  repeat' (first
    | with_reducible exact Within.refl _ _
    | with_reducible apply Within.next (k := State.set_frame _ _ _)
    | with_reducible apply Within.next (k := State.startFlush_frame _ _ _)
    | with_reducible apply Within.next (k := State.endFlush_frame _ _)
    | with_reducible apply Within.next (k := State.latch_frame _ _)
    | with_reducible apply Within.next (k := State.recapacity_frame _)
    | with_reducible apply Within.next_foldl
    | with_reducible apply Within.next_foldl1
    | with_reducible apply Within.next_foldl2
    | with_reducible intro _
    | split
    | dsimp only
    | exact (rfl : (_ : Nat) = _))

theorem State.switchMode_frame (s : State) (target : Mode) : Within 0x60000281f952 s (State.switchMode s target) := by
  unfold State.switchMode
  repeat' (first
    | with_reducible exact Within.refl _ _
    | with_reducible apply Within.next (k := State.enterMode_frame _ _)
    | with_reducible apply Within.next (k := State.serdesDark_frame _)
    | with_reducible apply Within.next (k := State.serdesLight_frame _)
    | with_reducible apply Within.next (k := State.enginesOff_frame _)
    | with_reducible apply Within.next (k := State.enginesReady_frame _)
    | with_reducible apply Within.next (k := State.intoTrim_frame _)
    | with_reducible apply Within.next (k := State.outOfTrim_frame _)
    | split
    | dsimp only
    | exact (rfl : (_ : Nat) = _))

theorem execModeTransitionDone_frame (env : StartEnv) (s : State) : OWithin 0x3ee7fffffffffff6 s (execModeTransitionDone env s) := by
  unfold execModeTransitionDone
  repeat' (first
    | with_reducible exact Within.refl _ _
    | with_reducible apply Within.next (k := State.set_frame _ _ _)
    | with_reducible apply Within.next (k := State.enterSleep_frame _ _ _ _)
    | with_reducible apply Within.next (k := State.wakeLatchedNow_frame _ _)
    | with_reducible apply Within.next (k := State.switchMode_frame _ _)
    | with_reducible apply OWithin.next
    | split
    | dsimp only
    | exact (rfl : (_ : Nat) = _))

theorem execCfgSave_frame (ctx : Ctx) (value : Nat) (s : State) : OWithin 0x30000000000410 s (execCfgSave ctx value s) := by
  unfold execCfgSave
  repeat' (first
    | with_reducible exact Within.refl _ _
    | with_reducible apply Within.next (k := State.sets_frame _ _)
    | with_reducible apply State.cmdWrite_next
    | with_reducible apply Within.next_foldl
    | with_reducible apply Within.next_foldl1
    | with_reducible apply Within.next_foldl2
    | with_reducible apply OWithin.next
    | with_reducible intro _
    | split
    | dsimp only
    | with_reducible apply Within.upd_images_saving
    | exact (rfl : (_ : Nat) = _))

theorem State.endSave_frame (s : State) (code : Nat) : Within 0x20000000000010 s (State.endSave s code) := by
  unfold State.endSave
  repeat' (first
    | with_reducible exact Within.refl _ _
    | with_reducible apply Within.next (k := State.sets_frame _ _)
    | split
    | dsimp only
    | with_reducible apply Within.upd_saving
    | exact (rfl : (_ : Nat) = _))

theorem execCfgSaveDone_frame (s : State) : OWithin 0x30000000000010 s (execCfgSaveDone s) := by
  unfold execCfgSaveDone
  repeat' (first
    | with_reducible exact Within.refl _ _
    | with_reducible apply Within.next (k := State.endSave_frame _ _)
    | with_reducible apply OWithin.next
    | split
    | dsimp only
    | with_reducible apply Within.upd_images
    | exact (rfl : (_ : Nat) = _))

theorem State.streamed_frame (s : State) (bad : List Nat) (img : CfgImage) : Within 0x810 s (State.streamed s bad img).1 := by
  unfold State.streamed
  repeat' (first
    | with_reducible exact Within.refl _ _
    | with_reducible apply Within.next (k := State.set_frame _ _ _)
    | with_reducible apply Within.next (k := State.draw_frame _ _)
    | with_reducible apply Within.next_foldl
    | with_reducible apply Within.next_foldl1
    | with_reducible apply Within.next_foldl2
    | with_reducible intro _
    | split
    | dsimp only
    | exact (rfl : (_ : Nat) = _))

theorem execCfgRemainderApplied_frame (bad : List Nat) (s : State) : OWithin 0x40001800000b50 s (execCfgRemainderApplied bad s) := by
  unfold execCfgRemainderApplied
  repeat' (first
    | with_reducible exact Within.refl _ _
    | with_reducible apply Within.next (k := State.set_frame _ _ _)
    | with_reducible apply Within.next (k := State.reportObj_frame _ _ _ _ _ _ _)
    | with_reducible apply Within.next (k := State.settle_frame _ _)
    | with_reducible apply Within.next (k := State.applySection_frame _ _ _)
    | with_reducible apply Within.next (k := State.settle'_frame _)
    | with_reducible apply Within.next (k := State.streamed_frame _ _ _)
    | with_reducible apply OWithin.next
    | split
    | dsimp only
    | with_reducible apply Within.upd_streaming
    | exact (rfl : (_ : Nat) = _))

theorem State.undoFlip_frame (s : State) : Within 0x40 s (State.undoFlip s) := by
  unfold State.undoFlip
  repeat' (first
    | with_reducible exact Within.refl _ _
    | with_reducible apply Within.next (k := State.tearSelector_frame _)
    | split
    | dsimp only
    | exact (rfl : (_ : Nat) = _))

theorem State.assertReset_frame (s : State) (kind : Nat) : Within 0x4c1954 s (State.assertReset s kind) := by
  unfold State.assertReset
  repeat' (first
    | with_reducible exact Within.refl _ _
    | with_reducible apply Within.next (k := State.sets_frame _ _)
    | with_reducible apply Within.next (k := State.outputsLose_frame _)
    | with_reducible apply Within.next (k := State.allSafe_frame _)
    | with_reducible apply Within.next (k := State.undoFlip_frame _)
    | split
    | dsimp only
    | with_reducible apply Within.upd_starting
    | exact (rfl : (_ : Nat) = _))

theorem execPowerOnReset_frame (s : State) : OWithin 0x4c1954 s (execPowerOnReset s) := by
  unfold execPowerOnReset
  repeat' (first
    | with_reducible exact Within.refl _ _
    | with_reducible apply Within.next (k := State.assertReset_frame _ _)
    | with_reducible apply OWithin.next
    | split
    | dsimp only
    | exact (rfl : (_ : Nat) = _))

theorem execExternalReset_frame (micros : Nat) (s : State) : OWithin 0x4c1954 s (execExternalReset micros s) := by
  unfold execExternalReset
  repeat' (first
    | with_reducible exact Within.refl _ _
    | with_reducible apply Within.next (k := State.assertReset_frame _ _)
    | with_reducible apply OWithin.next
    | split
    | dsimp only
    | exact (rfl : (_ : Nat) = _))

theorem execDebugReset_frame (s : State) : OWithin 0x4c1954 s (execDebugReset s) := by
  unfold execDebugReset
  repeat' (first
    | with_reducible exact Within.refl _ _
    | with_reducible apply Within.next (k := State.assertReset_frame _ _)
    | with_reducible apply OWithin.next
    | split
    | dsimp only
    | exact (rfl : (_ : Nat) = _))

theorem execStart_frame (env : StartEnv) (s : State) : OWithin 0x3ee7fffffffffff6 s (execStart env s) := by
  unfold execStart
  repeat' (first
    | with_reducible exact Within.refl _ _
    | with_reducible apply Within.next (k := State.startRun_frame _ _ _ _)
    | with_reducible apply OWithin.next
    | split
    | dsimp only
    | exact (rfl : (_ : Nat) = _))

theorem State.rstCommand_next {m : Nat} {s u : State} {c : Ctx} {act : State → Bool → State} (h : Within m s u)
    (ha : ∀ v b, Within m v (act v b)) (hm : (0x410 ||| m) = m) : Within m s (u.rstCommand c act) := by
  have hr : (0x10 ||| m) = m := or_sub hm rfl
  exact State.cmdWrite_next h (fun v => ((Within.refl _ _).next (State.set_frame _ _ _) hr).trans (ha _ _)) hm

theorem execRstDevice_frame (ctx : Ctx) (s : State) : OWithin 0x4c1d54 s (execRstDevice ctx s) := by
  unfold execRstDevice
  repeat' (first
    | with_reducible exact Within.refl _ _
    | with_reducible apply Within.next (k := State.set_frame _ _ _)
    | with_reducible apply Within.next (k := State.assertReset_frame _ _)
    | with_reducible apply State.rstCommand_next
    | with_reducible apply OWithin.next
    | with_reducible intro _
    | split
    | dsimp only
    | exact (rfl : (_ : Nat) = _))

theorem execRstSnuff_frame (ctx : Ctx) (s : State) : OWithin 0x4c1d54 s (execRstSnuff ctx s) := by
  unfold execRstSnuff
  repeat' (first
    | with_reducible exact Within.refl _ _
    | with_reducible apply Within.next (k := State.set_frame _ _ _)
    | with_reducible apply Within.next (k := State.assertReset_frame _ _)
    | with_reducible apply State.rstCommand_next
    | with_reducible apply OWithin.next
    | with_reducible intro _
    | split
    | dsimp only
    | exact (rfl : (_ : Nat) = _))

theorem execSnuffRestartExpire_frame (s : State) : OWithin 0x4c1954 s (execSnuffRestartExpire s) := by
  unfold execSnuffRestartExpire
  repeat' (first
    | with_reducible exact Within.refl _ _
    | with_reducible apply Within.next (k := State.count_frame _ _ _ _)
    | with_reducible apply Within.next (k := State.assertReset_frame _ _)
    | with_reducible apply OWithin.next
    | split
    | dsimp only
    | exact (rfl : (_ : Nat) = _))

theorem execSnuffCountClear_frame (s : State) : OWithin 0x10 s (execSnuffCountClear s) := by
  unfold execSnuffCountClear
  repeat' (first
    | with_reducible exact Within.refl _ _
    | with_reducible apply Within.next (k := State.set_frame _ _ _)
    | with_reducible apply OWithin.next
    | split
    | dsimp only
    | exact (rfl : (_ : Nat) = _))

theorem State.restartCluster_frame (s : State) (c : Nat) : Within 0x20004c1950 s (State.restartCluster s c) := by
  unfold State.restartCluster
  repeat' (first
    | with_reducible exact Within.refl _ _
    | with_reducible apply Within.next (k := State.sets_frame _ _)
    | with_reducible apply Within.next (k := State.pulse_frame _ _ _)
    | with_reducible apply Within.next (k := State.decideOwners_frame _ _)
    | with_reducible apply Within.next (k := State.twinChange_frame _ _)
    | with_reducible apply Within.next (k := State.clusterLeaves_frame _ _ _)
    | split
    | dsimp only
    | with_reducible apply Within.upd_cache
    | exact (rfl : (_ : Nat) = _))

theorem State.rstRestart_frame (s : State) (ctx : Ctx) (c : Nat) : Within 0x20004c1d50 s (State.rstRestart s ctx c) := by
  unfold State.rstRestart
  repeat' (first
    | with_reducible exact Within.refl _ _
    | with_reducible apply Within.next (k := State.set_frame _ _ _)
    | with_reducible apply Within.next (k := State.sets_frame _ _)
    | with_reducible apply State.rstCommand_next
    | with_reducible apply Within.next (k := State.restartCluster_frame _ _)
    | with_reducible intro _
    | split
    | dsimp only
    | exact (rfl : (_ : Nat) = _))

theorem execRstRestartA_frame (ctx : Ctx) (s : State) : OWithin 0x20004c1d50 s (execRstRestartA ctx s) := by
  unfold execRstRestartA
  repeat' (first
    | with_reducible exact Within.refl _ _
    | with_reducible apply Within.next (k := State.rstRestart_frame _ _ _)
    | with_reducible apply OWithin.next
    | split
    | dsimp only
    | exact (rfl : (_ : Nat) = _))

theorem execRstRestartB_frame (ctx : Ctx) (s : State) : OWithin 0x20004c1d50 s (execRstRestartB ctx s) := by
  unfold execRstRestartB
  repeat' (first
    | with_reducible exact Within.refl _ _
    | with_reducible apply Within.next (k := State.rstRestart_frame _ _ _)
    | with_reducible apply OWithin.next
    | split
    | dsimp only
    | exact (rfl : (_ : Nat) = _))

theorem execClusterRestartDone_frame (c : Nat) (ok : Bool) (s : State) : OWithin 0x310 s (execClusterRestartDone c ok s) := by
  unfold execClusterRestartDone
  repeat' (first
    | with_reducible exact Within.refl _ _
    | with_reducible apply Within.next (k := State.set_frame _ _ _)
    | with_reducible apply Within.next (k := State.sets_frame _ _)
    | with_reducible apply Within.next (k := State.pulse_frame _ _ _)
    | with_reducible apply Within.next (k := State.reportObj_frame _ _ _ _ _ _ _)
    | with_reducible apply OWithin.next
    | split
    | dsimp only
    | exact (rfl : (_ : Nat) = _))

theorem State.restartPilot_frame (s : State) : Within 0x10 s (State.restartPilot s) := by
  unfold State.restartPilot
  repeat' (first
    | with_reducible exact Within.refl _ _
    | with_reducible apply Within.next (k := State.set_frame _ _ _)
    | with_reducible apply Within.next (k := State.sets_frame _ _)
    | with_reducible apply Within.next (k := State.count_frame _ _ _ _)
    | with_reducible apply Within.next_foldl
    | with_reducible apply Within.next_foldl1
    | with_reducible apply Within.next_foldl2
    | with_reducible intro _
    | split
    | dsimp only
    | exact (rfl : (_ : Nat) = _))

theorem execPilotWatchdog_frame (s : State) : OWithin 0x210 s (execPilotWatchdog s) := by
  unfold execPilotWatchdog
  repeat' (first
    | with_reducible exact Within.refl _ _
    | with_reducible apply Within.next (k := State.reportObj_frame _ _ _ _ _ _ _)
    | with_reducible apply Within.next (k := State.restartPilot_frame _)
    | with_reducible apply OWithin.next
    | split
    | dsimp only
    | exact (rfl : (_ : Nat) = _))

theorem execErrorRecordWrite_frame (s : State) : OWithin 0x80000000000310 s (execErrorRecordWrite s) := by
  unfold execErrorRecordWrite
  repeat' (first
    | with_reducible exact Within.refl _ _
    | with_reducible apply Within.next (k := State.set_frame _ _ _)
    | with_reducible apply Within.next (k := State.count_frame _ _ _ _)
    | with_reducible apply Within.next (k := State.pulse_frame _ _ _)
    | with_reducible apply Within.next (k := State.reportLost_frame _ _)
    | with_reducible apply OWithin.next
    | split
    | dsimp only
    | with_reducible apply Within.upd_errLog
    | with_reducible apply Within.upd_reports
    | exact (rfl : (_ : Nat) = _))

theorem execErrorLogCopy_frame (s : State) : OWithin 0x100000000000010 s (execErrorLogCopy s) := by
  unfold execErrorLogCopy
  repeat' (first
    | with_reducible exact Within.refl _ _
    | with_reducible apply Within.next (k := State.set_frame _ _ _)
    | with_reducible apply OWithin.next
    | split
    | dsimp only
    | with_reducible apply Within.upd_errFlash
    | exact (rfl : (_ : Nat) = _))

theorem execErrAcknowledge_frame (ctx : Ctx) (value : Nat) (s : State) : OWithin 0x410 s (execErrAcknowledge ctx value s) := by
  unfold execErrAcknowledge
  repeat' (first
    | with_reducible exact Within.refl _ _
    | with_reducible apply Within.next (k := State.set_frame _ _ _)
    | with_reducible apply State.cmdWrite_next
    | with_reducible apply OWithin.next
    | with_reducible intro _
    | split
    | dsimp only
    | exact (rfl : (_ : Nat) = _))

theorem execErrReport_frame (ctx : Ctx) (bytes : List Byte) (s : State) : OWithin 0x610 s (execErrReport ctx bytes s) := by
  unfold execErrReport
  repeat' (first
    | with_reducible exact Within.refl _ _
    | with_reducible apply State.cmdWrite_next
    | with_reducible apply Within.next (k := State.reportObj_frame _ _ _ _ _ _ _)
    | with_reducible apply OWithin.next
    | with_reducible intro _
    | split
    | dsimp only
    | exact (rfl : (_ : Nat) = _))

theorem execEclClear_frame (ctx : Ctx) (cls : Nat) (value : Nat) (s : State) : OWithin 0x410 s (execEclClear ctx cls value s) := by
  unfold execEclClear
  repeat' (first
    | with_reducible exact Within.refl _ _
    | with_reducible apply Within.next (k := State.sets_frame _ _)
    | with_reducible apply State.cmdWrite_next
    | with_reducible apply OWithin.next
    | with_reducible intro _
    | split
    | dsimp only
    | exact (rfl : (_ : Nat) = _))

theorem State.taperAnswer_frame (s : State) (peer : Nat) (type : Nat) (session : Nat) (outcome : Nat) : Within 0x800000000000000 s (State.taperAnswer s peer type session outcome) := by
  unfold State.taperAnswer
  repeat' (first
    | with_reducible exact Within.refl _ _
    | split
    | dsimp only
    | with_reducible apply Within.upd_taperTx
    | exact (rfl : (_ : Nat) = _))

theorem execTaperOpen_frame (frame : List Byte) (s : State) : OWithin 0xe00000000000010 s (execTaperOpen frame s) := by
  unfold execTaperOpen
  repeat' (first
    | with_reducible exact Within.refl _ _
    | with_reducible apply Within.next (k := State.sets_frame _ _)
    | with_reducible apply Within.next (k := State.setIvtas_frame _ _ _)
    | with_reducible apply Within.next (k := State.taperAnswer_frame _ _ _ _ _)
    | with_reducible apply OWithin.next
    | split
    | dsimp only
    | exact (rfl : (_ : Nat) = _))

theorem execTaperData_frame (frame : List Byte) (s : State) : OWithin 0xe00000000000010 s (execTaperData frame s) := by
  unfold execTaperData
  repeat' (first
    | with_reducible exact Within.refl _ _
    | with_reducible apply Within.next (k := State.set_frame _ _ _)
    | with_reducible apply Within.next (k := State.sets_frame _ _)
    | with_reducible apply Within.next (k := State.setIvtas_frame _ _ _)
    | with_reducible apply Within.next (k := State.taperAnswer_frame _ _ _ _ _)
    | with_reducible apply OWithin.next
    | split
    | dsimp only
    | exact (rfl : (_ : Nat) = _))

theorem execTaperAckTimer_frame (s : State) : OWithin 0x800000000000010 s (execTaperAckTimer s) := by
  unfold execTaperAckTimer
  repeat' (first
    | with_reducible exact Within.refl _ _
    | with_reducible apply Within.next (k := State.set_frame _ _ _)
    | with_reducible apply Within.next (k := State.taperAnswer_frame _ _ _ _ _)
    | with_reducible apply OWithin.next
    | split
    | dsimp only
    | exact (rfl : (_ : Nat) = _))

theorem execTaperClose_frame (frame : List Byte) (s : State) : OWithin 0x800000000000010 s (execTaperClose frame s) := by
  unfold execTaperClose
  repeat' (first
    | with_reducible exact Within.refl _ _
    | with_reducible apply Within.next (k := State.set_frame _ _ _)
    | with_reducible apply Within.next (k := State.sets_frame _ _)
    | with_reducible apply Within.next (k := State.taperAnswer_frame _ _ _ _ _)
    | with_reducible apply OWithin.next
    | split
    | dsimp only
    | exact (rfl : (_ : Nat) = _))

theorem execTaperCloseVerdict_frame (s : State) : OWithin 0x800000000000210 s (execTaperCloseVerdict s) := by
  unfold execTaperCloseVerdict
  repeat' (first
    | with_reducible exact Within.refl _ _
    | with_reducible apply Within.next (k := State.sets_frame _ _)
    | with_reducible apply Within.next (k := State.reportObj_frame _ _ _ _ _ _ _)
    | with_reducible apply Within.next (k := State.taperAnswer_frame _ _ _ _ _)
    | with_reducible apply OWithin.next
    | split
    | dsimp only
    | exact (rfl : (_ : Nat) = _))

theorem State.endSession_frame (s : State) : Within 0x10 s (State.endSession s) := by
  unfold State.endSession
  repeat' (first
    | with_reducible exact Within.refl _ _
    | with_reducible apply Within.next (k := State.sets_frame _ _)
    | split
    | dsimp only
    | exact (rfl : (_ : Nat) = _))

theorem execTaperAbort_frame (frame : List Byte) (s : State) : OWithin 0x800000000000010 s (execTaperAbort frame s) := by
  unfold execTaperAbort
  repeat' (first
    | with_reducible exact Within.refl _ _
    | with_reducible apply Within.next (k := State.taperAnswer_frame _ _ _ _ _)
    | with_reducible apply Within.next (k := State.endSession_frame _)
    | with_reducible apply OWithin.next
    | split
    | dsimp only
    | exact (rfl : (_ : Nat) = _))

theorem execTaperStatus_frame (frame : List Byte) (s : State) : OWithin 0x800000000000010 s (execTaperStatus frame s) := by
  unfold execTaperStatus
  repeat' (first
    | with_reducible exact Within.refl _ _
    | with_reducible apply Within.next (k := State.set_frame _ _ _)
    | with_reducible apply Within.next (k := State.taperAnswer_frame _ _ _ _ _)
    | with_reducible apply OWithin.next
    | split
    | dsimp only
    | exact (rfl : (_ : Nat) = _))

theorem execTaperSessionTimeout_frame (s : State) : OWithin 0x10 s (execTaperSessionTimeout s) := by
  unfold execTaperSessionTimeout
  repeat' (first
    | with_reducible exact Within.refl _ _
    | with_reducible apply Within.next (k := State.endSession_frame _)
    | with_reducible apply OWithin.next
    | split
    | dsimp only
    | exact (rfl : (_ : Nat) = _))

theorem execUpdPrepare_frame (ctx : Ctx) (value : Nat) (s : State) : OWithin 0x410 s (execUpdPrepare ctx value s) := by
  unfold execUpdPrepare
  repeat' (first
    | with_reducible exact Within.refl _ _
    | with_reducible apply Within.next (k := State.set_frame _ _ _)
    | with_reducible apply Within.next (k := State.sets_frame _ _)
    | with_reducible apply State.cmdWrite_next
    | with_reducible apply OWithin.next
    | with_reducible intro _
    | split
    | dsimp only
    | exact (rfl : (_ : Nat) = _))

theorem execPrepareDone_frame (s : State) : OWithin 0x600000000000010 s (execPrepareDone s) := by
  unfold execPrepareDone
  repeat' (first
    | with_reducible exact Within.refl _ _
    | with_reducible apply Within.next (k := State.sets_frame _ _)
    | with_reducible apply Within.next (k := State.setIvtas_frame _ _ _)
    | with_reducible apply OWithin.next
    | split
    | dsimp only
    | exact (rfl : (_ : Nat) = _))

theorem execUpdConfirm_frame (ctx : Ctx) (value : Nat) (s : State) : OWithin 0x450 s (execUpdConfirm ctx value s) := by
  unfold execUpdConfirm
  repeat' (first
    | with_reducible exact Within.refl _ _
    | with_reducible apply Within.next (k := State.set_frame _ _ _)
    | with_reducible apply Within.next (k := State.sets_frame _ _)
    | with_reducible apply State.cmdWrite_next
    | with_reducible apply Within.next (k := State.writeSelector_frame _)
    | with_reducible apply OWithin.next
    | with_reducible intro _
    | split
    | dsimp only
    | exact (rfl : (_ : Nat) = _))

theorem execTrialTimeout_frame (s : State) : OWithin 0x20004c1b54 s (execTrialTimeout s) := by
  unfold execTrialTimeout
  repeat' (first
    | with_reducible exact Within.refl _ _
    | with_reducible apply Within.next (k := State.set_frame _ _ _)
    | with_reducible apply Within.next (k := State.fallBack_frame _)
    | with_reducible apply Within.next (k := State.assertReset_frame _ _)
    | with_reducible apply Within.next (k := State.restartCluster_frame _ _)
    | with_reducible apply Within.next_foldl
    | with_reducible apply Within.next_foldl1
    | with_reducible apply Within.next_foldl2
    | with_reducible apply OWithin.next
    | with_reducible intro _
    | split
    | dsimp only
    | exact (rfl : (_ : Nat) = _))

theorem execOwnerKeyWrite_frame (ctx : Ctx) (bytes : List Byte) (s : State) : OWithin 0x450 s (execOwnerKeyWrite ctx bytes s) := by
  unfold execOwnerKeyWrite
  repeat' (first
    | with_reducible exact Within.refl _ _
    | with_reducible apply Within.next (k := State.setBlob_frame _ _ _)
    | with_reducible apply State.rwWrite_next
    | with_reducible apply OWithin.next
    | with_reducible intro _
    | split
    | dsimp only
    | exact (rfl : (_ : Nat) = _))

theorem State.activate_frame (s : State) : Within 0x20004c1950 s (State.activate s) := by
  unfold State.activate
  repeat' (first
    | with_reducible exact Within.refl _ _
    | with_reducible apply Within.next (k := State.sets_frame _ _)
    | with_reducible apply Within.next (k := State.writeSelector_frame _)
    | with_reducible apply Within.next (k := State.restartCluster_frame _ _)
    | with_reducible apply Within.next (k := State.restartPilot_frame _)
    | with_reducible apply Within.next_foldl
    | with_reducible apply Within.next_foldl1
    | with_reducible apply Within.next_foldl2
    | with_reducible intro _
    | split
    | dsimp only
    | exact (rfl : (_ : Nat) = _))

theorem State.dropPending_frame (s : State) (o : Owner) : Within 0x20 s (State.dropPending s o) := by
  unfold State.dropPending
  repeat' (first
    | with_reducible exact Within.refl _ _
    | split
    | dsimp only
    | with_reducible apply Within.upd_pend
    | exact (rfl : (_ : Nat) = _))

theorem State.takePending_frame (s : State) (o : Owner) : Within 0x30 s (State.takePending s o) := by
  unfold State.takePending
  repeat' (first
    | with_reducible exact Within.refl _ _
    | with_reducible apply Within.next (k := State.sets_frame _ _)
    | with_reducible apply Within.next (k := State.dropPending_frame _ _)
    | split
    | dsimp only
    | exact (rfl : (_ : Nat) = _))

theorem State.unarm_frame (s : State) (o : Owner) : Within 0x80 s (State.unarm s o) := by
  unfold State.unarm
  repeat' (first
    | with_reducible exact Within.refl _ _
    | split
    | dsimp only
    | with_reducible apply Within.upd_armed
    | exact (rfl : (_ : Nat) = _))

theorem State.rearm_frame (s : State) (o : Owner) (t : Nat) : Within 0x80 s (State.rearm s o t) := by
  unfold State.rearm
  repeat' (first
    | with_reducible exact Within.refl _ _
    | split
    | dsimp only
    | with_reducible apply Within.upd_armed
    | exact (rfl : (_ : Nat) = _))

theorem State.handGcl_frame (s : State) (n : Nat) (k : Option Nat) : Within 0x4030 s (State.handGcl s n k) := by
  unfold State.handGcl
  repeat' (first
    | with_reducible exact Within.refl _ _
    | with_reducible apply Within.next (k := State.set_frame _ _ _)
    | with_reducible apply Within.next (k := State.count_frame _ _ _ _)
    | with_reducible apply Within.next (k := State.gclPlan_frame _ _ _)
    | with_reducible apply Within.next (k := State.releaseHold_frame _ _)
    | with_reducible apply Within.next (k := State.setGates_frame _ _ _)
    | with_reducible apply Within.next (k := State.takePending_frame _ _)
    | split
    | dsimp only
    | exact (rfl : (_ : Nat) = _))

theorem State.handFdb_frame (s : State) : Within 0x30 s (State.handFdb s) := by
  unfold State.handFdb
  repeat' (first
    | with_reducible exact Within.refl _ _
    | with_reducible apply Within.next (k := State.fdbClear_frame _ _)
    | with_reducible apply Within.next (k := State.takePending_frame _ _)
    | with_reducible apply Within.next_foldl
    | with_reducible apply Within.next_foldl1
    | with_reducible apply Within.next_foldl2
    | with_reducible intro _
    | split
    | dsimp only
    | exact (rfl : (_ : Nat) = _))

theorem State.handSid_frame (s : State) : Within 0x30 s (State.handSid s) := by
  unfold State.handSid
  repeat' (first
    | with_reducible exact Within.refl _ _
    | with_reducible apply Within.next (k := State.set_frame _ _ _)
    | with_reducible apply Within.next (k := State.takePending_frame _ _)
    | with_reducible apply Within.next_foldl
    | with_reducible apply Within.next_foldl1
    | with_reducible apply Within.next_foldl2
    | with_reducible intro _
    | split
    | dsimp only
    | exact (rfl : (_ : Nat) = _))

theorem State.handRg_frame (s : State) (r : Nat) : Within 0x400000030 s (State.handRg s r) := by
  unfold State.handRg
  repeat' (first
    | with_reducible exact Within.refl _ _
    | with_reducible apply Within.next (k := State.takePending_frame _ _)
    | split
    | dsimp only
    | with_reducible apply Within.upd_granules
    | exact (rfl : (_ : Nat) = _))

theorem State.handDma_frame (s : State) (c : Nat) : Within 0x30 s (State.handDma s c) := by
  unfold State.handDma
  repeat' (first
    | with_reducible exact Within.refl _ _
    | with_reducible apply Within.next (k := State.set_frame _ _ _)
    | with_reducible apply Within.next (k := State.takePending_frame _ _)
    | split
    | dsimp only
    | exact (rfl : (_ : Nat) = _))

theorem State.handConn_frame (s : State) : Within 0x30 s (State.handConn s) := by
  unfold State.handConn
  repeat' (first
    | with_reducible exact Within.refl _ _
    | with_reducible apply Within.next (k := State.set_frame _ _ _)
    | with_reducible apply Within.next (k := State.takePending_frame _ _)
    | with_reducible apply Within.next_foldl
    | with_reducible apply Within.next_foldl1
    | with_reducible apply Within.next_foldl2
    | with_reducible intro _
    | split
    | dsimp only
    | exact (rfl : (_ : Nat) = _))

theorem State.handFv_frame (s : State) : Within 0x30 s (State.handFv s) := by
  unfold State.handFv
  repeat' (first
    | with_reducible exact Within.refl _ _
    | with_reducible apply Within.next (k := State.set_frame _ _ _)
    | with_reducible apply Within.next (k := State.takePending_frame _ _)
    | with_reducible apply Within.next_foldl
    | with_reducible apply Within.next_foldl1
    | with_reducible apply Within.next_foldl2
    | with_reducible intro _
    | split
    | dsimp only
    | exact (rfl : (_ : Nat) = _))

theorem State.apply_frame (s : State) (o : Owner) (k : Option Nat) : Within 0x24024df970 s (State.apply s o k) := by
  unfold State.apply
  repeat' (first
    | with_reducible exact Within.refl _ _
    | with_reducible apply Within.next (k := State.set_frame _ _ _)
    | with_reducible apply Within.next (k := State.takeAny_frame _ _)
    | with_reducible apply Within.next (k := State.handRows_frame _ _)
    | with_reducible apply Within.next (k := State.fillMeter_frame _ _)
    | with_reducible apply Within.next (k := State.activate_frame _)
    | with_reducible apply Within.next (k := State.takePending_frame _ _)
    | with_reducible apply Within.next (k := State.handGcl_frame _ _ _)
    | with_reducible apply Within.next (k := State.handFdb_frame _)
    | with_reducible apply Within.next (k := State.handSid_frame _)
    | with_reducible apply Within.next (k := State.handRg_frame _ _)
    | with_reducible apply Within.next (k := State.handDma_frame _ _)
    | with_reducible apply Within.next (k := State.handConn_frame _)
    | with_reducible apply Within.next (k := State.handFv_frame _)
    | with_reducible apply Within.next_foldl
    | with_reducible apply Within.next_foldl1
    | with_reducible apply Within.next_foldl2
    | with_reducible intro _
    | split
    | dsimp only
    | exact (rfl : (_ : Nat) = _))

theorem State.handOver_frame (s : State) (o : Owner) (k : Option Nat) : Within 0x200024024df9f0 s (State.handOver s o k) := by
  unfold State.handOver
  repeat' (first
    | with_reducible exact Within.refl _ _
    | with_reducible apply Within.next (k := State.set_frame _ _ _)
    | with_reducible apply Within.next (k := State.handedOver_frame _ _)
    | with_reducible apply Within.next (k := State.unarm_frame _ _)
    | with_reducible apply Within.next (k := State.apply_frame _ _ _)
    | split
    | dsimp only
    | exact (rfl : (_ : Nat) = _))

theorem State.beginHandOver_frame (s : State) (o : Owner) (k : Option Nat) : Within 0x200024024df9f0 s (State.beginHandOver s o k) := by
  unfold State.beginHandOver
  repeat' (first
    | with_reducible exact Within.refl _ _
    | with_reducible apply Within.next (k := State.sets_frame _ _)
    | with_reducible apply Within.next (k := State.unarm_frame _ _)
    | with_reducible apply Within.next (k := State.handOver_frame _ _ _)
    | split
    | dsimp only
    | exact (rfl : (_ : Nat) = _))

theorem State.endPause_frame (s : State) (b : Nat) : Within 0x200024024df9f0 s (State.endPause s b) := by
  unfold State.endPause
  repeat' (first
    | with_reducible exact Within.refl _ _
    | with_reducible apply Within.next (k := State.set_frame _ _ _)
    | with_reducible apply Within.next (k := State.sets_frame _ _)
    | with_reducible apply Within.next (k := State.count_frame _ _ _ _)
    | with_reducible apply Within.next (k := State.handOver_frame _ _ _)
    | split
    | dsimp only
    | exact (rfl : (_ : Nat) = _))

theorem State.handAtOnce_frame (s : State) (o : Owner) : Within 0x200024024df9f0 s (State.handAtOnce s o) := by
  unfold State.handAtOnce
  repeat' (first
    | with_reducible exact Within.refl _ _
    | with_reducible apply Within.next (k := State.sets_frame _ _)
    | with_reducible apply Within.next (k := State.handOver_frame _ _ _)
    | with_reducible apply Within.next (k := State.endPause_frame _ _)
    | split
    | dsimp only
    | exact (rfl : (_ : Nat) = _))

theorem State.ended_frame (s : State) (o : Owner) (code : Nat) : Within 0x10 s (State.ended s o code) := by
  unfold State.ended
  repeat' (first
    | with_reducible exact Within.refl _ _
    | with_reducible apply Within.next (k := State.set_frame _ _ _)
    | split
    | dsimp only
    | exact (rfl : (_ : Nat) = _))

theorem State.commit_frame (s : State) (o : Owner) : Within 0x200024024df9f0 s (State.commit s o) := by
  unfold State.commit
  repeat' (first
    | with_reducible exact Within.refl _ _
    | with_reducible apply Within.next (k := State.unarm_frame _ _)
    | with_reducible apply Within.next (k := State.handOver_frame _ _ _)
    | with_reducible apply Within.next (k := State.handAtOnce_frame _ _)
    | with_reducible apply Within.next (k := State.ended_frame _ _ _)
    | split
    | dsimp only
    | with_reducible apply Within.upd_armed
    | exact (rfl : (_ : Nat) = _))

theorem State.commitAccess_next {m : Nat} {s u : State} {c : Ctx} {idx : Nat} {checks : Owner → List (Option Nat)}
    {act : State → Owner → State} (h : Within m s u) (ha : ∀ v o, Within m v (act v o)) (hm : (0x410 ||| m) = m) :
    Within m s (u.commitAccess c idx checks act) := by
  unfold State.commitAccess
  split
  · exact State.cmdWrite_next h (fun v => ha v _) hm
  · exact State.cmdWrite_next h (fun v => Within.refl _ _) hm

theorem execCommit_frame (ctx : Ctx) (index : Nat) (s : State) : OWithin 0x200024024dfdf0 s (execCommit ctx index s) := by
  unfold execCommit
  repeat' (first
    | with_reducible exact Within.refl _ _
    | with_reducible apply Within.next (k := State.commit_frame _ _)
    | with_reducible apply State.commitAccess_next
    | with_reducible apply OWithin.next
    | with_reducible intro _
    | split
    | dsimp only
    | exact (rfl : (_ : Nat) = _))

theorem execDisarm_frame (ctx : Ctx) (index : Nat) (s : State) : OWithin 0x490 s (execDisarm ctx index s) := by
  unfold execDisarm
  repeat' (first
    | with_reducible exact Within.refl _ _
    | with_reducible apply Within.next (k := State.unarm_frame _ _)
    | with_reducible apply Within.next (k := State.ended_frame _ _ _)
    | with_reducible apply State.commitAccess_next
    | with_reducible apply OWithin.next
    | with_reducible intro _
    | split
    | dsimp only
    | exact (rfl : (_ : Nat) = _))

theorem execDiscard_frame (ctx : Ctx) (index : Nat) (s : State) : OWithin 0x4b0 s (execDiscard ctx index s) := by
  unfold execDiscard
  repeat' (first
    | with_reducible exact Within.refl _ _
    | with_reducible apply Within.next (k := State.dropPending_frame _ _)
    | with_reducible apply Within.next (k := State.unarm_frame _ _)
    | with_reducible apply Within.next (k := State.ended_frame _ _ _)
    | with_reducible apply State.commitAccess_next
    | with_reducible apply OWithin.next
    | with_reducible intro _
    | split
    | dsimp only
    | exact (rfl : (_ : Nat) = _))

theorem execBoundaryHandover_frame (index : Nat) (s : State) : OWithin 0x200024024df9f0 s (execBoundaryHandover index s) := by
  unfold execBoundaryHandover
  repeat' (first
    | with_reducible exact Within.refl _ _
    | with_reducible apply Within.next (k := State.handOver_frame _ _ _)
    | with_reducible apply OWithin.next
    | split
    | dsimp only
    | exact (rfl : (_ : Nat) = _))

theorem State.fireOne_frame (s : State) (a : Arm) : Within 0x200024024df9f0 s (State.fireOne s a) := by
  unfold State.fireOne
  repeat' (first
    | with_reducible exact Within.refl _ _
    | with_reducible apply Within.next (k := State.pulse_frame _ _ _)
    | with_reducible apply Within.next (k := State.unarm_frame _ _)
    | with_reducible apply Within.next (k := State.beginHandOver_frame _ _ _)
    | with_reducible apply Within.next (k := State.ended_frame _ _ _)
    | split
    | dsimp only
    | exact (rfl : (_ : Nat) = _))

theorem State.fireDue_frame (s : State) (d : Nat) : Within 0x200024024df9f0 s (State.fireDue s d) := by
  unfold State.fireDue
  repeat' (first
    | with_reducible exact Within.refl _ _
    | with_reducible apply Within.next (k := State.fireOne_frame _ _)
    | with_reducible apply Within.next_foldl
    | with_reducible apply Within.next_foldl1
    | with_reducible apply Within.next_foldl2
    | with_reducible intro _
    | split
    | dsimp only
    | exact (rfl : (_ : Nat) = _))

theorem execKindleFire_frame (d : Nat) (s : State) : OWithin 0x200024024df9f0 s (execKindleFire d s) := by
  unfold execKindleFire
  repeat' (first
    | with_reducible exact Within.refl _ _
    | with_reducible apply Within.next (k := State.fireDue_frame _ _)
    | with_reducible apply OWithin.next
    | split
    | dsimp only
    | exact (rfl : (_ : Nat) = _))

theorem execBankFlip_frame (b : Nat) (s : State) : OWithin 0x200024024df9f0 s (execBankFlip b s) := by
  unfold execBankFlip
  repeat' (first
    | with_reducible exact Within.refl _ _
    | with_reducible apply Within.next (k := State.endPause_frame _ _)
    | with_reducible apply OWithin.next
    | split
    | dsimp only
    | exact (rfl : (_ : Nat) = _))

theorem State.moveClock_frame (s : State) (d : Nat) (step : Int) : Within 0x10 s (State.moveClock s d step) := by
  unfold State.moveClock
  repeat' (first
    | with_reducible exact Within.refl _ _
    | with_reducible apply Within.next (k := State.set_frame _ _ _)
    | with_reducible apply Within.next_foldl
    | with_reducible apply Within.next_foldl1
    | with_reducible apply Within.next_foldl2
    | with_reducible intro _
    | split
    | dsimp only
    | exact (rfl : (_ : Nat) = _))

theorem State.afterStep_frame (s : State) (d : Nat) : Within 0x10 s (State.afterStep s d) := by
  unfold State.afterStep
  repeat' (first
    | with_reducible exact Within.refl _ _
    | with_reducible apply Within.next (k := State.set_frame _ _ _)
    | with_reducible apply Within.next (k := State.gclPlan_frame _ _ _)
    | with_reducible apply Within.next_foldl
    | with_reducible apply Within.next_foldl1
    | with_reducible apply Within.next_foldl2
    | with_reducible intro _
    | split
    | dsimp only
    | exact (rfl : (_ : Nat) = _))

theorem execDomStep_frame (ctx : Ctx) (d : Nat) (value : Nat) (s : State) : OWithin 0x200024024dfdf0 s (execDomStep ctx d value s) := by
  unfold execDomStep
  repeat' (first
    | with_reducible exact Within.refl _ _
    | with_reducible apply Within.next (k := State.set_frame _ _ _)
    | with_reducible apply Within.next (k := State.count_frame _ _ _ _)
    | with_reducible apply State.cmdWrite_next
    | with_reducible apply Within.next (k := State.fireDue_frame _ _)
    | with_reducible apply Within.next (k := State.moveClock_frame _ _ _)
    | with_reducible apply Within.next (k := State.afterStep_frame _ _)
    | with_reducible apply OWithin.next
    | with_reducible intro _
    | split
    | dsimp only
    | exact (rfl : (_ : Nat) = _))

theorem execDomDisable_frame (ctx : Ctx) (d : Nat) (s : State) : OWithin 0x45b0 s (execDomDisable ctx d s) := by
  unfold execDomDisable
  repeat' (first
    | with_reducible exact Within.refl _ _
    | with_reducible apply Within.next (k := State.set_frame _ _ _)
    | with_reducible apply State.rwWrite_next
    | with_reducible apply Within.next (k := State.gclStop_frame _ _)
    | with_reducible apply Within.next (k := State.domSetState_frame _ _ _)
    | with_reducible apply Within.next (k := State.unarm_frame _ _)
    | with_reducible apply Within.next (k := State.ended_frame _ _ _)
    | with_reducible apply Within.next_foldl
    | with_reducible apply Within.next_foldl1
    | with_reducible apply Within.next_foldl2
    | with_reducible apply OWithin.next
    | with_reducible intro _
    | split
    | dsimp only
    | exact (rfl : (_ : Nat) = _))

end Sys2Proof.Machine
end

