-- ==== Sys2Proof/Laws/FrameAccess.lean ====
section
/-! SUPPORT. What the operations of reads and writes of the dictionary can touch: one law for each, with the parts of the state that it may change as bits of a mask
in the order of `Part`, and that it keeps the canonical forms. -/
set_option Elab.async false
namespace Sys2Proof.Machine

theorem State.readObject_frame (s : State) (c : Ctx) (idx : Nat) (o : Obj) (r : Reg) : Within 0x2000810 s (State.readObject s c idx o r).2 := by
  unfold State.readObject
  repeat' (first
    | with_reducible exact Within.refl _ _
    | with_reducible apply Within.next (k := State.set_frame _ _ _)
    | with_reducible apply Within.next (k := State.draw_frame _ _)
    | split
    | dsimp only
    | with_reducible apply Within.upd_saEvents
    | exact (rfl : (_ : Nat) = _))

theorem State.readPlace_frame (s : State) (c : Ctx) (idx : Nat) (p : Place) : Within 0x2000810 s (State.readPlace s c idx p).2 := by
  unfold State.readPlace
  repeat' (first
    | with_reducible exact Within.refl _ _
    | with_reducible apply Within.next (k := State.readObject_frame _ _ _ _ _)
    | split
    | dsimp only
    | exact (rfl : (_ : Nat) = _))

theorem State.cursorNext_frame (s : State) (c : Ctx) : Within 0x10 s (State.cursorNext s c) := by
  unfold State.cursorNext
  repeat' (first
    | with_reducible exact Within.refl _ _
    | with_reducible apply Within.next (k := State.set_frame _ _ _)
    | split
    | dsimp only
    | exact (rfl : (_ : Nat) = _))

theorem State.longRead_frame (s : State) (c : Ctx) : Within 0x2000810 s (State.longRead s c).2 := by
  unfold State.longRead
  repeat' (first
    | with_reducible exact Within.refl _ _
    | with_reducible apply Within.next (k := State.readPlace_frame _ _ _ _)
    | with_reducible apply Within.next (k := State.cursorNext_frame _ _)
    | split
    | dsimp only
    | exact (rfl : (_ : Nat) = _))

theorem State.dictReadRow_frame (s : State) (c : Ctx) (idx : Nat) (sub : Nat) (row : Nat) : Within 0x2000810 s (State.dictReadRow s c idx sub row).2 := by
  unfold State.dictReadRow
  repeat' (first
    | with_reducible exact Within.refl _ _
    | with_reducible apply Within.next (k := State.readPlace_frame _ _ _ _)
    | with_reducible apply Within.next (k := State.longRead_frame _ _)
    | split
    | dsimp only
    | exact (rfl : (_ : Nat) = _))

theorem State.dictRead_frame (s : State) (c : Ctx) (idx : Nat) (sub : Nat) : Within 0x2000810 s (State.dictRead s c idx sub).2 := by
  unfold State.dictRead
  repeat' (first
    | with_reducible exact Within.refl _ _
    | with_reducible apply Within.next (k := State.dictReadRow_frame _ _ _ _ _)
    | split
    | dsimp only
    | exact (rfl : (_ : Nat) = _))

theorem State.latchAbort_frame (s : State) (c : Ctx) (a : Nat) : Within 0x10 s (State.latchAbort s c a) := by
  unfold State.latchAbort
  repeat' (first
    | with_reducible exact Within.refl _ _
    | with_reducible apply Within.next (k := State.set_frame _ _ _)
    | split
    | dsimp only
    | exact (rfl : (_ : Nat) = _))

theorem execLongDataRead_frame (ctx : Ctx) (s : State) : OWithin 0x2000c10 s (execLongDataRead ctx s) := by
  unfold execLongDataRead
  repeat' (first
    | with_reducible exact Within.refl _ _
    | with_reducible apply Within.next (k := State.refuse_frame _ _ _)
    | with_reducible apply Within.next (k := State.reply_frame _ _ _ _)
    | with_reducible apply Within.next (k := State.longRead_frame _ _)
    | with_reducible apply OWithin.next
    | split
    | dsimp only
    | exact (rfl : (_ : Nat) = _))

theorem snd_mk {α β : Type} (a : α) (b : β) : (a, b).2 = b := rfl
theorem dictLoad_done (s : State) (b : List Byte) (a : Nat) (h : (s.dictRead .dma (dictIndex a) (dictSub a)).1.abort = 0) :
    dictLoad (some b, s) a = (some (b ++ leBytes 8 (s.dictRead .dma (dictIndex a) (dictSub a)).1.slot),
      (s.dictRead .dma (dictIndex a) (dictSub a)).2) := if_pos h
theorem dictLoad_refused (s : State) (b : List Byte) (a : Nat) (h : ¬ (s.dictRead .dma (dictIndex a) (dictSub a)).1.abort = 0) :
    dictLoad (some b, s) a = (none, (s.dictRead .dma (dictIndex a) (dictSub a)).2.latchAbort .dma
      (s.dictRead .dma (dictIndex a) (dictSub a)).1.abort) := if_neg h
theorem dictRead_at_frame (s : State) (a : Nat) : Within 0x2000810 s (s.dictRead .dma (dictIndex a) (dictSub a)).2 :=
  (State.dictRead_frame s .dma (dictIndex a) (dictSub a)).mono rfl
theorem dictLoad_done_frame (s : State) (a : Nat) (b : List Byte) (hc : (s.dictRead .dma (dictIndex a) (dictSub a)).1.abort = 0) :
    Within 0x2000810 s (dictLoad (some b, s) a).2 := by
  have h := dictRead_at_frame s a
  rw [dictLoad_done s b a hc, snd_mk]
  exact h
theorem dictLoad_refused_frame (s : State) (a : Nat) (b : List Byte) (hc : ¬ (s.dictRead .dma (dictIndex a) (dictSub a)).1.abort = 0) :
    Within 0x2000810 s (dictLoad (some b, s) a).2 := by
  rw [dictLoad_refused s b a hc, snd_mk]
  exact (dictRead_at_frame s a).next (State.latchAbort_frame _ _ _) rfl
theorem dictLoad_some_frame (s : State) (a : Nat) (b : List Byte) : Within 0x2000810 s (dictLoad (some b, s) a).2 := by
  by_cases hc : (s.dictRead .dma (dictIndex a) (dictSub a)).1.abort = 0
  · exact dictLoad_done_frame s a b hc
  · exact dictLoad_refused_frame s a b hc
theorem dictLoad_frame (acc : Option (List Byte) × State) (a : Nat) : Within 0x2000810 acc.2 (dictLoad acc a).2 := by
  obtain ⟨b, s⟩ := acc
  cases b with
  | none => exact Within.refl _ s
  | some b => exact dictLoad_some_frame s a b
theorem dictLoad_foldl_frame {m : Nat} {s : State} (l : List Nat) (acc : Option (List Byte) × State) (h : Within m s acc.2)
    (hm : (0x2000810 ||| m) = m) : Within m s (l.foldl dictLoad acc).2 := by
  induction l generalizing acc with
  | nil => exact h
  | cons x l ih => exact ih _ (h.next (dictLoad_frame acc x) hm)

theorem State.dmaRead_frame (s : State) (a : Nat) (n : Nat) : Within 0x24d7b52 s (State.dmaRead s a n).2 := by
  unfold State.dmaRead
  repeat' (first
    | with_reducible exact Within.refl _ _
    | with_reducible apply Within.next (k := State.memRead_frame _ _ _ _ _)
    | with_reducible apply Within.next (k := State.latchAbort_frame _ _ _)
    | with_reducible apply dictLoad_foldl_frame
    | with_reducible apply Within.next_foldl
    | with_reducible apply Within.next_foldl1
    | with_reducible apply Within.next_foldl2
    | with_reducible intro _
    | split
    | dsimp only
    | exact (rfl : (_ : Nat) = _))

theorem State.dmaIdle_frame (s : State) (c : Nat) : Within 0x10 s (State.dmaIdle s c) := by
  unfold State.dmaIdle
  repeat' (first
    | with_reducible exact Within.refl _ _
    | with_reducible apply Within.next (k := State.sets_frame _ _)
    | with_reducible apply Within.next (k := State.count_frame _ _ _ _)
    | split
    | dsimp only
    | exact (rfl : (_ : Nat) = _))

theorem State.dmaFlag_frame (s : State) (c : Nat) (b : Nat) : Within 0x10 s (State.dmaFlag s c b) := by
  unfold State.dmaFlag
  repeat' (first
    | with_reducible exact Within.refl _ _
    | with_reducible apply Within.next (k := State.set_frame _ _ _)
    | split
    | dsimp only
    | exact (rfl : (_ : Nat) = _))

theorem State.dmaFetch_frame (s : State) (c : Nat) (a : Nat) : Within 0x24d7b52 s (State.dmaFetch s c a) := by
  unfold State.dmaFetch
  repeat' (first
    | with_reducible exact Within.refl _ _
    | with_reducible apply Within.next (k := State.set_frame _ _ _)
    | with_reducible apply Within.next (k := State.sets_frame _ _)
    | with_reducible apply Within.next (k := State.dmaRead_frame _ _ _)
    | with_reducible apply Within.next (k := State.dmaIdle_frame _ _)
    | with_reducible apply Within.next (k := State.dmaFlag_frame _ _ _)
    | (with_reducible refine Within.of2 (by assumption) ?_)
    | split
    | dsimp only
    | exact (rfl : (_ : Nat) = _))

theorem State.dmaStart_frame (s : State) (c : Nat) : Within 0x24d7b52 s (State.dmaStart s c) := by
  unfold State.dmaStart
  repeat' (first
    | with_reducible exact Within.refl _ _
    | with_reducible apply Within.next (k := State.sets_frame _ _)
    | with_reducible apply Within.next (k := State.dmaFetch_frame _ _ _)
    | split
    | dsimp only
    | exact (rfl : (_ : Nat) = _))

theorem State.dmaStopPulse_frame (s : State) (c : Nat) : Within 0x110 s (State.dmaStopPulse s c) := by
  unfold State.dmaStopPulse
  repeat' (first
    | with_reducible exact Within.refl _ _
    | with_reducible apply Within.next (k := State.pulse_frame _ _ _)
    | split
    | dsimp only
    | exact (rfl : (_ : Nat) = _))

theorem execDmaStart_frame (ctx : Ctx) (c : Nat) (s : State) : OWithin 0x24d7f52 s (execDmaStart ctx c s) := by
  unfold execDmaStart
  repeat' (first
    | with_reducible exact Within.refl _ _
    | with_reducible apply State.cmdWrite_next
    | with_reducible apply Within.next (k := State.dmaStart_frame _ _)
    | with_reducible apply Within.next (k := State.dmaStopPulse_frame _ _)
    | with_reducible apply OWithin.next
    | with_reducible intro _
    | split
    | dsimp only
    | exact (rfl : (_ : Nat) = _))

theorem execDmaResume_frame (ctx : Ctx) (c : Nat) (s : State) : OWithin 0x24d7f52 s (execDmaResume ctx c s) := by
  unfold execDmaResume
  repeat' (first
    | with_reducible exact Within.refl _ _
    | with_reducible apply State.cmdWrite_next
    | with_reducible apply Within.next (k := State.dmaFetch_frame _ _ _)
    | with_reducible apply Within.next (k := State.dmaStopPulse_frame _ _)
    | with_reducible apply OWithin.next
    | with_reducible intro _
    | split
    | dsimp only
    | exact (rfl : (_ : Nat) = _))

theorem State.dmaStopped_frame (s : State) (c : Nat) (a : Nat) : Within 0x10 s (State.dmaStopped s c a) := by
  unfold State.dmaStopped
  repeat' (first
    | with_reducible exact Within.refl _ _
    | with_reducible apply Within.next (k := State.sets_frame _ _)
    | with_reducible apply Within.next (k := State.dmaFlag_frame _ _ _)
    | split
    | dsimp only
    | exact (rfl : (_ : Nat) = _))

theorem execDmaStop_frame (ctx : Ctx) (c : Nat) (s : State) : OWithin 0x510 s (execDmaStop ctx c s) := by
  unfold execDmaStop
  repeat' (first
    | with_reducible exact Within.refl _ _
    | with_reducible apply Within.next (k := State.set_frame _ _ _)
    | with_reducible apply State.cmdWrite_next
    | with_reducible apply Within.next (k := State.pulse_frame _ _ _)
    | with_reducible apply Within.next (k := State.dmaStopped_frame _ _ _)
    | with_reducible apply OWithin.next
    | with_reducible intro _
    | split
    | dsimp only
    | exact (rfl : (_ : Nat) = _))

theorem execDmaStartPulse_frame (c : Nat) (s : State) : OWithin 0x24d7b52 s (execDmaStartPulse c s) := by
  unfold execDmaStartPulse
  repeat' (first
    | with_reducible exact Within.refl _ _
    | with_reducible apply Within.next (k := State.set_frame _ _ _)
    | with_reducible apply Within.next (k := State.count_frame _ _ _ _)
    | with_reducible apply Within.next (k := State.dmaStart_frame _ _)
    | with_reducible apply Within.next (k := State.dmaStopPulse_frame _ _)
    | with_reducible apply OWithin.next
    | (with_reducible refine Within.of2 (by assumption) ?_)
    | split
    | dsimp only
    | with_reducible apply Within.upd_pulses
    | exact (rfl : (_ : Nat) = _))

theorem State.snapshotRow_frame (s : State) (r : Reg) : Within 0x20 s (State.snapshotRow s r) := by
  unfold State.snapshotRow
  repeat' (first
    | with_reducible exact Within.refl _ _
    | with_reducible apply Within.next (k := State.pendSet_frame _ _ _)
    | with_reducible apply Within.next_foldl
    | with_reducible apply Within.next_foldl1
    | with_reducible apply Within.next_foldl2
    | with_reducible intro _
    | split
    | dsimp only
    | exact (rfl : (_ : Nat) = _))

theorem State.pendWrite_frame (s : State) (r : Reg) (v : Nat) (sameCycle : Bool) : Within 0x30 s (State.pendWrite s r v sameCycle) := by
  unfold State.pendWrite
  repeat' (first
    | with_reducible exact Within.refl _ _
    | with_reducible apply Within.next (k := State.pendSet_frame _ _ _)
    | with_reducible apply Within.next (k := State.takeLate_frame _ _ _)
    | with_reducible apply Within.next (k := State.snapshotRow_frame _ _)
    | with_reducible apply Within.next_foldl
    | with_reducible apply Within.next_foldl1
    | with_reducible apply Within.next_foldl2
    | with_reducible intro _
    | split
    | dsimp only
    | exact (rfl : (_ : Nat) = _))

theorem State.arbitrate_frame (s : State) (g : Nat) (v : Nat) : Within 0x110 s (State.arbitrate s g v) := by
  unfold State.arbitrate
  repeat' (first
    | with_reducible exact Within.refl _ _
    | with_reducible apply Within.next (k := State.set_frame _ _ _)
    | with_reducible apply Within.next (k := State.count_frame _ _ _ _)
    | with_reducible apply Within.next (k := State.pulse_frame _ _ _)
    | with_reducible apply Within.next (k := State.drive_frame _ _ _)
    | with_reducible apply Within.next (k := State.groupEnter_frame _ _ _)
    | with_reducible apply Within.next (k := State.decideOwners_frame _ _)
    | with_reducible apply Within.next_foldl
    | with_reducible apply Within.next_foldl1
    | with_reducible apply Within.next_foldl2
    | with_reducible intro _
    | split
    | dsimp only
    | exact (rfl : (_ : Nat) = _))

theorem State.regroup_frame (s : State) (o : Nat) (old : Nat) : Within 0x10 s (State.regroup s o old) := by
  unfold State.regroup
  repeat' (first
    | with_reducible exact Within.refl _ _
    | with_reducible apply Within.next (k := State.drive_frame _ _ _)
    | split
    | dsimp only
    | exact (rfl : (_ : Nat) = _))

theorem State.afterWrite_frame (s : State) (t : State) (r : Reg) (v : Nat) : Within 0x2000034dfb52 s (State.afterWrite s t r v) := by
  unfold State.afterWrite
  repeat' (first
    | with_reducible exact Within.refl _ _
    | with_reducible apply Within.next (k := State.set_frame _ _ _)
    | with_reducible apply Within.next (k := State.prepGap_frame _ _ _)
    | with_reducible apply Within.next (k := State.latch_frame _ _)
    | with_reducible apply Within.next (k := State.drive_frame _ _ _)
    | with_reducible apply Within.next (k := State.decideOwners_frame _ _)
    | with_reducible apply Within.next (k := State.twinChange_frame _ _)
    | with_reducible apply Within.next (k := State.applyStep_frame _)
    | with_reducible apply Within.next (k := State.txRecords_frame _ _)
    | with_reducible apply Within.next (k := State.arbitrate_frame _ _ _)
    | with_reducible apply Within.next (k := State.regroup_frame _ _ _)
    | with_reducible apply Within.next_foldl
    | with_reducible apply Within.next_foldl1
    | with_reducible apply Within.next_foldl2
    | with_reducible intro _
    | split
    | dsimp only
    | exact (rfl : (_ : Nat) = _))

theorem State.storeNumber_frame (s : State) (c : Ctx) (o : Obj) (r : Reg) (v : Nat) (sameCycle : Bool) : Within 0x2000034dfb72 s (State.storeNumber s c o r v sameCycle) := by
  unfold State.storeNumber
  repeat' (first
    | with_reducible exact Within.refl _ _
    | with_reducible apply Within.next (k := State.set_frame _ _ _)
    | with_reducible apply Within.next (k := State.changed_frame _)
    | with_reducible apply Within.next (k := State.settle_frame _ _)
    | with_reducible apply Within.next (k := State.pendWrite_frame _ _ _ _)
    | with_reducible apply Within.next (k := State.afterWrite_frame _ _ _ _)
    | split
    | dsimp only
    | exact (rfl : (_ : Nat) = _))

theorem State.storeBytes_frame (s : State) (c : Ctx) (o : Obj) (r : Reg) (b : List Byte) : Within 0x50 s (State.storeBytes s c o r b) := by
  unfold State.storeBytes
  repeat' (first
    | with_reducible exact Within.refl _ _
    | with_reducible apply Within.next (k := State.setBlob_frame _ _ _)
    | with_reducible apply Within.next (k := State.changed_frame _)
    | split
    | dsimp only
    | exact (rfl : (_ : Nat) = _))

theorem after_frame {m : Nat} {s u : State} {o : Host.Outcome State Fault Refusal} (h : Within m s u) (k : OWithin m s o) :
    Within m s (after u o) := by
  cases o with
  | next t => exact k.within t rfl
  | fault _ => exact h
  | refused _ => exact h

theorem State.sleepRequest_frame (s : State) (c : Ctx) (v : Nat) : Within 0x4c1d50 s (State.sleepRequest s c v) := by
  unfold State.sleepRequest
  repeat' (first
    | with_reducible exact Within.refl _ _
    | with_reducible apply Within.next (k := State.draw_frame _ _)
    | with_reducible apply Within.next (k := State.refuse_frame _ _ _)
    | with_reducible apply OWithin.after (k := execPwrRequestDormant_frame _ _ _)
    | with_reducible apply OWithin.after (k := execPwrRequestEmber_frame _ _ _)
    | with_reducible apply after_frame
    | split
    | dsimp only
    | exact (rfl : (_ : Nat) = _))

theorem runVault_frame (v : Nat) (c : Ctx) (s : State) : OWithin 0x14000450 s (runVault v c s) := by
  unfold runVault
  repeat' (first
    | with_reducible exact Within.refl _ _
    | with_reducible apply OWithin.after (k := execVaultGenerate_frame _ _)
    | with_reducible apply OWithin.after (k := execVaultImportClear_frame _ _)
    | with_reducible apply OWithin.after (k := execVaultImportWrapped_frame _ _)
    | with_reducible apply OWithin.after (k := execVaultExportWrapped_frame _ _)
    | with_reducible apply OWithin.after (k := execVaultNarrowPolicy_frame _ _)
    | with_reducible apply OWithin.after (k := execVaultDestroy_frame _ _)
    | with_reducible apply OWithin.after (k := execVaultSign_frame _ _)
    | with_reducible apply OWithin.after (k := execVaultVerify_frame _ _)
    | with_reducible apply OWithin.after (k := execVaultEcdh_frame _ _)
    | with_reducible apply OWithin.after (k := execVaultHkdf_frame _ _)
    | with_reducible apply OWithin.after (k := execVaultKdfCtr_frame _ _)
    | with_reducible apply OWithin.after (k := execVaultRandom_frame _ _)
    | with_reducible apply OWithin.after (k := execVaultAttest_frame _ _)
    | with_reducible apply OWithin.next
    | split
    | dsimp only
    | exact (rfl : (_ : Nat) = _))

theorem runSc_frame (v : Nat) (c : Ctx) (s : State) : OWithin 0x2000001601ad70 s (runSc v c s) := by
  unfold runSc
  repeat' (first
    | with_reducible exact Within.refl _ _
    | with_reducible apply OWithin.after (k := execScOpen_frame _ _)
    | with_reducible apply OWithin.after (k := execScClose_frame _ _)
    | with_reducible apply OWithin.after (k := execScInstall_frame _ _)
    | with_reducible apply OWithin.after (k := execScRetire_frame _ _)
    | with_reducible apply OWithin.after (k := execScActivate_frame _ _)
    | with_reducible apply OWithin.next
    | split
    | dsimp only
    | exact (rfl : (_ : Nat) = _))

theorem runKid_frame (v : Nat) (c : Ctx) (k : Nat) (s : State) : OWithin 0x814000450 s (runKid v c k s) := by
  unfold runKid
  repeat' (first
    | with_reducible exact Within.refl _ _
    | with_reducible apply OWithin.after (k := execKeyidProgram_frame _ _ _)
    | with_reducible apply OWithin.after (k := execKeyidClose_frame _ _ _)
    | with_reducible apply OWithin.after (k := execKeyidRetire_frame _ _ _)
    | with_reducible apply OWithin.next
    | split
    | dsimp only
    | exact (rfl : (_ : Nat) = _))

theorem runSession_frame (v : Nat) (c : Ctx) (s : State) : OWithin 0xc000014000c50 s (runSession v c s) := by
  unfold runSession
  repeat' (first
    | with_reducible exact Within.refl _ _
    | with_reducible apply OWithin.after (k := execSessionOpen_frame _ _)
    | with_reducible apply OWithin.after (k := execCountersign_frame _ _)
    | with_reducible apply OWithin.after (k := execSessionClose_frame _ _)
    | with_reducible apply OWithin.next
    | split
    | dsimp only
    | exact (rfl : (_ : Nat) = _))

theorem runRst_frame (v : Nat) (c : Ctx) (s : State) : OWithin 0x20004c1d54 s (runRst v c s) := by
  unfold runRst
  repeat' (first
    | with_reducible exact Within.refl _ _
    | with_reducible apply OWithin.after (k := execRstDevice_frame _ _)
    | with_reducible apply OWithin.after (k := execRstSnuff_frame _ _)
    | with_reducible apply OWithin.after (k := execRstRestartA_frame _ _)
    | with_reducible apply OWithin.after (k := execRstRestartB_frame _ _)
    | with_reducible apply OWithin.next
    | split
    | dsimp only
    | exact (rfl : (_ : Nat) = _))

theorem State.runPwr_frame (s : State) (c : Ctx) (v : Nat) : Within 0x4c1d50 s (State.runPwr s c v) := by
  unfold State.runPwr
  repeat' (first
    | with_reducible exact Within.refl _ _
    | with_reducible apply OWithin.after (k := execPwrRequestGlow_frame _ _)
    | with_reducible apply OWithin.after (k := execPwrRequestFlame_frame _ _)
    | with_reducible apply OWithin.after (k := execPwrRequestTrim_frame _ _)
    | with_reducible apply after_frame
    | with_reducible apply Within.next (k := State.sleepRequest_frame _ _ _)
    | split
    | dsimp only
    | exact (rfl : (_ : Nat) = _))

theorem State.ownRow_frame (s : State) (c : Ctx) (r : Reg) (v : Nat) (b : List Byte) : ∀ t', State.ownRow s c r v b = some t' → Within 0x3c602cdfcdfff6 s t' := by
  intro t' h'
  unfold State.ownRow at h'
  try dsimp only at h'
  repeat' (first | (split at h') | (cases h'))
  all_goals repeat' (first
    | with_reducible exact Within.refl _ _
    | with_reducible apply OWithin.after (k := execBufReclaim_frame _ _ _)
    | with_reducible apply OWithin.after (k := execQFlush_frame _ _ _ _)
    | with_reducible apply OWithin.after (k := execFdbForget_frame _ _ _)
    | with_reducible apply OWithin.after (k := execQcntClear_frame _ _ _ _)
    | with_reducible apply OWithin.after (k := execPortEnable_frame _ _ _)
    | with_reducible apply OWithin.after (k := execPortDisable_frame _ _ _)
    | with_reducible apply OWithin.after (k := execPortRestart_frame _ _ _)
    | with_reducible apply OWithin.after (k := execPortRestartFull_frame _ _ _)
    | with_reducible apply OWithin.after (k := execPcntClear_frame _ _ _ _)
    | with_reducible apply OWithin.after (k := execScntClear_frame _ _ _ _)
    | with_reducible apply OWithin.after (k := execCcntClear_frame _ _ _ _)
    | with_reducible apply OWithin.after (k := execLcClear_frame _ _ _ _)
    | with_reducible apply OWithin.after (k := execEvPulse_frame _ _ _)
    | with_reducible apply OWithin.after (k := execEcntClear_frame _ _ _ _)
    | with_reducible apply OWithin.after (k := execLifeCycleTransition_frame _ _ _)
    | with_reducible apply OWithin.after (k := execFlashErase_frame _ _ _)
    | with_reducible apply OWithin.after (k := execChmRetrain_frame _ _ _)
    | with_reducible apply OWithin.after (k := execChmFaultClear_frame _ _ _)
    | with_reducible apply OWithin.after (k := execHbBeat_frame _ _ _ _ _)
    | with_reducible apply OWithin.after (k := execCgClaim_frame _ _ _ _)
    | with_reducible apply OWithin.after (k := execOutCommand_frame _ _ _ _)
    | with_reducible apply OWithin.after (k := execCrLoad_frame _ _)
    | with_reducible apply OWithin.after (k := execCrUnload_frame _ _)
    | with_reducible apply OWithin.after (k := execCrqProduce_frame _ _ _ _)
    | with_reducible apply OWithin.after (k := execScpClear_frame _ _ _ _)
    | with_reducible apply OWithin.after (k := execCanRecover_frame _ _ _ _)
    | with_reducible apply OWithin.after (k := execCanEnable_frame _ _ _ _)
    | with_reducible apply OWithin.after (k := execCanClear_frame _ _ _ _)
    | with_reducible apply OWithin.after (k := execLinClear_frame _ _ _ _)
    | with_reducible apply OWithin.after (k := execLinSendWake_frame _ _ _ _)
    | with_reducible apply OWithin.after (k := execCycDataWrite_frame _ _ _ _)
    | with_reducible apply OWithin.after (k := execAcfClear_frame _ _ _ _)
    | with_reducible apply OWithin.after (k := execGwKeyLoad_frame _ _ _ _)
    | with_reducible apply OWithin.after (k := execCpS2Write_frame _ _ _)
    | with_reducible apply OWithin.after (k := execCdCommand_frame _ _ _ _)
    | with_reducible apply OWithin.after (k := execCdClearFault_frame _ _ _ _)
    | with_reducible apply OWithin.after (k := execSealClose_frame _ _ _)
    | with_reducible apply OWithin.after (k := execMsAcknowledge_frame _ _ _)
    | with_reducible apply OWithin.after (k := execMsExport_frame _ _ _)
    | with_reducible apply OWithin.after (k := execTbSnapshot_frame _ _ _)
    | with_reducible apply OWithin.after (k := execDomEnable_frame _ _ _)
    | with_reducible apply OWithin.after (k := execDomRole_frame _ _ _ _)
    | with_reducible apply OWithin.after (k := execDomStandbyWrite_frame _ _ _ _)
    | with_reducible apply OWithin.after (k := execDomSyncTimeoutWrite_frame _ _ _ _)
    | with_reducible apply OWithin.after (k := execSeRun_frame _ _ _)
    | with_reducible apply OWithin.after (k := execSeStop_frame _ _ _)
    | with_reducible apply OWithin.after (k := execTxRingProduce_frame _ _ _)
    | with_reducible apply OWithin.after (k := execCfgSave_frame _ _ _)
    | with_reducible apply OWithin.after (k := execErrAcknowledge_frame _ _ _)
    | with_reducible apply OWithin.after (k := execErrReport_frame _ _ _)
    | with_reducible apply OWithin.after (k := execEclClear_frame _ _ _ _)
    | with_reducible apply OWithin.after (k := execUpdPrepare_frame _ _ _)
    | with_reducible apply OWithin.after (k := execUpdConfirm_frame _ _ _)
    | with_reducible apply OWithin.after (k := execOwnerKeyWrite_frame _ _ _)
    | with_reducible apply OWithin.after (k := execDomStep_frame _ _ _ _)
    | with_reducible apply OWithin.after (k := execDomDisable_frame _ _ _)
    | with_reducible apply OWithin.after (k := execDmaStart_frame _ _ _)
    | with_reducible apply OWithin.after (k := execDmaResume_frame _ _ _)
    | with_reducible apply OWithin.after (k := execDmaStop_frame _ _ _)
    | with_reducible apply after_frame
    | with_reducible apply OWithin.after (k := runVault_frame _ _ _)
    | with_reducible apply OWithin.after (k := runSc_frame _ _ _)
    | with_reducible apply OWithin.after (k := runKid_frame _ _ _ _)
    | with_reducible apply OWithin.after (k := runSession_frame _ _ _)
    | with_reducible apply OWithin.after (k := runRst_frame _ _ _)
    | with_reducible apply Within.next (k := State.runPwr_frame _ _ _)
    | split
    | dsimp only
    | exact (rfl : (_ : Nat) = _))

theorem State.settleRow_next {m : Nat} {s u t : State} {c : Ctx} {late : Option Nat} (h : Within m s u) (k : Within m s t)
    (hm : (0x410 ||| m) = m) : Within m s (u.settleRow t c late) := by
  unfold State.settleRow
  split
  · exact k
  · split
    · exact k
    · exact h.next (State.refuse_frame _ _ _) hm

theorem State.writeObject_frame (s : State) (c : Ctx) (idx : Nat) (o : Obj) (r : Reg) (d : WriteData) (sameCycle : Bool) : Within 0x3c602cdfcdfff6 s (State.writeObject s c idx o r d sameCycle) := by
  unfold State.writeObject
  repeat' (first
    | with_reducible exact Within.refl _ _
    | with_reducible apply Within.next (k := State.done_frame _ _)
    | with_reducible apply State.access_next
    | with_reducible apply Within.next (k := State.storeNumber_frame _ _ _ _ _ _)
    | with_reducible apply Within.next (k := State.storeBytes_frame _ _ _ _ _)
    | (with_reducible refine Within.next ?_ (State.ownRow_frame _ _ _ _ _ _ (by assumption)) rfl)
    | with_reducible apply State.settleRow_next
    | with_reducible intro _
    | split
    | dsimp only
    | exact (rfl : (_ : Nat) = _))

theorem State.writeCommit_frame (s : State) (c : Ctx) (idx : Nat) (o : Owner) (k : Nat) (d : WriteData) : Within 0x200024024dfdf0 s (State.writeCommit s c idx o k d) := by
  unfold State.writeCommit
  repeat' (first
    | with_reducible exact Within.refl _ _
    | with_reducible apply Within.next (k := State.set_frame _ _ _)
    | with_reducible apply Within.next (k := State.refuse_frame _ _ _)
    | with_reducible apply State.rwWrite_next
    | with_reducible apply Within.next (k := State.rearm_frame _ _ _)
    | with_reducible apply Within.next (k := State.commit_frame _ _)
    | with_reducible apply OWithin.after (k := execCommit_frame _ _ _)
    | with_reducible apply OWithin.after (k := execDisarm_frame _ _ _)
    | with_reducible apply OWithin.after (k := execDiscard_frame _ _ _)
    | with_reducible apply after_frame
    | with_reducible apply State.settleRow_next
    | with_reducible intro _
    | split
    | dsimp only
    | exact (rfl : (_ : Nat) = _))

theorem State.writeWindow_frame (s : State) (c : Ctx) (idx : Nat) (o : Owner) (k : Nat) (d : WriteData) : Within 0x410 s (State.writeWindow s c idx o k d) := by
  unfold State.writeWindow
  repeat' (first
    | with_reducible exact Within.refl _ _
    | with_reducible apply Within.next (k := State.set_frame _ _ _)
    | with_reducible apply Within.next (k := State.refuse_frame _ _ _)
    | with_reducible apply State.rwWrite_next
    | with_reducible intro _
    | split
    | dsimp only
    | exact (rfl : (_ : Nat) = _))

theorem State.writeAt_frame (s : State) (c : Ctx) (idx : Nat) (sub : Nat) (row : Nat) (d : WriteData) (sameCycle : Bool) : Within 0x3c602cdfcdfff6 s (State.writeAt s c idx sub row d sameCycle) := by
  unfold State.writeAt
  repeat' (first
    | with_reducible exact Within.refl _ _
    | with_reducible apply Within.next (k := State.refuse_frame _ _ _)
    | with_reducible apply State.sealLock_next
    | with_reducible apply Within.next (k := State.commit_frame _ _)
    | with_reducible apply Within.next (k := State.writeObject_frame _ _ _ _ _ _ _)
    | with_reducible apply Within.next (k := State.writeCommit_frame _ _ _ _ _ _)
    | with_reducible apply Within.next (k := State.writeWindow_frame _ _ _ _ _ _)
    | with_reducible intro _
    | split
    | dsimp only
    | exact (rfl : (_ : Nat) = _))

theorem State.dropHeld_frame (s : State) (c : Ctx) : Within 0x50 s (State.dropHeld s c) := by
  unfold State.dropHeld
  repeat' (first
    | with_reducible exact Within.refl _ _
    | with_reducible apply Within.next (k := State.set_frame _ _ _)
    | with_reducible apply Within.next (k := State.clearBlob_frame _ _)
    | split
    | dsimp only
    | exact (rfl : (_ : Nat) = _))

theorem State.writePiece_frame (s : State) (c : Ctx) (idx : Nat) (sub : Nat) (row : Nat) (off : Nat) (b : List Byte) (sameCycle : Bool) : Within 0x3c602cdfcdfff6 s (State.writePiece s c idx sub row off b sameCycle) := by
  unfold State.writePiece
  repeat' (first
    | with_reducible exact Within.refl _ _
    | with_reducible apply Within.next (k := State.set_frame _ _ _)
    | with_reducible apply Within.next (k := State.setBlob_frame _ _ _)
    | with_reducible apply Within.next (k := State.refuse_frame _ _ _)
    | with_reducible apply Within.next (k := State.done_frame _ _)
    | with_reducible apply Within.next (k := State.writeAt_frame _ _ _ _ _ _ _)
    | with_reducible apply Within.next (k := State.dropHeld_frame _ _)
    | split
    | dsimp only
    | exact (rfl : (_ : Nat) = _))

theorem State.longWrite_frame (s : State) (c : Ctx) (v : Nat) : Within 0x3c602cdfcdfff6 s (State.longWrite s c v) := by
  unfold State.longWrite
  repeat' (first
    | with_reducible exact Within.refl _ _
    | with_reducible apply Within.next (k := State.refuse_frame _ _ _)
    | with_reducible apply Within.next (k := State.done_frame _ _)
    | with_reducible apply Within.next (k := State.changed_frame _)
    | with_reducible apply Within.next (k := State.cursorNext_frame _ _)
    | with_reducible apply Within.next (k := State.writePiece_frame _ _ _ _ _ _ _ _)
    | split
    | dsimp only
    | exact (rfl : (_ : Nat) = _))

theorem execLongDataWrite_frame (ctx : Ctx) (value : Nat) (s : State) : OWithin 0x3c602cdfcdfff6 s (execLongDataWrite ctx value s) := by
  unfold execLongDataWrite
  repeat' (first
    | with_reducible exact Within.refl _ _
    | with_reducible apply Within.next (k := State.longWrite_frame _ _ _)
    | with_reducible apply OWithin.next
    | split
    | dsimp only
    | exact (rfl : (_ : Nat) = _))

theorem State.dictWrite_frame (s : State) (c : Ctx) (idx : Nat) (sub : Nat) (d : WriteData) (sameCycle : Bool) : Within 0x3c602cdfcdfff6 s (State.dictWrite s c idx sub d sameCycle) := by
  unfold State.dictWrite
  repeat' (first
    | with_reducible exact Within.refl _ _
    | with_reducible apply Within.next (k := State.refuse_frame _ _ _)
    | with_reducible apply Within.next (k := State.writeAt_frame _ _ _ _ _ _ _)
    | with_reducible apply Within.next (k := State.longWrite_frame _ _ _)
    | split
    | dsimp only
    | exact (rfl : (_ : Nat) = _))

theorem State.pathWrite_frame (s : State) (c : Ctx) (idx : Nat) (sub : Nat) (d : WriteData) : Within 0x3c602cdfcdfff6 s (State.pathWrite s c idx sub d) := by
  unfold State.pathWrite
  repeat' (first
    | with_reducible exact Within.refl _ _
    | with_reducible apply Within.next (k := State.draw_frame _ _)
    | with_reducible apply Within.next (k := State.dictWrite_frame _ _ _ _ _ _)
    | split
    | dsimp only
    | exact (rfl : (_ : Nat) = _))

theorem execGeneralWrite_frame (ctx : Ctx) (index : Nat) (sub : Nat) (data : WriteData) (sameCycle : Bool) (s : State) : OWithin 0x3c602cdfcdfff6 s (execGeneralWrite ctx index sub data sameCycle s) := by
  unfold execGeneralWrite
  repeat' (first
    | with_reducible exact Within.refl _ _
    | with_reducible apply Within.next (k := State.dictWrite_frame _ _ _ _ _ _)
    | with_reducible apply OWithin.next
    | split
    | dsimp only
    | exact (rfl : (_ : Nat) = _))

end Sys2Proof.Machine
end

