-- ==== Sys2Proof/Laws/FrameServers.lean ====
section
/-! SUPPORT. What the operations of Coath, DMA descriptors and SDO can touch: one law for each, with the parts of the state that it may change as bits of a mask
in the order of `Part`, and that it keeps the canonical forms. -/
set_option Elab.async false
namespace Sys2Proof.Machine

theorem State.coathRead_frame (s : State) (q : CoathReq) : Within 0x2000810 s (State.coathRead s q).s := by
  unfold State.coathRead
  repeat' (first
    | with_reducible exact Within.refl _ _
    | with_reducible apply Within.next (k := State.dictRead_frame _ _ _ _)
    | with_reducible apply Within.next (k := State.latchAbort_frame _ _ _)
    | split
    | dsimp only
    | exact (rfl : (_ : Nat) = _))

theorem State.coathWrite_frame (s : State) (q : CoathReq) : Within 0x3c602cdfcdfff6 s (State.coathWrite s q).s := by
  unfold State.coathWrite
  repeat' (first
    | with_reducible exact Within.refl _ _
    | with_reducible apply Within.next (k := State.writePiece_frame _ _ _ _ _ _ _ _)
    | with_reducible apply Within.next (k := State.pathWrite_frame _ _ _ _ _)
    | split
    | dsimp only
    | exact (rfl : (_ : Nat) = _))

theorem State.coathCommit_frame (s : State) (q : CoathReq) : Within 0x3c602cdfcdfff6 s (State.coathCommit s q).s := by
  unfold State.coathCommit
  repeat' (first
    | with_reducible exact Within.refl _ _
    | with_reducible apply Within.next (k := State.done_frame _ _)
    | with_reducible apply Within.next (k := State.latchAbort_frame _ _ _)
    | with_reducible apply Within.next (k := State.dictWrite_frame _ _ _ _ _ _)
    | split
    | dsimp only
    | exact (rfl : (_ : Nat) = _))

theorem State.coathCell_frame (s : State) (q : CoathReq) (row : Nat) (sub : Nat) (v : Nat) : Within 0x3c602cdfcdfff6 s (State.coathCell s q row sub v).s := by
  unfold State.coathCell
  repeat' (first
    | with_reducible exact Within.refl _ _
    | with_reducible apply Within.next (k := State.draw_frame _ _)
    | with_reducible apply Within.next (k := State.dictReadRow_frame _ _ _ _ _)
    | with_reducible apply Within.next (k := State.latchAbort_frame _ _ _)
    | with_reducible apply Within.next (k := State.writeAt_frame _ _ _ _ _ _ _)
    | with_reducible apply Within.next (k := State.dictWrite_frame _ _ _ _ _ _)
    | split
    | dsimp only
    | exact (rfl : (_ : Nat) = _))

theorem State.coathCells_frame (q : CoathReq) (l : List (Nat × Nat)) (n : Nat) (d : List Byte) (s : State) :
    Within 0x3c602cdfcdfff6 s (State.coathCells q l n d s).2.s := by
  induction l generalizing n d s with
  | nil => exact Within.refl _ _
  | cons c l ih =>
    obtain ⟨row, sub⟩ := c
    unfold State.coathCells
    dsimp only
    split
    · exact (State.coathCell_frame s q row sub _).mono rfl
    · exact ((State.coathCell_frame s q row sub _).mono rfl).trans (ih _ _ _)

theorem State.coathBlock_frame (s : State) (q : CoathReq) : Within 0x3c602cdfcdfff6 s (State.coathBlock s q).s := by
  unfold State.coathBlock
  repeat' (first
    | with_reducible exact Within.refl _ _
    | with_reducible apply Within.next (k := State.coathCells_frame _ _ _ _ _)
    | split
    | dsimp only
    | exact (rfl : (_ : Nat) = _))

theorem State.coathServe_frame (s : State) (q : CoathReq) : Within 0x3c602cdfcdfff6 s (State.coathServe s q).s := by
  unfold State.coathServe
  repeat' (first
    | with_reducible exact Within.refl _ _
    | with_reducible apply Within.next (k := State.coathRead_frame _ _)
    | with_reducible apply Within.next (k := State.coathWrite_frame _ _)
    | with_reducible apply Within.next (k := State.coathCommit_frame _ _)
    | with_reducible apply Within.next (k := State.coathBlock_frame _ _)
    | split
    | dsimp only
    | exact (rfl : (_ : Nat) = _))

theorem State.coathAnswer_frame (s : State) (p : List Byte) (h : Hdr) : Within 0x103c602cdfcdfff6 s (State.coathAnswer s p h).2 := by
  unfold State.coathAnswer
  repeat' (first
    | with_reducible exact Within.refl _ _
    | with_reducible apply Within.next (k := State.coathServe_frame _ _)
    | split
    | dsimp only
    | with_reducible apply Within.upd_coathKept
    | exact (rfl : (_ : Nat) = _))

theorem State.coathRow_frame (s : State) (mine : Nat → Bool) : Within 0x103c602cdfcdfff6 s (State.coathRow s mine) := by
  unfold State.coathRow
  repeat' (first
    | with_reducible exact Within.refl _ _
    | with_reducible apply Within.next (k := State.count_frame _ _ _ _)
    | with_reducible apply Within.next (k := State.draw_frame _ _)
    | with_reducible apply Within.next (k := State.hostFrame_frame _ _ _)
    | with_reducible apply Within.next (k := State.hostPass_frame _ _)
    | with_reducible apply Within.next (k := State.takeHost_frame _ _)
    | with_reducible apply Within.next (k := State.coathAnswer_frame _ _ _)
    | (with_reducible refine Within.of2 (by assumption) ?_)
    | split
    | dsimp only
    | exact (rfl : (_ : Nat) = _))

theorem execCoathRead_frame (s : State) : OWithin 0x103c602cdfcdfff6 s (execCoathRead s) := by
  unfold execCoathRead
  repeat' (first
    | with_reducible exact Within.refl _ _
    | with_reducible apply Within.next (k := State.coathRow_frame _ _)
    | with_reducible apply OWithin.next
    | split
    | dsimp only
    | exact (rfl : (_ : Nat) = _))

theorem execCoathWrite_frame (s : State) : OWithin 0x103c602cdfcdfff6 s (execCoathWrite s) := by
  unfold execCoathWrite
  repeat' (first
    | with_reducible exact Within.refl _ _
    | with_reducible apply Within.next (k := State.coathRow_frame _ _)
    | with_reducible apply OWithin.next
    | split
    | dsimp only
    | exact (rfl : (_ : Nat) = _))

theorem execCoathCommit_frame (s : State) : OWithin 0x103c602cdfcdfff6 s (execCoathCommit s) := by
  unfold execCoathCommit
  repeat' (first
    | with_reducible exact Within.refl _ _
    | with_reducible apply Within.next (k := State.coathRow_frame _ _)
    | with_reducible apply OWithin.next
    | split
    | dsimp only
    | exact (rfl : (_ : Nat) = _))

theorem execCoathBlockRead_frame (s : State) : OWithin 0x103c602cdfcdfff6 s (execCoathBlockRead s) := by
  unfold execCoathBlockRead
  repeat' (first
    | with_reducible exact Within.refl _ _
    | with_reducible apply Within.next (k := State.coathRow_frame _ _)
    | with_reducible apply OWithin.next
    | split
    | dsimp only
    | exact (rfl : (_ : Nat) = _))

theorem execCoathBlockWrite_frame (s : State) : OWithin 0x103c602cdfcdfff6 s (execCoathBlockWrite s) := by
  unfold execCoathBlockWrite
  repeat' (first
    | with_reducible exact Within.refl _ _
    | with_reducible apply Within.next (k := State.coathRow_frame _ _)
    | with_reducible apply OWithin.next
    | split
    | dsimp only
    | exact (rfl : (_ : Nat) = _))

theorem dictStore_frame (base : Nat) (b : List Byte) (acc : Bool × State) (a : Nat) : Within 0x3c602cdfcdfff6 acc.2 (dictStore base b acc a).2 := by
  unfold dictStore
  repeat' (first
    | with_reducible exact Within.refl _ _
    | exact (rfl : (_ : Nat) = _)
    | with_reducible apply Within.next (k := State.pathWrite_frame _ _ _ _ _)
    | split)
theorem dictStore_foldl_frame {m : Nat} {s : State} (base : Nat) (b : List Byte) (l : List Nat) (acc : Bool × State) (h : Within m s acc.2)
    (hm : (0x3c602cdfcdfff6 ||| m) = m) : Within m s (l.foldl (dictStore base b) acc).2 := by
  induction l generalizing acc with
  | nil => exact h
  | cons x l ih => exact ih _ (h.next (dictStore_frame base b acc x) hm)

theorem State.dmaStore_frame (s : State) (c : Nat) (a : Nat) (b : List Byte) : Within 0x3c642fdfcdfff6 s (State.dmaStore s c a b).2 := by
  unfold State.dmaStore
  repeat' (first
    | with_reducible exact Within.refl _ _
    | with_reducible apply Within.next (k := State.memWrite_frame _ _ _ _ _ _)
    | with_reducible apply Within.next (k := State.lateFault_frame _ _ _)
    | with_reducible apply Within.next (k := State.applyPiece_frame _ _)
    | with_reducible apply Within.next (k := State.latchAbort_frame _ _ _)
    | with_reducible apply dictStore_foldl_frame
    | with_reducible apply Within.next_foldl
    | with_reducible apply Within.next_foldl1
    | with_reducible apply Within.next_foldl2
    | with_reducible intro _
    | split
    | dsimp only
    | exact (rfl : (_ : Nat) = _))

theorem State.dmaWrite_frame (s : State) (c : Nat) (a : Nat) (b : List Byte) : Within 0x3c642fdfcdfff6 s (State.dmaWrite s c a b).2 := by
  unfold State.dmaWrite
  repeat' (first
    | with_reducible exact Within.refl _ _
    | with_reducible apply Within.next (k := State.dmaStore_frame _ _ _ _)
    | with_reducible apply Within.next_foldl
    | with_reducible apply Within.next_foldl1
    | with_reducible apply Within.next_foldl2
    | with_reducible intro _
    | split
    | dsimp only
    | exact (rfl : (_ : Nat) = _))

theorem State.crcBegin_frame (s : State) (c : Nat) (w0 : Nat) : Within 0x10 s (State.crcBegin s c w0) := by
  unfold State.crcBegin
  repeat' (first
    | with_reducible exact Within.refl _ _
    | with_reducible apply Within.next (k := State.sets_frame _ _)
    | split
    | dsimp only
    | exact (rfl : (_ : Nat) = _))

theorem State.crcTake_frame (s : State) (c : Nat) (w0 : Nat) (b : List Byte) : Within 0x10 s (State.crcTake s c w0 b) := by
  unfold State.crcTake
  repeat' (first
    | with_reducible exact Within.refl _ _
    | with_reducible apply Within.next (k := State.set_frame _ _ _)
    | split
    | dsimp only
    | exact (rfl : (_ : Nat) = _))

theorem State.crcEnd_frame (s : State) (c : Nat) (w0 : Nat) (w2 : Nat) : Within 0x3c642fdfcdfff6 s (State.crcEnd s c w0 w2).2 := by
  unfold State.crcEnd
  repeat' (first
    | with_reducible exact Within.refl _ _
    | with_reducible apply Within.next (k := State.set_frame _ _ _)
    | with_reducible apply Within.next (k := State.dmaWrite_frame _ _ _ _)
    | split
    | dsimp only
    | exact (rfl : (_ : Nat) = _))

theorem State.dmaPiece_frame (s : State) (c : Nat) (w0 : Nat) (w1 : Nat) (w2 : Nat) (off : Nat) (n : Nat) : Within 0x3c642fdfcdfff6 s (State.dmaPiece s c w0 w1 w2 off n).s := by
  unfold State.dmaPiece
  repeat' (first
    | with_reducible exact Within.refl _ _
    | with_reducible apply Within.next (k := State.set_frame _ _ _)
    | with_reducible apply Within.next (k := State.sets_frame _ _)
    | with_reducible apply Within.next (k := State.dmaRead_frame _ _ _)
    | with_reducible apply Within.next (k := State.dmaFlag_frame _ _ _)
    | with_reducible apply Within.next (k := State.dmaWrite_frame _ _ _ _)
    | with_reducible apply Within.next (k := State.crcTake_frame _ _ _ _)
    | (with_reducible refine Within.of2 (by assumption) ?_)
    | split
    | dsimp only
    | exact (rfl : (_ : Nat) = _))

theorem State.dmaData_frame (s : State) (c w0 w1 w2 : Nat) : Within 0x3c642fdfcdfff6 s (s.dmaData c w0 w1 w2).s := by
  have key : ∀ (l : List (Nat × Nat)) (m : Moving), Within 0x3c642fdfcdfff6 m.s
      (l.foldl (fun m p => if m.go then m.s.dmaPiece c w0 w1 w2 p.1 p.2 else m) m).s := by
    intro l
    induction l with
    | nil => exact fun m => Within.refl _ _
    | cons p l ih =>
      intro m
      rw [List.foldl_cons]
      refine Within.trans ?_ (ih _)
      split
      · exact (Within.refl _ _).next (State.dmaPiece_frame _ _ _ _ _ _ _) rfl
      · exact Within.refl _ _
  exact key _ { s := s }

theorem State.dmaBad_frame (s : State) (c : Nat) (w0 : Nat) : Within 0x3c642fdfcdfff6 s (State.dmaBad s c w0) := by
  unfold State.dmaBad
  repeat' (first
    | with_reducible exact Within.refl _ _
    | with_reducible apply Within.next (k := State.set_frame _ _ _)
    | with_reducible apply Within.next (k := State.count_frame _ _ _ _)
    | with_reducible apply Within.next (k := State.dmaFlag_frame _ _ _)
    | with_reducible apply Within.next (k := State.dmaWrite_frame _ _ _ _)
    | split
    | dsimp only
    | exact (rfl : (_ : Nat) = _))

theorem State.dmaFence_frame (s : State) (c : Nat) (w0 : Nat) : Within 0x10 s (State.dmaFence s c w0).2 := by
  unfold State.dmaFence
  repeat' (first
    | with_reducible exact Within.refl _ _
    | with_reducible apply Within.next (k := State.fenceEnd_frame _ _)
    | split
    | dsimp only
    | exact (rfl : (_ : Nat) = _))

theorem State.dmaDescriptor_frame (s : State) (c : Nat) (w0 : Nat) (w1 : Nat) (w2 : Nat) (w3 : Nat) : Within 0x3c642fdfcdfff6 s (State.dmaDescriptor s c w0 w1 w2 w3) := by
  unfold State.dmaDescriptor
  repeat' (first
    | with_reducible exact Within.refl _ _
    | with_reducible apply Within.next (k := State.crcBegin_frame _ _ _)
    | with_reducible apply Within.next (k := State.crcEnd_frame _ _ _ _)
    | with_reducible apply Within.next (k := State.dmaData_frame _ _ _ _ _)
    | with_reducible apply Within.next (k := State.dmaBad_frame _ _ _)
    | with_reducible apply Within.next (k := State.dmaFence_frame _ _ _)
    | split
    | dsimp only
    | exact (rfl : (_ : Nat) = _))

theorem State.dmaChainEnd_frame (s : State) (c : Nat) (stop : Bool) : Within 0x24d7b52 s (State.dmaChainEnd s c stop) := by
  unfold State.dmaChainEnd
  repeat' (first
    | with_reducible exact Within.refl _ _
    | with_reducible apply Within.next (k := State.set_frame _ _ _)
    | with_reducible apply Within.next (k := State.count_frame _ _ _ _)
    | with_reducible apply Within.next (k := State.dmaIdle_frame _ _)
    | with_reducible apply Within.next (k := State.dmaStart_frame _ _)
    | split
    | dsimp only
    | exact (rfl : (_ : Nat) = _))

theorem State.dmaBoundary_frame (s : State) (c : Nat) (w0 : Nat) (w3 : Nat) : Within 0x200024024dfbf2 s (State.dmaBoundary s c w0 w3) := by
  unfold State.dmaBoundary
  repeat' (first
    | with_reducible exact Within.refl _ _
    | with_reducible apply Within.next (k := State.set_frame _ _ _)
    | with_reducible apply Within.next (k := State.pulse_frame _ _ _)
    | with_reducible apply Within.next (k := State.handOver_frame _ _ _)
    | with_reducible apply Within.next (k := State.dmaFetch_frame _ _ _)
    | with_reducible apply Within.next (k := State.dmaStopped_frame _ _ _)
    | with_reducible apply Within.next (k := State.dmaChainEnd_frame _ _ _)
    | split
    | dsimp only
    | exact (rfl : (_ : Nat) = _))

theorem execDmaDescriptorDone_frame (c : Nat) (s : State) : OWithin 0x3c642fdfcdfff6 s (execDmaDescriptorDone c s) := by
  unfold execDmaDescriptorDone
  repeat' (first
    | with_reducible exact Within.refl _ _
    | with_reducible apply Within.next (k := State.dmaDescriptor_frame _ _ _ _ _ _)
    | with_reducible apply Within.next (k := State.dmaBoundary_frame _ _ _ _)
    | with_reducible apply OWithin.next
    | split
    | dsimp only
    | exact (rfl : (_ : Nat) = _))

theorem State.sdoSend_frame (s : State) (d : List Byte) : Within 0x800000000010 s (State.sdoSend s d) := by
  unfold State.sdoSend
  repeat' (first
    | with_reducible exact Within.refl _ _
    | with_reducible apply Within.next (k := State.canSend_frame _ _ _ _)
    | split
    | dsimp only
    | exact (rfl : (_ : Nat) = _))

theorem State.sdoAbort_frame (s : State) (idx : Nat) (sub : Nat) (code : Nat) : Within 0x2000800000000010 s (State.sdoAbort s idx sub code) := by
  unfold State.sdoAbort
  repeat' (first
    | with_reducible exact Within.refl _ _
    | with_reducible apply Within.next (k := State.sdoSend_frame _ _)
    | split
    | dsimp only
    | with_reducible apply Within.upd_sdo
    | exact (rfl : (_ : Nat) = _))

theorem State.sdoWrite_frame (s : State) (idx : Nat) (sub : Nat) (b : List Byte) (answer : List Byte) : Within 0x203ce02cdfcdfff6 s (State.sdoWrite s idx sub b answer) := by
  unfold State.sdoWrite
  repeat' (first
    | with_reducible exact Within.refl _ _
    | with_reducible apply Within.next (k := State.pathWrite_frame _ _ _ _ _)
    | with_reducible apply Within.next (k := State.sdoSend_frame _ _)
    | with_reducible apply Within.next (k := State.sdoAbort_frame _ _ _ _)
    | split
    | dsimp only
    | with_reducible apply Within.upd_sdo
    | exact (rfl : (_ : Nat) = _))

theorem State.sdoProbe_frame (s : State) (idx : Nat) (sub : Nat) : ∀ t', State.sdoProbe s idx sub = some t' → Within 0x3c602cdfcdfff6 s t' := by
  intro t' h'
  unfold State.sdoProbe at h'
  try dsimp only at h'
  repeat' (first | (split at h') | (cases h'))
  all_goals repeat' (first
    | with_reducible exact Within.refl _ _
    | with_reducible apply Within.next (k := State.writeAt_frame _ _ _ _ _ _ _)
    | split
    | dsimp only
    | exact (rfl : (_ : Nat) = _))

theorem State.sdoDownload_frame (s : State) (d : List Byte) : Within 0x203ce02cdfcdfff6 s (State.sdoDownload s d) := by
  unfold State.sdoDownload
  repeat' (first
    | with_reducible exact Within.refl _ _
    | with_reducible apply Within.next (k := State.sdoSend_frame _ _)
    | with_reducible apply Within.next (k := State.sdoAbort_frame _ _ _ _)
    | with_reducible apply Within.next (k := State.sdoWrite_frame _ _ _ _ _)
    | (with_reducible refine Within.next ?_ (State.sdoProbe_frame _ _ _ _ (by assumption)) rfl)
    | split
    | dsimp only
    | with_reducible apply Within.upd_sdo
    | exact (rfl : (_ : Nat) = _))

theorem State.sdoDownloadPart_frame (s : State) (d : List Byte) : Within 0x203ce02cdfcdfff6 s (State.sdoDownloadPart s d) := by
  unfold State.sdoDownloadPart
  repeat' (first
    | with_reducible exact Within.refl _ _
    | with_reducible apply Within.next (k := State.latchAbort_frame _ _ _)
    | with_reducible apply Within.next (k := State.sdoSend_frame _ _)
    | with_reducible apply Within.next (k := State.sdoAbort_frame _ _ _ _)
    | with_reducible apply Within.next (k := State.sdoWrite_frame _ _ _ _ _)
    | split
    | dsimp only
    | with_reducible apply Within.upd_sdo
    | exact (rfl : (_ : Nat) = _))

theorem State.sdoUpload_frame (s : State) (d : List Byte) : Within 0x2000800002000810 s (State.sdoUpload s d) := by
  unfold State.sdoUpload
  repeat' (first
    | with_reducible exact Within.refl _ _
    | with_reducible apply Within.next (k := State.dictRead_frame _ _ _ _)
    | with_reducible apply Within.next (k := State.latchAbort_frame _ _ _)
    | with_reducible apply Within.next (k := State.sdoSend_frame _ _)
    | with_reducible apply Within.next (k := State.sdoAbort_frame _ _ _ _)
    | split
    | dsimp only
    | with_reducible apply Within.upd_sdo
    | exact (rfl : (_ : Nat) = _))

theorem State.sdoUploadPart_frame (s : State) (d : List Byte) : Within 0x2000800000000010 s (State.sdoUploadPart s d) := by
  unfold State.sdoUploadPart
  repeat' (first
    | with_reducible exact Within.refl _ _
    | with_reducible apply Within.next (k := State.sdoSend_frame _ _)
    | with_reducible apply Within.next (k := State.sdoAbort_frame _ _ _ _)
    | split
    | dsimp only
    | with_reducible apply Within.upd_sdo
    | exact (rfl : (_ : Nat) = _))

theorem State.sdoServe_frame (s : State) (d : List Byte) : Within 0x203ce02cdfcdfff6 s (State.sdoServe s d) := by
  unfold State.sdoServe
  repeat' (first
    | with_reducible exact Within.refl _ _
    | with_reducible apply Within.next (k := State.sdoAbort_frame _ _ _ _)
    | with_reducible apply Within.next (k := State.sdoDownload_frame _ _)
    | with_reducible apply Within.next (k := State.sdoDownloadPart_frame _ _)
    | with_reducible apply Within.next (k := State.sdoUpload_frame _ _)
    | with_reducible apply Within.next (k := State.sdoUploadPart_frame _ _)
    | split
    | dsimp only
    | with_reducible apply Within.upd_sdo
    | exact (rfl : (_ : Nat) = _))

theorem State.sdoHear_frame (s : State) (ch : Nat) (m : BusMsg) : Within 0x203ce02cdfcdfff6 s (State.sdoHear s ch m) := by
  unfold State.sdoHear
  repeat' (first
    | with_reducible exact Within.refl _ _
    | with_reducible apply Within.next (k := State.count_frame _ _ _ _)
    | with_reducible apply Within.next (k := State.canHeard_frame _ _)
    | with_reducible apply Within.next (k := State.sdoServe_frame _ _)
    | split
    | dsimp only
    | exact (rfl : (_ : Nat) = _))

theorem State.sdoRow_frame (s : State) (ch : Nat) (m : BusMsg) (cmds : List Nat) : Within 0x203ce02cdfcdfff6 s (State.sdoRow s ch m cmds) := by
  unfold State.sdoRow
  repeat' (first
    | with_reducible exact Within.refl _ _
    | with_reducible apply Within.next (k := State.sdoHear_frame _ _ _)
    | split
    | dsimp only
    | exact (rfl : (_ : Nat) = _))

theorem execSdoInitiateDownload_frame (ch : Nat) (m : BusMsg) (s : State) : OWithin 0x203ce02cdfcdfff6 s (execSdoInitiateDownload ch m s) := by
  unfold execSdoInitiateDownload
  repeat' (first
    | with_reducible exact Within.refl _ _
    | with_reducible apply Within.next (k := State.sdoRow_frame _ _ _ _)
    | with_reducible apply OWithin.next
    | split
    | dsimp only
    | exact (rfl : (_ : Nat) = _))

theorem execSdoInitiateUpload_frame (ch : Nat) (m : BusMsg) (s : State) : OWithin 0x203ce02cdfcdfff6 s (execSdoInitiateUpload ch m s) := by
  unfold execSdoInitiateUpload
  repeat' (first
    | with_reducible exact Within.refl _ _
    | with_reducible apply Within.next (k := State.sdoRow_frame _ _ _ _)
    | with_reducible apply OWithin.next
    | split
    | dsimp only
    | exact (rfl : (_ : Nat) = _))

theorem execSdoDownloadSegment_frame (ch : Nat) (m : BusMsg) (s : State) : OWithin 0x203ce02cdfcdfff6 s (execSdoDownloadSegment ch m s) := by
  unfold execSdoDownloadSegment
  repeat' (first
    | with_reducible exact Within.refl _ _
    | with_reducible apply Within.next (k := State.sdoRow_frame _ _ _ _)
    | with_reducible apply OWithin.next
    | split
    | dsimp only
    | exact (rfl : (_ : Nat) = _))

theorem execSdoUploadSegment_frame (ch : Nat) (m : BusMsg) (s : State) : OWithin 0x203ce02cdfcdfff6 s (execSdoUploadSegment ch m s) := by
  unfold execSdoUploadSegment
  repeat' (first
    | with_reducible exact Within.refl _ _
    | with_reducible apply Within.next (k := State.sdoRow_frame _ _ _ _)
    | with_reducible apply OWithin.next
    | split
    | dsimp only
    | exact (rfl : (_ : Nat) = _))

theorem execSdoBlockRequest_frame (ch : Nat) (m : BusMsg) (s : State) : OWithin 0x203ce02cdfcdfff6 s (execSdoBlockRequest ch m s) := by
  unfold execSdoBlockRequest
  repeat' (first
    | with_reducible exact Within.refl _ _
    | with_reducible apply Within.next (k := State.sdoRow_frame _ _ _ _)
    | with_reducible apply OWithin.next
    | split
    | dsimp only
    | exact (rfl : (_ : Nat) = _))

theorem execSdoSegmentTimeout_frame (s : State) : OWithin 0x2000800000000010 s (execSdoSegmentTimeout s) := by
  unfold execSdoSegmentTimeout
  repeat' (first
    | with_reducible exact Within.refl _ _
    | with_reducible apply Within.next (k := State.sdoAbort_frame _ _ _ _)
    | with_reducible apply OWithin.next
    | split
    | dsimp only
    | exact (rfl : (_ : Nat) = _))

theorem execCanMessageReceive_frame (ch : Nat) (m : BusHeard) (s : State) : OWithin 0x203ee02cdfcdfff6 s (execCanMessageReceive ch m s) := by
  unfold execCanMessageReceive
  repeat' (first
    | with_reducible exact Within.refl _ _
    | with_reducible apply Within.next (k := State.busStamp_frame _ _)
    | with_reducible apply Within.next (k := State.canReceive_frame _ _ _ _)
    | with_reducible apply Within.next (k := State.sampleMessage_frame _ _ _)
    | with_reducible apply Within.next (k := State.sdoHear_frame _ _ _)
    | with_reducible apply OWithin.next
    | split
    | dsimp only
    | exact (rfl : (_ : Nat) = _))

end Sys2Proof.Machine
end

