-- ==== Sys2Proof/Laws/PerInstr.lean ====
section
/-! SUPPORT. One lemma for each command of the family `Shape`: no command's row of the table of parts names the fuses, the model's
instant or the queue of waiting commands. -/
set_option Elab.async false
namespace Sys2Proof.Laws.Shape

open Sys2Proof Sys2Proof.Machine

/-- The fuses, the instant and the queue are no parts of what a command may touch. -/
def Statement (i : Instr) : Prop :=
  (i.parts.contains .fuses || i.parts.contains .now || i.parts.contains .pending) = false

theorem generalWrite (ctx : Ctx) (index sub : Nat) (data : WriteData) (sameCycle : Bool) : Statement (.generalWrite ctx index sub data sameCycle) := rfl
theorem longDataWrite (ctx : Ctx) (value : Nat) : Statement (.longDataWrite ctx value) := rfl
theorem longDataRead (ctx : Ctx) : Statement (.longDataRead ctx) := rfl
theorem commit (ctx : Ctx) (index : Nat) : Statement (.commit ctx index) := rfl
theorem disarm (ctx : Ctx) (index : Nat) : Statement (.disarm ctx index) := rfl
theorem discard (ctx : Ctx) (index : Nat) : Statement (.discard ctx index) := rfl
theorem boundaryHandover (index : Nat) : Statement (.boundaryHandover index) := rfl
theorem kindleFire (d : Nat) : Statement (.kindleFire d) := rfl
theorem evPulse (ctx : Ctx) (value : Nat) : Statement (.evPulse ctx value) := rfl
theorem eventSidebandDeliver (toWick : Bool) (input : Nat) : Statement (.eventSidebandDeliver toWick input) := rfl
theorem ecntClear (ctx : Ctx) (n value : Nat) : Statement (.ecntClear ctx n value) := rfl
theorem irqClaim (target : Nat) : Statement (.irqClaim target) := rfl
theorem irqComplete (target source : Nat) : Statement (.irqComplete target source) := rfl
theorem sdoInitiateDownload (ch : Nat) (m : BusMsg) : Statement (.sdoInitiateDownload ch m) := rfl
theorem sdoInitiateUpload (ch : Nat) (m : BusMsg) : Statement (.sdoInitiateUpload ch m) := rfl
theorem sdoDownloadSegment (ch : Nat) (m : BusMsg) : Statement (.sdoDownloadSegment ch m) := rfl
theorem sdoUploadSegment (ch : Nat) (m : BusMsg) : Statement (.sdoUploadSegment ch m) := rfl
theorem sdoBlockRequest (ch : Nat) (m : BusMsg) : Statement (.sdoBlockRequest ch m) := rfl
theorem sdoSegmentTimeout : Statement (.sdoSegmentTimeout) := rfl
theorem coathRead : Statement (.coathRead) := rfl
theorem coathWrite : Statement (.coathWrite) := rfl
theorem coathCommit : Statement (.coathCommit) := rfl
theorem coathBlockRead : Statement (.coathBlockRead) := rfl
theorem coathBlockWrite : Statement (.coathBlockWrite) := rfl
theorem tbSnapshot (ctx : Ctx) (value : Nat) : Statement (.tbSnapshot ctx value) := rfl
theorem followerAlign (ok : Bool) (error : Nat) : Statement (.followerAlign ok error) := rfl
theorem syncArrival (port domainNumber : Nat) : Statement (.syncArrival port domainNumber) := rfl
theorem syncMonitorExpire (d : Nat) : Statement (.syncMonitorExpire d) := rfl
theorem domStep (ctx : Ctx) (d value : Nat) : Statement (.domStep ctx d value) := rfl
theorem domEnable (ctx : Ctx) (d : Nat) : Statement (.domEnable ctx d) := rfl
theorem domDisable (ctx : Ctx) (d : Nat) : Statement (.domDisable ctx d) := rfl
theorem domRole (ctx : Ctx) (d value : Nat) : Statement (.domRole ctx d value) := rfl
theorem domStandbyWrite (ctx : Ctx) (d value : Nat) : Statement (.domStandbyWrite ctx d value) := rfl
theorem domSyncTimeoutWrite (ctx : Ctx) (d value : Nat) : Statement (.domSyncTimeoutWrite ctx d value) := rfl
theorem capture (k : Nat) : Statement (.capture k) := rfl
theorem capTimeRead (ctx : Ctx) (k : Nat) : Statement (.capTimeRead ctx k) := rfl
theorem portEnable (ctx : Ctx) (n : Nat) : Statement (.portEnable ctx n) := rfl
theorem portDisable (ctx : Ctx) (n : Nat) : Statement (.portDisable ctx n) := rfl
theorem portRestart (ctx : Ctx) (n : Nat) : Statement (.portRestart ctx n) := rfl
theorem portRestartFull (ctx : Ctx) (n : Nat) : Statement (.portRestartFull ctx n) := rfl
theorem linkUp (port speed : Nat) : Statement (.linkUp port speed) := rfl
theorem linkDown (port since cause : Nat) : Statement (.linkDown port since cause) := rfl
theorem warmLockTimeout (port : Nat) : Statement (.warmLockTimeout port) := rfl
theorem mergeVerifyTimeout (port : Nat) : Statement (.mergeVerifyTimeout port) := rfl
theorem pauseFrameReceive (port : Nat) (pfc : Bool) (enables : Nat) (times : List Nat) : Statement (.pauseFrameReceive port pfc enables times) := rfl
theorem plcaBeacon (k : Nat) : Statement (.plcaBeacon k) := rfl
theorem plcaBeaconTimeout (k opportunities : Nat) : Statement (.plcaBeaconTimeout k opportunities) := rfl
theorem pcntClear (ctx : Ctx) (n value : Nat) : Statement (.pcntClear ctx n value) := rfl
theorem frameReceive (port : Nat) (rx : RxFrame) : Statement (.frameReceive port rx) := rfl
theorem parsePipelineEntry (pipe ecc : Nat) : Statement (.parsePipelineEntry pipe ecc) := rfl
theorem bankFlip (b : Nat) : Statement (.bankFlip b) := rfl
theorem connScan (row : Nat) : Statement (.connScan row) := rfl
theorem ccntClear (ctx : Ctx) (n value : Nat) : Statement (.ccntClear ctx n value) := rfl
theorem bufReclaim (ctx : Ctx) (value : Nat) : Statement (.bufReclaim ctx value) := rfl
theorem reclaimDone : Statement (.reclaimDone) := rfl
theorem qFlush (ctx : Ctx) (port value : Nat) : Statement (.qFlush ctx port value) := rfl
theorem flushDone (port : Nat) : Statement (.flushDone port) := rfl
theorem fdbForget (ctx : Ctx) (value : Nat) : Statement (.fdbForget ctx value) := rfl
theorem rankFloorRaise : Statement (.rankFloorRaise) := rfl
theorem rankFloorLower : Statement (.rankFloorLower) := rfl
theorem stagingGrant (part : Nat) : Statement (.stagingGrant part) := rfl
theorem stagingTimeout (port : Nat) : Statement (.stagingTimeout port) := rfl
theorem qcntClear (ctx : Ctx) (port value : Nat) : Statement (.qcntClear ctx port value) := rfl
theorem gateNotice (port : Nat) : Statement (.gateNotice port) := rfl
theorem gateEntryStart (port : Nat) : Statement (.gateEntryStart port) := rfl
theorem holdRequest (port : Nat) : Statement (.holdRequest port) := rfl
theorem holdRelease (port : Nat) : Statement (.holdRelease port) := rfl
theorem frameTransmitStart (port ecc cell : Nat) : Statement (.frameTransmitStart port ecc cell) := rfl
theorem frameTransmitEnd (port : Nat) : Statement (.frameTransmitEnd port) := rfl
theorem srResetTimeout (row : Nat) : Statement (.srResetTimeout row) := rfl
theorem scntClear (ctx : Ctx) (n value : Nat) : Statement (.scntClear ctx n value) := rfl
theorem lookaheadReserve (port : Nat) : Statement (.lookaheadReserve port) := rfl
theorem keystreamBlockResult (unit port pair : Nat) (ok1 ok2 : Bool) : Statement (.keystreamBlockResult unit port pair ok1 ok2) := rfl
theorem rxVerdict (port : Nat) : Statement (.rxVerdict port) := rfl
theorem lcClear (ctx : Ctx) (n value : Nat) : Statement (.lcClear ctx n value) := rfl
theorem scOpen (ctx : Ctx) : Statement (.scOpen ctx) := rfl
theorem scClose (ctx : Ctx) : Statement (.scClose ctx) := rfl
theorem scInstall (ctx : Ctx) : Statement (.scInstall ctx) := rfl
theorem scRetire (ctx : Ctx) : Statement (.scRetire ctx) := rfl
theorem scActivate (ctx : Ctx) : Statement (.scActivate ctx) := rfl
theorem installDone : Statement (.installDone) := rfl
theorem rxOverlapExpire (row : Nat) : Statement (.rxOverlapExpire row) := rfl
theorem exhaustHoldExpire (c : Nat) : Statement (.exhaustHoldExpire c) := rfl
theorem saEventFifoRead (ctx : Ctx) : Statement (.saEventFifoRead ctx) := rfl
theorem scpClear (ctx : Ctx) (n value : Nat) : Statement (.scpClear ctx n value) := rfl
theorem slowPathDispatch : Statement (.slowPathDispatch) := rfl
theorem spIn (e rd : Nat) : Statement (.spIn e rd) := rfl
theorem spLeft (e rd : Nat) : Statement (.spLeft e rd) := rfl
theorem spDrop (e : Nat) : Statement (.spDrop e) := rfl
theorem spOut (e rs1 : Nat) : Statement (.spOut e rs1) := rfl
theorem spSend (e : Nat) : Statement (.spSend e) := rfl
theorem spResolve (e rs1 : Nat) : Statement (.spResolve e rs1) := rfl
theorem spCrc (e rd rs1 rs2 : Nat) : Statement (.spCrc e rd rs1 rs2) := rfl
theorem spCsum (e rd rs1 rs2 : Nat) : Statement (.spCsum e rd rs1 rs2) := rfl
theorem spTime (e rd : Nat) : Statement (.spTime e rd) := rfl
theorem outboxCollect (e : Nat) : Statement (.outboxCollect e) := rfl
theorem tagRelease (port : Nat) : Statement (.tagRelease port) := rfl
theorem reorderTimeout (tag : Nat) : Statement (.reorderTimeout tag) := rfl
theorem engineFault (e cause pc : Nat) : Statement (.engineFault e cause pc) := rfl
theorem seRun (ctx : Ctx) (e : Nat) : Statement (.seRun ctx e) := rfl
theorem seStop (ctx : Ctx) (e : Nat) : Statement (.seStop ctx e) := rfl
theorem ringReceiveWrite (q : Nat) : Statement (.ringReceiveWrite q) := rfl
theorem txRingProduce (ctx : Ctx) (value : Nat) : Statement (.txRingProduce ctx value) := rfl
theorem vaultCommandStart : Statement (.vaultCommandStart) := rfl
theorem vaultGenerate (ctx : Ctx) : Statement (.vaultGenerate ctx) := rfl
theorem vaultImportClear (ctx : Ctx) : Statement (.vaultImportClear ctx) := rfl
theorem vaultImportWrapped (ctx : Ctx) : Statement (.vaultImportWrapped ctx) := rfl
theorem vaultExportWrapped (ctx : Ctx) : Statement (.vaultExportWrapped ctx) := rfl
theorem vaultNarrowPolicy (ctx : Ctx) : Statement (.vaultNarrowPolicy ctx) := rfl
theorem vaultDestroy (ctx : Ctx) : Statement (.vaultDestroy ctx) := rfl
theorem vaultSign (ctx : Ctx) : Statement (.vaultSign ctx) := rfl
theorem vaultVerify (ctx : Ctx) : Statement (.vaultVerify ctx) := rfl
theorem vaultEcdh (ctx : Ctx) : Statement (.vaultEcdh ctx) := rfl
theorem vaultHkdf (ctx : Ctx) : Statement (.vaultHkdf ctx) := rfl
theorem vaultKdfCtr (ctx : Ctx) : Statement (.vaultKdfCtr ctx) := rfl
theorem vaultRandom (ctx : Ctx) : Statement (.vaultRandom ctx) := rfl
theorem vaultAttest (ctx : Ctx) : Statement (.vaultAttest ctx) := rfl
theorem vaultCommandDone : Statement (.vaultCommandDone) := rfl
theorem entropyFailure : Statement (.entropyFailure) := rfl
theorem entropyRecover : Statement (.entropyRecover) := rfl
theorem lifeCycleTransition (ctx : Ctx) (value : Nat) : Statement (.lifeCycleTransition ctx value) := rfl
theorem transitionComplete : Statement (.transitionComplete) := rfl
theorem lockstepFault (unit : Nat) : Statement (.lockstepFault unit) := rfl
theorem crLoad (ctx : Ctx) : Statement (.crLoad ctx) := rfl
theorem crUnload (ctx : Ctx) : Statement (.crUnload ctx) := rfl
theorem crqProduce (ctx : Ctx) (q value : Nat) : Statement (.crqProduce ctx q value) := rfl
theorem cressetStartPulse (q : Nat) : Statement (.cressetStartPulse q) := rfl
theorem cressetJobStart : Statement (.cressetJobStart) := rfl
theorem cressetBlockDone (k : Nat) (ok1 ok2 : Bool) : Statement (.cressetBlockDone k ok1 ok2) := rfl
theorem cressetJobDone (q : Nat) : Statement (.cressetJobDone q) := rfl
theorem dmaStart (ctx : Ctx) (c : Nat) : Statement (.dmaStart ctx c) := rfl
theorem dmaResume (ctx : Ctx) (c : Nat) : Statement (.dmaResume ctx c) := rfl
theorem dmaStop (ctx : Ctx) (c : Nat) : Statement (.dmaStop ctx c) := rfl
theorem dmaStartPulse (c : Nat) : Statement (.dmaStartPulse c) := rfl
theorem dmaDescriptorDone (c : Nat) : Statement (.dmaDescriptorDone c) := rfl
theorem memoryRead (init addr len : Nat) (cached tamper : Bool) : Statement (.memoryRead init addr len cached tamper) := rfl
theorem memoryWrite (init addr : Nat) (data : List Byte) (cached tamper : Bool) : Statement (.memoryWrite init addr data cached tamper) := rfl
theorem keyidProgram (ctx : Ctx) (k : Nat) : Statement (.keyidProgram ctx k) := rfl
theorem keyidProgramDone : Statement (.keyidProgramDone) := rfl
theorem keyidClose (ctx : Ctx) (k : Nat) : Statement (.keyidClose ctx k) := rfl
theorem keyidCloseDone (k : Nat) : Statement (.keyidCloseDone k) := rfl
theorem keyidRetire (ctx : Ctx) (k : Nat) : Statement (.keyidRetire ctx k) := rfl
theorem flashErase (ctx : Ctx) (addr : Nat) : Statement (.flashErase ctx addr) := rfl
theorem flashEraseDone : Statement (.flashEraseDone) := rfl
theorem initSweepGranule : Statement (.initSweepGranule) := rfl
theorem chimneyRead (init addr size : Nat) : Statement (.chimneyRead init addr size) := rfl
theorem chimneyFetchDone (held : Bool) (k : Nat) : Statement (.chimneyFetchDone held k) := rfl
theorem fetchStale (k : Nat) : Statement (.fetchStale k) := rfl
theorem chimneyPostedWrite (init addr : Nat) (data : List Byte) : Statement (.chimneyPostedWrite init addr data) := rfl
theorem writeAck (k : Nat) : Statement (.writeAck k) := rfl
theorem fence (init : Nat) (writes reads : Bool) : Statement (.fence init writes reads) := rfl
theorem fenceComplete (init : Nat) : Statement (.fenceComplete init) := rfl
theorem lr (hart addr size : Nat) : Statement (.lr hart addr size) := rfl
theorem sc (hart addr : Nat) (data : List Byte) : Statement (.sc hart addr data) := rfl
theorem semaphoreTimeout : Statement (.semaphoreTimeout) := rfl
theorem wickBackoff : Statement (.wickBackoff) := rfl
theorem backoffReissue : Statement (.backoffReissue) := rfl
theorem cboClean (core addr : Nat) : Statement (.cboClean core addr) := rfl
theorem cboFlush (core addr : Nat) : Statement (.cboFlush core addr) := rfl
theorem cboInval (core addr cbie : Nat) : Statement (.cboInval core addr cbie) := rfl
theorem flitCrcError (f : FlitHeard) : Statement (.flitCrcError f) := rfl
theorem chimneyLockLoss (lockLost : Bool) : Statement (.chimneyLockLoss lockLost) := rfl
theorem retrainResult (ok : Bool) : Statement (.retrainResult ok) := rfl
theorem chmRetrain (ctx : Ctx) (value : Nat) : Statement (.chmRetrain ctx value) := rfl
theorem chmFaultClear (ctx : Ctx) (value : Nat) : Statement (.chmFaultClear ctx value) := rfl
theorem canMessageReceive (ch : Nat) (m : BusHeard) : Statement (.canMessageReceive ch m) := rfl
theorem linResponseReceive (l id : Nat) (data : List Byte) (e : LinEnd) : Statement (.linResponseReceive l id data e) := rfl
theorem linHeaderReceive (l id : Nat) : Statement (.linHeaderReceive l id) := rfl
theorem linResponseTimeout (l : Nat) : Statement (.linResponseTimeout l) := rfl
theorem canArbitration (ch : Nat) (won : Bool) : Statement (.canArbitration ch won) := rfl
theorem canTxDone (ch : Nat) : Statement (.canTxDone ch) := rfl
theorem canBusOff (ch : Nat) : Statement (.canBusOff ch) := rfl
theorem canBusoffRecovery (ch : Nat) : Statement (.canBusoffRecovery ch) := rfl
theorem canRecover (ctx : Ctx) (ch value : Nat) : Statement (.canRecover ctx ch value) := rfl
theorem canEnable (ctx : Ctx) (ch value : Nat) : Statement (.canEnable ctx ch value) := rfl
theorem canClear (ctx : Ctx) (ch value : Nat) : Statement (.canClear ctx ch value) := rfl
theorem linClear (ctx : Ctx) (l value : Nat) : Statement (.linClear ctx l value) := rfl
theorem linSendWake (ctx : Ctx) (l value : Nat) : Statement (.linSendWake ctx l value) := rfl
theorem cyclicRelease (e : Nat) : Statement (.cyclicRelease e) := rfl
theorem cycDataWrite (ctx : Ctx) (e : Nat) (data : List Byte) : Statement (.cycDataWrite ctx e data) := rfl
theorem acfUnpack : Statement (.acfUnpack) := rfl
theorem acfMaxWaitExpire (stream : Nat) : Statement (.acfMaxWaitExpire stream) := rfl
theorem acfClear (ctx : Ctx) (stream value : Nat) : Statement (.acfClear ctx stream value) := rfl
theorem gwKeyLoad (ctx : Ctx) (k value : Nat) : Statement (.gwKeyLoad ctx k value) := rfl
theorem cpStateChange (level : Int) (count : Nat) : Statement (.cpStateChange level count) := rfl
theorem ppMeasure (ohms : Nat) : Statement (.ppMeasure ohms) := rfl
theorem proximityPoll (ohms : Nat) (env : StartEnv) : Statement (.proximityPoll ohms env) := rfl
theorem inletTempSample (t : Nat) (ohms : Option Nat) : Statement (.inletTempSample t ohms) := rfl
theorem cpS2Write (ctx : Ctx) (value : Nat) : Statement (.cpS2Write ctx value) := rfl
theorem cdCommand (ctx : Ctx) (k value : Nat) : Statement (.cdCommand ctx k value) := rfl
theorem rampWaitExpire (k : Nat) : Statement (.rampWaitExpire k) := rfl
theorem cdOvercurrent (k current : Nat) : Statement (.cdOvercurrent k current) := rfl
theorem cdOpenLoad (k current micros : Nat) : Statement (.cdOpenLoad k current micros) := rfl
theorem cdClearFault (ctx : Ctx) (k value : Nat) : Statement (.cdClearFault ctx k value) := rfl
theorem totaliserSample (ch : Nat) (m : BusHeard) : Statement (.totaliserSample ch m) := rfl
theorem sessionOpen (ctx : Ctx) : Statement (.sessionOpen ctx) := rfl
theorem countersign (ctx : Ctx) : Statement (.countersign ctx) := rfl
theorem countersignDone (fails : Nat) : Statement (.countersignDone fails) := rfl
theorem sessionClose (ctx : Ctx) : Statement (.sessionClose ctx) := rfl
theorem sealClose (ctx : Ctx) (value : Nat) : Statement (.sealClose ctx value) := rfl
theorem sealCloseDone : Statement (.sealCloseDone) := rfl
theorem msAcknowledge (ctx : Ctx) (value : Nat) : Statement (.msAcknowledge ctx value) := rfl
theorem msExport (ctx : Ctx) (value : Nat) : Statement (.msExport ctx value) := rfl
theorem exportDone : Statement (.exportDone) := rfl
theorem vbatSample (mv : Nat) : Statement (.vbatSample mv) := rfl
theorem overvoltageEntry : Statement (.overvoltageEntry) := rfl
theorem overvoltageRecovery (env : StartEnv) : Statement (.overvoltageRecovery env) := rfl
theorem crankEntry (items : Nat) : Statement (.crankEntry items) := rfl
theorem crankRecovery (env : StartEnv) : Statement (.crankRecovery env) := rfl
theorem throttleStepDown : Statement (.throttleStepDown) := rfl
theorem throttleStepUp : Statement (.throttleStepUp) := rfl
theorem droopDetect (levels : List Nat) : Statement (.droopDetect levels) := rfl
theorem supplyFault (rail : Nat) : Statement (.supplyFault rail) := rfl
theorem vpreRetry (again : Bool) (env : StartEnv) : Statement (.vpreRetry again env) := rfl
theorem pwrRequestDormant (ctx : Ctx) (pins : Nat) : Statement (.pwrRequestDormant ctx pins) := rfl
theorem pwrRequestEmber (ctx : Ctx) (pins : Nat) : Statement (.pwrRequestEmber ctx pins) := rfl
theorem pwrRequestGlow (ctx : Ctx) : Statement (.pwrRequestGlow ctx) := rfl
theorem pwrRequestFlame (ctx : Ctx) : Statement (.pwrRequestFlame ctx) := rfl
theorem pwrRequestTrim (ctx : Ctx) : Statement (.pwrRequestTrim ctx) := rfl
theorem modeTransitionDone (env : StartEnv) : Statement (.modeTransitionDone env) := rfl
theorem emberLimitExpire : Statement (.emberLimitExpire) := rfl
theorem wakeAlarmExpire (env : StartEnv) : Statement (.wakeAlarmExpire env) := rfl
theorem wakeEvent (sources : List WakeSource) (env : StartEnv) : Statement (.wakeEvent sources env) := rfl
theorem cfgSave (ctx : Ctx) (value : Nat) : Statement (.cfgSave ctx value) := rfl
theorem cfgSaveDone : Statement (.cfgSaveDone) := rfl
theorem cfgRemainderApplied (bad : List Nat) : Statement (.cfgRemainderApplied bad) := rfl
theorem start (env : StartEnv) : Statement (.start env) := rfl
theorem hbBeat (ctx : Ctx) (value : Nat) (mailbox pilotLine : Bool) : Statement (.hbBeat ctx value mailbox pilotLine) := rfl
theorem heartbeatTimeout (c : Nat) : Statement (.heartbeatTimeout c) := rfl
theorem cgClaim (ctx : Ctx) (g value : Nat) : Statement (.cgClaim ctx g value) := rfl
theorem outCommand (ctx : Ctx) (o value : Nat) : Statement (.outCommand ctx o value) := rfl
theorem holdExpire (g : Nat) : Statement (.holdExpire g) := rfl
theorem twinFramePeriodic : Statement (.twinFramePeriodic) := rfl
theorem twinFrameReceive (stream : Bool) (bytes : List Byte) : Statement (.twinFrameReceive stream bytes) := rfl
theorem twinTimeout : Statement (.twinTimeout) := rfl
theorem snuffRestartExpire : Statement (.snuffRestartExpire) := rfl
theorem snuffCountClear : Statement (.snuffCountClear) := rfl
theorem powerOnReset : Statement (.powerOnReset) := rfl
theorem externalReset (micros : Nat) : Statement (.externalReset micros) := rfl
theorem debugReset : Statement (.debugReset) := rfl
theorem rstDevice (ctx : Ctx) : Statement (.rstDevice ctx) := rfl
theorem rstSnuff (ctx : Ctx) : Statement (.rstSnuff ctx) := rfl
theorem rstRestartA (ctx : Ctx) : Statement (.rstRestartA ctx) := rfl
theorem rstRestartB (ctx : Ctx) : Statement (.rstRestartB ctx) := rfl
theorem clusterRestartDone (c : Nat) (ok : Bool) : Statement (.clusterRestartDone c ok) := rfl
theorem pilotWatchdog : Statement (.pilotWatchdog) := rfl
theorem errorRecordWrite : Statement (.errorRecordWrite) := rfl
theorem errorLogCopy : Statement (.errorLogCopy) := rfl
theorem errAcknowledge (ctx : Ctx) (value : Nat) : Statement (.errAcknowledge ctx value) := rfl
theorem errReport (ctx : Ctx) (bytes : List Byte) : Statement (.errReport ctx bytes) := rfl
theorem eclClear (ctx : Ctx) (cls value : Nat) : Statement (.eclClear ctx cls value) := rfl
theorem taperOpen (frame : List Byte) : Statement (.taperOpen frame) := rfl
theorem taperData (frame : List Byte) : Statement (.taperData frame) := rfl
theorem taperClose (frame : List Byte) : Statement (.taperClose frame) := rfl
theorem taperCloseVerdict : Statement (.taperCloseVerdict) := rfl
theorem taperAbort (frame : List Byte) : Statement (.taperAbort frame) := rfl
theorem taperStatus (frame : List Byte) : Statement (.taperStatus frame) := rfl
theorem taperSessionTimeout : Statement (.taperSessionTimeout) := rfl
theorem updConfirm (ctx : Ctx) (value : Nat) : Statement (.updConfirm ctx value) := rfl
theorem trialTimeout : Statement (.trialTimeout) := rfl
theorem updPrepare (ctx : Ctx) (value : Nat) : Statement (.updPrepare ctx value) := rfl
theorem prepareDone : Statement (.prepareDone) := rfl
theorem ownerKeyWrite (ctx : Ctx) (bytes : List Byte) : Statement (.ownerKeyWrite ctx bytes) := rfl
theorem pauseTimeExpire (port : Nat) : Statement (.pauseTimeExpire port) := rfl
theorem canError (ch : Nat) (transmitter severe : Bool) : Statement (.canError ch transmitter severe) := rfl
theorem heartbeatPathFault (c : Nat) (pilotLine : Bool) : Statement (.heartbeatPathFault c pilotLine) := rfl
theorem twinPathFault (stream : Bool) : Statement (.twinPathFault stream) := rfl
theorem taperAckTimer : Statement (.taperAckTimer) := rfl
theorem cpPeriodMeasure (oscillating : Bool) (frequency duty : Nat) (negative : Int) : Statement (.cpPeriodMeasure oscillating frequency duty negative) := rfl
theorem pilotRead (addr size : Nat) : Statement (.pilotRead addr size) := rfl

end Sys2Proof.Laws.Shape
end

