-- ==== Sys2Proof/Laws/Seal.lean ====
section
/-! SUPPORT. What a random draw and a new record of the metering seal leave alone. -/
set_option Elab.async false
namespace Sys2Proof.Machine

/-- A request of the DRBG counts, and leaves everything but registers alone. -/
theorem State.drbgRequest_regs (s : State) : ∃ r, s.drbgRequest = { s with regs := r } := by
  unfold State.drbgRequest
  dsimp only
  split
  · exact ⟨_, rfl⟩
  · exact ⟨_, rfl⟩

/-- Random bytes change the registers and the count of free values alone. -/
theorem State.random_state (s : State) (n : Nat) : ∃ r d, (s.random n).2 = { s with regs := r, drawn := d } := by
  obtain ⟨r, h⟩ := s.drbgRequest_regs
  refine ⟨r, (s.random n).2.drawn, ?_⟩
  unfold State.random
  rw [h]
  rfl

/-- A new record leaves the sessions alone. -/
theorem State.sealAppend_sessions (s : State) (r : SealRecord) (b : List Byte) : (s.sealAppend r b).sessions = s.sessions := by
  obtain ⟨x, d, h⟩ := s.random_state 48
  unfold State.sealAppend State.sealWrite
  dsimp only
  rw [State.sets_sessions, h]

/-- A new record is the last of the seal's records, at the next sequence number. -/
theorem State.sealAppend_records (s : State) (r : SealRecord) (b : List Byte) :
    ∃ old x, (s.sealAppend r b).sealRecords = old ++ [x] ∧ x.seq = s.get Reg.msNextSequence ∧ x.kind = r.kind := by
  unfold State.sealAppend State.sealWrite
  dsimp only
  rw [State.sets_sealRecords]
  exact ⟨_, _, rfl, rfl, rfl⟩

end Sys2Proof.Machine
end

