-- ==== Sys2Proof/Tests/Slice0.lean ====
section
/-! SUPPORT. Small states, a state that meets the hypotheses of each statement, ill-formed commands for every check of `WellFormed`, and a few
values that the manual states. -/
set_option Elab.async false
namespace Sys2Proof.Machine

/-! ## Small states -/

def flame : State := { mode := .flame, starting := false }
def glow : State := { mode := .glow, starting := false }
def trim : State := { mode := .trim, starting := false }
def snuffed : State := { mode := .snuffed, starting := false }
def ember : State := { mode := .ember, starting := false }
/-- Channel 2 carries SDO and is on its bus. -/
def onCan : State := flame.sets [(Reg.devMgmtCanChannel, 2), (Reg.canEnable 2, 1), (Reg.canStatus 2, 0)]
/-- An SDO message with a command specifier, of index 2000h subindex 0Fh. -/
def sdoMsg (k : Nat) : BusMsg := { fmt := 0, id := 0x67E * 2 ^ 18, data := [BitVec.ofNat 8 (k * 32), 0x00, 0x20, 0x0F, 0, 0, 0, 0] }
/-- A Coath request of a type, to read `Dev.NodeId`, and the frame that carries it, the head of P37 queue 31. -/
def coathPacket (k : Nat) : List Byte := [1, BitVec.ofNat 8 k, 0, 0, 0, 0, 0, 7, 0x20, 0, 0x0F, 1, 0, 0, 0, 0, 0, 0, 0, 0, 0, 0, 0, 0]
def coathFrame (k : Nat) : List Byte :=
  let ip := fun (c : Nat) => [0x45, 0, 0, 52, 0, 0, 0, 0, 64, 17] ++ beBytes 2 c ++ [10, 20, 0, 2, 10, 20, 0, 1]
  beBytes 6 0x02 ++ beBytes 6 0x04 ++ [8, 0] ++ ip (0xFFFF - csum16 (ip 0) 0) ++ beBytes 2 5000 ++ beBytes 2 41734 ++ beBytes 2 32 ++ [0, 0] ++ coathPacket k
def coathEntry : Entry := { port := 37, queue := 31, frame := 1, plain := true }
def coathState (k : Nat) : State :=
  { flame.set Reg.devMgmtIPv4 0x0A140001 with
    frames := [{ id := 1, ingress := 0, bytes := coathFrame k, refs := 1, eligible := true }], entries := [coathEntry] }
/-- Port 8 is live, its link is up, and its largest frame is its reset value. -/
def upPort : State := flame.sets [(Reg.portEnable 8, 1), (Reg.portStatus 8, 1)]
def rxFrame : RxFrame := { bytes := List.replicate 60 0 ++ fcsOf (List.replicate 60 0) }
def rxCounted : State :=
  ((((upPort.count (Reg.pcntFecCorrected 8) 64 0).count (Reg.pcntFecUncorrected 8) 64 0).count (Reg.pcntRxFragments 8) 64 0).count
    (Reg.pcntRxFrames 8)).count (Reg.pcntRxOctets 8) 64 64
/-- A frame waits at port 8, eligible. -/
def sendPort : State :=
  { upPort with frames := [{ id := 1, ingress := 0, bytes := List.replicate 60 0, refs := 1, eligible := true }], entries := [{ port := 8, queue := 0, frame := 1 }] }
def wirePort : State :=
  { upPort with frames := [{ id := 1, ingress := 0, bytes := [1], refs := 1 }], wire := [{ entry := { port := 8, queue := 0, frame := 1 } }] }
/-- Port 8 sends under slot 0 of channel 0, whose next number is 1. -/
def securePort : State := sendPort.sets [((Reg.lcTxChannel 8), 0), (Reg.chOpen 0, 1), (Reg.saState 0, 3), (Reg.saNextPn 0, 1)]
/-- Port 8 runs a gate list whose next row is due, with a frame at its head. -/
def gateState : State := { sendPort.sets [(Reg.gclEnable 8, 1), (Reg.gclPlanned 8, 1), (Reg.gclGates 8 0, 0xFF), (Reg.gclOperGates 8, 0)] with now := sec }
def installState : State := flame.sets [(Reg.chOpen 0, 1), (Reg.scStartPn.of .lampA, 1)]
def oneInstall : Install := { ctx := .lampA, channel := 0, target := 0, kek := 0 }
/-- Engine 2 runs. -/
def engineOn : State := flame.sets [(Reg.seRun 2, 1), (Reg.seState 2, 1)]
def slowFrame1 : Frame := { id := 1, ingress := 3, bytes := [9], refs := 1, eligible := true }
/-- A frame waits for the slow path, reason 1, which lists engine 2. -/
def slowState : State := { engineOn.set (Reg.spReasonMode 0) 4 with frames := [slowFrame1], slow := [{ frame := 1, reason := 1 }] }
/-- A packet whose descriptor says 14 bytes, disposition 3. -/
def outPacket : List Nat := [0x0000000E, 0x60000000, 0, 0, 0, 0, 0, 0]
/-- An enabled DRAM region of 1 MB under a programmed KeyID, which every initiator may read and write. -/
def memState : State :=
  { flame.sets [(Reg.rgEnable 0, 1), (Reg.rgBase 0, dramBase), (Reg.rgLimit 0, dramBase + 0x100000), (Reg.kidState 0, 1), (Reg.kidRights 0, 0xFFF)] with
    granules := [⟨0, 0, [], []⟩] }
/-- A SHA job of no data stands at the head of queue 3, its result at the region's start plus 256. -/
def jobBytes : List Byte := leBytes 8 (9 * 2 ^ 56) ++ leBytes 8 dramBase ++ leBytes 8 0 ++ leBytes 8 0 ++ leBytes 8 (dramBase + 128) ++ leBytes 8 (dramBase + 256) ++ leBytes 8 0 ++ leBytes 8 0
def jobState : State :=
  (memState.sets [(Reg.crqEnable 3, 1), ((Reg.crqBase 3).latched, dramBase), ((Reg.crqSizeLog2 3).latched, 12), (Reg.crqProduce 3, 64)]).setBytes dramBase jobBytes
/-- Its job waits for a start pulse. -/
def waitState : State := jobState.setBytes dramBase (leBytes 8 (9 * 2 ^ 56 + 2 ^ 47))
def doneJob : CrJob :=
  { queue := 3, offset := 0, words := [9 * 2 ^ 56, dramBase, 0, 0, dramBase + 128, dramBase + 256, 0, 0], tag := [1, 2, 3, 4, 5, 6, 7, 8, 9, 10, 11, 12, 13, 14, 15, 16] }
def doneState : State := { jobState with crJobs := [doneJob] }
def ringFrame : Frame := { id := 1, ingress := 3, bytes := [9], refs := 1, eligible := true }
def ringState : State :=
  { memState.sets [((Reg.rxRingBase 2).latched, dramBase), (Reg.rxRingEnable 2, 1), ((Reg.rxRingSizeLog2 2).latched, 12), (Reg.gwInboundQueue, 30), (Reg.twRxQueue, 29)] with
    frames := [ringFrame], entries := [{ port := 37, queue := 2, frame := 1, plain := true }] }
/-- Channel 3 is on its bus, and a message waits to be sent. -/
def canThree : State := flame.sets [(Reg.canEnable 3, 1), (Reg.canStatus 3, 0)]
def canWaiting : CanEntry := { ch := 3, msg := { fmt := 0, id := 5, data := [1] }, since := 0 }
/-- LIN channel 2 is enabled; a header waits for its response. -/
def linTwo : State := flame.set (Reg.linEnable 2) 1
def linSent : LinEntry := { l := 2, cyc := 0, id := 5, publish := false, data := [], sent := true }
/-- Cyclic entry 0 answers header 5 of channel 2. -/
def linSlave : State := linTwo.sets [(Reg.cycTarget 0, 18), (Reg.cycParams 0, 2 ^ 30), (Reg.cycKey 0, 5 * 2 ^ 32), (Reg.cgState 0, 0)]
/-- Cyclic entry 0 is due. -/
def cycState : State := flame.sets [(Reg.cycTarget 0, 3), (Reg.cycPeriod 0, 1000), (Reg.domEnable 0, 1), (Reg.cycDomain 0, 0)]
def onePack : AcfPack := { stream := 2, since := 0, stamp := 0, payload := [] }
/-- The seal is closed, and Lamplighter A's context names contract slot 0, whose key may sign, and path 32. -/
def contractKey : VaultSlot := { slot := 1016, cls := 5, alg := 0x13, policy := 1, generated := true, key := [] }
def sealState : State := { flame.sets [(Reg.msSealState, 2), (Reg.msPath.of .lampA, 32)] with vault := [contractKey] }
def metalKey : VaultSlot := { slot := 14, cls := 6, alg := 0x11, policy := 0x4080, generated := true, key := [] }
def openSession : Session := { number := 0, slot := 0, path := 32, fingerprint := [], alg := 0x13, openReading := 0, openImport := 0, lastReading := 0 }
def openState : State := { sealState.set Reg.msSessionState 1 with sessions := [openSession] }
def oneSeal : SealJob :=
  { ctx := .lampA, flags := 0, time := 0, qualifier := 0, session := 0, payload := [], slot := 1016, input := [], reading := 0, postTime := 0 }
def oneImage : CfgImage := { slot := 0, seq := 1, format := 1, header := [], bytes := 100, critBytes := 10, ranges := [], vals := [], texts := [] }
/-- The twin is in use, and a frame of its other unit. -/
def twinState : State := flame.sets [(Reg.twEnable.latched, 1), (Reg.twUnit.latched, 0)]
def twinBytes : List Byte := let p := [0x5C, 0x01] ++ List.replicate 37 0; p ++ beBytes 2 (crc16 p)
def oneReport : Report := { cls := 3, unit := 3 }
/-- A Taper frame of a type, from peer 2 to every device, of session 7. -/
def taperFrame (type a b : Nat) : List Byte :=
  beBytes 6 (2 ^ 48 - 1) ++ beBytes 6 2 ++ [0x88, 0xB6, 1, BitVec.ofNat 8 type, 0, 7] ++ beBytes 4 a ++ beBytes 4 b ++ List.replicate 8 0
def openTaper : State := { flame.sets [(Reg.slotState 1, 1)] with blobs := [(Reg.updOwnerKey, [1])] }
def inTaper : State := flame.sets [(Reg.slotState 1, 2), (Reg.updTaperState, 1), (Reg.updSession, 7), (Reg.updLength, 1280)]
/-- A response that Coath keeps for the request of `coathPacket`. -/
def keptOne : CoathKept := { tag := 7, source := beBytes 16 0xFFFF0A140002, port := 5000, response := [] }
def oneTransfer : SdoTransfer := { upload := false, index := 0x2000, sub := 0x15, since := 0 }
/-- Its Lamplighter A context has its cursor on `Dev.MgmtIPv6`. -/
def atMgmtIPv6 : State := flame.set (Reg.devLongSelect.of .lampA) 0x2000150000000000

/-! ## Values that the manual states -/

/-- The presence words of the manual's front matter (00). -/
theorem test_unitPresence :
    Variant.unitPresence .kvt6416 = 0x1FF7FF7F ∧ Variant.unitPresence .kvt6408 = 0x1FC03F7D := by decide
/-- The test string of CRC-32C (RFC 3720's family of checks). -/
theorem test_crc32c : crc32c [0x31, 0x32, 0x33, 0x34, 0x35, 0x36, 0x37, 0x38, 0x39] = 0xE3069283 := by decide +kernel
/-- The test string of the CRC-16 with polynomial 1021h and initial value FFFFh (R367). -/
theorem test_crc16 : crc16 [0x31, 0x32, 0x33, 0x34, 0x35, 0x36, 0x37, 0x38, 0x39] = 0x29B1 := by decide +kernel
/-- The frame check sequence of the same string, low byte first. -/
theorem test_fcs : fcsOf [0x31, 0x32, 0x33, 0x34, 0x35, 0x36, 0x37, 0x38, 0x39] = [0x26, 0x39, 0xF4, 0xCB] := by decide +kernel
theorem test_mmFieldOfBits : field 0xABCD 11 4 = 0xBC ∧ setField 0xABCD 11 4 0x12 = 0xA12D := by decide
theorem test_signed : toSigned 8 0x80 = -128 ∧ ofSigned 8 (-1) = 0xFF := by decide

/-! ## Accesses (R42 to R57) -/

def writeAtLampA (index sub : Nat) (d : WriteData) (s : State) : State := after s (execGeneralWrite .lampA index sub d false s)
theorem test_nodeIdIsStored : (writeAtLampA 0x2000 0x0F (.store 5) flame).get Reg.devNodeId = 5 := by decide +kernel
theorem test_nodeIdOutOfRange : (writeAtLampA 0x2000 0x0F (.store 128) flame).resp.abort = 0x06090030 := by decide +kernel
theorem test_highBytesOfAStore : (writeAtLampA 0x2000 0x0F (.store 0x105) flame).resp.abort = 0x06090030 := by decide +kernel
theorem test_unknownIndex : (writeAtLampA 0x2FFF 1 (.store 0) flame).resp.abort = 0x06020000 := by decide +kernel
theorem test_unknownSubindex : (writeAtLampA 0x2000 0x7F (.store 0) flame).resp.abort = 0x06090011 := by decide +kernel
theorem test_twoBytesForOne : (writeAtLampA 0x2000 0x0F (.bytes [5, 0]) flame).resp.abort = 0x06070010 := by decide +kernel
theorem test_pendingCopy :
    let t := writeAtLampA 0x2F40 4 (.store 7) flame
    t.pendGet (Reg.rgKeyId 0) = 7 ∧ t.get (Reg.rgKeyId 0) = flame.get (Reg.rgKeyId 0) := by decide +kernel
theorem test_commitHandsOver :
    let t := after flame (execCommit .lampA 0x2F40 (flame.pendSet (Reg.rgKeyId 0) 7))
    t.get (Reg.rgKeyId 0) = 7 ∧ t.get (Reg.commitOutcome ⟨.rg, 0⟩) = 0 := by decide +kernel
theorem test_lateWrite :
    (after flame (execGeneralWrite .lampA 0x2F40 4 (.store 7) true (flame.set (Reg.handedAt ⟨.rg, 0⟩) 1))).get
      (Reg.takenLate ⟨.rg, 0⟩) = 1 := by decide +kernel
theorem test_resetDoesNotAnswer : (writeAtLampA 0x2000 0x0F (.store 5) State.reset).get Reg.devNodeId = State.reset.get Reg.devNodeId := by
  decide +kernel

/-! ## Memory -/

theorem test_lowByteFirst : Mem.get (memState.memWrite 3 dramBase [1, 2]).2.mem dramBase = 1 := by decide +kernel
theorem test_dramReadsZero : (memState.memRead 3 (dramBase + 64) 4).1 = some [0, 0, 0, 0] := by decide +kernel
theorem test_canonicalForm : Mem.wf (Mem.put (Mem.put [] dramBase 5) dramBase 0) = true ∧ Mem.put (Mem.put [] dramBase 5) dramBase 0 = [] := by decide

/-! ## Commands that are not well formed -/

/-- The shortest classical message. -/
def msg0 : BusMsg := { fmt := 0, id := 0, data := [] }

theorem test_illFormed1 : ([
    .generalWrite .lampA (2 ^ 16) 0 .misaligned false, .generalWrite .lampA 0 (2 ^ 8) .misaligned false,
    .generalWrite .lampA 0 0 (.store (2 ^ 64)) false, .longDataWrite .lampA (2 ^ 64), .commit .lampA (2 ^ 16),
    .disarm .lampA (2 ^ 16), .discard .lampA (2 ^ 16), .boundaryHandover (2 ^ 16), .kindleFire 4, .evPulse .lampA (2 ^ 64),
    .eventSidebandDeliver false 32, .ecntClear .lampA 32 0, .ecntClear .lampA 0 (2 ^ 64), .irqClaim 4, .irqComplete 4 0,
    .irqComplete 0 65, .sdoInitiateDownload 16 msg0, .sdoInitiateDownload 0 { msg0 with fmt := 4 },
    .sdoInitiateDownload 0 { msg0 with id := 2 ^ 29 }, .sdoInitiateDownload 0 { msg0 with vcid := 256 },
    .sdoInitiateDownload 0 { msg0 with sdt := 256 }, .sdoInitiateDownload 0 { msg0 with data := List.replicate 9 0 },
    .sdoInitiateDownload 0 { msg0 with fmt := 1, data := List.replicate 65 0 }, .sdoInitiateUpload 16 msg0,
    .sdoInitiateUpload 0 { msg0 with fmt := 4 }, .sdoDownloadSegment 16 msg0, .sdoDownloadSegment 0 { msg0 with fmt := 4 },
    .sdoUploadSegment 16 msg0, .sdoUploadSegment 0 { msg0 with fmt := 4 }, .sdoBlockRequest 16 msg0,
    .sdoBlockRequest 0 { msg0 with fmt := 4 }, .tbSnapshot .lampA (2 ^ 64), .syncArrival 38 0, .syncArrival 0 256,
    .syncMonitorExpire 4, .domStep .lampA 4 0, .domStep .lampA 0 (2 ^ 64), .domEnable .lampA 4, .domDisable .lampA 4,
    .domRole .lampA 4 0] : List Instr).all (fun i => !i.wellFormed) = true := by decide

theorem test_illFormed2 : ([
    .domRole .lampA 0 (2 ^ 64), .domStandbyWrite .lampA 4 0, .domStandbyWrite .lampA 0 (2 ^ 64), .domSyncTimeoutWrite .lampA 4 0,
    .domSyncTimeoutWrite .lampA 0 (2 ^ 64), .capture 16, .capTimeRead .lampA 16, .portEnable .lampA 38, .portDisable .lampA 38,
    .portRestart .lampA 38, .portRestartFull .lampA 38, .linkUp 38 0, .linkDown 38 0 0, .linkDown 0 0 8, .warmLockTimeout 38,
    .mergeVerifyTimeout 38, .pauseFrameReceive 38 false 0 [], .pauseFrameReceive 0 false 256 [], .plcaBeacon 4,
    .plcaBeaconTimeout 4 0, .plcaBeaconTimeout 0 65536, .pcntClear .lampA 38 0, .pcntClear .lampA 0 (2 ^ 64),
    .frameReceive 38 { bytes := [] }, .frameReceive 0 { bytes := [], merge := 5 }, .parsePipelineEntry 2 0, .parsePipelineEntry 0 8,
    .bankFlip 4, .connScan 65536, .ccntClear .lampA 38 0, .ccntClear .lampA 0 (2 ^ 64), .bufReclaim .lampA (2 ^ 64),
    .qFlush .lampA 38 0, .qFlush .lampA 0 (2 ^ 64), .flushDone 38, .fdbForget .lampA (2 ^ 64), .stagingGrant 38, .stagingTimeout 38,
    .qcntClear .lampA 38 0, .qcntClear .lampA 0 (2 ^ 64)] : List Instr).all (fun i => !i.wellFormed) = true := by decide

theorem test_illFormed3 : ([
    .gateNotice 38, .gateEntryStart 38, .holdRequest 38, .holdRelease 38, .frameTransmitStart 38 0 0, .frameTransmitStart 0 8 0,
    .frameTransmitStart 0 0 (2 ^ 18), .frameTransmitEnd 38, .srResetTimeout 2048, .scntClear .lampA 38 0,
    .scntClear .lampA 0 (2 ^ 64), .lookaheadReserve 38, .keystreamBlockResult 4 0 0 false false,
    .keystreamBlockResult 0 38 0 false false, .keystreamBlockResult 0 0 256 false false, .rxVerdict 38, .lcClear .lampA 38 0,
    .lcClear .lampA 0 (2 ^ 64), .rxOverlapExpire 8192, .exhaustHoldExpire 4096, .scpClear .lampA 38 0, .scpClear .lampA 0 (2 ^ 64),
    .spIn 10 0, .spIn 0 32, .spLeft 10 0, .spLeft 0 32, .spDrop 10, .spOut 10 0, .spOut 0 (2 ^ 32), .spSend 10, .spResolve 10 0,
    .spResolve 0 (2 ^ 32), .spCrc 10 0 0 0, .spCrc 0 32 0 0, .spCrc 0 0 (2 ^ 32) 0, .spCrc 0 0 0 (2 ^ 32), .spCsum 10 0 0 0,
    .spCsum 0 32 0 0, .spCsum 0 0 (2 ^ 32) 0, .spCsum 0 0 0 (2 ^ 32)] : List Instr).all (fun i => !i.wellFormed) = true := by decide

theorem test_illFormed4 : ([
    .spTime 10 0, .spTime 0 32, .outboxCollect 10, .tagRelease 38, .reorderTimeout 65536, .engineFault 10 0 0,
    .engineFault 0 (2 ^ 32) 0, .engineFault 0 0 (2 ^ 32), .seRun .lampA 10, .seStop .lampA 10, .ringReceiveWrite 32,
    .txRingProduce .lampA (2 ^ 64), .lifeCycleTransition .lampA (2 ^ 64), .lockstepFault 4, .crqProduce .lampA 8 0,
    .crqProduce .lampA 0 (2 ^ 64), .cressetStartPulse 8, .cressetJobDone 8, .dmaStart .lampA 32, .dmaResume .lampA 32,
    .dmaStop .lampA 32, .dmaStartPulse 32, .dmaDescriptorDone 32, .memoryRead 256 0 0 false false,
    .memoryRead 0 (2 ^ 40) 0 false false, .memoryRead 0 0 (2 ^ 32) false false, .memoryWrite 256 0 [] false false,
    .memoryWrite 0 (2 ^ 40) [] false false, .keyidProgram .lampA 16, .keyidClose .lampA 16, .keyidCloseDone 16,
    .keyidRetire .lampA 16, .flashErase .lampA (2 ^ 40), .chimneyRead 256 0 0, .chimneyRead 0 (2 ^ 40) 0, .chimneyRead 0 0 65,
    .chimneyFetchDone false 16, .fetchStale 16, .chimneyPostedWrite 256 0 [], .chimneyPostedWrite 0 (2 ^ 40) []] : List Instr).all (fun i => !i.wellFormed) = true := by decide

theorem test_illFormed5 : ([
    .fence 256 false false, .fenceComplete 256, .lr 2 0 0, .lr 0 (2 ^ 40) 0, .lr 0 0 65, .sc 2 0 [], .sc 0 (2 ^ 40) [],
    .cboClean 2 0, .cboClean 0 (2 ^ 40), .cboFlush 2 0, .cboFlush 0 (2 ^ 40), .cboInval 2 0 0, .cboInval 0 (2 ^ 40) 0,
    .cboInval 0 0 4, .flitCrcError { bytes := [] }, .chmRetrain .lampA (2 ^ 64), .chmFaultClear .lampA (2 ^ 64),
    .canMessageReceive 16 { msg := msg0 }, .canMessageReceive 0 { msg := { msg0 with fmt := 4 } },
    .linResponseReceive 8 0 [] { check := 0 }, .linResponseReceive 0 64 [] { check := 0 },
    .linResponseReceive 0 0 [] { check := 256 }, .linHeaderReceive 8 0, .linHeaderReceive 0 64, .linResponseTimeout 8,
    .canArbitration 16 false, .canTxDone 16, .canBusOff 16, .canBusoffRecovery 16, .canRecover .lampA 16 0,
    .canRecover .lampA 0 (2 ^ 64), .canEnable .lampA 16 0, .canEnable .lampA 0 (2 ^ 64), .canClear .lampA 16 0,
    .canClear .lampA 0 (2 ^ 64), .linClear .lampA 8 0, .linClear .lampA 0 (2 ^ 64), .linSendWake .lampA 8 0,
    .linSendWake .lampA 0 (2 ^ 64), .cyclicRelease 128] : List Instr).all (fun i => !i.wellFormed) = true := by decide

theorem test_illFormed6 : ([
    .cycDataWrite .lampA 128 [], .acfMaxWaitExpire 32, .acfClear .lampA 32 0, .acfClear .lampA 0 (2 ^ 64), .gwKeyLoad .lampA 16 0,
    .gwKeyLoad .lampA 0 (2 ^ 64), .proximityPoll 0 { dieTemp := 256 }, .proximityPoll 0 { vbat := 2 ^ 16 },
    .proximityPoll 0 { badSlots := [1024] }, .proximityPoll 0 { badImages := [2] }, .inletTempSample 4 none,
    .cpS2Write .lampA (2 ^ 64), .cdCommand .lampA 4 0, .cdCommand .lampA 0 (2 ^ 64), .rampWaitExpire 4, .cdOvercurrent 4 0,
    .cdOpenLoad 4 0 0, .cdClearFault .lampA 4 0, .cdClearFault .lampA 0 (2 ^ 64), .totaliserSample 16 { msg := msg0 },
    .totaliserSample 0 { msg := { msg0 with fmt := 4 } }, .sealClose .lampA (2 ^ 64), .msAcknowledge .lampA (2 ^ 64),
    .msExport .lampA (2 ^ 64), .vbatSample (2 ^ 16), .overvoltageRecovery { dieTemp := 256 }, .crankEntry 6,
    .crankRecovery { dieTemp := 256 }, .droopDetect [], .supplyFault 5, .vpreRetry false { dieTemp := 256 },
    .pwrRequestDormant .lampA 16, .pwrRequestEmber .lampA 16, .modeTransitionDone { dieTemp := 256 },
    .wakeAlarmExpire { dieTemp := 256 }, .wakeEvent [.pin 4 true true 0] {}, .wakeEvent [.can 8] {}, .wakeEvent [.lin 8 0] {},
    .wakeEvent [] { dieTemp := 256 }, .cfgSave .lampA (2 ^ 64)] : List Instr).all (fun i => !i.wellFormed) = true := by decide

theorem test_illFormed7 : ([
    .start { dieTemp := 256 }, .hbBeat .lampA (2 ^ 64) false false, .heartbeatTimeout 2, .cgClaim .lampA 16 0,
    .cgClaim .lampA 0 (2 ^ 64), .outCommand .lampA 16 0, .outCommand .lampA 0 (2 ^ 64), .holdExpire 16, .clusterRestartDone 2 false,
    .errAcknowledge .lampA (2 ^ 64), .eclClear .lampA 16 0, .eclClear .lampA 0 (2 ^ 64), .updConfirm .lampA (2 ^ 64),
    .updPrepare .lampA (2 ^ 64), .pauseTimeExpire 38, .canError 16 false false, .heartbeatPathFault 2 false, .pilotRead (2 ^ 40) 0,
    .pilotRead 0 65] : List Instr).all (fun i => !i.wellFormed) = true := by decide

theorem test_illFormedBytes : (WriteData.bytes (List.replicate (2 ^ 16) 0)).wf = false := by
  simp only [WriteData.wf, List.length_replicate]; decide

/-! ## A state for the hypotheses of each statement -/

theorem witness_generalWrite : ∃ (ctx : Ctx) (index : Nat) (sub : Nat) (d : WriteData) (_sameCycle : Bool) (s : State) (o : Obj) (r : Reg),
  s.answers ctx = true ∧ s.linkBars ctx o.wick = false ∧ d ≠ .misaligned ∧ selfCursor index sub = false ∧
  s.place index sub (s.selectedRow ctx index) = .object o r ∧ (Place.object o r).acc ≠ .ro ∧ (Place.object o r).acc ≠ .fixed ∧
  index ≠ 0x2D20 ∧ index ≠ 0x2D40 ∧ o.ty.isBytes = false ∧ s.ownRow ctx r (o.ty.valueOf d) (wholeBytes o.ty d) = none ∧
  (s.running || o.wick) = true ∧ s.stateAllows ctx index o r = true ∧ s.lateAbort o r d = none ∧ s.conflict r (o.ty.valueOf d) = false :=
  ⟨.lampA, 0x2000, 0x0F, .store 5, false, flame, ⟨0x2000, 1, .dev, 0x0F, 0x0F, .u 1, .rw, true, false, [.rng 1 127 0x06090030]⟩, Reg.devNodeId, by decide⟩

theorem witness_longDataWrite : ∃ (ctx : Ctx) (value : Nat) (s : State) (idx : Nat) (sub : Nat) (off : Nat) (row : Nat) (n : Nat) (t : State),
  s.answers ctx = true ∧ s.cursor ctx = (idx, sub, off) ∧ selfCursor idx sub = false ∧ row = s.selectedRow ctx idx ∧
  n = (s.place idx sub row).ty.bytes ∧
  t = s.writePiece ctx idx sub row off ((leBytes 8 (value % 2 ^ 64)).take (if off < n then n - off else 8)) ∧ t.resp.abort = 0 :=
  ⟨.lampA, 7, atMgmtIPv6, 0x2000, 0x15, 0, 0, 16, atMgmtIPv6.writePiece .lampA 0x2000 0x15 0 0 (leBytes 8 7), by decide⟩

theorem witness_longDataRead : ∃ (ctx : Ctx) (s : State) (idx : Nat) (sub : Nat) (off : Nat) (a : Answer) (t : State),
  s.answers ctx = true ∧ s.cursor ctx = (idx, sub, off) ∧ selfCursor idx sub = false ∧
  s.readPlace ctx idx (s.place idx sub (s.selectedRow ctx idx)) = (a, t) ∧ a.abort = 0 :=
  ⟨.lampA, atMgmtIPv6, 0x2000, 0x15, 0, { slot := 16, bytes := List.replicate 16 0 }, atMgmtIPv6, by decide⟩

theorem witness_ownerKeyWrite : ∃ (ctx : Ctx) (bytes : List Byte) (s : State), s.admits ctx 0x3000 0x0F true = true ∧ s.mode = .trim ∧
  bytes.length = 97 ∧ s.ownerKey = List.replicate 97 0 :=
  ⟨.lampA, List.replicate 97 1, trim, by decide⟩

theorem witness_commit : ∃ (ctx : Ctx) (index : Nat) (s : State) (o : Owner), ownerAt s.fuses.variant index = some o ∧
  s.admits ctx index 0xFB (o.grp = .upd) = true ∧ o.grp ≠ .fv ∧ o.grp ≠ .mm ∧ (s.unarm o).commitRefusal o = none ∧
  s.get (Reg.commitWhen o) = 0 :=
  ⟨.lampA, 0x2F40, flame, ⟨.rg, 0⟩, by decide⟩

theorem witness_commitBank : ∃ (ctx : Ctx) (index : Nat) (s : State) (b : Nat), ownerAt s.fuses.variant index = some ⟨.mm, b⟩ ∧
  s.admits ctx index 0xFB false = true ∧ (s.unarm ⟨.mm, b⟩).commitRefusal ⟨.mm, b⟩ = none ∧ (b % 2 = 0 ∨ s.chainLower (b - 1) = false) ∧
  s.get (Reg.commitWhen ⟨.mm, b⟩) = 0 ∧ s.get (Reg.bankPause b) = 0 :=
  ⟨.lampA, 0x4002, flame, 2, by decide⟩

theorem witness_disarm : ∃ (ctx : Ctx) (index : Nat) (s : State) (o : Owner), ownerAt s.fuses.variant index = some o ∧
  s.admits ctx index 0xFB (o.grp = .upd) = true :=
  ⟨.debug, 0x4100, flame, ⟨.saRow, 0⟩, by decide⟩

theorem witness_discard : ∃ (ctx : Ctx) (index : Nat) (s : State) (o : Owner), ownerAt s.fuses.variant index = some o ∧
  s.admits ctx index 0xFB (o.grp = .upd) = true :=
  ⟨.debug, 0x4100, flame, ⟨.saRow, 0⟩, by decide⟩

theorem witness_boundaryHandover : ∃ (index : Nat) (s : State) (o : Owner), ownerAt s.fuses.variant index = some o ∧ s.running = true ∧
  (s.armOf o).any (fun a => !a.kindle) = true ∧ s.get (Reg.dmaState o.inst) ≠ 1 ∧ s.get (Reg.dmaState o.inst) ≠ 2 :=
  ⟨0x2B10, { flame with armed := [{ owner := ⟨.dma, 0⟩, kindle := false }] }, ⟨.dma, 0⟩, by decide⟩

theorem witness_kindleFire : ∃ (_d : Nat) (s : State), s.running = true :=
  ⟨0, flame, by decide⟩

theorem witness_bankFlip : ∃ (b : Nat) (s : State), s.bankInPause = some b :=
  ⟨0, flame.set (Reg.bankPause 0) 1, by decide⟩

theorem witness_evPulse : ∃ (ctx : Ctx) (value : Nat) (s : State), s.admits ctx 0x3200 1 false = true ∧ value < 256 ∧
  s.producerOf value / 0x1000000 = 0x16 :=
  ⟨.lampB, 3, flame.set (Reg.evProducer 0 3) 0x16000000, by decide⟩

theorem witness_eventSidebandDeliver : ∃ (toWick : Bool) (input : Nat) (s : State) (w : Bool) (i : Nat) (line : Nat) (t : Nat) (rest : List Pulse),
  takeFirst (Pulse.onInput toWick input) s.pulses = some (.sideband w i line t, rest) ∧ s.get Reg.chmState = 1 :=
  ⟨true, 3, { flame.set Reg.chmState 1 with pulses := [.sideband true 3 40 0] }, true, 3, 40, 0, [], by decide⟩

theorem witness_irqClaim : ∃ (target : Nat) (k : Nat) (s : State), s.irqBest target = some k :=
  ⟨0, 0, flame.sets [(Reg.irqPending 0, 1), (Reg.irqEnabled 0 0, 1), (Reg.irqPriority 0, 1)], by decide⟩

theorem witness_irqComplete : ∃ (target : Nat) (source : Nat) (s : State), 1 ≤ source ∧ source ≤ 64 ∧
  s.get (Reg.irqEnabled (source - 1) target) = 1 :=
  ⟨0, 1, flame.set (Reg.irqEnabled 0 0) 1, by decide⟩

theorem witness_capture : ∃ (k : Nat) (s : State) (j : Nat) (time : Nat) (qualifier : Nat) (rest : List Pulse),
  takeFirst (Pulse.forCapture k) s.pulses = some (.capture j time qualifier, rest) :=
  ⟨2, { flame with pulses := [.capture 2 160 3] }, 2, 160, 3, [], by decide⟩

theorem witness_capTimeRead : ∃ (ctx : Ctx) (k : Nat) (s : State), s.running = true ∧ s.linkBars ctx false = false ∧ k < 16 :=
  ⟨.lampA, 5, flame, by decide⟩

theorem witness_pcntClear : ∃ (ctx : Ctx) (n : Nat) (s : State), s.admits ctx (0x2440 + n) 0x20 false = true ∧ s.hasPort n = true ∧
  n < 37 :=
  ⟨.lampA, 3, flame, by decide⟩

theorem witness_ccntClear : ∃ (ctx : Ctx) (n : Nat) (s : State), s.admits ctx (0x2740 + n) 0x20 false = true ∧ s.hasPort n = true :=
  ⟨.lampA, 3, flame, by decide⟩

theorem witness_qcntClear : ∃ (ctx : Ctx) (n : Nat) (s : State), s.admits ctx (0x2540 + n) 0x20 false = true ∧ s.hasPort n = true :=
  ⟨.lampA, 3, flame, by decide⟩

theorem witness_scntClear : ∃ (ctx : Ctx) (n : Nat) (s : State), s.admits ctx (0x2640 + n) 0x20 false = true ∧ s.hasPort n = true :=
  ⟨.lampA, 3, flame, by decide⟩

theorem witness_lcClear : ∃ (ctx : Ctx) (n : Nat) (s : State), s.admits ctx (0x2880 + n) 0x20 false = true ∧ s.hasPort n = true ∧
  n < 37 :=
  ⟨.lampA, 3, flame, by decide⟩

theorem witness_scpClear : ∃ (ctx : Ctx) (n : Nat) (s : State), s.admits ctx (0x28B0 + n) 0x20 false = true ∧ s.hasPort n = true ∧
  n < 37 :=
  ⟨.lampA, 3, flame, by decide⟩

theorem witness_canClear : ∃ (ctx : Ctx) (n : Nat) (s : State), s.admits ctx (0x2C10 + n) 0x30 false = true ∧ n < 16 :=
  ⟨.coath, 3, glow, by decide⟩

theorem witness_linClear : ∃ (ctx : Ctx) (n : Nat) (s : State), s.admits ctx (0x2C20 + n) 0x30 false = true ∧ n < 8 :=
  ⟨.coath, 3, glow, by decide⟩

theorem witness_acfClear : ∃ (ctx : Ctx) (n : Nat) (s : State), s.admits ctx (0x2C40 + n) 0x30 false = true ∧ n < 32 :=
  ⟨.coath, 3, glow, by decide⟩

theorem witness_ecntClear : ∃ (ctx : Ctx) (n : Nat) (s : State), s.admits ctx (0x3220 + n) 3 false = true ∧ n < 32 :=
  ⟨.dma, 7, flame, by decide⟩

theorem witness_eclClear : ∃ (ctx : Ctx) (n : Nat) (s : State), s.admits ctx (0x3110 + n) 5 true = true ∧ 1 ≤ n ∧ n ≤ 15 :=
  ⟨.sdo, 15, snuffed, by decide⟩

theorem witness_chmFaultClear : ∃ (ctx : Ctx) (s : State), s.admits ctx 0x2300 0x0F false = true :=
  ⟨.lampA, flame, by decide⟩

theorem witness_sdoInitiateDownload : ∃ (ch : Nat) (m : BusMsg) (s : State), s.canTakes ch m = true ∧ s.sdoRequest ch m = true ∧
  sdoCommand m = 1 :=
  ⟨2, sdoMsg 1, onCan, by decide⟩

theorem witness_sdoInitiateUpload : ∃ (ch : Nat) (m : BusMsg) (s : State), s.canTakes ch m = true ∧ s.sdoRequest ch m = true ∧
  sdoCommand m = 2 :=
  ⟨2, sdoMsg 2, onCan, by decide⟩

theorem witness_sdoDownloadSegment : ∃ (ch : Nat) (m : BusMsg) (s : State), s.canTakes ch m = true ∧ s.sdoRequest ch m = true ∧
  sdoCommand m = 0 :=
  ⟨2, sdoMsg 0, onCan, by decide⟩

theorem witness_sdoUploadSegment : ∃ (ch : Nat) (m : BusMsg) (s : State), s.canTakes ch m = true ∧ s.sdoRequest ch m = true ∧
  sdoCommand m = 3 :=
  ⟨2, sdoMsg 3, onCan, by decide⟩

theorem witness_sdoBlockRequest : ∃ (ch : Nat) (m : BusMsg) (s : State), s.canTakes ch m = true ∧ s.sdoRequest ch m = true ∧
  (sdoCommand m = 5 ∨ sdoCommand m = 6) :=
  ⟨2, sdoMsg 6, onCan, by decide⟩

theorem witness_sdoSegmentTimeout : ∃ (s : State) (x : SdoTransfer), s.sdo = some x ∧ s.answers .sdo = true ∧ x.since + sec ≤ s.now :=
  ⟨{ flame with sdo := some { upload := true, index := 0x1008, sub := 0, since := 0 }, now := sec }, { upload := true, index := 0x1008, sub := 0, since := 0 }, by decide⟩

theorem witness_coathRead : ∃ (s : State) (e : Entry) (b : List Byte) (p : List Byte) (r : List Byte) (t : State) (f : Nat) (u : State),
  s.answers .coath = true ∧ s.hostHead coathQueue = some (e, b) ∧ s.coathPayload b (parseFrame b) = some p ∧ beAt p 1 1 = 1 ∧
  (s.takeHost e).coathAnswer p (parseFrame b) = (r, t) ∧ t.draw 64 = (f, u) := by
  refine ⟨(coathState 1), coathEntry, (coathFrame 1), (coathPacket 1), (((coathState 1).takeHost coathEntry).coathAnswer (coathPacket 1) (parseFrame (coathFrame 1))).1, (((coathState 1).takeHost coathEntry).coathAnswer (coathPacket 1) (parseFrame (coathFrame 1))).2, _, _, ?_, ?_, ?_, ?_, rfl, rfl⟩ <;> decide +kernel

theorem witness_coathWrite : ∃ (s : State) (e : Entry) (b : List Byte) (p : List Byte) (r : List Byte) (t : State) (f : Nat) (u : State),
  s.answers .coath = true ∧ s.hostHead coathQueue = some (e, b) ∧ s.coathPayload b (parseFrame b) = some p ∧ beAt p 1 1 = 2 ∧
  (s.takeHost e).coathAnswer p (parseFrame b) = (r, t) ∧ t.draw 64 = (f, u) := by
  refine ⟨(coathState 2), coathEntry, (coathFrame 2), (coathPacket 2), (((coathState 2).takeHost coathEntry).coathAnswer (coathPacket 2) (parseFrame (coathFrame 2))).1, (((coathState 2).takeHost coathEntry).coathAnswer (coathPacket 2) (parseFrame (coathFrame 2))).2, _, _, ?_, ?_, ?_, ?_, rfl, rfl⟩ <;> decide +kernel

theorem witness_coathCommit : ∃ (s : State) (e : Entry) (b : List Byte) (p : List Byte) (r : List Byte) (t : State) (f : Nat) (u : State),
  s.answers .coath = true ∧ s.hostHead coathQueue = some (e, b) ∧ s.coathPayload b (parseFrame b) = some p ∧ beAt p 1 1 = 3 ∧
  (s.takeHost e).coathAnswer p (parseFrame b) = (r, t) ∧ t.draw 64 = (f, u) := by
  refine ⟨(coathState 3), coathEntry, (coathFrame 3), (coathPacket 3), (((coathState 3).takeHost coathEntry).coathAnswer (coathPacket 3) (parseFrame (coathFrame 3))).1, (((coathState 3).takeHost coathEntry).coathAnswer (coathPacket 3) (parseFrame (coathFrame 3))).2, _, _, ?_, ?_, ?_, ?_, rfl, rfl⟩ <;> decide +kernel

theorem witness_coathBlockRead : ∃ (s : State) (e : Entry) (b : List Byte) (p : List Byte) (r : List Byte) (t : State) (f : Nat) (u : State),
  s.answers .coath = true ∧ s.hostHead coathQueue = some (e, b) ∧ s.coathPayload b (parseFrame b) = some p ∧ beAt p 1 1 = 4 ∧
  (s.takeHost e).coathAnswer p (parseFrame b) = (r, t) ∧ t.draw 64 = (f, u) := by
  refine ⟨(coathState 4), coathEntry, (coathFrame 4), (coathPacket 4), (((coathState 4).takeHost coathEntry).coathAnswer (coathPacket 4) (parseFrame (coathFrame 4))).1, (((coathState 4).takeHost coathEntry).coathAnswer (coathPacket 4) (parseFrame (coathFrame 4))).2, _, _, ?_, ?_, ?_, ?_, rfl, rfl⟩ <;> decide +kernel

theorem witness_coathBlockWrite : ∃ (s : State) (e : Entry) (b : List Byte) (p : List Byte) (r : List Byte) (t : State) (f : Nat) (u : State),
  s.answers .coath = true ∧ s.hostHead coathQueue = some (e, b) ∧ s.coathPayload b (parseFrame b) = some p ∧ beAt p 1 1 = 5 ∧
  (s.takeHost e).coathAnswer p (parseFrame b) = (r, t) ∧ t.draw 64 = (f, u) := by
  refine ⟨(coathState 5), coathEntry, (coathFrame 5), (coathPacket 5), (((coathState 5).takeHost coathEntry).coathAnswer (coathPacket 5) (parseFrame (coathFrame 5))).1, (((coathState 5).takeHost coathEntry).coathAnswer (coathPacket 5) (parseFrame (coathFrame 5))).2, _, _, ?_, ?_, ?_, ?_, rfl, rfl⟩ <;> decide +kernel

theorem witness_tbSnapshot : ∃ (ctx : Ctx) (value : Nat) (s : State), s.admits ctx 0x2200 3 false = true ∧ value ≤ 4 :=
  ⟨.lampA, 4, flame, by decide⟩

theorem witness_followerAlign : ∃ (_error : Nat) (s : State), s.lanternUp = true ∧ s.get Reg.followerLast + 1024000 ≤ s.now :=
  ⟨5, { flame with now := 2000000 }, by decide⟩

theorem witness_syncArrival : ∃ (_port : Nat) (_number : Nat) (s : State), s.lanternUp = true :=
  ⟨3, 0, flame, by decide⟩

theorem witness_syncMonitorExpire : ∃ (d : Nat) (s : State), d < 4 ∧ s.monitorOver d = true :=
  ⟨1, { flame.set (Reg.domEnable 1) 1 with now := sec }, by decide⟩

theorem witness_domStep : ∃ (ctx : Ctx) (d : Nat) (value : Nat) (s : State), s.admits ctx (0x2210 + d) 6 false = true ∧ d < 4 ∧
  value < 2 ^ 64 ∧ (s.moveClock d (toSigned 64 value)).armed = [] :=
  ⟨.lampA, 1, 5, flame, by decide⟩

theorem witness_domEnable : ∃ (ctx : Ctx) (d : Nat) (s : State), s.admits ctx (0x2210 + d) 1 false = true ∧ d < 4 ∧
  s.numberTaken d (s.get (Reg.domNumber d)) = false ∧ s.get (Reg.domEnable d) = 0 :=
  ⟨.lampA, 1, flame, by decide⟩

theorem witness_domDisable : ∃ (ctx : Ctx) (d : Nat) (s : State), s.admits ctx (0x2210 + d) 1 false = true ∧ d < 4 ∧
  s.get (Reg.domEnable d) ≠ 0 ∧ s.armed.filter (fun a => a.kindle && a.domain = d) = [] :=
  ⟨.lampA, 0, flame.set (Reg.domEnable 0) 1, by decide⟩

theorem witness_domRole : ∃ (ctx : Ctx) (d : Nat) (value : Nat) (s : State), s.admits ctx (0x2210 + d) 3 false = true ∧ d < 4 ∧
  value ≤ 1 :=
  ⟨.lampA, 1, 1, flame.set (Reg.domEnable 1) 1, by decide⟩

theorem witness_domStandbyWrite : ∃ (ctx : Ctx) (d : Nat) (value : Nat) (s : State), s.admits ctx (0x2210 + d) 9 false = true ∧ d < 4 ∧
  value < 256 ∧ s.standbyOk d value = true :=
  ⟨.lampA, 1, 0xFF, flame.set (Reg.domState 1) 4, by decide⟩

theorem witness_domSyncTimeoutWrite : ∃ (ctx : Ctx) (d : Nat) (value : Nat) (s : State), s.admits ctx (0x2210 + d) 7 false = true ∧
  d < 4 ∧ value < 2 ^ 32 ∧ s.get (Reg.domEnable d) = 0 :=
  ⟨.lampA, 1, 5, flame, by decide⟩

theorem witness_portEnable : ∃ (ctx : Ctx) (n : Nat) (s : State), s.admits ctx (0x2400 + n) 1 false = true ∧ s.hasPort n = true ∧
  n ≠ 37 ∧ s.get (Reg.portEnable n) = 0 :=
  ⟨.lampA, 8, flame, by decide⟩

theorem witness_portDisable : ∃ (ctx : Ctx) (n : Nat) (s : State), s.admits ctx (0x2400 + n) 1 false = true ∧ s.hasPort n = true ∧
  n ≠ 37 :=
  ⟨.lampA, 8, flame, by decide⟩

theorem witness_portRestart : ∃ (ctx : Ctx) (n : Nat) (s : State), s.admits ctx (0x2400 + n) 0x0B false = true ∧ s.hasPort n = true ∧
  n ≠ 37 ∧ s.get (Reg.portEnable n) = 1 :=
  ⟨.lampA, 8, flame.set (Reg.portEnable 8) 1, by decide⟩

theorem witness_portRestartFull : ∃ (ctx : Ctx) (n : Nat) (s : State), s.admits ctx (0x2400 + n) 0x0B false = true ∧ s.hasPort n = true ∧
  n ≠ 37 ∧ s.get (Reg.portEnable n) = 1 :=
  ⟨.lampA, 8, flame.set (Reg.portEnable 8) 1, by decide⟩

theorem witness_linkUp : ∃ (port : Nat) (speed : Nat) (s : State), s.linkReady port speed = true ∧
  (s.get (Reg.portPhase port) = 1 ∨ s.now ≤ s.get (Reg.portSince port) + 810 * us) :=
  ⟨8, 1, { flame.sets [(Reg.portEnable 8, 1), (Reg.portPhase 8, 1)] with now := sec }, by decide⟩

theorem witness_linkUpLate : ∃ (port : Nat) (speed : Nat) (s : State), s.linkReady port speed = true ∧ s.get (Reg.portPhase port) = 2 ∧
  s.get (Reg.portSince port) + 810 * us < s.now :=
  ⟨8, 1, { flame.sets [(Reg.portEnable 8, 1), (Reg.portPhase 8, 2)] with now := sec }, by decide⟩

theorem witness_linkDown : ∃ (port : Nat) (since : Nat) (_cause : Nat) (s : State), s.portLive port = true ∧ (port < 32 ∨ port = 36) ∧
  bitOf (s.get (Reg.portStatus port)) 0 = true ∧ since + s.get (Reg.portLinkDownHold port) * us ≤ s.now :=
  ⟨8, 0, 1, { flame.sets [(Reg.portEnable 8, 1), (Reg.portStatus 8, 9)] with now := sec }, by decide⟩

theorem witness_warmLockTimeout : ∃ (port : Nat) (s : State), s.portLive port = true ∧ s.get (Reg.portPhase port) = 2 ∧
  s.get (Reg.portSince port) + 800 * us ≤ s.now :=
  ⟨8, { flame.sets [(Reg.portEnable 8, 1), (Reg.portPhase 8, 2)] with now := sec }, by decide⟩

theorem witness_mergeVerifyTimeout : ∃ (port : Nat) (s : State), s.portLive port = true ∧ field (s.get (Reg.portStatus port)) 6 5 = 1 ∧
  s.get (Reg.verifyAt port) ≤ s.now ∧ s.get (Reg.verifyTries port) < verifyLimit :=
  ⟨8, flame.sets [(Reg.portEnable 8, 1), (Reg.portStatus 8, 0x20)], by decide⟩

theorem witness_pauseFrameReceive : ∃ (port : Nat) (_enables : Nat) (_times : List Nat) (s : State), s.portLive port = true ∧
  s.linkUp port = true ∧ s.get (Reg.portPauseMode port) = 1 :=
  ⟨8, 0, [5], flame.sets [(Reg.portEnable 8, 1), (Reg.portStatus 8, 1), (Reg.portPauseMode 8, 1)], by decide⟩

theorem witness_plcaBeacon : ∃ (k : Nat) (s : State), k < 4 ∧ s.portLive (32 + k) = true :=
  ⟨1, flame.set (Reg.portEnable 33) 1, by decide⟩

theorem witness_plcaBeaconTimeout : ∃ (k : Nat) (opportunities : Nat) (s : State), k < 4 ∧ s.portLive (32 + k) = true ∧
  s.get (Reg.plcaNodeId k).latched ≠ 0 ∧ 4 * s.get (Reg.plcaNodeCount k).latched ≤ opportunities :=
  ⟨1, 32, flame.sets [(Reg.portEnable 33, 1), ((Reg.plcaNodeId 1).latched, 3)], by decide⟩

theorem witness_frameReceive : ∃ (port : Nat) (rx : RxFrame) (s : State) (t : State) (u : State) (b : List Byte) (v : Verdict),
  s.running = true ∧ s.portLive port = true ∧ s.linkUp port = true ∧ port < 32 ∧ rx.merge = 0 ∧ 64 ≤ rx.bytes.length ∧
  rx.bytes.length ≤ s.get (Reg.portMaxFrame port) ∧ badAtRx port rx = false ∧ beAt rx.bytes 12 2 ≠ 0x8808 ∧
  t = (((s.count (Reg.pcntFecCorrected port) 64 rx.fecCorrected).count (Reg.pcntFecUncorrected port) 64 rx.fecUncorrected).count (Reg.pcntRxFragments port) 64 rx.fragments).rxCount port rx ∧
  (t.rxStamp port).2.rxCipher port (rx.bytes.take (rx.bytes.length - 4)) false = .pass u b v :=
  ⟨8, rxFrame, upPort, _, _, (List.replicate 60 0), { port := 8, frame := 0 }, by
    refine ⟨?_, ?_, ?_, ?_, ?_, ?_, ?_, ?_, ?_, rfl, ?link⟩
    case link => unfold State.rxCipher; rw [if_pos (by decide +kernel), if_neg (by decide +kernel)]; rfl
    all_goals decide +kernel⟩

theorem witness_parsePipelineEntry : ∃ (pipe : Nat) (_ecc : Nat) (s : State) (port : Nat) (r : Nat × Nat) (rest : List (Nat × Nat)),
  s.running = true ∧ s.parseTurn pipe = some port ∧ takeFirst (fun r => r.1 == port) s.records = some (r, rest) :=
  ⟨1, 0, { coathState 1 with records := [(37, 1)] }, 37, (37, 1), [], by decide⟩

theorem witness_connScan : ∃ (row : Nat) (s : State) (t : State), s.forwarding = true ∧ s.get (Reg.connScannedAt 0 row) ≠ s.scanPeriod ∧
  t = s.set (Reg.connScannedAt 0 row) s.scanPeriod :=
  ⟨5, flame.sets [(Reg.connControl 5, 0x3080), (Reg.localCounter, 2 ^ 50)], _, ⟨by decide +kernel, by decide +kernel, rfl⟩⟩

theorem witness_rxVerdict : ∃ (port : Nat) (s : State) (v : Verdict) (rest : List Verdict),
  takeFirst (fun v => v.port == port) s.verdicts = some (v, rest) ∧ v.fcsBad = false ∧ v.icvBad = false ∧ v.checkBad = false ∧
  v.protectedRx = false :=
  ⟨3, { flame with verdicts := [{ port := 3, frame := 1 }] }, { port := 3, frame := 1 }, [], by decide⟩

theorem witness_keystreamBlockResult : ∃ (unit : Nat) (port : Nat) (pair : Nat) (_ok2 : Bool) (s : State), s.forwarding = true ∧
  port < 37 ∧ s.unitServes unit port pair = true :=
  ⟨0, 3, 0, true, flame, by decide⟩

theorem witness_frameTransmitStart : ∃ (port : Nat) (_ecc : Nat) (_cell : Nat) (s : State) (e : Entry) (f : Frame) (g : Guard) (t : State),
  s.wireFree port = true ∧ (s.rehold port).pick port [7, 6, 5, 4, 3, 2, 1, 0] = (.start e f g, t) ∧
  t.wire.any (fun w => w.entry.port = port && !w.held) = false ∧ (port < 32 ∨ t.get Reg.chmState ≠ 3) :=
  ⟨8, 0, 0, sendPort, _, _, _, _, ⟨by decide +kernel, rfl, by decide +kernel, .inl (by decide)⟩⟩

theorem witness_frameTransmitEnd : ∃ (port : Nat) (s : State) (t : State) (w : Wire) (f : Frame), t = s.holdDue port ∧
  t.wire.find? (fun w => w.entry.port = port && !w.held) = some w ∧ t.frame? w.entry.frame = some f ∧ f.verdictDue = false := by
  refine ⟨8, wirePort, _, { entry := { port := 8, queue := 0, frame := 1 } }, { id := 1, ingress := 0, bytes := [1], refs := 1 }, rfl, ?_, ?_, ?_⟩ <;> decide +kernel

theorem witness_lookaheadReserve : ∃ (port : Nat) (s : State) (e : Entry) (f : Frame) (slot : Nat), s.forwarding = true ∧ port < 37 ∧
  s.portLive port = true ∧ s.candidate port = some e ∧ s.frame? e.frame = some f ∧ s.guardNow port f = .secure slot ∧
  s.prep.find? (fun p => p.port = port) = none ∧ (s.wire.filter (fun w => w.entry.port = port && w.encrypted)).length < 2 := by
  refine ⟨8, securePort, _, _, 0, ?_, ?_, ?_, rfl, rfl, ?_, ?_, ?_⟩ <;> decide +kernel

theorem witness_stagingGrant : ∃ (part : Nat) (s : State) (g : Staged), s.forwarding = true ∧ s.partitionMode = true ∧
  s.grantOf part = some g :=
  ⟨8, { flame.set (Reg.bufMode).latched 1 with staging := [{ frame := 1, ingress := 0, since := 0, decided := true, targets := [(8, 0, true)] }] }, { frame := 1, ingress := 0, since := 0, decided := true, targets := [(8, 0, true)] }, by decide⟩

theorem witness_stagingTimeout : ∃ (port : Nat) (s : State) (g : Staged),
  s.staging.find? (fun g => g.ingress = port && s.stagedTooLong g) = some g :=
  ⟨0, { flame with staging := [{ frame := 1, ingress := 0, since := 0 }], now := sec }, { frame := 1, ingress := 0, since := 0 }, by decide⟩

theorem witness_bufReclaim : ∃ (ctx : Ctx) (s : State), s.admits ctx 0x2500 0x0D false = true ∧ s.get Reg.reclaimBusy = 0 :=
  ⟨.lampA, flame, by decide⟩

theorem witness_reclaimDone : ∃ (s : State), s.get Reg.reclaimBusy = 1 :=
  ⟨flame.set Reg.reclaimBusy 1, by decide⟩

theorem witness_qFlush : ∃ (ctx : Ctx) (port : Nat) (value : Nat) (s : State), s.admits ctx (0x2510 + port) 3 false = true ∧
  s.hasPort port = true ∧ s.flushing port = false ∧ s.get (Reg.trimFlush port) = 0 ∧ value < 256 :=
  ⟨.lampA, 8, 3, flame, by decide⟩

theorem witness_flushDone : ∃ (port : Nat) (s : State), s.flushing port = true ∧ s.get (Reg.trimFlush port) = 0 ∧
  (s.endFlush port).get (Reg.trimFlush port) = 0 :=
  ⟨8, flame.startFlush 8 [0], by decide⟩

theorem witness_fdbForget : ∃ (ctx : Ctx) (value : Nat) (s : State), s.admits ctx 0x2500 0x34 false = true ∧
  (value ≤ 37 ∨ value = 0xFF) :=
  ⟨.lampA, 0xFF, flame, by decide⟩

theorem witness_rankFloorRaise : ∃ (s : State), s.forwarding = true ∧ s.get Reg.bufThrottleStep = 4 ∧ s.get Reg.bufRankFloor < 7 ∧
  (List.range 37).any (fun n => 32 ≤ s.get (Reg.wrFifo n)) = true ∧ s.get Reg.floorRaisedAt = 0 :=
  ⟨flame.sets [(Reg.bufThrottleStep, 4), (Reg.wrFifo 3, 40), (Reg.bufRankFloor, 0)], by decide⟩

theorem witness_rankFloorLower : ∃ (s : State), s.forwarding = true ∧ s.get Reg.bufThrottleStep = 4 ∧ 0 < s.get Reg.bufRankFloor ∧
  (List.range 37).all (fun n => s.get (Reg.wrFifo n) ≤ 16) = true ∧ s.get Reg.floorQuietAt + s.fabricPs 8192 ≤ s.now :=
  ⟨{ flame.sets [(Reg.bufThrottleStep, 4), (Reg.bufRankFloor, 3)] with now := sec }, by decide⟩

theorem witness_gateEntryStart : ∃ (port : Nat) (s : State), s.gclLive port = true ∧ s.get (Reg.gclNextAt port) ≤ s.gclNow port :=
  ⟨8, gateState, by decide⟩

theorem witness_gateNotice : ∃ (port : Nat) (s : State) (e : Entry),
  (openings (s.get (Reg.gclOperGates port)) (s.rowsAhead port 640)).findSome? (s.readyAmong port) = some e :=
  ⟨8, gateState, _, rfl⟩

theorem witness_holdRequest : ∃ (port : Nat) (s : State),
  (s.rowsAhead port (s.get (Reg.schedHoldAdvance port))).any (fun r => r.op = 1) = true :=
  ⟨8, gateState.set (Reg.gclOp 8 0) 1, by decide⟩

theorem witness_holdRelease : ∃ (port : Nat) (s : State),
  (s.rowsAhead port (s.get (Reg.schedReleaseAdvance port))).any (fun r => r.op = 2) = true :=
  ⟨8, gateState.set (Reg.gclOp 8 0) 2, by decide⟩

theorem witness_srResetTimeout : ∃ (row : Nat) (s : State), s.get (Reg.srDeadline 0 row) ≠ 0 ∧ s.get (Reg.srDeadline 0 row) ≤ s.now :=
  ⟨3, { flame.set (Reg.srDeadline 0 3) 5 with now := 9 }, by decide⟩

theorem witness_scOpen : ∃ (ctx : Ctx) (s : State) (c : Nat), s.admits ctx 0x2800 0x0D false = true ∧
  s.get (Reg.scOutcome.of ctx) ≠ outBusy ∧ s.portsAbsent (s.get (Reg.scPorts.of ctx)) = false ∧ s.closedChannel = some c ∧
  ¬ (bitOf (s.get (Reg.scFlags.of ctx)) 2 = true ∧ 512 ≤ s.retained) ∧ s.openBad ctx = false ∧
  s.sciInUse (bitOf (s.get (Reg.scFlags.of ctx)) 0) (s.get (Reg.scSci.of ctx)) (s.get (Reg.scPorts.of ctx)) = false :=
  ⟨.lampA, flame, 0, by decide +kernel⟩

theorem witness_scClose : ∃ (ctx : Ctx) (s : State), s.admits ctx 0x2800 0x0D false = true ∧ s.get (Reg.scOutcome.of ctx) ≠ outBusy ∧
  s.channelOpen (s.get (Reg.scChannel.of ctx)) = true ∧ s.get (Reg.chRx (s.get (Reg.scChannel.of ctx))) = 1 :=
  ⟨.lampA, flame.sets [(Reg.chOpen 0, 1), (Reg.chRx 0, 1)], by decide⟩

theorem witness_scInstall : ∃ (ctx : Ctx) (s : State) (r : Nat) (i : Install), s.admits ctx 0x2800 0x0D false = true ∧
  s.get (Reg.scOutcome.of ctx) ≠ outBusy ∧ s.channelOpen (s.get (Reg.scChannel.of ctx)) = true ∧
  s.installBad ctx (s.get (Reg.scChannel.of ctx)) = false ∧ (s.installTarget (s.get (Reg.scChannel.of ctx))).map (·.1) = some r ∧
  s.get Reg.vltState ≠ 2 ∧ s.get Reg.vltState ≠ 3 ∧
  i = { ctx := ctx, channel := s.get (Reg.scChannel.of ctx), target := r, kek := s.get (Reg.scKekSlot.of ctx), wrapped := padTo 40 (s.blob (Reg.scWrapped.of ctx)), params := s.get (Reg.scInstallParams.of ctx), startPn := s.get (Reg.scStartPn.of ctx), ssci := s.get (Reg.scSsci.of ctx), salt := padTo 12 (s.blob (Reg.scSalt.of ctx)), threshold := s.get (Reg.scPnThreshold.of ctx), window := s.get (Reg.scReplayWindow.of ctx) } := by
  refine ⟨.lampA, installState, _, _, ?_, ?_, ?_, ?_, rfl, ?_, ?_, rfl⟩ <;> decide +kernel

theorem witness_scRetire : ∃ (ctx : Ctx) (s : State) (r : Nat), s.admits ctx 0x2800 0x0D false = true ∧
  s.get (Reg.scOutcome.of ctx) ≠ outBusy ∧ s.channelOpen (s.get (Reg.scChannel.of ctx)) = true ∧
  s.otherSlot (s.get (Reg.scChannel.of ctx)) = some r := by
  refine ⟨.lampA, flame.sets [(Reg.chOpen 0, 1), (Reg.saState 0, 2)], _, ?_, ?_, ?_, rfl⟩ <;> decide +kernel

theorem witness_scActivate : ∃ (ctx : Ctx) (s : State), s.admits ctx 0x2800 0x0D false = true ∧ s.get (Reg.scOutcome.of ctx) ≠ outBusy ∧
  s.channelOpen (s.get (Reg.scChannel.of ctx)) = true ∧
  (s.pendRows.filter (fun r => r / 2 = s.get (Reg.scChannel.of ctx))).isEmpty = false :=
  ⟨.lampA, { flame.sets [(Reg.chOpen 0, 1)] with pend := [(Reg.saState 0, 2)] }, by decide⟩

theorem witness_installDone : ∃ (s : State) (i : Install) (o : Nat) (r : Nat) (t : State), s.vaultRunning = some (.install i) ∧
  s.runInstall i = (o, r, t) :=
  ⟨{ flame with vaultRunning := some (.install oneInstall) }, oneInstall, _, _, _, ⟨rfl, rfl⟩⟩

theorem witness_rxOverlapExpire : ∃ (row : Nat) (s : State), (s.get (Reg.saState row) = 4 ∨ s.get (Reg.saState row) = 5) ∧
  s.get (Reg.slotOverlapAt 0 row) ≠ 0 ∧ s.get (Reg.slotOverlapAt 0 row) + s.get Reg.saRxOverlap * us ≤ s.now + 1 :=
  ⟨6, { flame.sets [(Reg.saState 6, 4), (Reg.slotOverlapAt 0 6, 1)] with now := sec }, by decide⟩

theorem witness_exhaustHoldExpire : ∃ (c : Nat) (s : State), s.get (Reg.chHolding c) = 1 ∧
  s.get (Reg.chHoldAt c) + s.get Reg.saExhaustHold * us ≤ s.now :=
  ⟨6, { flame.set (Reg.chHolding 6) 1 with now := sec }, by decide⟩

theorem witness_saEventFifoRead : ∃ (ctx : Ctx) (s : State) (e : Nat) (rest : List Nat), s.running = true ∧
  s.linkBars ctx false = false ∧ s.saEvents = e :: rest :=
  ⟨.lampA, { flame with saEvents := [9, 5] }, 9, [5], by decide⟩

theorem witness_slowPathDispatch : ∃ (s : State) (g : SlowFrame) (rest : List SlowFrame) (f : Frame) (e : Nat) (tag : Nat) (gen : Nat) (r : List Byte),
  s.running = true ∧ s.slow = g :: rest ∧ s.frame? g.frame = some f ∧ f.eligible = true ∧ s.spTags.length < 4096 ∧ tag = s.freeTag ∧
  gen = (s.get (Reg.spGeneration tag) + 1) % 4 ∧ r = inputRecord tag gen g.reason f f.bytes ∧
  s.chooseEngine f g.reason r.length = .engine e := by
  refine ⟨slowState, { frame := 1, reason := 1 }, [], slowFrame1, 2, _, _, _, ?_, rfl, ?_, rfl, ?_, rfl, rfl, rfl, ?_⟩ <;> decide +kernel

theorem witness_spIn : ∃ (e : Nat) (_rd : Nat) (s : State), s.engineRuns e = true ∧ (s.box e).begun = true ∧ (s.box e).rest ≠ [] :=
  ⟨2, 5, { engineOn with boxes := [{ engine := 2, begun := true, rest := [1, 2, 3, 4] }] }, by decide⟩

theorem witness_spLeft : ∃ (e : Nat) (_rd : Nat) (s : State), s.engineRuns e = true :=
  ⟨2, 5, engineOn, by decide⟩

theorem witness_spDrop : ∃ (e : Nat) (s : State), s.engineRuns e = true ∧ (s.box e).begun = true ∧ (s.box e).rest ≠ [] :=
  ⟨2, { engineOn with boxes := [{ engine := 2, begun := true, rest := [1, 2, 3, 4] }] }, by decide⟩

theorem witness_spOut : ∃ (e : Nat) (_rs1 : Nat) (s : State), s.engineRuns e = true ∧ (s.box e).outBytes + 4 ≤ 16384 :=
  ⟨2, 5, engineOn, by decide⟩

theorem witness_spSend : ∃ (e : Nat) (s : State), s.engineRuns e = true :=
  ⟨2, engineOn, by decide⟩

theorem witness_spResolve : ∃ (e : Nat) (_rs1 : Nat) (s : State), s.engineRuns e = true :=
  ⟨2, 5, engineOn, by decide⟩

theorem witness_spCrc : ∃ (e : Nat) (_rd : Nat) (_rs1 : Nat) (_rs2 : Nat) (s : State), s.engineRuns e = true :=
  ⟨2, 5, 1, 2, engineOn, by decide⟩

theorem witness_spCsum : ∃ (e : Nat) (_rd : Nat) (_rs1 : Nat) (_rs2 : Nat) (s : State), s.engineRuns e = true :=
  ⟨2, 5, 1, 2, engineOn, by decide⟩

theorem witness_spTime : ∃ (e : Nat) (_rd : Nat) (s : State), s.engineRuns e = true :=
  ⟨2, 5, engineOn, by decide⟩

theorem witness_outboxCollect : ∃ (e : Nat) (s : State) (p : List Nat) (rest : List (List Nat)), (s.box e).sent = p :: rest ∧
  s.running = true ∧ s.get Reg.bufHeadroomCells + max 1 (outWord p).cells ≤ s.get Reg.bufFreeCells ∧ (outWord p).sound = true ∧
  p.length = 4 + ((outWord p).len + 3) / 4 :=
  ⟨2, { engineOn.set Reg.bufFreeCells 90000 with boxes := [{ engine := 2, sent := [outPacket] }] }, outPacket, [], by decide⟩

theorem witness_tagRelease : ∃ (port : Nat) (s : State) (t : SpTag) (rest : List SpTag), s.running = true ∧
  takeFirst (fun t => t.ingress == port) s.spTags = some (t, rest) ∧ t.resolved = true :=
  ⟨3, { flame with spTags := [{ tag := 1, gen := 0, engine := 2, ingress := 3, since := 0, resolved := true }] }, { tag := 1, gen := 0, engine := 2, ingress := 3, since := 0, resolved := true }, [], by decide⟩

theorem witness_reorderTimeout : ∃ (tag : Nat) (s : State) (t : SpTag), s.spTags.find? (fun t => t.tag == tag && !t.resolved) = some t ∧
  t.since + s.get Reg.spReorderTimeout * us ≤ s.now :=
  ⟨1, { flame with spTags := [{ tag := 1, gen := 0, engine := 2, ingress := 3, since := 0 }], now := sec }, { tag := 1, gen := 0, engine := 2, ingress := 3, since := 0 }, by decide⟩

theorem witness_engineFault : ∃ (e : Nat) (_cause : Nat) (_pc : Nat) (s : State), s.engineRuns e = true :=
  ⟨2, 2, 64, engineOn, by decide⟩

theorem witness_seRun : ∃ (ctx : Ctx) (e : Nat) (s : State), s.admits ctx (0x24D0 + e) 1 false = true ∧ e < s.fuses.variant.engines ∧
  s.get (Reg.seState e) ≠ 3 :=
  ⟨.lampA, 2, (flame.set (Reg.seState 2) 0), by decide⟩

theorem witness_seStop : ∃ (ctx : Ctx) (e : Nat) (s : State), s.admits ctx (0x24D0 + e) 1 false = true ∧ e < s.fuses.variant.engines ∧
  s.get (Reg.seState e) = 1 :=
  ⟨.lampA, 2, engineOn, by decide⟩

theorem witness_ringReceiveWrite : ∃ (q : Nat) (s : State) (e : Entry) (b : List Byte) (f : Frame) (off : Nat) (t : State),
  s.running = true ∧ s.ringQueue q = true ∧ s.get (Reg.rxRingEnable q) = 1 ∧ s.hostHead q = some (e, b) ∧ s.frame? e.frame = some f ∧
  ringPlace (s.get (Reg.rxRingProduce q)) (s.get (Reg.rxRingConsume q)) (2 ^ s.get (Reg.rxRingSizeLog2 q).latched) (inputRecord 0 0 0 f b).length = some (off,
  false) ∧ s.memWrite 4 (s.get (Reg.rxRingBase q).latched + off) (inputRecord 0 0 0 f b) = (true, t) :=
  ⟨2, ringState, { port := 37, queue := 2, frame := 1, plain := true }, [9], ringFrame, 0, (ringState.memWrite 4 dramBase (inputRecord 0 0 0 ringFrame [9])).2, by decide +kernel⟩

theorem witness_txRingProduce : ∃ (ctx : Ctx) (value : Nat) (s : State), s.admits ctx 0x24C1 4 false = true ∧
  value < 2 ^ s.get Reg.txRingSizeLog2.latched ∧ value < 2 ^ 32 ∧ s.get Reg.txRingEnable = 1 :=
  ⟨.lampA, 64, flame.sets [(Reg.txRingSizeLog2.latched, 12), (Reg.txRingEnable, 1)], by decide⟩

theorem witness_vaultGenerate : ∃ (ctx : Ctx) (s : State), s.admits ctx 0x2900 0x0B false = true ∧
  s.get (Reg.vltOutcome.of ctx) ≠ outBusy ∧ s.get Reg.vltState ≠ 2 ∧ s.get Reg.vltState ≠ 3 :=
  ⟨.lampA, flame, by decide⟩

theorem witness_vaultImportClear : ∃ (ctx : Ctx) (s : State), s.admits ctx 0x2900 0x0B false = true ∧
  s.get (Reg.vltOutcome.of ctx) ≠ outBusy ∧ s.get Reg.vltState ≠ 2 ∧ s.get Reg.vltState ≠ 3 :=
  ⟨.lampA, flame, by decide⟩

theorem witness_vaultImportWrapped : ∃ (ctx : Ctx) (s : State), s.admits ctx 0x2900 0x0B false = true ∧
  s.get (Reg.vltOutcome.of ctx) ≠ outBusy ∧ s.get Reg.vltState ≠ 2 ∧ s.get Reg.vltState ≠ 3 :=
  ⟨.lampA, flame, by decide⟩

theorem witness_vaultExportWrapped : ∃ (ctx : Ctx) (s : State), s.admits ctx 0x2900 0x0B false = true ∧
  s.get (Reg.vltOutcome.of ctx) ≠ outBusy ∧ s.get Reg.vltState ≠ 2 ∧ s.get Reg.vltState ≠ 3 :=
  ⟨.lampA, flame, by decide⟩

theorem witness_vaultNarrowPolicy : ∃ (ctx : Ctx) (s : State), s.admits ctx 0x2900 0x0B false = true ∧
  s.get (Reg.vltOutcome.of ctx) ≠ outBusy ∧ s.get Reg.vltState ≠ 2 ∧ s.get Reg.vltState ≠ 3 :=
  ⟨.lampA, flame, by decide⟩

theorem witness_vaultDestroy : ∃ (ctx : Ctx) (s : State), s.admits ctx 0x2900 0x0B false = true ∧
  s.get (Reg.vltOutcome.of ctx) ≠ outBusy ∧ s.get Reg.vltState ≠ 2 ∧ s.get Reg.vltState ≠ 3 :=
  ⟨.lampA, flame, by decide⟩

theorem witness_vaultSign : ∃ (ctx : Ctx) (s : State), s.admits ctx 0x2900 0x0B false = true ∧ s.get (Reg.vltOutcome.of ctx) ≠ outBusy ∧
  s.get Reg.vltState ≠ 2 ∧ s.get Reg.vltState ≠ 3 :=
  ⟨.lampA, flame, by decide⟩

theorem witness_vaultVerify : ∃ (ctx : Ctx) (s : State), s.admits ctx 0x2900 0x0B false = true ∧
  s.get (Reg.vltOutcome.of ctx) ≠ outBusy ∧ s.get Reg.vltState ≠ 2 ∧ s.get Reg.vltState ≠ 3 :=
  ⟨.lampA, flame, by decide⟩

theorem witness_vaultEcdh : ∃ (ctx : Ctx) (s : State), s.admits ctx 0x2900 0x0B false = true ∧ s.get (Reg.vltOutcome.of ctx) ≠ outBusy ∧
  s.get Reg.vltState ≠ 2 ∧ s.get Reg.vltState ≠ 3 :=
  ⟨.lampA, flame, by decide⟩

theorem witness_vaultHkdf : ∃ (ctx : Ctx) (s : State), s.admits ctx 0x2900 0x0B false = true ∧ s.get (Reg.vltOutcome.of ctx) ≠ outBusy ∧
  s.get Reg.vltState ≠ 2 ∧ s.get Reg.vltState ≠ 3 :=
  ⟨.lampA, flame, by decide⟩

theorem witness_vaultKdfCtr : ∃ (ctx : Ctx) (s : State), s.admits ctx 0x2900 0x0B false = true ∧
  s.get (Reg.vltOutcome.of ctx) ≠ outBusy ∧ s.get Reg.vltState ≠ 2 ∧ s.get Reg.vltState ≠ 3 :=
  ⟨.lampA, flame, by decide⟩

theorem witness_vaultRandom : ∃ (ctx : Ctx) (s : State), s.admits ctx 0x2900 0x0B false = true ∧
  s.get (Reg.vltOutcome.of ctx) ≠ outBusy ∧ s.get Reg.vltState ≠ 2 ∧ s.get Reg.vltState ≠ 3 :=
  ⟨.lampA, flame, by decide⟩

theorem witness_vaultAttest : ∃ (ctx : Ctx) (s : State), s.admits ctx 0x2900 0x0B false = true ∧
  s.get (Reg.vltOutcome.of ctx) ≠ outBusy ∧ s.get Reg.vltState ≠ 2 ∧ s.get Reg.vltState ≠ 3 :=
  ⟨.lampA, flame, by decide⟩

theorem witness_vaultCommandStart : ∃ (s : State) (r : VaultReq) (rs : List VaultReq), s.running = true ∧ s.get Reg.vltState = 0 ∧
  s.vaultRunning = none ∧ s.installs = [] ∧ s.vaultWaiting = r :: rs :=
  ⟨{ flame with vaultWaiting := [.keyId 3] }, .keyId 3, [], by decide⟩

theorem witness_vaultCommandDone : ∃ (s : State) (c : VaultCmd) (o : Nat) (t : State), s.vaultRunning = some (.command c) ∧
  s.vaultRun c = (o, t) :=
  ⟨{ flame with vaultRunning := some (.command { ctx := .lampA, code := 6 }) }, { ctx := .lampA, code := 6 }, _, _, ⟨rfl, rfl⟩⟩

theorem witness_entropyFailure : ∃ (s : State), (s.mode = .glow ∨ s.mode = .flame ∨ s.mode = .trim) :=
  ⟨flame, by decide⟩

theorem witness_entropyRecover : ∃ (s : State), s.vaultUp = true ∧ s.get Reg.drbgStopped = 1 ∧ s.get Reg.drbgWindows = 15 :=
  ⟨flame.sets [(Reg.drbgStopped, 1), (Reg.drbgWindows, 15)], by decide⟩

theorem witness_lifeCycleTransition : ∃ (ctx : Ctx) (value : Nat) (s : State), s.admits ctx 0x2901 3 false = true ∧ value ≤ 4 ∧
  s.mode = .trim ∧ s.get Reg.vltState ≠ 3 ∧ s.get Reg.vltState ≠ 2 ∧ transitionAllowed (s.get Reg.vltLifeCycle) value = true ∧
  s.get Reg.vltConfirm = s.fuses.serial % 2 ^ 32 ∧ s.vaultWaiting = [] ∧ s.installs = [] :=
  ⟨.lampA, 1, trim, by decide⟩

theorem witness_transitionComplete : ∃ (s : State), s.get Reg.vltState = 3 ∧ 0 < s.get Reg.journalIntent ∧ s.vaultRunning = none :=
  ⟨flame.sets [(Reg.vltState, 3), (Reg.journalIntent, 2)], by decide⟩

theorem witness_lockstepFault : ∃ (s : State), s.running = true ∧ s.get Reg.vltState ≠ 2 :=
  ⟨flame, by decide⟩

theorem witness_crLoad : ∃ (ctx : Ctx) (s : State), s.admits ctx 0x2A01 7 false = true ∧ s.get (Reg.crOutcome.of ctx) ≠ outBusy ∧
  s.get Reg.vltState ≠ 2 ∧ s.get Reg.vltState ≠ 3 :=
  ⟨.lampA, flame, by decide⟩

theorem witness_crUnload : ∃ (ctx : Ctx) (s : State), s.admits ctx 0x2A01 7 false = true ∧ s.get (Reg.crOutcome.of ctx) ≠ outBusy ∧
  (s.crContext? (s.get (Reg.crContext.of ctx))).isSome = true ∧ s.crJobs = [] :=
  ⟨.lampA, { flame with crContexts := [{ idx := 0, mode := 1, slot := 0, alg := 1, key := [], field := 0, next := 0, last := 9 }] }, by decide⟩

theorem witness_crqProduce : ∃ (ctx : Ctx) (q : Nat) (value : Nat) (s : State), s.admits ctx (0x2A20 + q) 4 false = true ∧ q < 8 ∧
  value % 64 = 0 ∧ value < s.crqSize q ∧ value < 2 ^ 32 :=
  ⟨.lampA, 3, 64, flame.set (Reg.crqSizeLog2 3).latched 12, by decide⟩

theorem witness_cressetStartPulse : ∃ (q : Nat) (s : State) (rest : List Pulse),
  takeFirst (fun p => p == Pulse.cressetStart q) s.pulses = some (Pulse.cressetStart q, rest) ∧ s.crWaiting q = false ∧
  s.get (Reg.crqPendingStarts q) < 255 :=
  ⟨3, { flame with pulses := [.cressetStart 3] }, [], by decide⟩

theorem witness_cressetStartPulseReleases : ∃ (q : Nat) (s : State) (rest : List Pulse),
  takeFirst (fun p => p == Pulse.cressetStart q) s.pulses = some (Pulse.cressetStart q, rest) ∧ s.crWaiting q = true :=
  ⟨3, { waitState with pulses := [.cressetStart 3] }, [], by decide⟩

theorem witness_cressetJobStart : ∃ (s : State) (q : Nat) (a : Nat) (b : List Byte) (t : State), s.running = true ∧
  ((List.range 8).map (fun k => (s.get Reg.crRobin + k) % 8)).find? s.crReady = some q ∧ s.crHead q = some a ∧
  s.memRead 3 a 64 = (some b, s) ∧ t = s.sets [(Reg.crRobin, (q + 1) % 8), (Reg.crqTaken q,
  (s.get (Reg.crqTaken q) + 64) % s.crqSize q)] ∧ (crFields (wordsOf b)).wait = false ∧ t.crCheck (wordsOf b) = 0 ∧
  t.crDual (crFields (wordsOf b)) = false ∧ t.crShort false = false := by
  refine ⟨jobState, 3, dramBase, jobBytes, _, ?_, ?_, ?_, ?_, rfl, ?_, ?_, ?_, ?_⟩ <;> decide +kernel

theorem witness_cressetBlockDone : ∃ (k : Nat) (_ok2 : Bool) (s : State) (j : CrJob), s.crJobs[k]? = some j ∧ s.running = true ∧
  j.done = false ∧ j.written < j.output.length :=
  ⟨0, false, { flame with crJobs := [{ queue := 3, offset := 0, words := [], output := [1] }] }, { queue := 3, offset := 0, words := [], output := [1] }, by decide⟩

theorem witness_cressetJobDone : ∃ (q : Nat) (s : State) (j : CrJob) (t : State) (u : State),
  s.crJobs.find? (fun j => j.queue = q) = some j ∧ s.running = true ∧ j.done = false ∧ j.output.length ≤ j.written ∧ j.outcome = 0 ∧
  crVerifies (crFields j.words).op = false ∧ j.words ≠ [] ∧ (crFields j.words).notify = false ∧
  s.memWrite 3 (crFields j.words).tagAddr j.tag = (true, t) ∧ t.memWrite 3 (crFields j.words).result (crResult t j outDone) = (true, u) :=
  ⟨3, doneState, doneJob, (doneState.memWrite 3 (dramBase + 128) [1, 2, 3, 4, 5, 6, 7, 8, 9, 10, 11, 12, 13, 14, 15, 16]).2, ((doneState.memWrite 3 (dramBase + 128) [1, 2, 3, 4, 5, 6, 7, 8, 9, 10, 11, 12, 13, 14, 15, 16]).2.memWrite 3 (dramBase + 256) (crResult (doneState.memWrite 3 (dramBase + 128) [1, 2, 3, 4, 5, 6, 7, 8, 9, 10, 11, 12, 13, 14, 15, 16]).2 doneJob outDone)).2, by decide +kernel⟩

theorem witness_dmaStart : ∃ (ctx : Ctx) (c : Nat) (s : State), s.admits ctx (0x2B10 + c) 3 false = true ∧ c < 32 ∧
  (s.get (Reg.dmaState c) = 0 ∨ s.get (Reg.dmaState c) = 3) :=
  ⟨.lampA, 5, flame, by decide⟩

theorem witness_dmaResume : ∃ (ctx : Ctx) (c : Nat) (s : State), s.admits ctx (0x2B10 + c) 3 false = true ∧ c < 32 ∧
  (s.get (Reg.dmaState c) = 0 ∨ s.get (Reg.dmaState c) = 3) :=
  ⟨.lampA, 5, flame, by decide⟩

theorem witness_dmaStop : ∃ (ctx : Ctx) (c : Nat) (s : State), s.admits ctx (0x2B10 + c) 3 false = true ∧ c < 32 ∧
  s.get (Reg.dmaState c) = 1 :=
  ⟨.lampA, 5, flame.set (Reg.dmaState 5) 1, by decide⟩

theorem witness_dmaStartPulse : ∃ (c : Nat) (s : State) (rest : List Pulse),
  takeFirst (fun p => p == Pulse.dmaStart c) s.pulses = some (Pulse.dmaStart c, rest) ∧ s.running = true ∧ s.get (Reg.dmaState c) = 0 :=
  ⟨5, { flame with pulses := [.dmaStart 5] }, [], by decide⟩

theorem witness_dmaDescriptorDone : ∃ (c : Nat) (s : State), s.running = true ∧ c < 32 ∧
  (s.get (Reg.dmaState c) = 1 ∨ s.get (Reg.dmaState c) = 2) ∧
  s.dmaWaits c (s.get (Reg.dmaWord c 0)) (s.get (Reg.dmaWord c 1)) (s.get (Reg.dmaWord c 2)) (s.get (Reg.dmaWord c 3)) = false :=
  ⟨5, flame.set (Reg.dmaState 5) 1, by decide⟩

theorem witness_memoryRead : ∃ (init : Nat) (addr : Nat) (len : Nat) (s : State) (b : List Byte), s.running = true ∧
  (2 ≤ init ∨ inPlic addr = false) ∧ s.memRead init addr len = (some b, s) :=
  ⟨3, dramBase, 4, memState, [0, 0, 0, 0], by decide⟩

theorem witness_memoryWrite : ∃ (init : Nat) (addr : Nat) (data : List Byte) (s : State) (t : State), s.running = true ∧
  (2 ≤ init ∨ inPlic addr = false) ∧ s.memWrite init addr data = (true, t) :=
  ⟨3, dramBase, [1, 2], memState, (memState.memWrite 3 dramBase [1, 2]).2, by decide +kernel⟩

theorem witness_keyidProgram : ∃ (ctx : Ctx) (k : Nat) (s : State), s.admits ctx (0x2F20 + k) 4 false = true ∧ k < 15 ∧
  s.get (Reg.kidOutcome k) ≠ outBusy ∧ s.get (Reg.kidState k) = 0 ∧ s.get Reg.vltState ≠ 2 ∧ s.get Reg.vltState ≠ 3 :=
  ⟨.lampA, 3, flame, by decide⟩

theorem witness_keyidProgramDone : ∃ (s : State) (k : Nat) (key : List Byte) (t : State), s.vaultRunning = some (.keyId k) ∧
  s.kidMake k = (outDone, key, t) :=
  ⟨{ flame with vaultRunning := some (.keyId 3) }, 3, _, _, ⟨rfl, rfl⟩⟩

theorem witness_keyidClose : ∃ (ctx : Ctx) (k : Nat) (s : State), s.admits ctx (0x2F20 + k) 4 false = true ∧ k < 15 ∧
  s.get (Reg.kidOutcome k) ≠ outBusy ∧ s.get (Reg.kidState k) = 1 :=
  ⟨.lampA, 3, flame.set (Reg.kidState 3) 1, by decide⟩

theorem witness_keyidCloseDone : ∃ (k : Nat) (s : State), k < 15 ∧ s.running = true ∧ s.get (Reg.kidState k) = 2 ∧
  s.cache.filter (fun c => c.kid = k) = [] :=
  ⟨3, flame.set (Reg.kidState 3) 2, by decide⟩

theorem witness_keyidRetire : ∃ (ctx : Ctx) (k : Nat) (s : State), s.admits ctx (0x2F20 + k) 4 false = true ∧ k < 15 ∧
  s.get (Reg.kidOutcome k) ≠ outBusy ∧ s.get (Reg.kidState k) = 3 ∧ s.kidNamed k = false :=
  ⟨.lampA, 3, flame.set (Reg.kidState 3) 3, by decide⟩

theorem witness_flashErase : ∃ (ctx : Ctx) (addr : Nat) (s : State), s.admits ctx 0x2F00 0x0D false = true ∧
  s.get Reg.xmFlashEraseOutcome ≠ outBusy ∧ addr % 65536 = 0 ∧ s.inFlash addr 65536 = true ∧
  (List.range 16).any (fun r => s.inRegion r addr 65536) = true ∧ addr < 2 ^ 64 :=
  ⟨.lampA, 0x50000000, flame.sets [(Reg.rgEnable 0, 1), (Reg.rgBase 0, 0x50000000), (Reg.rgLimit 0, 0x50100000)], by decide⟩

theorem witness_flashEraseDone : ∃ (s : State), s.running = true ∧ 0 < s.get Reg.flashErasing :=
  ⟨flame.set Reg.flashErasing 0x50000001, by decide⟩

theorem witness_initSweepGranule : ∃ (s : State) (g : Nat), s.running = true ∧ s.get Reg.xmInitSweep = 1 ∧
  (s.uninitGranules.filter (fun g => (s.kidOf (dramBase + g * 65536) 65536).any (fun k => s.get (Reg.kidState k) = 1))).foldl (fun b g => some (match b with | none => g | some m => min m g)) none = some g :=
  ⟨memState.set Reg.xmInitSweep 1, 1, by decide⟩

theorem witness_cboClean : ∃ (core : Nat) (_addr : Nat) (s : State), s.running = true ∧ core < 2 :=
  ⟨1, 64, flame, by decide⟩

theorem witness_cboFlush : ∃ (core : Nat) (_addr : Nat) (s : State), s.running = true ∧ core < 2 :=
  ⟨1, 64, flame, by decide⟩

theorem witness_cboInval : ∃ (core : Nat) (_addr : Nat) (s : State), s.running = true ∧ core < 2 :=
  ⟨1, 64, flame, by decide⟩

theorem witness_chimneyRead : ∃ (init : Nat) (addr : Nat) (size : Nat) (s : State), s.running = true ∧
  (isCore init = true ∨ (0x20 ≤ init ∧ init < 0x40)) ∧ inWindow addr = true ∧ coreAligned addr size = true ∧ s.get Reg.chmState ≠ 3 ∧
  s.fetches.find? (fun f => f.initiator = init && f.addr = addr && f.size = size) = none ∧ s.lanternBarred = false ∧
  s.fetches.length < 16 :=
  ⟨1, 0x60000000, 4, flame, by decide⟩

theorem witness_chimneyFetchDone : ∃ (k : Nat) (s : State) (f : Fetch), s.fetches[k]? = some f ∧ s.fetchFree f = true ∧ f.ready = false :=
  ⟨0, { flame.set Reg.chmState 1 with fetches := [{ initiator := 1, addr := 0x60000000, size := 4 }] }, { initiator := 1, addr := 0x60000000, size := 4 }, by decide⟩

theorem witness_fetchStale : ∃ (k : Nat) (s : State) (f : Fetch), s.fetches[k]? = some f ∧ f.ready = true ∧ f.doneAt + 4 * us ≤ s.now :=
  ⟨0, { flame with fetches := [{ initiator := 1, addr := 0x60000000, size := 4, ready := true }], now := sec }, { initiator := 1, addr := 0x60000000, size := 4, ready := true }, by decide⟩

theorem witness_chimneyPostedWrite : ∃ (init : Nat) (addr : Nat) (data : List Byte) (s : State), s.running = true ∧ isCore init = true ∧
  inWindow addr = true ∧ coreAligned addr data.length = true ∧ s.lanternBarred = false :=
  ⟨1, 0x60000000, [1, 2, 3, 4], flame, by decide⟩

theorem witness_writeAck : ∃ (k : Nat) (s : State) (p : Posted), s.posted[k]? = some p ∧ s.linkRuns = true ∧ s.pieceHeld p = false ∧
  (s.posted.take k).any (sameGranule p) = false :=
  ⟨0, { flame.set Reg.chmState 1 with posted := [{ initiator := 1, addr := 0x60000000, data := [7] }] }, { initiator := 1, addr := 0x60000000, data := [7] }, by decide⟩

theorem witness_fence : ∃ (init : Nat) (_writes : Bool) (_reads : Bool) (s : State), s.running = true ∧
  (init = 0 ∨ init = 1 ∨ init = 0x80) :=
  ⟨1, true, false, flame, by decide⟩

theorem witness_fenceComplete : ∃ (init : Nat) (s : State) (f : Fence), s.fences.find? (fun f => f.initiator = init) = some f ∧
  s.fenceMet f = true ∧ bitOf (s.get Reg.chmPendingFaults) (faultBit init) = false :=
  ⟨1, { flame with fences := [⟨1, true, true⟩] }, ⟨1, true, true⟩, by decide⟩

theorem witness_lr : ∃ (hart : Nat) (addr : Nat) (size : Nat) (s : State), s.running = true ∧ hart < 2 ∧ exclusiveOk addr size = true ∧
  s.get Reg.chmState ≠ 3 ∧ s.heldRead = none ∧ s.lanternBarred = false ∧ s.semaphore = none :=
  ⟨1, 0x60000000, 4, flame, by decide⟩

theorem witness_sc : ∃ (hart : Nat) (addr : Nat) (data : List Byte) (s : State) (m : Semaphore), s.running = true ∧ hart < 2 ∧
  exclusiveOk addr data.length = true ∧ s.semaphore = some m ∧ m.hart = hart ∧ m.granule = addr / 64 * 64 ∧ m.touched = false :=
  ⟨1, 0x60000000, [1, 2, 3, 4], { flame with semaphore := some { hart := 1, granule := 0x60000000, taken := 0 } }, { hart := 1, granule := 0x60000000, taken := 0 }, by decide⟩

theorem witness_semaphoreTimeout : ∃ (s : State) (m : Semaphore), s.semaphore = some m ∧ m.taken + 2 * us ≤ s.now :=
  ⟨{ flame with semaphore := some { hart := 1, granule := 0, taken := 0 }, now := sec }, { hart := 1, granule := 0, taken := 0 }, by decide⟩

theorem witness_wickBackoff : ∃ (s : State) (w : WickRead), s.wickRead = some w ∧ s.linkRuns = true ∧
  s.heldRead.any (fun f => f.since + 8000 ≤ s.now) = true ∧ w.withdrawn = 0 ∧ w.since + 8000 ≤ s.now :=
  ⟨{ flame.set Reg.chmState 1 with wickRead := some { addr := 0, size := 4 }, heldRead := some { initiator := 1, addr := 0, size := 4 }, now := sec }, { addr := 0, size := 4 }, by decide⟩

theorem witness_backoffReissue : ∃ (s : State) (w : WickRead), s.wickRead = some w ∧ s.linkRuns = true ∧ 0 < w.withdrawn ∧
  w.withdrawn + 256000 ≤ s.now ∧ s.heldRead = none :=
  ⟨{ flame.set Reg.chmState 1 with wickRead := some { addr := 0, size := 4, withdrawn := 1 }, now := sec }, { addr := 0, size := 4, withdrawn := 1 }, by decide⟩

theorem witness_pilotRead : ∃ (_addr : Nat) (size : Nat) (s : State), s.linkRuns = true ∧ s.wickRead = none ∧ size ≠ 0 ∧
  s.heldRead = none :=
  ⟨0x40000000, 4, flame.set Reg.chmState 1, by decide⟩

theorem witness_flitCrcError : ∃ (f : FlitHeard) (s : State), s.linkRuns = true ∧ (flitOf f.bytes).bad = true :=
  ⟨{ bytes := [1] }, flame.set Reg.chmState 1, by decide⟩

theorem witness_chimneyLockLoss : ∃ (lockLost : Bool) (s : State), s.linkRuns = true ∧ (lockLost = true ∨ 8 ≤ s.get Reg.chmReplayRun) :=
  ⟨true, flame.set Reg.chmState 1, by decide⟩

theorem witness_retrainResult : ∃ (s : State), s.running = true ∧ s.get Reg.chmState = 2 :=
  ⟨flame.set Reg.chmState 2, by decide⟩

theorem witness_chmRetrain : ∃ (ctx : Ctx) (s : State), s.admits ctx 0x2300 2 false = true ∧ s.get Reg.chmState = 3 :=
  ⟨.lampA, flame.set Reg.chmState 3, by decide⟩

theorem witness_canMessageReceive : ∃ (ch : Nat) (m : BusHeard) (s : State) (stamp : List Nat) (t : State), s.canTakes ch m.msg = true ∧
  s.busStamp m.age = (stamp, t) ∧ t.isSample ch m.msg = false ∧ t.sdoRequest ch m.msg = false := by
  refine ⟨3, { msg := { fmt := 0, id := 5, data := [1] }, age := 500 }, canThree, _, _, ?_, rfl, ?_, ?_⟩ <;> decide +kernel

theorem witness_canArbitration : ∃ (ch : Nat) (s : State) (e : CanEntry) (t : State), s.canOn ch = true ∧ s.get (Reg.canEnable ch) ≠ 0 ∧
  bitOf (s.get (Reg.canFormats ch).latched) 3 = false ∧ bitOf (s.get (Reg.canFormats ch).latched) 4 = false ∧
  s.canQueue.any (fun e => e.ch = ch && e.inTx) = false ∧ State.canOffer (s.canQueue.length + 1) ch (s.canIntegrated ch) = (some e, t) :=
  ⟨3, { canThree with canQueue := [canWaiting] }, canWaiting, (State.canOffer 2 3 (({ canThree with canQueue := [canWaiting] } : State).canIntegrated 3)).2, by decide⟩

theorem witness_canTxDone : ∃ (ch : Nat) (s : State) (e : CanEntry), s.canQueue.find? (fun e => e.ch == ch && e.inTx) = some e ∧
  s.canOn ch = true ∧ e.cyc = none ∧ s.get (Reg.canEnable ch) = 1 :=
  ⟨3, { canThree with canQueue := [{ canWaiting with inTx := true }] }, { canWaiting with inTx := true }, by decide⟩

theorem witness_canBusOff : ∃ (ch : Nat) (s : State), s.canOn ch = true ∧ 255 < s.canTec ch :=
  ⟨3, canThree.set (Reg.canErrorCounters 3) 0x1000000, by decide⟩

theorem witness_canBusoffRecovery : ∃ (ch : Nat) (s : State), ch < 16 ∧ s.busOn = true ∧ s.canState ch = 2 ∧
  s.get (Reg.canRecovering ch) = 1 :=
  ⟨3, flame.sets [(Reg.canEnable 3, 1), (Reg.canStatus 3, 2), (Reg.canRecovering 3, 1)], by decide⟩

theorem witness_canRecover : ∃ (ctx : Ctx) (ch : Nat) (s : State), s.admits ctx (0x2C10 + ch) 0x0C false = true ∧ ch < 16 ∧
  s.canState ch = 2 :=
  ⟨.lampA, 3, flame.set (Reg.canStatus 3) 2, by decide⟩

theorem witness_canEnable : ∃ (ctx : Ctx) (ch : Nat) (s : State), s.admits ctx (0x2C10 + ch) 1 false = true ∧ ch < 16 ∧
  s.get (Reg.canEnable ch) = 0 :=
  ⟨.lampA, 3, flame, by decide⟩

theorem witness_canError : ∃ (ch : Nat) (_transmitter : Bool) (_severe : Bool) (s : State), s.canOn ch = true ∧
  s.get (Reg.canEnable ch) = 1 :=
  ⟨3, true, false, canThree, by decide⟩

theorem witness_linResponseReceive : ∃ (l : Nat) (id : Nat) (data : List Byte) (e : LinEnd) (s : State) (stamp : List Nat) (t : State),
  s.linOn l = true ∧ e.check = s.linChecksum l (id % 64) (data.take 8) ∧
  ((s.count (Reg.linRxMessages l)).linNext l).busStamp e.age = (stamp, t) ∧ t.routing = true := by
  refine ⟨2, 5, [1], { check := 121, age := 500 }, linTwo, _, _, ?_, ?_, rfl, ?_⟩ <;> decide +kernel

theorem witness_linHeaderReceive : ∃ (l : Nat) (id : Nat) (s : State) (e : Nat) (d : List Byte) (b : List Byte) (t : State),
  s.linOn l = true ∧ s.linMaster l = false ∧ s.routing = true ∧
  (List.range 128).find? (fun e => s.get (Reg.cycTarget e) = 16 + l && bitOf (s.get (Reg.cycParams e)) 30 && field (s.get (Reg.cycKey e)) 37 32 = id) = some e ∧
  s.cycTurn e = .send d ∧ s.cycSeal e d = (some b, t) := by
  refine ⟨2, 5, linSlave, 0, _, _, _, ?_, ?_, ?_, ?_, rfl, rfl⟩ <;> decide +kernel

theorem witness_linResponseTimeout : ∃ (l : Nat) (s : State), s.linOn l = true ∧ s.linQueue.any (fun e => e.l = l && e.sent) = true :=
  ⟨2, { linTwo with linQueue := [linSent] }, by decide⟩

theorem witness_linSendWake : ∃ (ctx : Ctx) (l : Nat) (s : State), s.admits ctx (0x2C20 + l) 6 false = true ∧ l < 8 :=
  ⟨.lampA, 2, flame, by decide⟩

theorem witness_cyclicRelease : ∃ (e : Nat) (s : State) (d : List Byte) (b : List Byte) (t : State) (u : State), s.cycDue e = true ∧
  (List.range 128).any (fun a => s.cycAhead a e) = false ∧ t = s.set (Reg.cycSeen e) (s.timeNs (s.get (Reg.cycDomain e)) + 1) ∧
  t.cycTurn e = .send d ∧ t.cycSeal e d = (some b, u) :=
  ⟨0, cycState, _, _, _, _, ⟨by decide +kernel, by decide +kernel, rfl, rfl, rfl⟩⟩

theorem witness_cycDataWrite : ∃ (ctx : Ctx) (e : Nat) (data : List Byte) (s : State), s.admits ctx (0x2C80 + e) 7 false = true ∧
  e < 128 ∧ data.length = 2048 ∧
  (s.claimAccepts ctx (s.get (Reg.cycGroup e)) || (s.get (Reg.cgState (s.get (Reg.cycGroup e))) = 4 && (clusterOf ctx).isSome)) = true :=
  ⟨.lampA, 0, (List.replicate 2048 0), flame, by decide +kernel⟩

theorem witness_acfUnpack : ∃ (s : State) (e : Entry) (b : List Byte), s.forwarding = true ∧ s.get Reg.gwInboundQueue ≠ 0xFF ∧
  s.get Reg.chmState ≠ 2 ∧ s.get Reg.chmState ≠ 3 ∧ s.hostHead (s.get Reg.gwInboundQueue) = some (e, b) :=
  ⟨{ flame.set Reg.gwInboundQueue 2 with frames := [ringFrame], entries := [{ port := 37, queue := 2, frame := 1, plain := true }] }, { port := 37, queue := 2, frame := 1, plain := true }, [9], by decide⟩

theorem witness_acfMaxWaitExpire : ∃ (stream : Nat) (s : State) (p : AcfPack), s.acfPacks.find? (fun p => p.stream == stream) = some p ∧
  p.since + s.get (Reg.acfMaxWait stream) * 1000 ≤ s.now ∧ s.running = true :=
  ⟨2, { flame with acfPacks := [onePack], now := sec }, onePack, by decide⟩

theorem witness_gwKeyLoad : ∃ (ctx : Ctx) (k : Nat) (value : Nat) (s : State), s.admits ctx 0x2C00 (0x10 + k) false = true ∧ k < 16 ∧
  value < 2 ^ 16 ∧ s.running = true ∧ s.get Reg.vltState ≠ 2 ∧ s.get Reg.vltState ≠ 3 :=
  ⟨.lampA, 3, 7, flame, by decide⟩

theorem witness_cpStateChange : ∃ (level : Int) (count : Nat) (s : State) (n : Nat), s.inletOn = true ∧
  n = pilotClass level (bitOf (s.get Reg.cpStatus) 0) ∧ 3000 ≤ count ∧ n ≠ s.get Reg.cpState ∧
  pilotHeld (s.get Reg.cpState) level (bitOf (s.get Reg.cpStatus) 0) = false :=
  ⟨9000, 4000, flame, 2, by decide⟩

theorem witness_ppMeasure : ∃ (_ohms : Nat) (s : State), s.running = true ∧ s.fuses.variant.hasInlet = true :=
  ⟨150, flame, by decide⟩

theorem witness_cpPeriodMeasure : ∃ (f : Nat) (_d : Nat) (neg : Int) (s : State), s.inletOn = true ∧ 950 ≤ f ∧ f ≤ 1050 ∧ -10500 < neg :=
  ⟨1000, 500, 0, flame, by decide⟩

theorem witness_inletTempSample : ∃ (t : Nat) (s : State), t < 4 ∧ s.inletOn = true :=
  ⟨2, flame, by decide⟩

theorem witness_inletTempSampleOhms : ∃ (t : Nat) (o : Nat) (s : State) (v : Int) (u : State), t < 4 ∧ s.inletOn = true ∧ o ≠ 0 ∧
  s.get (Reg.tinNominal t) ≠ 0 ∧ s.get (Reg.tinBeta t) ≠ 0 ∧ v = betaTemp o (s.get (Reg.tinNominal t)) (s.get (Reg.tinBeta t)) ∧
  u = (s.set (Reg.tinTemp t) (ofSigned 16 v)).set (Reg.tinTripped t) (flag (toSigned 16 (s.get (Reg.tinTripLimit t)) ≤ v)) := by
  refine ⟨2, 10000, flame.sets [(Reg.tinNominal 2, 10000), (Reg.tinBeta 2, 3435)], _, _, ?_, ?_, ?_, ?_, ?_, rfl, rfl⟩ <;> decide +kernel

theorem witness_inletTempSampleOpen : ∃ (t : Nat) (o : Nat) (s : State) (v : Int) (u : State), t < 4 ∧ s.inletOn = true ∧
  (o = 0 ∨ s.get (Reg.tinNominal t) = 0 ∨ s.get (Reg.tinBeta t) = 0) ∧ v = toSigned 16 (s.draw 16).1 ∧
  u = ((s.draw 16).2.set (Reg.tinTemp t) (ofSigned 16 v)).set (Reg.tinTripped t) (flag (toSigned 16 (s.get (Reg.tinTripLimit t)) ≤ v)) :=
  ⟨2, 0, flame, _, _, ⟨by decide +kernel, by decide +kernel, .inl rfl, rfl, rfl⟩⟩

theorem witness_cpS2Write : ∃ (ctx : Ctx) (value : Nat) (s : State), s.admits ctx 0x2D00 5 false = true ∧ value ≤ 1 ∧
  s.fuses.variant.hasInlet = true ∧ s.claimAccepts ctx (s.get (Reg.outGroup 20)) = true :=
  ⟨.lampA, 1, flame, by decide⟩

theorem witness_cdCommand : ∃ (ctx : Ctx) (k : Nat) (value : Nat) (s : State), s.admits ctx (0x2D10 + k) 1 false = true ∧ k < 4 ∧
  value ≤ 1 ∧ s.fuses.variant.hasInlet = true ∧ s.claimAccepts ctx (s.get (Reg.outGroup (16 + k))) = true :=
  ⟨.lampA, 2, 1, flame, by decide⟩

theorem witness_rampWaitExpire : ∃ (k : Nat) (s : State), k < 4 ∧ s.get (Reg.cdState k) = 2 ∧ s.get (Reg.cdOpenAt k) ≤ s.now :=
  ⟨2, flame.set (Reg.cdState 2) 2, by decide⟩

theorem witness_cdOvercurrent : ∃ (k : Nat) (current : Nat) (s : State), k < 4 ∧
  (s.get (Reg.cdState k) = 1 ∨ s.get (Reg.cdState k) = 2) ∧ 600 < current :=
  ⟨2, 700, flame.set (Reg.cdState 2) 2, by decide⟩

theorem witness_cdOpenLoad : ∃ (k : Nat) (current : Nat) (micros : Nat) (s : State), k < 4 ∧ s.get (Reg.cdState k) = 1 ∧ current < 8 ∧
  10000 ≤ micros :=
  ⟨2, 7, 20000, flame.set (Reg.cdState 2) 1, by decide⟩

theorem witness_cdClearFault : ∃ (ctx : Ctx) (k : Nat) (s : State), s.admits ctx (0x2D10 + k) 8 false = true ∧ k < 4 ∧
  s.fuses.variant.hasInlet = true ∧ s.get (Reg.cdState k) = 3 :=
  ⟨.lampA, 2, flame.set (Reg.cdState 2) 3, by decide⟩

theorem witness_totaliserSample : ∃ (ch : Nat) (m : BusHeard) (s : State) (stamp : List Nat) (t : State), s.canTakes ch m.msg = true ∧
  s.isSample ch m.msg = true ∧ s.busStamp m.age = (stamp, t) :=
  ⟨3, { msg := { fmt := 0, id := 0, data := [1] }, age := 500 }, canThree.sets [(Reg.totChannel, 3), (Reg.totIdentifier, 0)], _, _, ⟨by decide +kernel, by decide +kernel, rfl⟩⟩

theorem witness_sessionOpen : ∃ (ctx : Ctx) (s : State), s.admits ctx 0x2D30 1 false = true ∧ s.fuses.variant.hasInlet = true ∧
  s.get (Reg.msOutcome.of ctx) ≠ outBusy ∧ firstAbort (s.sessionChecks ctx 1) = none ∧ s.get Reg.vltState ≠ 2 ∧
  s.get Reg.drbgStopped ≠ 1 :=
  ⟨.lampA, sealState, by decide⟩

theorem witness_countersign : ∃ (ctx : Ctx) (s : State) (x : Session), s.admits ctx 0x2D30 1 false = true ∧
  s.fuses.variant.hasInlet = true ∧ s.get (Reg.msOutcome.of ctx) ≠ outBusy ∧ firstAbort (s.sessionChecks ctx 2) = none ∧
  s.get Reg.vltState ≠ 2 ∧ s.get Reg.drbgStopped ≠ 1 ∧ s.session = some x ∧ s.get Reg.vltState ≠ 3 :=
  ⟨.lampA, openState, openSession, by decide⟩

theorem witness_countersignDone : ∃ (s : State) (j : SealJob) (k : VaultSlot) (t : State) (u : State) (sig : List Byte) (v : State),
  s.vaultRunning = some (.countersign j) ∧ s.countersignStop = none ∧
  t = s.sealWrite { seq := 0, kind := 3, session := j.session, flags := j.flags, reading := j.reading, postTime := j.postTime, bytes := [] } j.time j.qualifier j.payload ∧
  u = { t with sessions := t.sessions.map (fun y => if y.number = j.session then { y with readings := y.readings + 1 } else y) } ∧
  u.keyAt j.slot = some k ∧ k.alg = 0x13 ∧ sig = padTo 114 (Config.sign 0x13 k.key j.input []) ∧
  v = (u.setBlob (Reg.msCountersignature.of j.ctx) (padTo 132 sig)).set (Reg.msCountersigLength.of j.ctx) sig.length :=
  ⟨{ sealState with vaultRunning := some (.countersign oneSeal), vault := [contractKey, metalKey] }, oneSeal, contractKey, _, _, _, _, ⟨rfl, by decide +kernel, rfl, rfl, rfl, rfl, rfl, rfl⟩⟩

theorem witness_countersignDoneStops : ∃ (_fails : Nat) (s : State) (j : SealJob) (code : Nat), s.vaultRunning = some (.countersign j) ∧
  s.countersignStop = some code :=
  ⟨0, { flame with vaultRunning := some (.countersign oneSeal) }, oneSeal, 0x43, by decide⟩

theorem witness_sessionClose : ∃ (ctx : Ctx) (s : State), s.admits ctx 0x2D30 1 false = true ∧ s.fuses.variant.hasInlet = true ∧
  s.get (Reg.msOutcome.of ctx) ≠ outBusy ∧ firstAbort (s.sessionChecks ctx 3) = none ∧ s.get Reg.vltState ≠ 2 ∧
  s.get Reg.drbgStopped ≠ 1 :=
  ⟨.lampA, openState, by decide⟩

theorem witness_sealClose : ∃ (ctx : Ctx) (s : State), s.admits ctx 0x2D40 3 false = true ∧ s.fuses.variant.hasInlet = true ∧
  s.mode = .trim ∧ s.get Reg.msSealState = 0 ∧ s.get Reg.msConfirm = s.fuses.serial % 2 ^ 32 ∧ s.sealGone = false ∧
  s.get Reg.vltState ≠ 2 ∧ s.get Reg.vltState ≠ 3 :=
  ⟨.lampA, trim, by decide⟩

theorem witness_sealCloseDone : ∃ (s : State) (ctx : Ctx) (key : List Byte) (t : State) (u : State) (v : State),
  s.vaultRunning = some (.sealClose ctx) ∧ s.get Reg.drbgStopped ≠ 1 ∧ s.newKey 0x11 = (key, t) ∧
  u = (t.placeKey { slot := 14, cls := 6, alg := 0x11, policy := 0x4080, generated := true, key := key, pub := publicOf 0x11 key }).sets [(Reg.msSealState,
  2), (Reg.msEventCounter, 1)] ∧
  v = u.sealAppend { seq := 0, kind := 1, bytes := [] } (u.sealPublic ++ beBytes 2 u.fuses.variant.partCode ++ beBytes 4 (u.fuses.serial % 2 ^ 32)) :=
  ⟨{ trim with vaultRunning := some (.sealClose .lampA) }, .lampA, _, _, _, _, ⟨rfl, by decide +kernel, rfl, rfl, rfl⟩⟩

theorem witness_msAcknowledge : ∃ (ctx : Ctx) (value : Nat) (s : State), s.admits ctx 0x2D50 5 false = true ∧
  s.fuses.variant.hasInlet = true ∧ value ≤ s.get Reg.msNextSequence ∧ value < 2 ^ 32 :=
  ⟨.lampA, 3, flame.set Reg.msNextSequence 5, by decide⟩

theorem witness_msExport : ∃ (ctx : Ctx) (value : Nat) (s : State), s.admits ctx 0x2D50 8 false = true ∧
  s.fuses.variant.hasInlet = true ∧ s.get Reg.msExportOutcome ≠ outBusy ∧ value < 2 ^ 32 ∧ s.sealGone = false ∧
  s.sealRecords.any (fun r => r.kind = 2 && r.session = value) = true :=
  ⟨.lampA, 3, { flame with sealRecords := [{ seq := 1, kind := 2, session := 3, bytes := [] }] }, by decide⟩

theorem witness_exportDone : ∃ (s : State) (k : VaultSlot) (t : State) (n : List Byte), s.get Reg.msExportOutcome = outBusy ∧
  s.running = true ∧ s.sealKey = some k ∧ s.random 48 = (n, t) :=
  ⟨{ flame.set Reg.msExportOutcome outBusy with vault := [{ contractKey with slot := 14, alg := 0x11 }] }, { contractKey with slot := 14, alg := 0x11 }, _, _, ⟨by decide +kernel, by decide +kernel, rfl, rfl⟩⟩

theorem witness_vbatSample : ∃ (mv : Nat) (s : State) (m : Nat), s.starting = false ∧ s.mode ≠ .dormant ∧ m = s.vbatMean mv ∧ m ≤ 42500 :=
  ⟨12000, flame, _, ⟨rfl, by decide, rfl, by decide +kernel⟩⟩

theorem witness_overvoltageEntry : ∃ (s : State), s.running = true ∧ s.held Reg.ovSince (350 * ms) = true :=
  ⟨{ flame.set Reg.ovSince 1 with now := sec }, by decide⟩

theorem witness_overvoltageRecovery : ∃ (_env : StartEnv) (s : State), s.starting = false ∧ s.mode = .ember ∧ s.get Reg.crankEntry = 2 ∧
  s.held Reg.ovClearSince (10 * ms) = true :=
  ⟨{}, { ember.sets [(Reg.crankEntry, 2), (Reg.ovClearSince, 1)] with now := sec }, by decide⟩

theorem witness_crankEntry : ∃ (_items : Nat) (s : State), s.running = true ∧ s.held Reg.crankSince (20 * us) = true :=
  ⟨3, { flame.set Reg.crankSince 1 with now := sec }, by decide⟩

theorem witness_crankRecovery : ∃ (_env : StartEnv) (s : State), s.starting = false ∧ s.mode = .ember ∧ s.get Reg.crankEntry = 1 ∧
  s.held Reg.crankClearSince ms = true :=
  ⟨{}, { ember.sets [(Reg.crankEntry, 1), (Reg.crankClearSince, 1)] with now := sec }, by decide⟩

theorem witness_throttleStepDown : ∃ (s : State), s.running = true ∧ 4 < s.get Reg.thrStep ∧
  s.held (Reg.thrDownSince (s.get Reg.thrStep - 1)) (200 * us) = true ∧ s.get Reg.thrChangedAt + 200 * us ≤ s.now :=
  ⟨{ flame.sets [(Reg.thrStep, 8), (Reg.thrDownSince 7, 1)] with now := sec }, by decide⟩

theorem witness_throttleStepUp : ∃ (s : State), s.running = true ∧ s.get Reg.thrStep < 8 ∧
  s.held (Reg.thrUpSince (s.get Reg.thrStep + 1)) (5 * ms) = true :=
  ⟨{ flame.sets [(Reg.thrStep, 6), (Reg.thrUpSince 7, 1)] with now := sec }, by decide⟩

theorem witness_droopDetect : ∃ (levels : List Nat) (s : State) (k : Nat), s.running = true ∧ k < 16 ∧
  levels.getD k s.fuses.coreSetpoint + s.get Reg.thrDroopMargin.latched < s.fuses.coreSetpoint :=
  ⟨(List.replicate 16 700), { flame with fuses := { flame.fuses with coreSetpoint := 750 } }, 5, by decide⟩

theorem witness_supplyFault : ∃ (s : State), s.running = true ∧ 4500 ≤ s.get Reg.supVbat :=
  ⟨flame.set Reg.supVbat 12000, by decide⟩

theorem witness_vpreRetry : ∃ (_env : StartEnv) (s : State), s.starting = false ∧ s.mode = .ember ∧ s.get Reg.crankEntry = 3 ∧
  s.get Reg.vpreFails < 3 ∧ s.get Reg.vpreFaultAt + 10 * ms ≤ s.now :=
  ⟨{}, { ember.set Reg.crankEntry 3 with now := sec }, by decide⟩

theorem witness_pwrRequestDormant : ∃ (ctx : Ctx) (pins : Nat) (s : State), s.admits ctx 0x2100 2 true = true ∧
  s.get Reg.pwrOutcome ≠ outBusy ∧ s.mode.code ≠ 0 ∧ s.requestRefusal 0 pins = none :=
  ⟨.lampA, 0, flame, by decide⟩

theorem witness_pwrRequestEmber : ∃ (ctx : Ctx) (pins : Nat) (s : State), s.admits ctx 0x2100 2 true = true ∧
  s.get Reg.pwrOutcome ≠ outBusy ∧ s.mode.code ≠ 1 ∧ s.requestRefusal 1 pins = none :=
  ⟨.lampA, 0, flame, by decide⟩

theorem witness_pwrRequestGlow : ∃ (ctx : Ctx) (s : State), s.admits ctx 0x2100 2 true = true ∧ s.get Reg.pwrOutcome ≠ outBusy ∧
  s.mode.code ≠ 2 ∧ s.requestRefusal 2 0 = none :=
  ⟨.lampA, (trim.set Reg.trimConfirm 0), by decide⟩

theorem witness_pwrRequestFlame : ∃ (ctx : Ctx) (s : State), s.admits ctx 0x2100 2 true = true ∧ s.get Reg.pwrOutcome ≠ outBusy ∧
  s.mode.code ≠ 3 ∧ s.requestRefusal 3 0 = none :=
  ⟨.lampA, (trim.set Reg.trimConfirm 0), by decide⟩

theorem witness_pwrRequestTrim : ∃ (ctx : Ctx) (s : State), s.admits ctx 0x2100 2 true = true ∧ s.get Reg.pwrOutcome ≠ outBusy ∧
  s.mode.code ≠ 4 ∧ s.requestRefusal 4 0 = none :=
  ⟨.lampA, flame, by decide⟩

theorem witness_modeTransitionDone : ∃ (_env : StartEnv) (s : State) (m : Mode), s.running = true ∧ 2 < s.get Reg.pwrTarget ∧
  m = Mode.ofCode (s.get Reg.pwrTarget - 1) :=
  ⟨{}, flame.set Reg.pwrTarget 3, _, ⟨by decide +kernel, by decide +kernel, rfl⟩⟩

theorem witness_emberLimitExpire : ∃ (s : State), s.starting = false ∧ s.mode = .ember ∧ s.get Reg.pwrEmberLimit ≠ 0 ∧
  s.held Reg.savedAt (s.get Reg.pwrEmberLimit * sec) = true :=
  ⟨{ ember.sets [(Reg.pwrEmberLimit, 1), (Reg.savedAt, 1)] with now := 5 * sec }, by decide⟩

theorem witness_wakeAlarmExpire : ∃ (_env : StartEnv) (s : State), s.starting = false ∧ s.mode = .ember ∧ s.get Reg.wkAlarmAfter ≠ 0 ∧
  s.held Reg.savedAt (s.get Reg.wkAlarmAfter * sec) = true :=
  ⟨{}, { ember.sets [(Reg.wkAlarmAfter, 1), (Reg.savedAt, 1)] with now := 5 * sec }, by decide⟩

theorem witness_wakeEvent : ∃ (sources : List WakeSource) (_env : StartEnv) (s : State) (src : Nat) (info : Nat), s.starting = false ∧
  s.mode = .ember ∧ s.running = false ∧ lowestSource ((sources.filter (s.wakeEnabled true)).map wakeCode) = some (src, info) ∧ src ≤ 3 :=
  ⟨[.pin 0 true true 100], {}, ember.set (Reg.wkPinConfig 0) 1, 1, 0, by decide⟩

theorem witness_cfgSave : ∃ (ctx : Ctx) (s : State), s.admits ctx 0x2140 1 false = true ∧ s.get Reg.cfgOutcome ≠ outBusy ∧
  s.running = true :=
  ⟨.lampA, flame, by decide⟩

theorem witness_cfgSaveDone : ∃ (s : State) (img : CfgImage), s.saving = some img ∧ s.running = true ∧ img.bytes ≤ 3355440 ∧
  img.critBytes ≤ 98240 :=
  ⟨{ flame with saving := some oneImage }, oneImage, by decide⟩

theorem witness_cfgRemainderApplied : ∃ (s : State) (img : CfgImage), s.streaming = some img ∧ s.running = true :=
  ⟨{ flame with streaming := some oneImage }, oneImage, by decide⟩

theorem witness_start : ∃ (_env : StartEnv) (s : State), s.starting = true ∧
  (List.range 16).all (fun g => s.get (Reg.cgState g) ≠ 5) = true :=
  ⟨{}, State.reset, by decide⟩

theorem witness_snuffRestartExpire : ∃ (s : State), s.starting = false ∧ s.mode = .snuffed ∧ s.get Reg.rstSnuffRestart ≠ 0 ∧
  s.get Reg.rstSnuffAutoCount < s.get Reg.rstSnuffAutoLimit ∧ s.held Reg.snuffAt (s.get Reg.rstSnuffRestart * ms) = true :=
  ⟨{ snuffed.sets [(Reg.rstSnuffRestart, 10), (Reg.rstSnuffAutoCount, 0), (Reg.rstSnuffAutoLimit, 3), (Reg.snuffAt, 1)] with now := sec }, by decide⟩

theorem witness_snuffCountClear : ∃ (s : State), s.running = true ∧ s.held Reg.snuffCleanSince (600 * sec) = true :=
  ⟨{ flame.set Reg.snuffCleanSince 1 with now := 600 * sec }, by decide⟩

theorem witness_externalReset : ∃ (micros : Nat) (_s : State), 10 ≤ micros :=
  ⟨12, flame, by decide⟩

theorem witness_rstDevice : ∃ (ctx : Ctx) (s : State), s.admits ctx 0x3180 2 true = true ∧ s.get Reg.rstOutcome ≠ outBusy ∧
  s.get Reg.rstConfirm = s.fuses.serial % 2 ^ 32 :=
  ⟨.lampA, flame, by decide⟩

theorem witness_rstSnuff : ∃ (ctx : Ctx) (s : State), s.admits ctx 0x3180 2 true = true ∧ s.get Reg.rstOutcome ≠ outBusy ∧
  s.get Reg.rstConfirm = s.fuses.serial % 2 ^ 32 ∧ s.mode = .snuffed :=
  ⟨.sdo, snuffed, by decide⟩

theorem witness_rstRestartA : ∃ (ctx : Ctx) (s : State), s.admits ctx 0x3180 2 true = true ∧ s.get Reg.rstOutcome ≠ outBusy ∧
  s.mode ≠ .snuffed ∧ s.alive 0 = false :=
  ⟨.lampA, flame.set (Reg.hbState 0) 2, by decide⟩

theorem witness_rstRestartB : ∃ (ctx : Ctx) (s : State), s.admits ctx 0x3180 2 true = true ∧ s.get Reg.rstOutcome ≠ outBusy ∧
  s.mode ≠ .snuffed ∧ s.alive 1 = false :=
  ⟨.lampA, flame.set (Reg.hbState 1) 2, by decide⟩

theorem witness_clusterRestartDone : ∃ (c : Nat) (s : State), s.running = true ∧ c < 2 ∧ s.get (Reg.clusterRestart c) ≠ 0 ∧
  s.get Reg.rstRestarting = c + 1 :=
  ⟨1, flame.sets [(Reg.clusterRestart 1, 1), (Reg.rstRestarting, 2)], by decide⟩

theorem witness_pilotWatchdog : ∃ (s : State), s.running = true :=
  ⟨flame, by decide⟩

theorem witness_hbBeat : ∃ (ctx : Ctx) (value : Nat) (s : State) (c : Nat), s.admits ctx 0x2E00 1 true = true ∧ clusterOf ctx = some c ∧
  value < 2 ^ 32 ∧ s.get (Reg.clusterRestart c) = 0 ∧ s.get Reg.pwrTarget ≠ 2 ∧ s.get Reg.chmState = 1 ∧ s.get (Reg.hbState c) = 1 :=
  ⟨.lampB, 1, flame.sets [(Reg.hbState 1, 1), (Reg.chmState, 1)], 1, by decide⟩

theorem witness_heartbeatTimeout : ∃ (c : Nat) (s : State), c < 2 ∧ s.running = true ∧ s.alive c = true ∧
  monitorOver s.now (max (s.get (Reg.hbMailAt c)) (s.get (Reg.hbPilotAt c))) (100 * us) (40 * us) = true :=
  ⟨1, { flame.set (Reg.hbState 1) 1 with now := sec }, by decide⟩

theorem witness_cgClaim : ∃ (ctx : Ctx) (g : Nat) (value : Nat) (s : State) (c : Nat), s.admits ctx (0x2E10 + g) 3 true = true ∧ g < 16 ∧
  clusterOf ctx = some c ∧ value < 256 :=
  ⟨.lampB, 3, 7, flame.set (Reg.hbState 1) 1, 1, by decide⟩

theorem witness_outCommand : ∃ (ctx : Ctx) (o : Nat) (value : Nat) (s : State), s.admits ctx (0x2E40 + o) 1 true = true ∧ o < 16 ∧
  value ≤ 1 ∧ s.claimAccepts ctx (s.get (Reg.outGroup o)) = true :=
  ⟨.lampA, 3, 1, flame, by decide⟩

theorem witness_holdExpire : ∃ (g : Nat) (s : State), g < 16 ∧ s.mode ≠ .dormant ∧ s.get (Reg.cgState g) = 5 ∧
  s.get (Reg.cgHoldAt g) + s.get (Reg.cgHoldTime g) * us < s.now :=
  ⟨3, { flame.set (Reg.cgState 3) 5 with now := sec }, by decide⟩

theorem witness_twinFramePeriodic : ∃ (s : State), s.claimLink = true ∧
  (s.get Reg.twSentAt = 0 ∨ s.get Reg.twSentAt - 1 + 250 * us ≤ s.now) ∧ s.mode ≠ .snuffed :=
  ⟨twinState, by decide⟩

theorem witness_twinFrameReceive : ∃ (bytes : List Byte) (s : State) (p : List Byte), s.claimHeard = true ∧
  s.twinValid false bytes = some p :=
  ⟨twinBytes, twinState, (twinBytes.take 39), by decide +kernel⟩

theorem witness_twinTimeout : ∃ (s : State), s.claimLink = true ∧ s.get Reg.twState = 2 ∧
  monitorOver s.now (max (s.get Reg.twLinkAt) (s.get Reg.twStreamAt)) (250 * us) (150 * us) = true :=
  ⟨{ twinState.set Reg.twState 2 with now := sec }, by decide⟩

theorem witness_heartbeatPathFault : ∃ (c : Nat) (s : State), c < 2 ∧ s.running = true ∧ s.alive c = true ∧
  bitOf (s.get Reg.hbPathFaults) (2 * c) = false ∧ monitorOver s.now (s.get (Reg.hbMailAt c)) (100 * us) 0 = true ∧
  monitorOver s.now (s.get (Reg.hbPilotAt c)) (100 * us) 0 = false :=
  ⟨1, { flame.sets [(Reg.hbState 1, 1), (Reg.hbPilotAt 1, sec)] with now := sec }, by decide⟩

theorem witness_twinPathFault : ∃ (s : State), s.claimLink = true ∧ s.get Reg.twState = 2 ∧ bitOf (s.get Reg.hbPathFaults) 4 = false ∧
  monitorOver s.now (s.get Reg.twStreamAt) (250 * us) 0 = true ∧ monitorOver s.now (s.get Reg.twLinkAt) (250 * us) 0 = false :=
  ⟨{ twinState.sets [(Reg.twState, 2), (Reg.twLinkAt, sec)] with now := sec }, by decide⟩

theorem witness_errorRecordWrite : ∃ (s : State) (r : Report) (rest : List Report) (t : State), s.running = true ∧
  s.get Reg.errWroteAt = 0 ∧ s.reports = r :: rest ∧ s.errLog.length < logRoom ∧
  t = ({ s with reports := rest } : State).set Reg.errWroteAt (s.now + 1) := by
  refine ⟨{ flame with reports := [oneReport] }, oneReport, [], _, ?_, ?_, rfl, ?_, rfl⟩ <;> decide +kernel

theorem witness_errorLogCopy : ∃ (s : State) (r : Record), s.running = true ∧
  s.errLog.find? (fun r => s.get Reg.errCopied ≤ r.seq) = some r ∧ s.errFlash.length < flashLogRoom :=
  ⟨{ flame with errLog := [{ seq := 3, report := oneReport }] }, { seq := 3, report := oneReport }, by decide⟩

theorem witness_errAcknowledge : ∃ (ctx : Ctx) (value : Nat) (s : State), s.admits ctx 0x3100 2 true = true ∧
  value ≤ s.get Reg.errNextSequence ∧ value < 2 ^ 32 :=
  ⟨.lampA, 3, flame.set Reg.errNextSequence 5, by decide⟩

theorem witness_errReport : ∃ (ctx : Ctx) (bytes : List Byte) (s : State), s.admits ctx 0x3100 6 true = true ∧ bytes.length = 16 :=
  ⟨.lampA, (List.replicate 16 7), flame, by decide⟩

theorem witness_taperOpen : ∃ (frame : List Byte) (s : State) (h : TaperHead) (t : State), s.taperHead frame = some h ∧ h.type = 1 ∧
  s.openRefusal h.a = none ∧ t = (s.setIvtas s.target []).sets [(Reg.slotState s.target, 2), (Reg.updTaperState, 1), (Reg.updTaperBytes,
  0), (Reg.updSession, h.session), (Reg.updPeer, h.peer), (Reg.updLength, h.a), (Reg.updLastFrame, s.now + 1), (Reg.updUnacked, 0),
  (Reg.updOutcome, outBusy)] :=
  ⟨(taperFrame 1 1280 0), openTaper, _, _, ⟨rfl, rfl, by decide +kernel, rfl⟩⟩

theorem witness_taperData : ∃ (frame : List Byte) (s : State) (h : TaperHead), s.taperHead frame = some h ∧ h.type = 2 ∧
  s.ofSession h = true ∧ s.get Reg.updTaperState = 1 ∧ h.a = s.get Reg.updTaperBytes ∧ h.b % 64 = 0 ∧ h.b ≤ 1408 ∧ h.b ≤ h.data.length ∧
  h.a + h.b ≤ s.get Reg.updLength ∧ s.get Reg.updUnacked < 15 := by
  refine ⟨(taperFrame 2 0 0), inTaper, _, rfl, rfl, ?_, ?_, ?_, ?_, ?_, ?_, ?_, ?_⟩ <;> decide +kernel

theorem witness_taperClose : ∃ (frame : List Byte) (s : State) (h : TaperHead), s.taperHead frame = some h ∧ h.type = 3 ∧
  s.ofSession h = true ∧ s.get Reg.updTaperState = 1 ∧ s.get Reg.updTaperBytes = s.get Reg.updLength := by
  refine ⟨(taperFrame 3 0 0), inTaper.set Reg.updLength 0, _, rfl, rfl, ?_, ?_, ?_⟩ <;> decide +kernel

theorem witness_taperCloseVerdict : ∃ (s : State) (t : State) (u : State), s.running = true ∧ s.get Reg.updTaperState = 2 ∧
  t = s.sets [(Reg.updTaperState, 0), (Reg.updVerdictAt, s.now + 1)] ∧
  u = (t.ivtasVerdict (t.ivtas t.target)).elim (t.sets [(Reg.slotState t.target, 3),
  (Reg.updStagedVersion, ivtasVersion (t.ivtas t.target)),
  (Reg.updOutcome, outDone)]) (fun code => (t.sets [(Reg.slotState t.target, 7), (Reg.updOutcome, code)]).reportObj 13 10 0x3000 0x05 code) :=
  ⟨inTaper.set Reg.updTaperState 2, _, _, ⟨by decide +kernel, by decide +kernel, rfl, rfl⟩⟩

theorem witness_taperAbort : ∃ (frame : List Byte) (s : State) (h : TaperHead), s.taperHead frame = some h ∧ h.type = 4 ∧
  s.ofSession h = true :=
  ⟨(taperFrame 4 0 0), inTaper, _, ⟨rfl, rfl, by decide +kernel⟩⟩

theorem witness_taperStatus : ∃ (frame : List Byte) (s : State) (h : TaperHead), s.taperHead frame = some h ∧ h.type = 5 ∧
  s.ofSession h = true :=
  ⟨(taperFrame 5 0 0), inTaper, _, ⟨rfl, rfl, by decide +kernel⟩⟩

theorem witness_taperSessionTimeout : ∃ (s : State), s.running = true ∧ s.get Reg.updTaperState = 1 ∧
  s.held Reg.updLastFrame (5 * sec) = true :=
  ⟨{ inTaper.set Reg.updLastFrame 1 with now := 5 * sec }, by decide⟩

theorem witness_taperAckTimer : ∃ (s : State), s.running = true ∧ s.get Reg.updTaperState = 1 ∧ 0 < s.get Reg.updUnacked ∧
  s.held Reg.updLastData ms = true :=
  ⟨{ inTaper.sets [(Reg.updUnacked, 3), (Reg.updLastData, 1)] with now := sec }, by decide⟩

theorem witness_updConfirm : ∃ (ctx : Ctx) (s : State), s.admits ctx 0x3000 0x0A true = true ∧ s.trial = true ∧
  ivtasRaises s.activeIvtas = false :=
  ⟨.lampA, flame.set (Reg.slotState 0) 5, by decide⟩

theorem witness_updConfirmRaises : ∃ (ctx : Ctx) (s : State) (t : State), s.admits ctx 0x3000 0x0A true = true ∧ s.trial = true ∧
  ivtasRaises s.activeIvtas = true ∧ t = (s.sets [(Reg.slotState (s.get Reg.updActiveSlot), 4), (Reg.updTrialAt, 0),
  (Reg.updOutcome, outDone)]).writeSelector ∧ t.get Reg.updFloor < ivtasVersion s.activeIvtas ∧ t.get Reg.updFloorStepsLeft ≠ 0 := by
  refine ⟨.lampA, { flame.set (Reg.slotState 0) 5 with ivtasA := [0, 0, 0, 0, 1, 1, 0, 0, 7] }, _, ?_, ?_, ?_, rfl, ?_, ?_⟩ <;> decide +kernel

theorem witness_trialTimeout : ∃ (s : State) (t : State) (b : Bool) (u : State), s.running = true ∧ s.trial = true ∧
  s.held Reg.updTrialAt (s.get Reg.updTrialTime * ms + 2000) = true ∧ s.fallBack = (t, b) ∧ u = t.set Reg.updTrialAt 0 := by
  refine ⟨{ flame.sets [(Reg.slotState 0, 5), (Reg.updTrialAt, 1)] with now := 4000 * sec }, _, _, _, ?_, ?_, ?_, rfl, rfl⟩ <;> decide +kernel

theorem witness_updPrepare : ∃ (ctx : Ctx) (s : State), s.admits ctx 0x3000 4 true = true ∧ s.updArmed = false ∧
  s.get Reg.updTaperState = 0 ∧ s.get Reg.updErasing ≠ 1 :=
  ⟨.lampA, flame, by decide⟩

theorem witness_prepareDone : ∃ (s : State), s.running = true ∧ s.get Reg.updErasing = 1 :=
  ⟨flame.set Reg.updErasing 1, by decide⟩

theorem witness_frontCommand : ∃ (c : Instr) (rest : List Instr) (s : State), s.pending = c :: rest :=
  ⟨.start {}, [], { pending := [.start {}] }, rfl⟩

theorem witness_emptyQueue : ∃ s : State, s.pending = [] :=
  ⟨flame, rfl⟩

theorem witness_clockRuns : ∃ s : State, s.pending = [] ∧ s.lanternUp = true ∧ s.get (Reg.domEnable 3) = 1 :=
  ⟨flame.set (Reg.domEnable 3) 1, rfl, by decide, by decide⟩

theorem witness_aStep : ∃ s t : State, step s = .next t :=
  ⟨flame, flame.tick, step_of_idle _ rfl⟩

theorem witness_unitPresence : ∃ s t : State, s.fuses.variant = .kvt6408 ∧ step s = .next t :=
  ⟨{ fuses := { variant := .kvt6408 } }, _, rfl, step_of_idle _ rfl⟩

theorem witness_canonical : ∃ s t : State, s.canonical = true ∧ step s = .next t :=
  ⟨memState, _, by decide, step_of_idle _ rfl⟩

theorem witness_parts : ∃ (c : Instr) (s t : State) (p : Part), exec c s = .next t ∧ p ∉ c.parts :=
  ⟨.snuffCountClear, flame, _, .mem, rfl, by decide⟩

theorem witness_refusedCommand : ∃ (c : Instr) (ctx : Ctx) (s t : State), c.accessPath = some ctx ∧ exec c s = .next t ∧ t.resp.abort = 0x06090030 :=
  ⟨.tbSnapshot .lampA 5, .lampA, flame, _, rfl, rfl, by decide⟩

theorem witness_admittedCommand : ∃ (c : Instr) (ctx : Ctx) (s t : State), c.accessPath = some ctx ∧ exec c s = .next t ∧ t.resp.abort = 0 :=
  ⟨.tbSnapshot .lampA 4, .lampA, flame, _, rfl, rfl, by decide⟩

theorem witness_refusedWrite : ∃ (s t : State), (0x2000 : Nat) ≠ 0x2D20 ∧ (0x2000 : Nat) ≠ 0x2D40 ∧ selfCursor 0x2000 4 = false ∧ exec (.generalWrite .debug 0x2000 4 (.store 1) false) s = .next t ∧ t.resp.abort = 0x06010002 := by
  refine ⟨flame, _, ?_, ?_, ?_, rfl, ?_⟩ <;> decide +kernel

theorem witness_readOnly : ∃ (s : State) (p : Place), s.answers .lampA = true ∧ selfCursor 0x2000 4 = false ∧ s.place 0x2000 4 (s.selectedRow .lampA 0x2000) = p ∧ (∀ a, p ≠ .missing a) ∧ p.acc = .ro := by
  refine ⟨flame, .object ⟨0x2000, 1, .dev, 0x04, 0x04, .u 8, .ro, true, false, []⟩ ⟨.dev, 0, 4, 0, 0⟩, ?_, ?_, ?_, (by intro a h; cases h), ?_⟩ <;> decide +kernel

theorem witness_constant : ∃ (s : State) (p : Place), s.answers .lampA = true ∧ s.place 0x1018 4 (s.selectedRow .lampA 0x1018) = p ∧ (∀ a, p ≠ .missing a) ∧ p.acc = .fixed := by
  refine ⟨flame, .object ⟨0x1018, 1, .com, 0x04, 0x04, .u 4, .fixed, true, false, []⟩ ⟨.com, 0, 4, 0, 0⟩, ?_, ?_, (by intro a h; cases h), ?_⟩ <;> decide +kernel

theorem witness_writeOnly : ∃ (s : State) (p : Place), s.answers .lampA = true ∧ s.cursor .lampA = (0x2200, 3, 0) ∧ selfCursor 0x2200 3 = false ∧ s.place 0x2200 3 (s.selectedRow .lampA 0x2200) = p ∧ (∀ a, p ≠ .missing a) ∧ p.acc = .wo := by
  refine ⟨flame.set (Reg.devLongSelect.of .lampA) 0x2200030000000000, .object ⟨0x2200, 1, .tb, 0x03, 0x03, .u 1, .wo, false, false, [.rng 0 4 0x06090030]⟩ ⟨.tb, 0, 3, 0, 0⟩, ?_, ?_, ?_, ?_, (by intro a h; cases h), ?_⟩ <;> decide +kernel

theorem witness_trimOnly : ∃ (s : State) (o : Obj) (r : Reg), s.answers .lampA = true ∧ selfCursor 0x2500 1 = false ∧ s.place 0x2500 1 (s.selectedRow .lampA 0x2500) = .object o r ∧ (Place.object o r).acc = .rwt ∧ o.acc = .rwt ∧ s.ownRow .lampA r (o.ty.valueOf (.store 1)) (wholeBytes o.ty (.store 1)) = none ∧ s.mode ≠ .trim ∧ s.linkBars .lampA o.wick = false := by
  refine ⟨flame, ⟨0x2500, 1, .buf, 0x01, 0x01, .u 1, .rwt, false, false, [.rng 0 1 0x06090030]⟩, ⟨.buf, 0, 1, 0, 0⟩, ?_, ?_, ?_, ?_, ?_, by rfl, ?_, ?_⟩ <;> decide +kernel

theorem witness_absentUnit : ∃ s : State, s.hasIndex 0x2D20 = false ∧ ownerAt s.fuses.variant 0x2D20 = none ∧ objAt s.fuses.variant 0x2D20 1 = none ∧ s.answers .lampA = true ∧ selfCursor 0x2D20 1 = false := by
  refine ⟨{ flame with fuses := { variant := .kvt6408 } }, ?_, ?_, ?_, ?_, ?_⟩ <;> decide +kernel

theorem witness_commitMode : ∃ (s : State) (o : Owner), ownerAt s.fuses.variant 0x4200 = some o ∧ (0 : Nat) ∉ o.modes ∧ (1 : Nat) ∉ o.modes ∧ s.admits .lampA 0x4200 0xF8 (o.grp = .upd) = true := by
  refine ⟨flame, ⟨.gcl, 0⟩, ?_, ?_, ?_, ?_⟩ <;> decide

theorem witness_commitModeOne : ∃ (s : State) (o : Owner), ownerAt s.fuses.variant 0x4010 = some o ∧ (2 : Nat) ∉ o.modes ∧ s.admits .sdo 0x4010 0xF8 (o.grp = .upd) = true := by
  refine ⟨flame, ⟨.conn, 0⟩, ?_, ?_, ?_⟩ <;> decide

theorem witness_misaligned : ∃ s t : State, s.answers .lampB = true ∧ exec (.generalWrite .lampB 0x2F4F 4 .misaligned false) s = .next t :=
  ⟨flame, _, by decide, rfl⟩

theorem witness_misalignedObject : ∃ (s : State) (o : Obj) (r : Reg), s.answers .lampB = true ∧ selfCursor 0x2F4F 4 = false ∧ s.place 0x2F4F 4 (s.selectedRow .lampB 0x2F4F) = .object o r ∧ o.acc ≠ .ro ∧ o.acc ≠ .fixed ∧ (Place.object o r).acc = o.acc ∧ s.linkBars .lampB o.wick = false ∧ (s.running || o.wick) = true ∧ s.stateAllows .lampB 0x2F4F o r = true ∧ s.ownRow .lampB r (o.ty.valueOf .misaligned) (wholeBytes o.ty .misaligned) = none := by
  refine ⟨flame, ⟨0x2F40, 16, .rg, 0x04, 0x04, .u 1, .rwp, false, false, [.rng 0 14 0x06090031]⟩, ⟨.rg, 15, 4, 0, 0⟩, ?_, ?_, ?_, ?_, ?_, ?_, ?_, ?_, ?_, rfl⟩ <;> decide +kernel

theorem witness_keptResponse : ∃ (s : State) (e : Entry) (b p : List Byte) (k : CoathKept), s.answers .coath = true ∧ s.hostHead 31 = some (e, b) ∧ s.coathPayload b (parseFrame b) = some p ∧ beAt p 1 1 = 1 ∧ s.coathKept.find? (fun k => k.tag = beAt p 4 4 && k.source = beBytes 16 (parseFrame b).srcIp && k.port = (parseFrame b).sport) = some k := by
  refine ⟨{ coathState 1 with coathKept := [keptOne] }, coathEntry, coathFrame 1, coathPacket 1, keptOne, ?_, ?_, ?_, ?_, ?_⟩ <;> decide

theorem witness_newRequest : ∃ (s : State) (e : Entry) (b p : List Byte), s.answers .coath = true ∧ s.hostHead 31 = some (e, b) ∧ s.coathPayload b (parseFrame b) = some p ∧ beAt p 1 1 = 5 ∧ s.coathKept.find? (fun k => k.tag = beAt p 4 4 && k.source = beBytes 16 (parseFrame b).srcIp && k.port = (parseFrame b).sport) = none := by
  refine ⟨coathState 5, coathEntry, coathFrame 5, coathPacket 5, ?_, ?_, ?_, ?_, ?_⟩ <;> decide

theorem witness_sdoTimeout : ∃ (s : State) (x : SdoTransfer), s.sdo = some x ∧ s.answers .sdo = true ∧ x.since + 1000000000000 ≤ s.now := by
  refine ⟨{ onCan with sdo := some oneTransfer, now := 1000000000000 }, oneTransfer, ?_, ?_, ?_⟩ <;> decide

theorem witness_sdoNotYet : ∃ (s : State) (x : SdoTransfer), s.sdo = some x ∧ s.answers .sdo = true ∧ s.now < x.since + 1000000000000 := by
  refine ⟨{ onCan with sdo := some oneTransfer, now := 999999999999 }, oneTransfer, ?_, ?_, ?_⟩ <;> decide

theorem witness_sdoNewDownload : ∃ (m : BusMsg) (s : State), s.sdo.isSome = true ∧ s.canTakes 2 m = true ∧ s.sdoRequest 2 m = true ∧ sdoCommand m = 1 := by
  refine ⟨sdoMsg 1, { onCan with sdo := some oneTransfer }, ?_, ?_, ?_, ?_⟩ <;> decide

theorem witness_sdoNewUpload : ∃ (m : BusMsg) (s : State), s.sdo.isSome = true ∧ s.canTakes 2 m = true ∧ s.sdoRequest 2 m = true ∧ sdoCommand m = 2 := by
  refine ⟨sdoMsg 2, { onCan with sdo := some oneTransfer }, ?_, ?_, ?_, ?_⟩ <;> decide

theorem witness_errorRegister : ∃ (ctx : Ctx) (s : State), s.linkBars ctx true = false :=
  ⟨.lampA, flame, by decide⟩

theorem witness_acknowledge : ∃ (v : Nat) (s : State), s.admits .lampA 0x3100 2 true = true ∧ v < 2 ^ 32 ∧ v = s.get Reg.errNextSequence := by
  refine ⟨7, flame.set Reg.errNextSequence 7, ?_, ?_, ?_⟩ <;> decide

theorem witness_acknowledgeAbove : ∃ (v : Nat) (s : State), s.admits .lampA 0x3100 2 true = true ∧ v < 2 ^ 32 ∧ s.get Reg.errNextSequence < v := by
  refine ⟨8, flame.set Reg.errNextSequence 7, ?_, ?_, ?_⟩ <;> decide

theorem witness_ownerKeySet : ∃ s : State, s.admits .lampA 0x3000 0x0F true = true ∧ s.ownerKey ≠ List.replicate 97 0 :=
  ⟨openTaper, by decide, by decide⟩

theorem witness_ownerKeyClear : ∃ s : State, s.admits .lampA 0x3000 0x0F true = true ∧ s.ownerKey = List.replicate 97 0 ∧ s.mode ≠ .trim := by
  refine ⟨flame, ?_, ?_, ?_⟩ <;> decide

theorem witness_ownerKeyShort : ∃ (s : State) (b : List Byte), s.admits .lampA 0x3000 0x0F true = true ∧ s.ownerKey = List.replicate 97 0 ∧ s.mode = .trim ∧ b.length < 97 := by
  refine ⟨trim, List.replicate 96 0, ?_, ?_, ?_, ?_⟩ <;> decide

theorem witness_ownerKeyLong : ∃ (s : State) (b : List Byte), s.admits .lampA 0x3000 0x0F true = true ∧ s.ownerKey = List.replicate 97 0 ∧ s.mode = .trim ∧ 97 < b.length := by
  refine ⟨trim, List.replicate 98 0, ?_, ?_, ?_, ?_⟩ <;> decide

theorem witness_domainDisable : ∃ (s : State) (a : Arm), s.admits .lampA 0x2213 1 false = true ∧ s.get (Reg.domEnable 3) ≠ 0 ∧ a ∈ s.armed ∧ a.kindle = true ∧ a.domain = 3 ∧ ownerAt s.fuses.variant 0x4100 = some a.owner := by
  refine ⟨{ flame.set (Reg.domEnable 3) 1 with armed := [⟨⟨.saRow, 0⟩, true, 5, 3⟩] }, ⟨⟨.saRow, 0⟩, true, 5, 3⟩, ?_, ?_, ?_, ?_, ?_, ?_⟩ <;> decide

theorem witness_armInDisabledDomain : ∃ (s : State) (o : Owner), ownerAt s.fuses.variant 0x4000 = some o ∧ s.admits .lampA 0x4000 0xFB (o.grp = .upd) = true ∧ o.grp ≠ .fv ∧ (o.grp = .mm → o.inst % 2 = 0 ∨ s.chainLower (o.inst - 1) = false) ∧ (s.unarm o).commitRefusal o = none ∧ s.get (Reg.commitWhen o) = 2 ∧ s.get (Reg.domEnable (s.get (Reg.kindleDomain o))) = 0 := by
  refine ⟨flame.sets [((Reg.commitWhen ⟨.mm, 0⟩), 2), (Reg.domEnable 0, 0)], ⟨.mm, 0⟩, ?_, ?_, ?_, ?_, ?_, ?_, ?_⟩ <;> decide

theorem witness_pendingWrite : ∃ (s : State) (o : Obj) (r : Reg), s.answers .lampA = true ∧ selfCursor 0x2F4F 4 = false ∧ s.place 0x2F4F 4 (s.selectedRow .lampA 0x2F4F) = .object o r ∧ (Place.object o r).acc = .rwp ∧ o.acc = .rwp ∧ s.linkBars .lampA o.wick = false ∧ o.ty.isBytes = false ∧ s.ownRow .lampA r (o.ty.valueOf (.store 14)) (wholeBytes o.ty (.store 14)) = none ∧ (s.running || o.wick) = true ∧ s.stateAllows .lampA 0x2F4F o r = true ∧ s.lateAbort o r (.store 14) = none ∧ s.conflict r (o.ty.valueOf (.store 14)) = false ∧ s.ownersOf r = [⟨.rg, 15⟩] ∧ s.get (Reg.handedAt ⟨.rg, 15⟩) = s.now + 1 := by
  refine ⟨flame.set (Reg.handedAt ⟨.rg, 15⟩) 1, ⟨0x2F40, 16, .rg, 0x04, 0x04, .u 1, .rwp, false, false, [.rng 0 14 0x06090031]⟩, ⟨.rg, 15, 4, 0, 0⟩, ?_, ?_, ?_, ?_, ?_, ?_, ?_, by rfl, ?_, ?_, ?_, ?_, ?_, ?_⟩ <;> decide +kernel

theorem witness_commitNow : ∃ (s : State) (o : Owner), ownerAt s.fuses.variant 0x4402 = some o ∧ s.admits .lampA 0x4402 0xFB (o.grp = .upd) = true ∧ (o.grp = .mm → o.inst % 2 = 0 ∨ s.chainLower (o.inst - 1) = false) ∧ (o.grp = .fv → s.fvWindowsOk = true) ∧ (s.unarm o).commitRefusal o = none ∧ s.get (Reg.commitWhen o) = 0 ∧ o.grp ≠ .upd ∧ s.owns o (Reg.fvConfig 0) = true := by
  refine ⟨flame.pendSet (Reg.fvConfig 0) 5, ⟨.fv, 0⟩, ?_, ?_, ?_, ?_, ?_, ?_, ?_, ?_⟩ <;> decide

theorem witness_bankCommitted : ∃ (s : State) (o : Owner), ownerAt s.fuses.variant 0x4000 = some o ∧ s.admits .lampA 0x4000 0xFB (o.grp = .upd) = true ∧ o.grp = .mm ∧ o.inst % 2 = 0 ∧ (o.grp = .fv → s.fvWindowsOk = true) ∧ (s.unarm o).commitRefusal o = none ∧ s.get (Reg.commitWhen o) = 0 := by
  refine ⟨flame.set (Reg.bankPause 0) 1, ⟨.mm, 0⟩, ?_, ?_, ?_, ?_, ?_, ?_, ?_⟩ <;> decide

theorem witness_bankInPause : ∃ s : State, s.bankInPause = some 3 ∧ s.get (Reg.bankFlipped 3) = 0 :=
  ⟨flame.set (Reg.bankPause 3) 1, by decide, by decide⟩

theorem witness_vaultKeys : ∃ s t : State, exec .vaultCommandDone s = .next t ∧ contractKey ∈ t.vault ∧ s.keyAt contractKey.slot ≠ none :=
  ⟨sealState, sealState, rfl, by decide, by decide⟩

theorem witness_freshness : ∃ (s : State) (key : List Byte), s.gwKeyBytes (s.fvRow 0).key = some key ∧ (s.fvRow 0).valid = true ∧ (s.fvRow 0).generates = true ∧ s.get (Reg.fvValue 0) = 2 ^ 64 - 2 ∧ s.running = true := by
  refine ⟨{ flame.sets [(Reg.fvConfig 0, 2 ^ 31 + 2 ^ 30), (Reg.fvValue 0, 2 ^ 64 - 2)] with gwKeys := [(0, 1, [7])] }, [7], ?_, ?_, ?_, ?_, ?_⟩ <;> decide

theorem witness_freshnessEnd : ∃ (s : State) (key : List Byte), s.gwKeyBytes (s.fvRow 0).key = some key ∧ (s.fvRow 0).valid = true ∧ (s.fvRow 0).generates = true ∧ s.get (Reg.fvValue 0) = 2 ^ 64 - 1 := by
  refine ⟨{ flame.sets [(Reg.fvConfig 0, 2 ^ 31 + 2 ^ 30), (Reg.fvValue 0, 2 ^ 64 - 1)] with gwKeys := [(0, 1, [7])] }, [7], ?_, ?_, ?_, ?_⟩ <;> decide

theorem witness_memoryStored : ∃ s t : State, s.running = true ∧ ¬ ((3 : Nat) < 2 ∧ inPlic dramBase = true) ∧ s.inDram dramBase 2 = true ∧ exec (.memoryWrite 3 dramBase [1, 2] false false) s = .next t ∧ t.bus.fault = false := by
  refine ⟨memState, _, ?_, ?_, ?_, rfl, ?_⟩ <;> decide

theorem witness_memoryRefused : ∃ s t : State, s.running = true ∧ exec (.memoryWrite 3 dramBase [1, 2] false false) s = .next t ∧ s.inDram dramBase 2 = true ∧ t.bus.fault = true := by
  refine ⟨flame, _, ?_, rfl, ?_, ?_⟩ <;> decide

theorem witness_railFault : ∃ s : State, s.running = true ∧ 4500 ≤ s.get Reg.supVbat :=
  ⟨flame.set Reg.supVbat 4500, by decide, by decide⟩

theorem witness_tagFailure : ∃ (s : State) (line : Nat), s.running = true ∧ s.memCheck 3 dramBase 4 false false = none ∧ s.failingLine (linesOf dramBase 4) true = some line := by
  refine ⟨memState, dramBase, ?_, ?_, ?_⟩ <;> decide

theorem witness_snuffed : ∃ (c : Instr) (s t : State), exec c s = .next t ∧ s.mode ≠ .snuffed ∧ t.mode = .snuffed := by
  refine ⟨.supplyFault 1, flame.set Reg.supVbat 4500, ?t, ?h, ?d, ?k⟩
  case h => rw [exec_supplyFault]; unfold execSupplyFault; rw [if_neg (by decide), if_neg (by decide)]
  case d => decide
  case k => decide +kernel

theorem witness_unanswered : ∃ (c : Instr) (s : State), c.accessPath = some .coath ∧ s.mode = .snuffed ∧ s.starting = false :=
  ⟨.evPulse .coath 3, snuffed, rfl, rfl, rfl⟩

theorem witness_unansweredSleep : ∃ (c : Instr) (s : State), c.accessPath = some .sdo ∧ s.mode = .ember :=
  ⟨.evPulse .sdo 3, ember, rfl, rfl⟩

theorem witness_extensionWord : (5 : Nat) < 32 ∧ packetWord 2 0 0 0 (0x0B + 5 * 2 ^ 7) = some (.spIn 2 5) :=
  ⟨by decide, by decide⟩

theorem witness_illegalFunct7 : ∃ w : Nat, w % 2 ^ 7 = 0x2B ∧ w / 2 ^ 25 % 2 ^ 7 ≠ 0 :=
  ⟨0x2B + 2 ^ 25, by decide, by decide⟩

theorem witness_illegalFunct3 : ∃ w : Nat, w % 2 ^ 7 = 0x2B ∧ w / 2 ^ 12 % 2 ^ 3 ≠ 0 :=
  ⟨0x2B + 2 ^ 12, by decide, by decide⟩

end Sys2Proof.Machine
end

section
/-! The statements of the scope: the fuses, on which the units of a variant rest, and the indices of units that a variant does not
have. -/
namespace Sys2Proof.Machine

/-! ## Every command within its parts -/

/-- The bits of a list of parts, in the order of `Part`. -/
def partsMask (l : List Part) : Nat := l.foldr (fun p m => 2 ^ p.ctorIdx ||| m) 0

/-- A part is known by its bit. -/
theorem Part.ctorIdx_inj {p q : Part} (h : p.ctorIdx = q.ctorIdx) : p = q := by
  rw [← Part.ofNat_ctorIdx p, h, Part.ofNat_ctorIdx]

/-- A part that a list does not name has no bit in its mask. -/
theorem testBit_partsMask_of_not_mem {l : List Part} {p : Part} (h : p ∉ l) : (partsMask l).testBit p.ctorIdx = false := by
  induction l with
  | nil => exact Nat.zero_testBit _
  | cons q l ih =>
    obtain ⟨hq, hl⟩ := List.ne_and_not_mem_of_not_mem_cons h
    have hne : q.ctorIdx ≠ p.ctorIdx := fun e => hq (Part.ctorIdx_inj e).symm
    show (2 ^ q.ctorIdx ||| partsMask l).testBit p.ctorIdx = false
    rw [Nat.testBit_or, Nat.testBit_two_pow_of_ne hne, ih hl]
    rfl

/-- A change within a list of parts leaves every other part as it was. -/
theorem Within.same_of_not_mem {l : List Part} {s t : State} (h : Within (partsMask l) s t) {p : Part} (hp : p ∉ l) : p.same s t :=
  h.same p (testBit_partsMask_of_not_mem hp)

/-- Every command touches the parts that its row of the table of parts names, and no other. -/
theorem exec_within (c : Instr) (s : State) : OWithin (partsMask c.parts) s (exec c s) := by
  cases c
  all_goals dsimp only [Instr.parts]
  case generalWrite ctx index sub data sameCycle => exact (execGeneralWrite_frame ctx index sub data sameCycle s).mono rfl
  case longDataWrite ctx value => exact (execLongDataWrite_frame ctx value s).mono rfl
  case longDataRead ctx => exact (execLongDataRead_frame ctx s).mono rfl
  case commit ctx index => exact (execCommit_frame ctx index s).mono rfl
  case disarm ctx index => exact (execDisarm_frame ctx index s).mono rfl
  case discard ctx index => exact (execDiscard_frame ctx index s).mono rfl
  case boundaryHandover index => exact (execBoundaryHandover_frame index s).mono rfl
  case kindleFire d => exact (execKindleFire_frame d s).mono rfl
  case evPulse ctx value => exact (execEvPulse_frame ctx value s).mono rfl
  case eventSidebandDeliver toWick input => exact (execEventSidebandDeliver_frame toWick input s).mono rfl
  case ecntClear ctx n value => exact (execEcntClear_frame ctx n value s).mono rfl
  case irqClaim target => exact (execIrqClaim_frame target s).mono rfl
  case irqComplete target source => exact (execIrqComplete_frame target source s).mono rfl
  case sdoInitiateDownload ch m => exact (execSdoInitiateDownload_frame ch m s).mono rfl
  case sdoInitiateUpload ch m => exact (execSdoInitiateUpload_frame ch m s).mono rfl
  case sdoDownloadSegment ch m => exact (execSdoDownloadSegment_frame ch m s).mono rfl
  case sdoUploadSegment ch m => exact (execSdoUploadSegment_frame ch m s).mono rfl
  case sdoBlockRequest ch m => exact (execSdoBlockRequest_frame ch m s).mono rfl
  case sdoSegmentTimeout => exact (execSdoSegmentTimeout_frame s).mono rfl
  case coathRead => exact (execCoathRead_frame s).mono rfl
  case coathWrite => exact (execCoathWrite_frame s).mono rfl
  case coathCommit => exact (execCoathCommit_frame s).mono rfl
  case coathBlockRead => exact (execCoathBlockRead_frame s).mono rfl
  case coathBlockWrite => exact (execCoathBlockWrite_frame s).mono rfl
  case tbSnapshot ctx value => exact (execTbSnapshot_frame ctx value s).mono rfl
  case followerAlign ok error => exact (execFollowerAlign_frame ok error s).mono rfl
  case syncArrival port domainNumber => exact (execSyncArrival_frame port domainNumber s).mono rfl
  case syncMonitorExpire d => exact (execSyncMonitorExpire_frame d s).mono rfl
  case domStep ctx d value => exact (execDomStep_frame ctx d value s).mono rfl
  case domEnable ctx d => exact (execDomEnable_frame ctx d s).mono rfl
  case domDisable ctx d => exact (execDomDisable_frame ctx d s).mono rfl
  case domRole ctx d value => exact (execDomRole_frame ctx d value s).mono rfl
  case domStandbyWrite ctx d value => exact (execDomStandbyWrite_frame ctx d value s).mono rfl
  case domSyncTimeoutWrite ctx d value => exact (execDomSyncTimeoutWrite_frame ctx d value s).mono rfl
  case capture k => exact (execCapture_frame k s).mono rfl
  case capTimeRead ctx k => exact (execCapTimeRead_frame ctx k s).mono rfl
  case portEnable ctx n => exact (execPortEnable_frame ctx n s).mono rfl
  case portDisable ctx n => exact (execPortDisable_frame ctx n s).mono rfl
  case portRestart ctx n => exact (execPortRestart_frame ctx n s).mono rfl
  case portRestartFull ctx n => exact (execPortRestartFull_frame ctx n s).mono rfl
  case linkUp port speed => exact (execLinkUp_frame port speed s).mono rfl
  case linkDown port since cause => exact (execLinkDown_frame port since cause s).mono rfl
  case warmLockTimeout port => exact (execWarmLockTimeout_frame port s).mono rfl
  case mergeVerifyTimeout port => exact (execMergeVerifyTimeout_frame port s).mono rfl
  case pauseFrameReceive port pfc enables times => exact (execPauseFrameReceive_frame port pfc enables times s).mono rfl
  case plcaBeacon k => exact (execPlcaBeacon_frame k s).mono rfl
  case plcaBeaconTimeout k opportunities => exact (execPlcaBeaconTimeout_frame k opportunities s).mono rfl
  case pcntClear ctx n value => exact (execPcntClear_frame ctx n value s).mono rfl
  case frameReceive port rx => exact (execFrameReceive_frame port rx s).mono rfl
  case parsePipelineEntry pipe ecc => exact (execParsePipelineEntry_frame pipe ecc s).mono rfl
  case bankFlip b => exact (execBankFlip_frame b s).mono rfl
  case connScan row => exact (execConnScan_frame row s).mono rfl
  case ccntClear ctx n value => exact (execCcntClear_frame ctx n value s).mono rfl
  case bufReclaim ctx value => exact (execBufReclaim_frame ctx value s).mono rfl
  case reclaimDone => exact (execReclaimDone_frame s).mono rfl
  case qFlush ctx port value => exact (execQFlush_frame ctx port value s).mono rfl
  case flushDone port => exact (execFlushDone_frame port s).mono rfl
  case fdbForget ctx value => exact (execFdbForget_frame ctx value s).mono rfl
  case rankFloorRaise => exact (execRankFloorRaise_frame s).mono rfl
  case rankFloorLower => exact (execRankFloorLower_frame s).mono rfl
  case stagingGrant part => exact (execStagingGrant_frame part s).mono rfl
  case stagingTimeout port => exact (execStagingTimeout_frame port s).mono rfl
  case qcntClear ctx port value => exact (execQcntClear_frame ctx port value s).mono rfl
  case gateNotice port => exact (execGateNotice_frame port s).mono rfl
  case gateEntryStart port => exact (execGateEntryStart_frame port s).mono rfl
  case holdRequest port => exact (execHoldRequest_frame port s).mono rfl
  case holdRelease port => exact (execHoldRelease_frame port s).mono rfl
  case frameTransmitStart port ecc cell => exact (execFrameTransmitStart_frame port ecc cell s).mono rfl
  case frameTransmitEnd port => exact (execFrameTransmitEnd_frame port s).mono rfl
  case srResetTimeout row => exact (execSrResetTimeout_frame row s).mono rfl
  case scntClear ctx n value => exact (execScntClear_frame ctx n value s).mono rfl
  case lookaheadReserve port => exact (execLookaheadReserve_frame port s).mono rfl
  case keystreamBlockResult unit port pair ok1 ok2 => exact (execKeystreamBlockResult_frame unit port pair ok1 ok2 s).mono rfl
  case rxVerdict port => exact (execRxVerdict_frame port s).mono rfl
  case lcClear ctx n value => exact (execLcClear_frame ctx n value s).mono rfl
  case scOpen ctx => exact (execScOpen_frame ctx s).mono rfl
  case scClose ctx => exact (execScClose_frame ctx s).mono rfl
  case scInstall ctx => exact (execScInstall_frame ctx s).mono rfl
  case scRetire ctx => exact (execScRetire_frame ctx s).mono rfl
  case scActivate ctx => exact (execScActivate_frame ctx s).mono rfl
  case installDone => exact (execInstallDone_frame s).mono rfl
  case rxOverlapExpire row => exact (execRxOverlapExpire_frame row s).mono rfl
  case exhaustHoldExpire c => exact (execExhaustHoldExpire_frame c s).mono rfl
  case saEventFifoRead ctx => exact (execSaEventFifoRead_frame ctx s).mono rfl
  case scpClear ctx n value => exact (execScpClear_frame ctx n value s).mono rfl
  case slowPathDispatch => exact (execSlowPathDispatch_frame s).mono rfl
  case spIn e rd => exact (execSpIn_frame e rd s).mono rfl
  case spLeft e rd => exact (execSpLeft_frame e rd s).mono rfl
  case spDrop e => exact (execSpDrop_frame e s).mono rfl
  case spOut e rs1 => exact (execSpOut_frame e rs1 s).mono rfl
  case spSend e => exact (execSpSend_frame e s).mono rfl
  case spResolve e rs1 => exact (execSpResolve_frame e rs1 s).mono rfl
  case spCrc e rd rs1 rs2 => exact (execSpCrc_frame e rd rs1 rs2 s).mono rfl
  case spCsum e rd rs1 rs2 => exact (execSpCsum_frame e rd rs1 rs2 s).mono rfl
  case spTime e rd => exact (execSpTime_frame e rd s).mono rfl
  case outboxCollect e => exact (execOutboxCollect_frame e s).mono rfl
  case tagRelease port => exact (execTagRelease_frame port s).mono rfl
  case reorderTimeout tag => exact (execReorderTimeout_frame tag s).mono rfl
  case engineFault e cause pc => exact (execEngineFault_frame e cause pc s).mono rfl
  case seRun ctx e => exact (execSeRun_frame ctx e s).mono rfl
  case seStop ctx e => exact (execSeStop_frame ctx e s).mono rfl
  case ringReceiveWrite q => exact (execRingReceiveWrite_frame q s).mono rfl
  case txRingProduce ctx value => exact (execTxRingProduce_frame ctx value s).mono rfl
  case vaultCommandStart => exact (execVaultCommandStart_frame s).mono rfl
  case vaultGenerate ctx => exact (execVaultGenerate_frame ctx s).mono rfl
  case vaultImportClear ctx => exact (execVaultImportClear_frame ctx s).mono rfl
  case vaultImportWrapped ctx => exact (execVaultImportWrapped_frame ctx s).mono rfl
  case vaultExportWrapped ctx => exact (execVaultExportWrapped_frame ctx s).mono rfl
  case vaultNarrowPolicy ctx => exact (execVaultNarrowPolicy_frame ctx s).mono rfl
  case vaultDestroy ctx => exact (execVaultDestroy_frame ctx s).mono rfl
  case vaultSign ctx => exact (execVaultSign_frame ctx s).mono rfl
  case vaultVerify ctx => exact (execVaultVerify_frame ctx s).mono rfl
  case vaultEcdh ctx => exact (execVaultEcdh_frame ctx s).mono rfl
  case vaultHkdf ctx => exact (execVaultHkdf_frame ctx s).mono rfl
  case vaultKdfCtr ctx => exact (execVaultKdfCtr_frame ctx s).mono rfl
  case vaultRandom ctx => exact (execVaultRandom_frame ctx s).mono rfl
  case vaultAttest ctx => exact (execVaultAttest_frame ctx s).mono rfl
  case vaultCommandDone => exact (execVaultCommandDone_frame s).mono rfl
  case entropyFailure => exact (execEntropyFailure_frame s).mono rfl
  case entropyRecover => exact (execEntropyRecover_frame s).mono rfl
  case lifeCycleTransition ctx value => exact (execLifeCycleTransition_frame ctx value s).mono rfl
  case transitionComplete => exact (execTransitionComplete_frame s).mono rfl
  case lockstepFault unit => exact (execLockstepFault_frame unit s).mono rfl
  case crLoad ctx => exact (execCrLoad_frame ctx s).mono rfl
  case crUnload ctx => exact (execCrUnload_frame ctx s).mono rfl
  case crqProduce ctx q value => exact (execCrqProduce_frame ctx q value s).mono rfl
  case cressetStartPulse q => exact (execCressetStartPulse_frame q s).mono rfl
  case cressetJobStart => exact (execCressetJobStart_frame s).mono rfl
  case cressetBlockDone k ok1 ok2 => exact (execCressetBlockDone_frame k ok1 ok2 s).mono rfl
  case cressetJobDone q => exact (execCressetJobDone_frame q s).mono rfl
  case dmaStart ctx c => exact (execDmaStart_frame ctx c s).mono rfl
  case dmaResume ctx c => exact (execDmaResume_frame ctx c s).mono rfl
  case dmaStop ctx c => exact (execDmaStop_frame ctx c s).mono rfl
  case dmaStartPulse c => exact (execDmaStartPulse_frame c s).mono rfl
  case dmaDescriptorDone c => exact (execDmaDescriptorDone_frame c s).mono rfl
  case memoryRead init addr len cached tamper => exact (execMemoryRead_frame init addr len cached tamper s).mono rfl
  case memoryWrite init addr data cached tamper => exact (execMemoryWrite_frame init addr data cached tamper s).mono rfl
  case keyidProgram ctx k => exact (execKeyidProgram_frame ctx k s).mono rfl
  case keyidProgramDone => exact (execKeyidProgramDone_frame s).mono rfl
  case keyidClose ctx k => exact (execKeyidClose_frame ctx k s).mono rfl
  case keyidCloseDone k => exact (execKeyidCloseDone_frame k s).mono rfl
  case keyidRetire ctx k => exact (execKeyidRetire_frame ctx k s).mono rfl
  case flashErase ctx addr => exact (execFlashErase_frame ctx addr s).mono rfl
  case flashEraseDone => exact (execFlashEraseDone_frame s).mono rfl
  case initSweepGranule => exact (execInitSweepGranule_frame s).mono rfl
  case chimneyRead init addr size => exact (execChimneyRead_frame init addr size s).mono rfl
  case chimneyFetchDone held k => exact (execChimneyFetchDone_frame held k s).mono rfl
  case fetchStale k => exact (execFetchStale_frame k s).mono rfl
  case chimneyPostedWrite init addr data => exact (execChimneyPostedWrite_frame init addr data s).mono rfl
  case writeAck k => exact (execWriteAck_frame k s).mono rfl
  case fence init writes reads => exact (execFence_frame init writes reads s).mono rfl
  case fenceComplete init => exact (execFenceComplete_frame init s).mono rfl
  case lr hart addr size => exact (execLr_frame hart addr size s).mono rfl
  case sc hart addr data => exact (execSc_frame hart addr data s).mono rfl
  case semaphoreTimeout => exact (execSemaphoreTimeout_frame s).mono rfl
  case wickBackoff => exact (execWickBackoff_frame s).mono rfl
  case backoffReissue => exact (execBackoffReissue_frame s).mono rfl
  case cboClean core addr => exact (execCboClean_frame core addr s).mono rfl
  case cboFlush core addr => exact (execCboFlush_frame core addr s).mono rfl
  case cboInval core addr cbie => exact (execCboInval_frame core addr cbie s).mono rfl
  case flitCrcError f => exact (execFlitCrcError_frame f s).mono rfl
  case chimneyLockLoss lockLost => exact (execChimneyLockLoss_frame lockLost s).mono rfl
  case retrainResult ok => exact (execRetrainResult_frame ok s).mono rfl
  case chmRetrain ctx value => exact (execChmRetrain_frame ctx value s).mono rfl
  case chmFaultClear ctx value => exact (execChmFaultClear_frame ctx value s).mono rfl
  case canMessageReceive ch m => exact (execCanMessageReceive_frame ch m s).mono rfl
  case linResponseReceive l id data e => exact (execLinResponseReceive_frame l id data e s).mono rfl
  case linHeaderReceive l id => exact (execLinHeaderReceive_frame l id s).mono rfl
  case linResponseTimeout l => exact (execLinResponseTimeout_frame l s).mono rfl
  case canArbitration ch won => exact (execCanArbitration_frame ch won s).mono rfl
  case canTxDone ch => exact (execCanTxDone_frame ch s).mono rfl
  case canBusOff ch => exact (execCanBusOff_frame ch s).mono rfl
  case canBusoffRecovery ch => exact (execCanBusoffRecovery_frame ch s).mono rfl
  case canRecover ctx ch value => exact (execCanRecover_frame ctx ch value s).mono rfl
  case canEnable ctx ch value => exact (execCanEnable_frame ctx ch value s).mono rfl
  case canClear ctx ch value => exact (execCanClear_frame ctx ch value s).mono rfl
  case linClear ctx l value => exact (execLinClear_frame ctx l value s).mono rfl
  case linSendWake ctx l value => exact (execLinSendWake_frame ctx l value s).mono rfl
  case cyclicRelease e => exact (execCyclicRelease_frame e s).mono rfl
  case cycDataWrite ctx e data => exact (execCycDataWrite_frame ctx e data s).mono rfl
  case acfUnpack => exact (execAcfUnpack_frame s).mono rfl
  case acfMaxWaitExpire stream => exact (execAcfMaxWaitExpire_frame stream s).mono rfl
  case acfClear ctx stream value => exact (execAcfClear_frame ctx stream value s).mono rfl
  case gwKeyLoad ctx k value => exact (execGwKeyLoad_frame ctx k value s).mono rfl
  case cpStateChange level count => exact (execCpStateChange_frame level count s).mono rfl
  case ppMeasure ohms => exact (execPpMeasure_frame ohms s).mono rfl
  case proximityPoll ohms env => exact (execProximityPoll_frame ohms env s).mono rfl
  case inletTempSample t ohms => exact (execInletTempSample_frame t ohms s).mono rfl
  case cpS2Write ctx value => exact (execCpS2Write_frame ctx value s).mono rfl
  case cdCommand ctx k value => exact (execCdCommand_frame ctx k value s).mono rfl
  case rampWaitExpire k => exact (execRampWaitExpire_frame k s).mono rfl
  case cdOvercurrent k current => exact (execCdOvercurrent_frame k current s).mono rfl
  case cdOpenLoad k current micros => exact (execCdOpenLoad_frame k current micros s).mono rfl
  case cdClearFault ctx k value => exact (execCdClearFault_frame ctx k value s).mono rfl
  case totaliserSample ch m => exact (execTotaliserSample_frame ch m s).mono rfl
  case sessionOpen ctx => exact (execSessionOpen_frame ctx s).mono rfl
  case countersign ctx => exact (execCountersign_frame ctx s).mono rfl
  case countersignDone fails => exact (execCountersignDone_frame fails s).mono rfl
  case sessionClose ctx => exact (execSessionClose_frame ctx s).mono rfl
  case sealClose ctx value => exact (execSealClose_frame ctx value s).mono rfl
  case sealCloseDone => exact (execSealCloseDone_frame s).mono rfl
  case msAcknowledge ctx value => exact (execMsAcknowledge_frame ctx value s).mono rfl
  case msExport ctx value => exact (execMsExport_frame ctx value s).mono rfl
  case exportDone => exact (execExportDone_frame s).mono rfl
  case vbatSample mv => exact (execVbatSample_frame mv s).mono rfl
  case overvoltageEntry => exact (execOvervoltageEntry_frame s).mono rfl
  case overvoltageRecovery env => exact (execOvervoltageRecovery_frame env s).mono rfl
  case crankEntry items => exact (execCrankEntry_frame items s).mono rfl
  case crankRecovery env => exact (execCrankRecovery_frame env s).mono rfl
  case throttleStepDown => exact (execThrottleStepDown_frame s).mono rfl
  case throttleStepUp => exact (execThrottleStepUp_frame s).mono rfl
  case droopDetect levels => exact (execDroopDetect_frame levels s).mono rfl
  case supplyFault rail => exact (execSupplyFault_frame rail s).mono rfl
  case vpreRetry again env => exact (execVpreRetry_frame again env s).mono rfl
  case pwrRequestDormant ctx pins => exact (execPwrRequestDormant_frame ctx pins s).mono rfl
  case pwrRequestEmber ctx pins => exact (execPwrRequestEmber_frame ctx pins s).mono rfl
  case pwrRequestGlow ctx => exact (execPwrRequestGlow_frame ctx s).mono rfl
  case pwrRequestFlame ctx => exact (execPwrRequestFlame_frame ctx s).mono rfl
  case pwrRequestTrim ctx => exact (execPwrRequestTrim_frame ctx s).mono rfl
  case modeTransitionDone env => exact (execModeTransitionDone_frame env s).mono rfl
  case emberLimitExpire => exact (execEmberLimitExpire_frame s).mono rfl
  case wakeAlarmExpire env => exact (execWakeAlarmExpire_frame env s).mono rfl
  case wakeEvent sources env => exact (execWakeEvent_frame sources env s).mono rfl
  case cfgSave ctx value => exact (execCfgSave_frame ctx value s).mono rfl
  case cfgSaveDone => exact (execCfgSaveDone_frame s).mono rfl
  case cfgRemainderApplied bad => exact (execCfgRemainderApplied_frame bad s).mono rfl
  case start env => exact (execStart_frame env s).mono rfl
  case hbBeat ctx value mailbox pilotLine => exact (execHbBeat_frame ctx value mailbox pilotLine s).mono rfl
  case heartbeatTimeout c => exact (execHeartbeatTimeout_frame c s).mono rfl
  case cgClaim ctx g value => exact (execCgClaim_frame ctx g value s).mono rfl
  case outCommand ctx o value => exact (execOutCommand_frame ctx o value s).mono rfl
  case holdExpire g => exact (execHoldExpire_frame g s).mono rfl
  case twinFramePeriodic => exact (execTwinFramePeriodic_frame s).mono rfl
  case twinFrameReceive stream bytes => exact (execTwinFrameReceive_frame stream bytes s).mono rfl
  case twinTimeout => exact (execTwinTimeout_frame s).mono rfl
  case snuffRestartExpire => exact (execSnuffRestartExpire_frame s).mono rfl
  case snuffCountClear => exact (execSnuffCountClear_frame s).mono rfl
  case powerOnReset => exact (execPowerOnReset_frame s).mono rfl
  case externalReset micros => exact (execExternalReset_frame micros s).mono rfl
  case debugReset => exact (execDebugReset_frame s).mono rfl
  case rstDevice ctx => exact (execRstDevice_frame ctx s).mono rfl
  case rstSnuff ctx => exact (execRstSnuff_frame ctx s).mono rfl
  case rstRestartA ctx => exact (execRstRestartA_frame ctx s).mono rfl
  case rstRestartB ctx => exact (execRstRestartB_frame ctx s).mono rfl
  case clusterRestartDone c ok => exact (execClusterRestartDone_frame c ok s).mono rfl
  case pilotWatchdog => exact (execPilotWatchdog_frame s).mono rfl
  case errorRecordWrite => exact (execErrorRecordWrite_frame s).mono rfl
  case errorLogCopy => exact (execErrorLogCopy_frame s).mono rfl
  case errAcknowledge ctx value => exact (execErrAcknowledge_frame ctx value s).mono rfl
  case errReport ctx bytes => exact (execErrReport_frame ctx bytes s).mono rfl
  case eclClear ctx cls value => exact (execEclClear_frame ctx cls value s).mono rfl
  case taperOpen frame => exact (execTaperOpen_frame frame s).mono rfl
  case taperData frame => exact (execTaperData_frame frame s).mono rfl
  case taperClose frame => exact (execTaperClose_frame frame s).mono rfl
  case taperCloseVerdict => exact (execTaperCloseVerdict_frame s).mono rfl
  case taperAbort frame => exact (execTaperAbort_frame frame s).mono rfl
  case taperStatus frame => exact (execTaperStatus_frame frame s).mono rfl
  case taperSessionTimeout => exact (execTaperSessionTimeout_frame s).mono rfl
  case updConfirm ctx value => exact (execUpdConfirm_frame ctx value s).mono rfl
  case trialTimeout => exact (execTrialTimeout_frame s).mono rfl
  case updPrepare ctx value => exact (execUpdPrepare_frame ctx value s).mono rfl
  case prepareDone => exact (execPrepareDone_frame s).mono rfl
  case ownerKeyWrite ctx bytes => exact (execOwnerKeyWrite_frame ctx bytes s).mono rfl
  case pauseTimeExpire port => exact (execPauseTimeExpire_frame port s).mono rfl
  case canError ch transmitter severe => exact (execCanError_frame ch transmitter severe s).mono rfl
  case heartbeatPathFault c pilotLine => exact (execHeartbeatPathFault_frame c pilotLine s).mono rfl
  case twinPathFault stream => exact (execTwinPathFault_frame stream s).mono rfl
  case taperAckTimer => exact (execTaperAckTimer_frame s).mono rfl
  case cpPeriodMeasure oscillating frequency duty negative => exact (execCpPeriodMeasure_frame oscillating frequency duty negative s).mono rfl
  case pilotRead addr size => exact (execPilotRead_frame addr size s).mono rfl

/-! ## The fuses -/

/-- The fuses are no part that a command may touch. -/
theorem fuses_not_mem_parts (c : Instr) : Part.fuses ∉ c.parts := by
  unfold Instr.parts
  split <;> decide

/-- No command changes the fuses. -/
theorem exec_fuses {c : Instr} {s t : State} (h : exec c s = .next t) : t.fuses = s.fuses :=
  ((exec_within c s).within t h).same_of_not_mem (fuses_not_mem_parts c)

/-- No step changes the fuses: neither a command nor a cycle of the time base does. -/
theorem step_fuses {s t : State} (h : step s = .next t) : t.fuses = s.fuses := by
  match hp : s.pending with
  | [] =>
    rw [step_of_idle s hp] at h
    injection h with h
    subst h
    exact s.tick_frame.same .fuses rfl
  | c :: rest =>
    rw [step_of_front s c rest hp] at h
    exact (exec_fuses h).trans rfl

/-! ## Reads of objects and of missing places -/

/-- An index without an owner leads to the object that its subindex names, when there is one. -/
theorem State.place_of_object {s : State} {idx sub : Nat} {o : Obj} (row : Nat) (hw : ownerAt s.fuses.variant idx = none)
    (ho : objAt s.fuses.variant idx sub = some o) : s.place idx sub row = .object o (o.reg idx sub (if o.isRow then row else 0)) := by
  simp only [State.place, hw, ho]

/-- An index of no object and no owner of the variant leads nowhere, with the abort of a missing object (R5, R44). -/
theorem State.place_of_absent {s : State} {idx sub : Nat} (row : Nat) (hi : s.hasIndex idx = false) (hw : ownerAt s.fuses.variant idx = none)
    (ho : objAt s.fuses.variant idx sub = none) : s.place idx sub row = .missing 0x06020000 := by
  simp [State.place, hw, ho, hi]

/-- A read of a missing place is refused with the abort of the place, and changes nothing. -/
theorem State.readPlace_missing (s : State) (c : Ctx) (idx a : Nat) : s.readPlace c idx (.missing a) = ({ abort := a }, s) := rfl

/-- A read that the Chimney link bars is answered as the link answers it. -/
theorem State.readPlace_of_barred {s : State} {c : Ctx} {idx : Nat} {p : Place} (hr : s.readAbort p = none)
    (hb : s.linkBars c p.wick = true) : s.readPlace c idx p = ({ abort := linkAbort c }, s) := by
  simp only [State.readPlace, hr, hb, if_true]

/-- A read of an object that the Chimney link does not bar reads the object. -/
theorem State.readPlace_of_object {s : State} {c : Ctx} {idx : Nat} {o : Obj} {r : Reg} (hr : s.readAbort (.object o r) = none)
    (hb : s.linkBars c o.wick = false) : s.readPlace c idx (.object o r) = s.readObject c idx o r := by
  have hb' : s.linkBars c (Place.object o r).wick = false := hb
  simp [State.readPlace, hr, hb']

/-- A read of anything but `Dev.LongData` is the read of its place. -/
theorem State.dictRead_of_place {s : State} {c : Ctx} {idx sub : Nat} (h : selfCursor idx sub = false) :
    s.dictRead c idx sub = s.readPlace c idx (s.place idx sub (s.selectedRow c idx)) := by
  simp [State.dictRead, State.dictReadRow, h]

/-! ## `Dev.UnitPresence` -/

/-- The row of `Dev.UnitPresence` in the object tables (R2). -/
def unitPresenceObj : Obj := ⟨0x2000, 1, .dev, 0x04, 0x04, .u 8, .ro, true, false, []⟩

/-- The register of `Dev.UnitPresence`. -/
def unitPresenceReg : Reg := unitPresenceObj.reg 0x2000 4 0

/-- Every variant has `Dev.UnitPresence` at 2000h.04. -/
theorem objAt_unitPresence (v : Variant) : objAt v 0x2000 4 = some unitPresenceObj := by
  cases v <;> rfl

/-- The objects of the device have no owner. -/
theorem ownerAt_device (v : Variant) : ownerAt v 0x2000 = none := by
  cases v <;> rfl

/-- `Dev.UnitPresence` may be read in every mode: it is held on the Wick die (R2, R76). -/
theorem State.readAbort_unitPresence (s : State) : s.readAbort (.object unitPresenceObj unitPresenceReg) = none := by
  simp [State.readAbort, Place.acc, Place.wick, unitPresenceReg, unitPresenceObj, Obj.reg]

/-- Its register reads as the presence that the fuses fix. -/
theorem State.readObject_unitPresence (s : State) (c : Ctx) :
    s.readObject c 0x2000 unitPresenceObj unitPresenceReg = (answerNumber (.u 8) s.fuses.variant.unitPresence, s) := rfl

/-- A read of 2000h.04 through every path context, with the Chimney link up or down. -/
theorem State.dictRead_unitPresence (s : State) (c : Ctx) :
    s.dictRead c 0x2000 4 =
      (if s.linkBars c true then { abort := linkAbort c } else answerNumber (.u 8) s.fuses.variant.unitPresence, s) := by
  rw [State.dictRead_of_place rfl, State.place_of_object _ (ownerAt_device _) (objAt_unitPresence _)]
  cases hb : s.linkBars c true with
  | true => exact State.readPlace_of_barred s.readAbort_unitPresence hb
  | false => exact (State.readPlace_of_object s.readAbort_unitPresence hb).trans (s.readObject_unitPresence c)

/-- Settles O38: the read is answered from the fuses, and every command keeps to its parts, of which the fuses are none. -/
theorem unitPresenceIsFixed : Obligations.UnitPresenceIsFixed := by
  unfold Obligations.UnitPresenceIsFixed
  exact fun s _ c => ⟨s.dictRead_unitPresence c, step_fuses⟩

/-! ## Absent units -/

/-- An answered access to what is not present is refused with 0x06020000, before any other check (R44). -/
theorem State.access_absent {s : State} {c : Ctx} (wick : Bool) (checks : List (Option Nat)) (act : State → State) (kind : Option Nat)
    (ha : s.answers c = true) : s.access c false wick checks act kind = s.refuse c 0x06020000 := by
  simp [State.access, ha]

/-- An access to the commit object of an absent index is refused with 0x06020000. -/
theorem State.commitAccess_absent {s : State} {c : Ctx} {idx : Nat} (checks : Owner → List (Option Nat)) (act : State → Owner → State)
    (ha : s.answers c = true) (hi : s.hasIndex idx = false) (hw : ownerAt s.fuses.variant idx = none) :
    s.commitAccess c idx checks act = s.refuse c 0x06020000 := by
  simp only [State.commitAccess, hw, hi]
  exact State.access_absent _ _ _ _ ha

/-- A write that leads nowhere is refused with the abort of its place. -/
theorem State.writeAt_missing {s : State} {c : Ctx} {idx sub row a : Nat} (d : WriteData) (sameCycle : Bool)
    (h : s.place idx sub row = .missing a) : s.writeAt c idx sub row d sameCycle = s.refuse c a := by
  simp only [State.writeAt, h]

/-- An answered write of anything but `Dev.LongData` is the write of its place. -/
theorem execGeneralWrite_of_place {s : State} {c : Ctx} {idx sub : Nat} (d : WriteData) (sameCycle : Bool) (ha : s.answers c = true)
    (h : selfCursor idx sub = false) :
    execGeneralWrite c idx sub d sameCycle s = .next (s.writeAt c idx sub (s.selectedRow c idx) d sameCycle) := by
  simp [execGeneralWrite, State.dictWrite, ha, h]

/-- Settles O44: the index leads to a missing place, and its commit object is not present. -/
theorem absentUnitsRefuseEveryAccess : Obligations.AbsentUnitsRefuseEveryAccess := by
  unfold Obligations.AbsentUnitsRefuseEveryAccess
  intro s index sub ctx hi hw ho ha
  have hplace : s.place index sub (s.selectedRow ctx index) = .missing 0x06020000 := State.place_of_absent _ hi hw ho
  have hcommit (checks : Owner → List (Option Nat)) (act : State → Owner → State) :
      s.commitAccess ctx index checks act = s.refuse ctx 0x06020000 := State.commitAccess_absent checks act ha hi hw
  refine ⟨fun d sameCycle _ hself => ?write, fun hself => ?read, congrArg Host.Outcome.next (hcommit _ _),
    congrArg Host.Outcome.next (hcommit _ _), congrArg Host.Outcome.next (hcommit _ _)⟩
  case write => rw [exec_generalWrite, execGeneralWrite_of_place d sameCycle ha hself, State.writeAt_missing d sameCycle hplace]
  case read => rw [State.dictRead_of_place hself, hplace, State.readPlace_missing]

end Sys2Proof.Machine
end

section
/-! The statements of the two dies and the backbone between them: event lines and interrupts, clear commands, and frames from their
port to their verdict. -/
namespace Sys2Proof.Machine

/-! ## Event lines, interrupts and captures -/

/-- An admitted pulse of a line that software owns pulses the line (R29, R32). -/
theorem execEvPulse_of_admits {ctx : Ctx} {value : Nat} {s : State} (h : s.admits ctx 0x3200 1 false = true) (hv : value < 256)
    (hp : s.producerOf value / 0x1000000 = 0x16) : execEvPulse ctx value s = .next ((s.pulseLine value false).done ctx) := by
  have hfits : fits 2 value = none := need_of _ _ (decide_eq_true (by omega))
  exact congrArg Host.Outcome.next (s.cmdWrite_admits ctx 0x3200 1 false _ _ h (by simp [hfits, hv, hp]))

/-- The first pulse that waits on a sideband input is delivered while the link is up (R369). -/
theorem execEventSidebandDeliver_of_first {toWick w : Bool} {input i line t : Nat} {rest : List Pulse} {s : State}
    (h : takeFirst (Pulse.onInput toWick input) s.pulses = some (.sideband w i line t, rest)) (hup : s.get Reg.chmState = 1) :
    execEventSidebandDeliver toWick input s = .next ((({ s with pulses := (mergePulses toWick input t rest).2 } : State).count
      Reg.chmEventMerges 32 (mergePulses toWick input t rest).1).deliver line toWick) := by
  simp only [execEventSidebandDeliver, h, if_pos hup]

/-- A claim takes the best pending source of the target (R36). -/
theorem State.irqTake_of_best {s : State} {target k : Nat} (h : s.irqBest target = some k) :
    s.irqTake target = (k + 1, (s.set (Reg.irqPending k) 0).set (Reg.irqClaimed k) 1) := by
  simp only [State.irqTake, h]

/-- A completion of a source that the target enables ends the claim of the source (R36). -/
theorem State.irqGive_of_enabled {s : State} {target source : Nat}
    (h : 1 ≤ source ∧ source ≤ 64 ∧ s.get (Reg.irqEnabled (source - 1) target) = 1) :
    s.irqGive target source = s.set (Reg.irqClaimed (source - 1)) 0 := if_pos h

/-- A completion of a source that the target enables is carried out (R36). -/
theorem execIrqComplete_of_enabled {s : State} {target source : Nat}
    (h : 1 ≤ source ∧ source ≤ 64 ∧ s.get (Reg.irqEnabled (source - 1) target) = 1) :
    execIrqComplete target source s = .next ((s.set (Reg.irqClaimed (source - 1)) 0).done (irqCtx target)) := by
  rw [execIrqComplete, if_pos h, State.irqGive_of_enabled h]

/-- The first pulse that waits for a capture unit is captured (R96). -/
theorem execCapture_of_first {k j time qualifier : Nat} {rest : List Pulse} {s : State}
    (h : takeFirst (Pulse.forCapture k) s.pulses = some (.capture j time qualifier, rest)) :
    execCapture k s = .next (({ s with pulses := rest } : State).capture k time qualifier) := by
  simp only [execCapture, h]

/-- A read of the time of a capture unit that is present answers it and clears its unread mark (R96). -/
theorem execCapTimeRead_of_running {ctx : Ctx} {k : Nat} {s : State} (hr : s.running = true) (hb : s.linkBars ctx false = false)
    (hk : k < 16) : execCapTimeRead ctx k s = .next ((s.set (Reg.capUnread k) 0).reply ctx (s.get (Reg.capTime k))) := by
  rw [execCapTimeRead, decide_eq_true hk]
  exact congrArg Host.Outcome.next (s.access_done ctx false [] _ (s.answers_of_running ctx hr) hb (by simp [hr]) rfl)

/-- Settles O3: each command finds what its unit waits for, and no check refuses the pulse or the read. -/
theorem eventLinesPulseCountAndInterrupt : Obligations.EventLinesPulseCountAndInterrupt := by
  unfold Obligations.EventLinesPulseCountAndInterrupt
  refine ⟨?pulse, ?sideband, ?claim, ?complete, ?capture, ?captureTime⟩
  case pulse => exact fun _ _ _ => execEvPulse_of_admits
  case sideband => exact fun _ _ _ _ _ _ _ _ => execEventSidebandDeliver_of_first
  case claim =>
    intro target k s h
    rw [exec_irqClaim, execIrqClaim, State.irqTake_of_best h]
  case complete => exact fun _ _ _ h1 h64 he => execIrqComplete_of_enabled ⟨h1, h64, he⟩
  case capture => exact fun _ _ _ _ _ _ => execCapture_of_first
  case captureTime => exact fun _ _ _ => execCapTimeRead_of_running

/-! ## Clear commands -/

/-- The outcome of an admitted write of 1 to a clear command that is present: its counters are cleared (R124). -/
theorem next_clearWrite_of_admits {s : State} {c : Ctx} {idx sub : Nat} {present wick : Bool} (act : State → State)
    (h : s.admits c idx sub wick = true) (hp : present = true) :
    (.next (s.cmdWrite c idx sub present wick (onlyOne 1) act) : Host.Outcome State Fault Refusal) = .next ((act s).done c) := by
  rw [hp, s.cmdWrite_admits c idx sub wick (onlyOne 1) act h rfl]

/-- Settles O4: each clear command is one admitted write of 1, and the premises of each say that its unit is present. -/
theorem clearCommandsZeroTheirCounters : Obligations.ClearCommandsZeroTheirCounters := by
  unfold Obligations.ClearCommandsZeroTheirCounters
  refine ⟨?pcnt, ?ccnt, ?qcnt, ?scnt, ?lc, ?scp, ?can, ?lin, ?acf, ?ecnt, ?ecl, ?chm⟩
  case pcnt => exact fun _ _ _ h hp => next_clearWrite_of_admits _ h (by simpa using hp)
  case ccnt => exact fun _ _ _ h hp => next_clearWrite_of_admits _ h hp
  case qcnt => exact fun _ _ _ h hp => next_clearWrite_of_admits _ h hp
  case scnt => exact fun _ _ _ h hp => next_clearWrite_of_admits _ h hp
  case lc => exact fun _ _ _ h hp => next_clearWrite_of_admits _ h (by simpa using hp)
  case scp => exact fun _ _ _ h hp => next_clearWrite_of_admits _ h (by simpa using hp)
  case can => exact fun _ _ _ h hn => next_clearWrite_of_admits _ h (decide_eq_true hn)
  case lin => exact fun _ _ _ h hn => next_clearWrite_of_admits _ h (decide_eq_true hn)
  case acf => exact fun _ _ _ h hn => next_clearWrite_of_admits _ h (decide_eq_true hn)
  case ecnt => exact fun _ _ _ h hn => next_clearWrite_of_admits _ h (decide_eq_true hn)
  case ecl => exact fun _ _ _ h h1 h15 => next_clearWrite_of_admits _ h (by simp [h1, h15])
  case chm => exact fun _ _ h => next_clearWrite_of_admits _ h rfl

/-! ## The reception of frames -/

/-- A count of a port's receive counters leaves the length that the port takes alone. -/
theorem State.get_portMaxFrame_count {s : State} {r : Reg} (port w n : Nat) (h : r.grp = .pcnt) :
    (s.count r w n).get (Reg.portMaxFrame port) = s.get (Reg.portMaxFrame port) :=
  s.get_count_of_ne r _ w n (fun e => absurd (congrArg Reg.grp e) (by simp [h]))

/-- A frame with its timestamp at a port of the Lantern die is deciphered and written at once (R14, R17). -/
theorem State.frameOn_lantern {s : State} {port : Nat} (rx : RxFrame) (hp : port < 32) :
    s.frameOn port rx =
      (s.rxStamp port).2.frameIn port (badAtRx port rx) rx ⟨(s.rxStamp port).1, true, rx.late, rx.backlog⟩ := by
  simp [State.frameOn, hp, Nat.not_le.mpr hp]

/-- A frame that passes its cipher stage is written to cells (R17). -/
theorem State.frameIn_of_pass {s u : State} {port : Nat} {bad : Bool} {rx : RxFrame} {b : List Byte} {v : Verdict} (at' : Arrival)
    (h : s.rxCipher port (rx.bytes.take (rx.bytes.length - 4)) bad = .pass u b v) :
    s.frameIn port bad rx at' = u.writeFrame port b v at' := by
  simp only [State.frameIn, h]

/-- The counts of error correction and fragments that a port of the Lantern die takes with each frame (R118, R123). -/
def State.rxLineCounts (s : State) (port : Nat) (rx : RxFrame) : State :=
  ((s.count (Reg.pcntFecCorrected port) 64 rx.fecCorrected).count (Reg.pcntFecUncorrected port) 64 rx.fecUncorrected).count
    (Reg.pcntRxFragments port) 64 rx.fragments

/-- The counts of the line do not change which lengths the port takes. -/
theorem State.rxLengthOk_rxLineCounts (s : State) (port len : Nat) (rx : RxFrame) :
    (s.rxLineCounts port rx).rxLengthOk port len = s.rxLengthOk port len := by
  simp [State.rxLengthOk, State.rxLineCounts, State.get_portMaxFrame_count]

/-- A whole frame of a length that its port takes, and not of flow control, is counted and goes on (R17, R123). -/
theorem execFrameReceive_whole {port : Nat} {rx : RxFrame} {s : State} (hr : s.running = true) (hl : s.portLive port = true)
    (hup : s.linkUp port = true) (hp : port < 32) (hm : rx.merge = 0) (hok : s.rxLengthOk port rx.bytes.length = true)
    (hflow : beAt rx.bytes 12 2 ≠ 0x8808) :
    execFrameReceive port rx s = .next (((s.rxLineCounts port rx).rxCount port rx).frameOn port rx) := by
  have hok' := (s.rxLengthOk_rxLineCounts port rx.bytes.length rx).trans hok
  unfold State.rxLineCounts at hok' ⊢
  simp only [execFrameReceive, hr, hl, hup, hp, hm, hok', hflow, and_self, if_true, ne_eq, not_false_eq_true]

/-- The turn of a parse pipeline takes the first record of its port (R128). -/
theorem execParsePipelineEntry_of_turn {pipe ecc port : Nat} {s : State} {r : Nat × Nat} {rest : List (Nat × Nat)}
    (hr : s.running = true) (ht : s.parseTurn pipe = some port) (h : takeFirst (fun r => r.1 == port) s.records = some (r, rest)) :
    execParsePipelineEntry pipe ecc s = .next ((({ s with records := rest } : State).set (Reg.parseNext pipe) ((port + 1) % 38)).classify
      r.2 ((s.headIngress port).getD port) ecc) := by
  simp only [execParsePipelineEntry, if_pos hr, ht, h]

/-- The scanner visits a connection row that it has not visited in its period (R146). -/
theorem execConnScan_of_due {row : Nat} {s : State} (hf : s.forwarding = true) (hd : s.get (Reg.connScannedAt 0 row) ≠ s.scanPeriod) :
    execConnScan row s = .next (if (s.set (Reg.connScannedAt 0 row) s.scanPeriod).connExpired row = true then
      ((s.set (Reg.connScannedAt 0 row) s.scanPeriod).connClear row).count Reg.clsConnExpiries
      else s.set (Reg.connScannedAt 0 row) s.scanPeriod) := if_pos ⟨hf, hd⟩

/-- A frame that no secure channel protects repeats no packet number. -/
theorem State.repeats_unprotected (s : State) {v : Verdict} (h : v.protectedRx = false) : s.repeats v = false := by
  simp [State.repeats, h]

/-- A good verdict of a frame that no secure channel protects makes the frame eligible (R237). -/
theorem execRxVerdict_of_good {port : Nat} {s : State} {v : Verdict} {rest : List Verdict}
    (h : takeFirst (fun v => v.port == port) s.verdicts = some (v, rest)) (hfcs : v.fcsBad = false) (hicv : v.icvBad = false)
    (hcheck : v.checkBad = false) (hv : v.protectedRx = false) :
    execRxVerdict port s =
      .next (({ s with verdicts := rest } : State).updFrame v.frame (fun f => { f with eligible := true, verdictDone := true })) := by
  simp [execRxVerdict, h, hfcs, hicv, hcheck, hv, State.repeats_unprotected]

/-- A good block of a unit that serves the port is released (R241). -/
theorem execKeystreamBlockResult_of_good {unit port pair : Nat} {ok2 : Bool} {s : State} (hf : s.forwarding = true) (hp : port < 37)
    (hs : s.unitServes unit port pair = true) : execKeystreamBlockResult unit port pair true ok2 s = .next (s.releaseBlock unit port) :=
  if_pos ⟨hf, hp, hs⟩

/-- Settles O9: a frame goes on from its port through the cipher stage to the cells, and every later stage finds its turn due. -/
theorem framesAreReceivedAndClassified : Obligations.FramesAreReceivedAndClassified := by
  unfold Obligations.FramesAreReceivedAndClassified
  refine ⟨?receive, ?parse, ?scan, ?verdict, ?block⟩
  case receive =>
    intro port rx s t u b v hr hl hup hp hm hmin hmax hgood hflow ht hpass
    have hok : s.rxLengthOk port rx.bytes.length = true := by simp [State.rxLengthOk, hmin, hmax]
    have hcount : (s.rxLineCounts port rx).rxCount port rx = t := ht.symm
    rw [exec_frameReceive, execFrameReceive_whole hr hl hup hp hm hok hflow, hcount, State.frameOn_lantern rx hp, hgood,
      State.frameIn_of_pass _ hpass]
  case parse => exact fun _ _ _ _ _ _ => execParsePipelineEntry_of_turn
  case scan =>
    intro row s t hf hd ht
    rw [exec_connScan, execConnScan_of_due hf hd, ← ht]
  case verdict => exact fun _ _ _ _ => execRxVerdict_of_good
  case block => exact fun _ _ _ _ _ => execKeystreamBlockResult_of_good

end Sys2Proof.Machine
end

section
/-! The statements about every command: its parts of the state, its step, and its next state. -/
namespace Sys2Proof.Machine

/-! ## Every command -/

/-- Settles O40: the frame of a command has the bits of its row of the table, and a part outside the row has no bit
there. -/
theorem everyCommandKeepsToItsParts : Obligations.EveryCommandKeepsToItsParts := by
  unfold Obligations.EveryCommandKeepsToItsParts
  exact fun c s t p h hp => ((exec_within c s).within t h).same_of_not_mem hp

/-- Settles O32: a step with a command in the queue is the arm of the command. -/
theorem stepRunsTheFrontCommand : Obligations.StepRunsTheFrontCommand := by
  unfold Obligations.StepRunsTheFrontCommand
  exact fun c rest s h => step_of_front s c rest h

/-- The outcome is a next state. -/
def IsNext (o : Host.Outcome State Fault Refusal) : Prop := ∃ t, o = .next t

theorem isNext_next (t : State) : IsNext (.next t) := ⟨t, rfl⟩

/-- Every command answers a next state: the branches of its meaning all end in one (R44). -/
theorem exec_isNext (c : Instr) (s : State) : IsNext (exec c s) := by
  cases c
  all_goals dsimp only [exec,
    execLongDataRead, execBoundaryHandover, execEventSidebandDeliver, execIrqComplete, execSdoSegmentTimeout,
    execFollowerAlign, execSyncArrival, execSyncMonitorExpire, execCapture, execLinkUp, execLinkDown,
    execWarmLockTimeout, execMergeVerifyTimeout, execPauseFrameReceive, execPlcaBeacon, execPlcaBeaconTimeout,
    execFrameReceive, execParsePipelineEntry, execBankFlip, execConnScan, execReclaimDone, execFlushDone,
    execRankFloorRaise, execRankFloorLower, execStagingGrant, execStagingTimeout, execGateNotice,
    execGateEntryStart, execHoldRequest, execHoldRelease, execFrameTransmitStart, execFrameTransmitEnd,
    execSrResetTimeout, execLookaheadReserve, execKeystreamBlockResult, execRxVerdict, execInstallDone,
    execRxOverlapExpire, execExhaustHoldExpire, execSlowPathDispatch, execSpIn, execSpDrop, execSpOut, execSpSend,
    execOutboxCollect, execTagRelease, execReorderTimeout, execEngineFault, execRingReceiveWrite,
    execVaultCommandStart, execVaultCommandDone, execEntropyFailure, execEntropyRecover, execTransitionComplete,
    execLockstepFault, execCressetStartPulse, execCressetJobStart, execCressetBlockDone, execCressetJobDone,
    execDmaStartPulse, execDmaDescriptorDone, execMemoryRead, execMemoryWrite, execKeyidProgramDone,
    execKeyidCloseDone, execFlashEraseDone, execInitSweepGranule, execChimneyRead, execChimneyFetchDone,
    execFetchStale, execChimneyPostedWrite, execWriteAck, execFence, execFenceComplete, execLr, execSc,
    execSemaphoreTimeout, execWickBackoff, execBackoffReissue, execCboClean, execCboFlush, execCboInval,
    execFlitCrcError, execChimneyLockLoss, execRetrainResult, execCanMessageReceive, execLinResponseReceive,
    execLinHeaderReceive, execLinResponseTimeout, execCanArbitration, execCanTxDone, execCanBusOff,
    execCanBusoffRecovery, execCyclicRelease, execCycDataWrite, execAcfUnpack, execAcfMaxWaitExpire,
    execCpStateChange, execInletTempSample, execRampWaitExpire, execCdOvercurrent, execCdOpenLoad,
    execTotaliserSample, execCountersignDone, execSealCloseDone, execExportDone, execVbatSample,
    execOvervoltageEntry, execOvervoltageRecovery, execCrankEntry, execCrankRecovery, execThrottleStepDown,
    execThrottleStepUp, execDroopDetect, execSupplyFault, execVpreRetry, execModeTransitionDone,
    execEmberLimitExpire, execWakeAlarmExpire, execCfgSaveDone, execCfgRemainderApplied, execStart,
    execHeartbeatTimeout, execHoldExpire, execTwinFramePeriodic, execTwinFrameReceive, execTwinTimeout,
    execSnuffRestartExpire, execSnuffCountClear, execExternalReset, execClusterRestartDone, execPilotWatchdog,
    execErrorRecordWrite, execErrorLogCopy, execTaperOpen, execTaperData, execTaperClose, execTaperCloseVerdict,
    execTaperAbort, execTaperStatus, execTaperSessionTimeout, execTrialTimeout, execPrepareDone, execCanError,
    execHeartbeatPathFault, execTwinPathFault, execTaperAckTimer, execCpPeriodMeasure, execPilotRead]
  all_goals repeat' first
    | with_reducible exact isNext_next _
    | split
  all_goals exact isNext_next _

/-- Settles O36: no branch of a meaning ends in a fault or a refusal of the model. -/
theorem everyCommandAnswersANextState : Obligations.EveryCommandAnswersANextState := by
  unfold Obligations.EveryCommandAnswersANextState
  exact exec_isNext

end Sys2Proof.Machine
end

section
/-! Accesses of the dictionary: what is refused or not answered changes nothing but its abort, and misaligned
accesses are refused. -/
namespace Sys2Proof.Machine

/-! ## One access -/

/-- How an answered access ends: without abort, or leaving nothing but its abort (R44, R57). -/
def State.Ends (s : State) (c : Ctx) (t : State) : Prop := t.resp.abort = 0 ∨ t = s.refuse c t.resp.abort

theorem State.ends_refuse (s : State) (c : Ctx) (a : Nat) : s.Ends c (s.refuse c a) := .inr rfl

/-- What one access of a path context leaves: nothing changes where the path is not answered, and an answered access
ends as accesses do (R76). -/
structure State.Accessed (s : State) (c : Ctx) (t : State) : Prop where
  silent : s.answers c = false → t = s
  answered : s.answers c = true → s.Ends c t

/-- An access settles: it is not answered, carried out, or refused. -/
theorem State.Accessed.settled {s t : State} {c : Ctx} (h : s.Accessed c t) : s.Settled c t := by
  cases ha : s.answers c with
  | false => exact .inl (h.silent ha)
  | true => exact .inr (h.answered ha)

/-- An access that the dictionary does not answer leaves the state as it is (R76). -/
theorem State.access_unanswered {s : State} {c : Ctx} (present wick : Bool) (checks : List (Option Nat))
    (act : State → State)
    (kind : Option Nat) (h : s.answers c = false) : s.access c present wick checks act kind = s := by
  simp [State.access, h]

/-- An access whose action ends without abort. -/
theorem State.access_accessed (s : State) (c : Ctx) (present wick : Bool) (checks : List (Option Nat))
    (act : State → State)
    (kind : Option Nat) (h : (act s).resp.abort = 0) : s.Accessed c (s.access c present wick checks act kind) := by
  refine ⟨s.access_unanswered present wick checks act kind, fun ha => ?_⟩
  rcases s.access_cases c present wick checks act kind with ⟨hn, _⟩ | ⟨a, _, k⟩ | k
  · exact absurd ha (by simp [hn])
  · exact .inr (by rw [k]; rfl)
  · exact .inl (by rw [k]; exact h)

theorem State.cmdWrite_accessed (s : State) (c : Ctx) (idx sub : Nat) (present wick : Bool) (checks : List (Option Nat))
    (act : State → State) (kind : Option Nat) : s.Accessed c (s.cmdWrite c idx sub present wick checks act kind) :=
  s.access_accessed c present wick _ _ kind rfl

theorem State.rwWrite_accessed (s : State) (c : Ctx) (idx sub : Nat) (present wick : Bool) (checks : List (Option Nat))
    (act : State → State) (kind : Option Nat) : s.Accessed c (s.rwWrite c idx sub present wick checks act kind) :=
  s.access_accessed c present wick _ _ kind rfl

/-- The write of a commit object is one access, whether its index has an owner or not. -/
theorem State.commitAccess_accessed (s : State) (c : Ctx) (idx : Nat) (checks : Owner → List (Option Nat))
    (act : State → Owner → State) :
    s.Accessed c (s.commitAccess c idx checks act) := by
  unfold State.commitAccess
  split
  · exact State.cmdWrite_accessed ..
  · exact State.cmdWrite_accessed ..

/-- A request for the restart of a cluster is the write of a reset command. -/
theorem State.rstRestart_accessed (s : State) (c : Ctx) (k : Nat) : s.Accessed c (s.rstRestart c k) := by
  unfold State.rstRestart State.rstCommand
  exact s.cmdWrite_accessed ..

/-- The state that a command leaves, as one access of its path context. -/
def OneAccess (c : Ctx) (s : State) (o : Host.Outcome State Fault Refusal) : Prop := ∃ t, o = .next t ∧ s.Accessed c t

theorem OneAccess.ends {c : Ctx} {s : State} {o : Host.Outcome State Fault Refusal} (h : OneAccess c s o)
    (ha : s.answers c = true) :
    s.Ends c (after s o) := by
  obtain ⟨t, rfl, h⟩ := h
  exact h.answered ha

theorem OneAccess.ite {p : Prop} [Decidable p] {c : Ctx} {s : State} {o u : Host.Outcome State Fault Refusal}
    (h : OneAccess c s o)
    (k : OneAccess c s u) : OneAccess c s (if p then o else u) := by
  split
  · exact h
  · exact k

theorem OneAccess.next {c : Ctx} {s t : State} (h : s.Accessed c t) : OneAccess c s (.next t) := ⟨t, rfl, h⟩

/-- Each command that is one access of an object writes its command object or its value, or reads an object that the
read changes. -/
theorem exec_oneAccess {i : Instr} {c : Ctx} (h : i.accessPath = some c) (s : State) : OneAccess c s (exec i s) := by
  cases i
  case commit | disarm | discard => cases h; exact .next (s.commitAccess_accessed ..)
  case capTimeRead => cases h; exact .next (s.access_accessed _ _ _ _ _ _ rfl)
  case saEventFifoRead =>
    cases h
    refine .next (s.access_accessed _ _ _ _ _ _ ?_)
    split <;> rfl
  case domEnable | domDisable | domRole | domStandbyWrite | domSyncTimeoutWrite | portEnable | portDisable | seRun |
      seStop | txRingProduce | crqProduce | canEnable | cycDataWrite | gwKeyLoad | cpS2Write | cdCommand | cgClaim |
      outCommand | ownerKeyWrite =>
    cases h; exact .next (s.rwWrite_accessed ..)
  case evPulse | ecntClear | tbSnapshot | domStep | portRestart | portRestartFull | pcntClear | ccntClear |
      bufReclaim | qFlush | fdbForget | qcntClear | scntClear | lcClear | scOpen | scClose | scInstall | scRetire |
      scActivate | scpClear | vaultGenerate | vaultImportClear | vaultImportWrapped | vaultExportWrapped |
      vaultNarrowPolicy | vaultDestroy | vaultSign | vaultVerify | vaultEcdh | vaultHkdf | vaultKdfCtr | vaultRandom |
      vaultAttest | lifeCycleTransition | crLoad | crUnload | dmaStart | dmaResume | dmaStop | keyidProgram |
      keyidClose | keyidRetire | flashErase | chmRetrain | chmFaultClear | canRecover | canClear | linClear |
      linSendWake | acfClear | cdClearFault | sessionOpen | countersign | sessionClose | msAcknowledge | msExport |
      pwrRequestDormant | pwrRequestEmber | pwrRequestGlow | pwrRequestFlame | pwrRequestTrim | cfgSave | hbBeat |
      rstDevice | rstSnuff | errAcknowledge | errReport | eclClear | updConfirm | updPrepare =>
    cases h; exact .next (s.cmdWrite_accessed ..)
  case rstRestartA | rstRestartB => cases h; exact .next (s.rstRestart_accessed c _)
  all_goals cases h

/-- Settles O41: such a command is one access. -/
theorem refusedCommandsChangeNothing : Obligations.RefusedCommandsChangeNothing := by
  unfold Obligations.RefusedCommandsChangeNothing
  intro c ctx s t hc ht
  obtain ⟨u, hu, h⟩ := exec_oneAccess hc s
  cases hu.symm.trans ht
  exact h.settled

/-! ## Writes of an index and subindex -/

theorem runVault_oneAccess (v : Nat) (c : Ctx) (s : State) : OneAccess c s (runVault v c s) := by
  unfold runVault
  split
  · exact exec_oneAccess (i := .vaultGenerate c) rfl s
  · exact exec_oneAccess (i := .vaultImportClear c) rfl s
  · exact exec_oneAccess (i := .vaultImportWrapped c) rfl s
  · exact exec_oneAccess (i := .vaultExportWrapped c) rfl s
  · exact exec_oneAccess (i := .vaultNarrowPolicy c) rfl s
  · exact exec_oneAccess (i := .vaultDestroy c) rfl s
  · exact exec_oneAccess (i := .vaultSign c) rfl s
  · exact exec_oneAccess (i := .vaultVerify c) rfl s
  · exact exec_oneAccess (i := .vaultEcdh c) rfl s
  · exact exec_oneAccess (i := .vaultHkdf c) rfl s
  · exact exec_oneAccess (i := .vaultKdfCtr c) rfl s
  · exact exec_oneAccess (i := .vaultRandom c) rfl s
  · exact exec_oneAccess (i := .vaultAttest c) rfl s

theorem runSc_oneAccess (v : Nat) (c : Ctx) (s : State) : OneAccess c s (runSc v c s) := by
  unfold runSc
  split
  · exact exec_oneAccess (i := .scOpen c) rfl s
  · exact exec_oneAccess (i := .scClose c) rfl s
  · exact exec_oneAccess (i := .scInstall c) rfl s
  · exact exec_oneAccess (i := .scRetire c) rfl s
  · exact exec_oneAccess (i := .scActivate c) rfl s

theorem runKid_oneAccess (v : Nat) (c : Ctx) (k : Nat) (s : State) : OneAccess c s (runKid v c k s) := by
  unfold runKid
  split
  · exact exec_oneAccess (i := .keyidProgram c k) rfl s
  · exact exec_oneAccess (i := .keyidClose c k) rfl s
  · exact exec_oneAccess (i := .keyidRetire c k) rfl s

theorem runSession_oneAccess (v : Nat) (c : Ctx) (s : State) : OneAccess c s (runSession v c s) := by
  unfold runSession
  split
  · exact exec_oneAccess (i := .sessionOpen c) rfl s
  · exact exec_oneAccess (i := .countersign c) rfl s
  · exact exec_oneAccess (i := .sessionClose c) rfl s

theorem runRst_oneAccess (v : Nat) (c : Ctx) (s : State) : OneAccess c s (runRst v c s) := by
  unfold runRst
  split
  · exact exec_oneAccess (i := .rstDevice c) rfl s
  · exact exec_oneAccess (i := .rstSnuff c) rfl s
  · exact exec_oneAccess (i := .rstRestartA c) rfl s
  · exact exec_oneAccess (i := .rstRestartB c) rfl s

/-- A state without abort, or else its abort alone. -/
theorem State.ends_ite (s : State) (c : Ctx) (t : State) :
    s.Ends c (if t.resp.abort = 0 then t else s.refuse c t.resp.abort) := by
  split
  · next h => exact .inl h
  · exact s.ends_refuse c _

/-- A request for a mode, with the levels that the WAKE pins then have, is the write of a command object. -/
theorem State.runPwr_ends (s : State) {c : Ctx} (v : Nat) (ha : s.answers c = true) : s.Ends c (s.runPwr c v) := by
  unfold State.runPwr
  split
  · exact s.ends_ite c _
  · exact s.ends_ite c _
  · exact (exec_oneAccess (i := .pwrRequestFlame c) rfl s).ends ha
  · exact (exec_oneAccess (i := .pwrRequestTrim c) rfl s).ends ha
  · exact (exec_oneAccess (i := .pwrRequestGlow c) rfl s).ends ha

/-- The write of an object with a row of its own is that row's access; the seal's closure, which counts its
refusals, is left out. -/
theorem State.ownRow_ends {s t : State} {c : Ctx} {r : Reg} {v : Nat} {b : List Byte} (hs : r.grp ≠ .msSeal)
    (ha : s.answers c = true)
    (h : s.ownRow c r v b = some t) : s.Ends c t := by
  have row {o : Host.Outcome State Fault Refusal} (k : OneAccess c s o) (h : some (after s o) = some t) :
    s.Ends c t := by
    cases h
    exact k.ends ha
  unfold State.ownRow at h
  dsimp only at h
  split at h
  · exact row (exec_oneAccess (i := .evPulse c v) rfl s) h
  · exact row (exec_oneAccess (i := .ecntClear c r.inst v) rfl s) h
  · exact row (exec_oneAccess (i := .tbSnapshot c v) rfl s) h
  · exact row (OneAccess.ite (exec_oneAccess (i := .domDisable c r.inst) rfl s)
      (exec_oneAccess (i := .domEnable c r.inst) rfl s)) h
  · exact row (exec_oneAccess (i := .domRole c r.inst v) rfl s) h
  · exact row (exec_oneAccess (i := .domStep c r.inst v) rfl s) h
  · exact row (exec_oneAccess (i := .domSyncTimeoutWrite c r.inst v) rfl s) h
  · exact row (exec_oneAccess (i := .domStandbyWrite c r.inst v) rfl s) h
  · exact row (OneAccess.ite (exec_oneAccess (i := .portDisable c r.inst) rfl s)
      (exec_oneAccess (i := .portEnable c r.inst) rfl s)) h
  · exact row (OneAccess.ite (exec_oneAccess (i := .portRestartFull c r.inst) rfl s)
      (exec_oneAccess (i := .portRestart c r.inst) rfl s)) h
  · exact row (exec_oneAccess (i := .pcntClear c r.inst v) rfl s) h
  · exact row (exec_oneAccess (i := .ccntClear c r.inst v) rfl s) h
  · exact row (exec_oneAccess (i := .qcntClear c r.inst v) rfl s) h
  · exact row (exec_oneAccess (i := .scntClear c r.inst v) rfl s) h
  · exact row (exec_oneAccess (i := .lcClear c r.inst v) rfl s) h
  · exact row (exec_oneAccess (i := .scpClear c r.inst v) rfl s) h
  · exact row (exec_oneAccess (i := .canClear c r.inst v) rfl s) h
  · exact row (exec_oneAccess (i := .linClear c r.inst v) rfl s) h
  · exact row (exec_oneAccess (i := .acfClear c r.inst v) rfl s) h
  · exact row (exec_oneAccess (i := .eclClear c r.inst v) rfl s) h
  · exact row (exec_oneAccess (i := .bufReclaim c v) rfl s) h
  · exact row (exec_oneAccess (i := .fdbForget c v) rfl s) h
  · exact row (exec_oneAccess (i := .qFlush c r.inst v) rfl s) h
  · exact row (runSc_oneAccess v c s) h
  · exact row (runVault_oneAccess v c s) h
  · exact row (exec_oneAccess (i := .lifeCycleTransition c v) rfl s) h
  · exact row (OneAccess.ite (exec_oneAccess (i := .crUnload c) rfl s) (exec_oneAccess (i := .crLoad c) rfl s)) h
  · exact row (exec_oneAccess (i := .crqProduce c r.inst v) rfl s) h
  · exact row (OneAccess.ite (exec_oneAccess (i := .dmaStart c r.inst) rfl s)
      (.ite (exec_oneAccess (i := .dmaResume c r.inst) rfl s) (exec_oneAccess (i := .dmaStop c r.inst) rfl s))) h
  · exact row (runKid_oneAccess v c r.inst s) h
  · exact row (exec_oneAccess (i := .flashErase c v) rfl s) h
  · exact row (exec_oneAccess (i := .chmRetrain c v) rfl s) h
  · exact row (exec_oneAccess (i := .chmFaultClear c v) rfl s) h
  · exact row (exec_oneAccess (i := .canEnable c r.inst v) rfl s) h
  · exact row (exec_oneAccess (i := .canRecover c r.inst v) rfl s) h
  · exact row (exec_oneAccess (i := .linSendWake c r.inst v) rfl s) h
  · exact row (exec_oneAccess (i := .cycDataWrite c r.inst b) rfl s) h
  · split at h
    · exact row (exec_oneAccess (i := .gwKeyLoad c _ v) rfl s) h
    · cases h
  · exact row (exec_oneAccess (i := .cpS2Write c v) rfl s) h
  · exact row (exec_oneAccess (i := .cdCommand c r.inst v) rfl s) h
  · exact row (exec_oneAccess (i := .cdClearFault c r.inst v) rfl s) h
  · exact row (runSession_oneAccess v c s) h
  · exact absurd (by assumption) hs
  · exact row (exec_oneAccess (i := .msAcknowledge c v) rfl s) h
  · exact row (exec_oneAccess (i := .msExport c v) rfl s) h
  · cases h; exact s.runPwr_ends v ha
  · exact row (exec_oneAccess (i := .cfgSave c v) rfl s) h
  · exact row (exec_oneAccess (i := .hbBeat c v true true) rfl s) h
  · exact row (exec_oneAccess (i := .cgClaim c r.inst v) rfl s) h
  · exact row (exec_oneAccess (i := .outCommand c r.inst v) rfl s) h
  · exact row (exec_oneAccess (i := .errAcknowledge c v) rfl s) h
  · exact row (exec_oneAccess (i := .errReport c b) rfl s) h
  · exact row (runRst_oneAccess v c s) h
  · exact row (exec_oneAccess (i := .updPrepare c v) rfl s) h
  · exact row (exec_oneAccess (i := .updConfirm c v) rfl s) h
  · exact row (exec_oneAccess (i := .ownerKeyWrite c b) rfl s) h
  · exact row (OneAccess.ite (exec_oneAccess (i := .seRun c r.inst) rfl s)
      (exec_oneAccess (i := .seStop c r.inst) rfl s)) h
  · exact row (exec_oneAccess (i := .txRingProduce c v) rfl s) h
  · cases h

/-- The objects of the seal's closure stand at 2D40h alone. -/
theorem msSeal_rows : ∀ o ∈ objectRows, o.grp = .msSeal → o.base = 0x2D40 ∧ o.count = 1 := by decide +kernel

/-- Where an index and subindex lead: to an owner's block, to a table window, to the object of the tables, or
nowhere (R5, R44). -/
theorem State.place_cases (s : State) (idx sub row : Nat) :
    (∃ o k, s.place idx sub row = .commit o k) ∨ (∃ o k, s.place idx sub row = .window o k) ∨
    (∃ o, objAt s.fuses.variant idx sub = some o ∧ s.place idx sub row = .object o
    (o.reg idx sub (if o.isRow then row else 0))) ∨
    ∃ a, a ≠ 0 ∧ s.place idx sub row = .missing a := by
  generalize hp : s.place idx sub row = p
  unfold State.place at hp
  extract_lets v obj at hp
  have hobj : (∃ o, objAt v idx sub = some o ∧ obj = .object o (o.reg idx sub (if o.isRow then row else 0))) ∨
      ∃ a, a ≠ 0 ∧ obj = .missing a := by
    subst obj
    split
    · next o ho => exact .inl ⟨o, ho, rfl⟩
    · split
      · refine .inr ⟨_, ?_, rfl⟩
        split <;> decide
      · exact .inr ⟨_, by decide, rfl⟩
  clear_value obj
  split at hp
  · split at hp
    · exact .inl ⟨_, _, hp.symm⟩
    · split at hp
      · exact .inr (.inl ⟨_, _, hp.symm⟩)
      · exact .inr (.inr (hp ▸ hobj))
  · exact .inr (.inr (hp ▸ hobj))

/-- A place that is an object is the object of its index and subindex, with its register. -/
theorem State.objAt_of_place {s : State} {idx sub row : Nat} {o : Obj} {r : Reg}
    (h : s.place idx sub row = .object o r) :
    objAt s.fuses.variant idx sub = some o ∧ r.grp = o.grp := by
  rcases s.place_cases idx sub row with ⟨_, _, hp⟩ | ⟨_, _, hp⟩ | ⟨q, hq, hp⟩ | ⟨_, _, hp⟩
  · cases h.symm.trans hp
  · cases h.symm.trans hp
  · cases h.symm.trans hp
    exact ⟨hq, rfl⟩
  · cases h.symm.trans hp

/-- An object found at an index is a row of the tables that covers the index. -/
theorem objAt_covers {v : Variant} {idx sub : Nat} {o : Obj} (h : objAt v idx sub = some o) :
    o ∈ objectRows ∧ o.covers idx sub = true := by
  obtain ⟨h, _⟩ := Option.filter_eq_some_iff.mp h
  exact ⟨List.mem_of_find?_eq_some h, List.find?_some (p := fun q : Obj => q.covers idx sub) h⟩

/-- An object at another index than 2D40h is none of the seal's closure. -/
theorem State.place_ne_msSeal {s : State} {idx sub row : Nat} {o : Obj} {r : Reg}
    (h : s.place idx sub row = .object o r)
    (hi : idx ≠ 0x2D40) : r.grp ≠ .msSeal := by
  intro hg
  obtain ⟨ho, hr⟩ := State.objAt_of_place h
  obtain ⟨hm, hc⟩ := objAt_covers ho
  obtain ⟨hb, hn⟩ := msSeal_rows o hm (hr ▸ hg)
  simp only [Obj.covers, hb, hn, Bool.and_eq_true, decide_eq_true_eq] at hc
  omega

/-- A row's own write stands, or the length or the value is refused ahead of the row's conditions. -/
theorem State.settleRow_ends {s t : State} {c : Ctx} (late : Option Nat) (h : s.Ends c t) :
    s.Ends c (s.settleRow t c late) := by
  unfold State.settleRow
  split
  · exact h
  · split
    · exact h
    · exact s.ends_refuse c _

theorem State.writeObject_ends {s : State} {c : Ctx} {r : Reg} (idx : Nat) (o : Obj) (d : WriteData) (sameCycle : Bool)
    (hs : r.grp ≠ .msSeal) (ha : s.answers c = true) : s.Ends c (s.writeObject c idx o r d sameCycle) := by
  unfold State.writeObject
  dsimp only
  split
  · next t h => exact State.settleRow_ends _ (State.ownRow_ends hs ha h)
  · exact (s.access_accessed c _ _ _ _ _ rfl).answered ha

theorem State.writeCommit_ends {s : State} {c : Ctx} (idx : Nat) (o : Owner) (k : Nat) (d : WriteData)
    (ha : s.answers c = true) :
    s.Ends c (s.writeCommit c idx o k d) := by
  have put (sub : Nat) (wick : Bool) (checks : List (Option Nat)) (act : State → State) :
      s.Ends c (s.rwWrite c idx sub true wick checks act) := (s.rwWrite_accessed ..).answered ha
  have commit (v : Nat) :
    OneAccess c s (if v = 1 then execCommit c idx s else if v = 3 then execDiscard c idx s else execDisarm c idx s) :=
    .ite (exec_oneAccess (i := .commit c idx) rfl s)
      (.ite (exec_oneAccess (i := .discard c idx) rfl s) (exec_oneAccess (i := .disarm c idx) rfl s))
  match k with
  | 0 => exact put ..
  | 1 => exact put ..
  | 2 => exact put ..
  | 3 => exact State.settleRow_ends _ ((commit _).ends ha)
  | 5 => exact put ..
  | 4 => exact s.ends_refuse c _
  | _ + 6 => exact s.ends_refuse c _

theorem State.writeWindow_ends {s : State} {c : Ctx} (idx : Nat) (o : Owner) (k : Nat) (d : WriteData)
    (ha : s.answers c = true) :
    s.Ends c (s.writeWindow c idx o k d) := by
  unfold State.writeWindow
  dsimp only
  split
  · exact s.ends_refuse c _
  · exact (s.rwWrite_accessed ..).answered ha

/-- An answered write of anything but the seal's objects, which count what they refuse (R442), ends as accesses do. -/
theorem State.writeAt_ends {s : State} {c : Ctx} {idx : Nat} (sub row : Nat) (d : WriteData) (sameCycle : Bool)
    (h20 : idx ≠ 0x2D20)
    (h40 : idx ≠ 0x2D40) (ha : s.answers c = true) : s.Ends c (s.writeAt c idx sub row d sameCycle) := by
  unfold State.writeAt
  split
  · exact s.ends_refuse c _
  · exact State.writeCommit_ends idx _ _ d ha
  · exact State.writeWindow_ends idx _ _ d ha
  · next o r hp =>
    rw [if_neg (by simp [h20, h40] : ¬ (idx = 0x2D20 ∨ idx = 0x2D40))]
    split
    · exact s.ends_refuse c _
    · exact State.writeObject_ends idx o d sameCycle (State.place_ne_msSeal hp h40) ha

/-- A write that no path answers leaves the state as it is. -/
theorem execGeneralWrite_unanswered {s : State} {c : Ctx} (idx sub : Nat) (d : WriteData) (sameCycle : Bool)
    (h : s.answers c = false) :
    execGeneralWrite c idx sub d sameCycle s = .next s := by
  simp [execGeneralWrite, h]

/-- Settles O42: a write that is not answered changes nothing, and an answered one leads to one place. -/
theorem refusedWritesChangeNothing : Obligations.RefusedWritesChangeNothing := by
  unfold Obligations.RefusedWritesChangeNothing
  intro ctx index sub d sameCycle s t h20 h40 hself ht
  rw [exec_generalWrite] at ht
  cases ha : s.answers ctx with
  | false =>
    have h := (execGeneralWrite_unanswered index sub d sameCycle ha).symm.trans ht
    exact .inl (Host.Outcome.next.inj h).symm
  | true =>
    cases (execGeneralWrite_of_place d sameCycle ha hself).symm.trans ht
    exact .inr (State.writeAt_ends sub _ d sameCycle h20 h40 ha)

/-! ## Paths that do not answer -/

/-- Outside the running modes no path answers, but for the SDO server in Snuffed (R76). -/
theorem State.answers_eq_false {s : State} {c : Ctx}
    (h : s.starting = true ∨ s.mode = .dormant ∨ s.mode = .ember ∨ (s.mode = .snuffed ∧ c ≠ .sdo)) :
    s.answers c = false := by
  rcases h with h | h | h | ⟨h, hc⟩
  · simp [State.answers, State.running, h]
  · simp [State.answers, State.running, h]
  · simp [State.answers, State.running, h]
  · simp [State.answers, State.running, h, hc]

/-- A write of the seal's closure that no path answers meets neither its lock nor its checks. -/
theorem execSealClose_unanswered {s : State} {c : Ctx} (v : Nat) (h : s.answers c = false) :
    execSealClose c v s = .next s := by
  rw [execSealClose, State.sealLock, if_pos (.inl (by simp [h]))]
  exact congrArg Host.Outcome.next (s.access_unanswered _ _ _ _ _ h)

/-- Settles O58: each command asks first whether its path is answered. -/
theorem unansweredAccessesDoNothing : Obligations.UnansweredAccessesDoNothing := by
  unfold Obligations.UnansweredAccessesDoNothing
  intro c ctx s hc hs
  have ha : s.answers ctx = false := State.answers_eq_false hs
  rcases hc with hc | rfl | ⟨v, rfl | rfl⟩ | ⟨index, sub, d, sameCycle, rfl⟩
  · obtain ⟨t, ht, h⟩ := exec_oneAccess hc s
    rw [ht, h.silent ha]
  · simp [execLongDataRead, ha]
  · simp [execLongDataWrite, ha]
  · exact execSealClose_unanswered v ha
  · exact execGeneralWrite_unanswered index sub d sameCycle ha

/-! ## Misaligned accesses -/

/-- A refusal with an abort. -/
def State.RefusedAs (s : State) (c : Ctx) (t : State) : Prop := ∃ a, a ≠ 0 ∧ t = s.refuse c a

theorem State.refusedAs_refuse (s : State) (c : Ctx) {a : Nat} (h : a ≠ 0) : s.RefusedAs c (s.refuse c a) := ⟨a, h, rfl⟩

/-- An answered access of an object that is present, one of whose checks refuses, is refused. -/
theorem State.access_refusedAs {s : State} {c : Ctx} (wick : Bool) {checks : List (Option Nat)}
    (act : State → State) {a : Nat}
    (ha : s.answers c = true) (hc : firstAbort checks = some a) (h0 : a ≠ 0) :
    s.RefusedAs c (s.access c true wick checks act) := by
  have hl : linkAbort c ≠ 0 := by cases c <;> decide
  unfold State.access
  rw [if_pos ha]
  split
  · exact s.refusedAs_refuse c hl
  · cases hm : s.running || wick with
    | false => exact s.refusedAs_refuse c (by decide)
    | true => simpa [hc] using s.refusedAs_refuse c h0

/-- The lock of a running save or load comes ahead of the other checks. -/
theorem firstAbort_lock {locked : Bool} {a : Nat} {l : List (Option Nat)} (h : firstAbort l = some a) (h0 : a ≠ 0) :
    ∃ b, b ≠ 0 ∧ firstAbort (need (!locked) 0x08000022 :: l) = some b := by
  cases locked with
  | false => exact ⟨a, h0, h⟩
  | true => exact ⟨_, by decide, rfl⟩

theorem State.rwWrite_refusedAs {s : State} {c : Ctx} (idx sub : Nat) (wick : Bool) {checks : List (Option Nat)}
    (act : State → State)
    {a : Nat} (ha : s.answers c = true) (hc : firstAbort checks = some a) (h0 : a ≠ 0) :
    s.RefusedAs c (s.rwWrite c idx sub true wick checks act) := by
  obtain ⟨b, hb0, hb⟩ := firstAbort_lock hc h0
  exact State.access_refusedAs wick _ ha hb hb0

/-- A row's write whose length or value is refused is refused, by the row's early checks or as its late ones ask. -/
theorem State.settleRow_refusedAs {s t : State} {c : Ctx} {a : Nat} (h : s.Ends c t) (h0 : a ≠ 0) :
    s.RefusedAs c (s.settleRow t c (some a)) := by
  simp only [State.settleRow]
  split
  · next hm =>
    have ht : t.resp.abort ≠ 0 := by
      intro h
      rw [h] at hm
      exact absurd hm (by decide)
    exact ⟨_, ht, h.resolve_left ht⟩
  · exact s.refusedAs_refuse c h0

/-- The length check refuses every misaligned access, ahead of the value's checks. -/
theorem State.lateAbort_misaligned (s : State) (o : Obj) (r : Reg) :
    s.lateAbort o r .misaligned = some 0x06070010 := rfl

/-- The abort of a missing place is one of R44. -/
theorem State.place_missing_ne {s : State} {idx sub row a : Nat} (h : s.place idx sub row = .missing a) : a ≠ 0 := by
  rcases s.place_cases idx sub row with ⟨_, _, hp⟩ | ⟨_, _, hp⟩ | ⟨_, _, hp⟩ | ⟨_, h0, hp⟩
  · cases h.symm.trans hp
  · cases h.symm.trans hp
  · cases h.symm.trans hp
  · cases h.symm.trans hp
    exact h0

theorem State.writeObject_misaligned {s : State} {c : Ctx} {r : Reg} (idx : Nat) (o : Obj) (sameCycle : Bool)
    (hs : r.grp ≠ .msSeal)
    (ha : s.answers c = true) : s.RefusedAs c (s.writeObject c idx o r .misaligned sameCycle) := by
  unfold State.writeObject
  rw [s.lateAbort_misaligned o r]
  dsimp only
  split
  · next t h => exact State.settleRow_refusedAs (State.ownRow_ends hs ha h) (by decide)
  · cases hm : s.stateAllows c idx o r with
    | false => exact State.access_refusedAs _ _ ha rfl (by decide)
    | true => exact State.access_refusedAs _ _ ha rfl (by decide)

theorem State.writeCommit_misaligned {s : State} {c : Ctx} (idx : Nat) (o : Owner) (k : Nat) (ha : s.answers c = true) :
    s.RefusedAs c (s.writeCommit c idx o k .misaligned) := by
  have put (sub : Nat) (wick : Bool) (checks : List (Option Nat)) (act : State → State) :
      s.RefusedAs c (s.rwWrite c idx sub true wick (some 0x06070010 :: checks) act) :=
        State.rwWrite_refusedAs _ _ _ _ ha rfl (by decide)
  match k with
  | 0 => exact put ..
  | 1 => exact put ..
  | 2 => exact put ..
  | 3 => exact State.settleRow_refusedAs ((exec_oneAccess (i := .disarm c idx) rfl s).ends ha) (by decide)
  | 5 => exact put ..
  | 4 => exact s.refusedAs_refuse c (by decide)
  | _ + 6 => exact s.refusedAs_refuse c (by decide)

theorem State.writeWindow_misaligned {s : State} {c : Ctx} (idx : Nat) (o : Owner) (k : Nat) (ha : s.answers c = true) :
    s.RefusedAs c (s.writeWindow c idx o k .misaligned) := by
  unfold State.writeWindow
  dsimp only
  split
  · exact s.refusedAs_refuse c (by decide)
  · exact State.rwWrite_refusedAs _ _ _ _ ha rfl (by decide)

/-- An answered misaligned write of anything but the seal's objects is refused. -/
theorem State.writeAt_misaligned {s : State} {c : Ctx} {idx : Nat} (sub row : Nat) (sameCycle : Bool)
    (h20 : idx ≠ 0x2D20)
    (h40 : idx ≠ 0x2D40) (ha : s.answers c = true) : s.RefusedAs c (s.writeAt c idx sub row .misaligned sameCycle) := by
  unfold State.writeAt
  split
  · next a hp => exact s.refusedAs_refuse c (State.place_missing_ne hp)
  · exact State.writeCommit_misaligned idx _ _ ha
  · exact State.writeWindow_misaligned idx _ _ ha
  · next o r hp =>
    rw [if_neg (by simp [h20, h40] : ¬ (idx = 0x2D20 ∨ idx = 0x2D40))]
    split
    · exact s.refusedAs_refuse c (by decide)
    · exact State.writeObject_misaligned idx o sameCycle (State.place_ne_msSeal hp h40) ha

/-- An answered misaligned write of anything but the seal's objects, the long-object window included, is refused. -/
theorem State.dictWrite_misaligned {s : State} {c : Ctx} {idx : Nat} (sub : Nat) (sameCycle : Bool) (h20 : idx ≠ 0x2D20)
    (h40 : idx ≠ 0x2D40) (ha : s.answers c = true) : s.RefusedAs c (s.dictWrite c idx sub .misaligned sameCycle) := by
  unfold State.dictWrite
  split
  · exact s.refusedAs_refuse c (by decide)
  · exact State.writeAt_misaligned sub _ sameCycle h20 h40 ha

/-- A refusal changes no register but the latched abort of its context. -/
theorem State.get_refuse_of_ne (s : State) {c : Ctx} (a : Nat) {q : Reg} (h : q ≠ Reg.devLastAbort.of c) :
    (s.refuse c a).get q = s.get q := by
  rw [State.get_refuse, if_neg (fun k => h k.1)]

/-- A write of an object whose kind is its object's and permits it is the write of the object. -/
theorem State.writeAt_object {s : State} {c : Ctx} {idx sub row : Nat} {o : Obj} {r : Reg} (d : WriteData)
    (sameCycle : Bool)
    (hp : s.place idx sub row = .object o r) (hro : (Place.object o r).acc ≠ .ro)
    (hfixed : (Place.object o r).acc ≠ .fixed)
    (h20 : idx ≠ 0x2D20) (h40 : idx ≠ 0x2D40) :
    s.writeAt c idx sub row d sameCycle = s.writeObject c idx o r d sameCycle := by
  simp [State.writeAt, hp, hro, hfixed, h20, h40]

/-- A misaligned write of an object whose earlier checks pass is refused for its length (R44, R57). -/
theorem State.writeObject_misaligned_of_allowed {s : State} {c : Ctx} {idx : Nat} {o : Obj} {r : Reg} (sameCycle : Bool)
    (ha : s.answers c = true) (hb : s.linkBars c o.wick = false) (hm : (s.running || o.wick) = true)
    (hs : s.stateAllows c idx o r = true)
    (hrow : s.ownRow c r (o.ty.valueOf .misaligned) (wholeBytes o.ty .misaligned) = none) :
    s.writeObject c idx o r .misaligned sameCycle = s.refuse c 0x06070010 := by
  simp [State.writeObject, hrow, State.access, ha, hb, hm, hs, s.lateAbort_misaligned o r]

/-- Settles O46: the length check refuses every misaligned access that an earlier check does not. -/
theorem misalignedAccessIsLatched : Obligations.MisalignedAccessIsLatched := by
  unfold Obligations.MisalignedAccessIsLatched
  refine ⟨?refused, ?length⟩
  case refused =>
    intro ctx index sub sameCycle s t ha h20 h40 ht
    obtain ⟨a, h0, h⟩ := State.dictWrite_misaligned sub sameCycle h20 h40 ha
    rw [exec_generalWrite, execGeneralWrite, if_pos ha, h] at ht
    cases ht
    exact ⟨rfl, h0, rfl, fun q => s.get_refuse_of_ne a⟩
  case length =>
    intro ctx index sub sameCycle s o r ha hself hp hro hfixed hacc h20 h40 hb hm hs hrow
    refine ⟨s.refuse ctx 0x06070010, ?_, rfl, (s.get_refuse ..).trans (if_pos ⟨rfl, by decide⟩),
      fun q => s.get_refuse_of_ne _⟩
    rw [exec_generalWrite, execGeneralWrite_of_place _ sameCycle ha hself,
      State.writeAt_object _ sameCycle hp (hacc ▸ hro) (hacc ▸ hfixed) h20 h40,
      State.writeObject_misaligned_of_allowed sameCycle ha hb hm hs hrow]

end Sys2Proof.Machine
end

section
/-! Commits and pending copies: modes that an owner does not accept, hand-overs and what they leave in both copies,
and writes of a pending copy. -/
namespace Sys2Proof.Machine

/-! ## Commits -/

/-- Subindex F8h + k of an owner's index is its commit block (R50). -/
theorem State.place_commit {s : State} {idx k : Nat} {o : Owner} (row : Nat)
    (ho : ownerAt s.fuses.variant idx = some o) (hk : k < 8) :
    s.place idx (0xF8 + k) row = .commit o k := by
  unfold State.place
  dsimp only
  rw [ho]
  simp only [Nat.add_sub_cancel_left]
  exact if_pos (by omega)

/-- An admitted write whose checks refuse it is refused. -/
theorem State.rwWrite_refuse {s : State} {c : Ctx} {idx sub : Nat} {wick : Bool} {checks : List (Option Nat)}
    {a : Nat} (act : State → State)
    (h : s.admits c idx sub wick = true) (hc : firstAbort checks = some a) :
    s.rwWrite c idx sub true wick checks act = s.refuse c a := by
  obtain ⟨ha, hb, hm, hl⟩ := (s.admits_iff c idx sub wick).mp h
  simp [State.rwWrite, State.access, ha, hb, hm, hl, hc]

/-- A byte that holds a commit mode, stored or sent as bytes, has the type's length and value. -/
theorem commitMode_data {v : Nat} {d : WriteData} (hd : d = .store v ∨ d = .bytes [BitVec.ofNat 8 v]) (hv : v ≤ 2) :
    (Ty.u 1).lengthAbort d = none ∧ (Ty.u 1).extensionAbort d = none ∧ (Ty.u 1).valueOf d = v := by
  obtain rfl | rfl | rfl : v = 0 ∨ v = 1 ∨ v = 2 := by omega
  all_goals rcases hd with rfl | rfl <;> decide

/-- A write of a mode that an owner does not accept is refused by the last check of `Grp.CommitWhen` (R51). -/
theorem State.writeCommit_mode_refused {s : State} {c : Ctx} {idx v : Nat} {o : Owner} {d : WriteData}
    (h : s.admits c idx 0xF8 (o.grp = .upd) = true) (hd : d = .store v ∨ d = .bytes [BitVec.ofNat 8 v]) (hv : v ≤ 2)
    (hm : v ∉ o.modes) :
    s.writeCommit c idx o 0 d = s.refuse c 0x06040043 := by
  obtain ⟨hlen, hext, hval⟩ := commitMode_data hd hv
  refine State.rwWrite_refuse _ h ?_
  simp only [Place.ty, hlen, hext, hval, firstAbort_none, firstAbort_nil]
  simp [hv, hm]

/-- Settles O45: the place is the owner's `Grp.CommitWhen`. -/
theorem unacceptedCommitModeIsRefused : Obligations.UnacceptedCommitModeIsRefused := by
  unfold Obligations.UnacceptedCommitModeIsRefused
  intro ctx index v d sameCycle s o hd ho hv hm h
  obtain ⟨ha, _⟩ := (s.admits_iff ..).mp h
  have hself : selfCursor index 0xF8 = false := by simp [selfCursor]
  rw [exec_generalWrite, execGeneralWrite_of_place d sameCycle ha hself, State.writeAt,
    s.place_commit _ ho (by decide : 0 < 8)]
  exact congrArg Host.Outcome.next (State.writeCommit_mode_refused h hd hv hm)

/-- An admitted access of the commit object of an owner whose checks pass is carried out. -/
theorem State.commitAccess_admits {s : State} {c : Ctx} {idx : Nat} {o : Owner} {checks : Owner → List (Option Nat)}
    (act : State → Owner → State) (ho : ownerAt s.fuses.variant idx = some o)
    (h : s.admits c idx 0xFB (o.grp = .upd) = true)
    (hc : firstAbort (checks o) = none) : s.commitAccess c idx checks act = (act s o).done c := by
  simp only [State.commitAccess, ho]
  exact s.cmdWrite_admits c idx 0xFB _ _ _ h hc

/-- An admitted commit of an owner that is no upper bank of a chained pair, with freshness windows in range (R136,
R410). -/
theorem execCommit_admits {s : State} {c : Ctx} {idx : Nat} {o : Owner} (ho : ownerAt s.fuses.variant idx = some o)
    (h : s.admits c idx 0xFB (o.grp = .upd) = true)
    (hmm : o.grp = .mm → o.inst % 2 = 0 ∨ s.chainLower (o.inst - 1) = false)
    (hfv : o.grp = .fv → s.fvWindowsOk = true) : execCommit c idx s = .next ((s.commit o).done c) := by
  refine congrArg Host.Outcome.next (State.commitAccess_admits _ ho h ?_)
  have hf : (o.grp ≠ .fv || s.fvWindowsOk) = true := by
    by_cases hg : o.grp = .fv
    · simp [hfv hg]
    · simp [hg]
  have hm : (o.grp ≠ .mm || o.inst % 2 = 0 || !s.chainLower (o.inst - 1)) = true := by
    by_cases hg : o.grp = .mm
    · rcases hmm hg with h | h <;> simp [h]
    · simp [hg]
  rw [need_of _ _ hf, need_of _ _ hm]
  rfl

/-- A commit in mode 0 whose pending copy passes hands over at once (R52). -/
theorem State.commit_atOnce {s : State} {o : Owner} (hr : (s.unarm o).commitRefusal o = none)
    (hw : s.get (Reg.commitWhen o) = 0) :
    s.commit o = (s.unarm o).handAtOnce o := by
  have hw' : (s.unarm o).get (Reg.commitWhen o) = 0 := hw
  simp only [State.commit, hr, hw']

/-- An owner that is no rule bank is handed over by its commit. -/
theorem State.handAtOnce_of_ne_mm {s : State} {o : Owner} (h : o.grp ≠ .mm) : s.handAtOnce o = s.handOver o := if_neg h

/-- A rule bank is handed over by its commit, after a pause that still runs, and the rest of its own pause follows
(R152). -/
theorem State.handAtOnce_mm (s : State) (b : Nat) :
    ∃ u, u = (if s.get (Reg.bankPause b) = 0 then s else s.endPause b) ∧
      s.handAtOnce ⟨.mm, b⟩ = (u.handOver ⟨.mm, b⟩).sets [(Reg.bankPause b, u.now + 1), (Reg.bankFlipped b, 1)] :=
  ⟨_, rfl, rfl⟩

/-- Settles O2: the checks of each command pass, and what it does is what its rule says. -/
theorem commitsCompleteWithTheirOutcome : Obligations.CommitsCompleteWithTheirOutcome := by
  unfold Obligations.CommitsCompleteWithTheirOutcome
  refine ⟨?commit, ?bank, ?disarm, ?discard, ?boundary, ?kindle, ?flip⟩
  case commit =>
    intro ctx index s o ho h hfv hmm hr hw
    rw [exec_commit, execCommit_admits ho h (fun hg => absurd hg hmm) (fun hg => absurd hg hfv),
      State.commit_atOnce hr hw,
      State.handAtOnce_of_ne_mm hmm]
  case bank =>
    intro ctx index s b ho h hr hchain hw hp
    obtain ⟨u, hu, hand⟩ := (s.unarm ⟨.mm, b⟩).handAtOnce_mm b
    have hp' : (s.unarm ⟨.mm, b⟩).get (Reg.bankPause b) = 0 := hp
    rw [if_pos hp'] at hu
    subst hu
    rw [exec_commit, execCommit_admits ho h (fun _ => hchain) nofun, State.commit_atOnce hr hw, hand]
    rfl
  case disarm => exact fun _ _ _ _ ho h => congrArg Host.Outcome.next (State.commitAccess_admits _ ho h rfl)
  case discard => exact fun _ _ _ _ ho h => congrArg Host.Outcome.next (State.commitAccess_admits _ ho h rfl)
  case boundary =>
    intro index s o ho hrun harm h1 h2
    simp only [exec_boundaryHandover, execBoundaryHandover, ho]
    exact if_pos ⟨hrun, harm, h1, h2⟩
  case kindle =>
    intro d s hrun
    rw [exec_kindleFire, execKindleFire, if_pos hrun]
  case flip => exact fun b s hb => if_pos hb

/-! ## The copies after a hand-over -/

/-- A register that no entry of the pending copy names reads the same in both copies. -/
theorem State.pendGet_of_none {s : State} {q : Reg} (h : Assoc.get? s.pend q = none) : s.pendGet q = s.get q := by
  simp [State.pendGet, h]

/-- A pending copy that loses entries names no register more. -/
theorem Assoc.get?_filter_none {α : Type} {l : List (Reg × α)} {q : Reg} (p : Reg → Bool) (h : Assoc.get? l q = none) :
    Assoc.get? (l.filter (fun e => p e.1)) q = none := by
  rw [Assoc.get?_filter, h, ite_self]

/-- The pending copy that an owner takes is dropped. -/
theorem State.takePending_pend (s : State) (o : Owner) :
    (s.takePending o).pend = s.pend.filter (fun e => !s.owns o e.1) :=
  State.sets_pend _ _

/-- No entry of the pending copy names a register of an owner that has taken it. -/
theorem State.takePending_none {s : State} {o : Owner} {q : Reg} (h : s.owns o q = true) :
    Assoc.get? (s.takePending o).pend q = none := by
  rw [State.takePending_pend, Assoc.get?_filter s.pend (fun r => !s.owns o r) q, if_neg (by simp [h])]

/-- What an owner holds rests on the chaining of the rule banks alone. -/
theorem State.owns_congr {s t : State} (o : Owner) (q : Reg) (h : t.get Reg.clsBankChain = s.get Reg.clsBankChain) :
    t.owns o q = s.owns o q := by
  have hc : t.chainLower = s.chainLower := by
    funext b
    simp only [State.chainLower, h]
  unfold State.owns
  rw [hc]

/-- The parts that a hand-over changes beside the copies of its owner: registers, frames on the wire and granules. -/
abbrev handParts : Nat := 0x400004010

theorem State.handGcl_within (s : State) (n : Nat) (k : Option Nat) :
    Within handParts (s.takePending ⟨.gcl, n⟩) (s.handGcl n k) := by
  have h0 : Within handParts (s.takePending ⟨.gcl, n⟩) ((s.takePending ⟨.gcl, n⟩).count (Reg.scntListSwitches n)) :=
    (State.count_frame ..).mono rfl
  unfold State.handGcl
  dsimp only
  split
  · split
    · exact ((h0.next (State.gclPlan_frame ..) rfl).next (State.set_frame ..) rfl).next (State.count_frame ..) rfl
    · exact (h0.next (State.gclPlan_frame ..) rfl).next (State.set_frame ..) rfl
  · exact ((h0.next (State.set_frame ..) rfl).next (State.releaseHold_frame ..) rfl).next (State.setGates_frame ..) rfl

theorem State.handFdb_within (s : State) : Within handParts (s.takePending ⟨.fdb, 0⟩) s.handFdb :=
  (Within.refl _ _).next_foldl (fun u _ => (Within.refl _ u).next_foldl (fun _ _ => (State.fdbClear_frame ..).mono rfl))

theorem State.handSid_within (s : State) : Within handParts (s.takePending ⟨.sid, 0⟩) s.handSid :=
  (Within.refl _ _).next_foldl (fun _ _ => (State.set_frame ..).mono rfl)

theorem State.handRg_within (s : State) (r : Nat) : Within handParts (s.takePending ⟨.rg, r⟩) (s.handRg r) := by
  unfold State.handRg
  dsimp only
  split
  · exact Within.refl _ _
  · exact (Within.refl _ _).upd_granules rfl

theorem State.handDma_within (s : State) (c : Nat) : Within handParts (s.takePending ⟨.dma, c⟩) (s.handDma c) := by
  unfold State.handDma
  dsimp only
  split
  · exact (State.set_frame ..).mono rfl
  · exact Within.refl _ _

theorem State.handConn_within (s : State) : Within handParts (s.takePending ⟨.conn, 0⟩) s.handConn :=
  ((Within.refl _ _).next_foldl (fun _ _ => (State.set_frame ..).mono rfl)).next (State.set_frame ..) rfl

theorem State.handFv_within (s : State) : Within handParts (s.takePending ⟨.fv, 0⟩) s.handFv := by
  refine (Within.refl _ _).next_foldl (fun u x => ?_)
  dsimp only
  split
  · exact (State.set_frame ..).mono rfl
  · exact Within.refl _ _

/-- An owner of a table that is one table of its device is the first of its group. -/
def Owner.Single (o : Owner) : Prop := o.grp = .fdb ∨ o.grp = .sid ∨ o.grp = .conn ∨ o.grp = .fv → o.inst = 0

/-- A rule bank is no such owner. -/
theorem mm_single (b : Nat) : Owner.Single ⟨.mm, b⟩ := by simp [Owner.Single]

/-- An index has a single owner of such a group. -/
theorem single_of_ownerAt {v : Variant} {idx : Nat} {o : Owner} (h : ownerAt v idx = some o) : o.Single := by
  unfold ownerAt at h
  unfold Owner.Single
  repeat' split at h
  all_goals cases h
  all_goals simp

/-- Once its copy is active, an owner other than the update unit has no register of its own pending. -/
theorem State.apply_none {s : State} {o : Owner} {q : Reg} (k : Option Nat) (hu : o.grp ≠ .upd) (hi : o.Single)
    (h : s.owns o q = true) : Assoc.get? (s.apply o k).pend q = none := by
  have taken {t : State} (w : Within handParts (s.takePending o) t) : Assoc.get? t.pend q = none := by
    rw [show t.pend = (s.takePending o).pend from w.same .pend rfl]
    exact State.takePending_none h
  obtain ⟨g, i⟩ := o
  unfold State.apply
  dsimp only
  split
  · exact taken (s.handGcl_within i k)
  · cases hi (.inl rfl); exact taken s.handFdb_within
  · cases hi (.inr (.inl rfl)); exact taken s.handSid_within
  · exact taken ((Within.refl _ _).next_foldl (fun _ _ => (State.fillMeter_frame ..).mono rfl))
  · exact taken ((Within.refl _ _).next_foldl (fun _ _ => (State.takeAny_frame ..).mono rfl))
  · exact taken (s.handRg_within i)
  · exact taken (s.handDma_within i)
  · cases hi (.inr (.inr (.inl rfl))); exact taken s.handConn_within
  · cases hi (.inr (.inr (.inr rfl))); exact taken s.handFv_within
  · exact State.takePending_none (s := s.handRows s.pendRows) h
  · exact taken ((State.set_frame ..).mono rfl)
  · exact absurd rfl hu
  · exact State.takePending_none h

/-- The record of a hand-over makes nothing pending. -/
theorem State.handedOver_pend (s : State) (o : Owner) :
    (s.handedOver o).pend = s.pend := (s.handedOver_frame o).same .pend rfl

/-- A hand-over leaves the pending copy as taking it does. -/
theorem State.handOver_pend (s : State) (o : Owner) (k : Option Nat) : (s.handOver o k).pend = (s.apply o k).pend := by
  rw [State.handOver, State.set_pend, State.handedOver_pend, State.unarm]

/-- A hand-over completes with outcome DONE (R53). -/
theorem State.get_commitOutcome_handOver (s : State) (o : Owner) (k : Option Nat) :
    (s.handOver o k).get (Reg.commitOutcome o) = outDone :=
  State.get_set_self _ _ _

/-- After a hand-over no register of its owner is pending. -/
theorem State.handOver_none {s : State} {o : Owner} {q : Reg} (k : Option Nat) (hu : o.grp ≠ .upd) (hi : o.Single)
    (h : s.owns o q = true) : Assoc.get? (s.handOver o k).pend q = none := by
  rw [State.handOver_pend]
  exact State.apply_none k hu hi h

/-- The hand-over of a rule bank makes nothing pending. -/
theorem State.handOver_mm_keeps_none {s : State} {b : Nat} {q : Reg} (h : Assoc.get? s.pend q = none) :
    Assoc.get? (s.handOver ⟨.mm, b⟩).pend q = none := by
  rw [State.handOver_pend, show s.apply ⟨.mm, b⟩ none = s.takePending ⟨.mm, b⟩ from rfl, State.takePending_pend]
  exact Assoc.get?_filter_none (fun r => !s.owns ⟨.mm, b⟩ r) h

/-- The end of a pause: its bank is handed over unless it has been, and the pause is recorded beside the copies. -/
theorem State.endPause_pend (s : State) (b : Nat) :
    (s.endPause b).pend = (if s.get (Reg.bankFlipped b) = 1 then s else s.handOver ⟨.mm, b⟩).pend := by
  simp [State.endPause]

/-- The record of a pause leaves the chaining of banks alone. -/
theorem State.endPause_chain_of_flipped {s : State} {b : Nat} (hf : s.get (Reg.bankFlipped b) = 1) :
    (s.endPause b).get Reg.clsBankChain = s.get Reg.clsBankChain := by
  rw [State.endPause, if_pos hf,
    State.get_set_of_ne _ _ _ _ (by decide), State.get_count_of_ne _ _ _ _ _ (by decide),
      State.get_sets_of_not_mem _ _ _ (by simp)]

/-- A bank's end of pause, then its own hand-over: none of its registers is pending. -/
theorem State.endPause_handOver_none {s : State} {b : Nat} {q : Reg} (h : s.owns ⟨.mm, b⟩ q = true) :
    Assoc.get? ((s.endPause b).handOver ⟨.mm, b⟩).pend q = none := by
  by_cases hf : s.get (Reg.bankFlipped b) = 1
  · exact State.handOver_none none nofun (mm_single b)
      ((State.owns_congr _ q (State.endPause_chain_of_flipped hf)).trans h)
  · refine State.handOver_mm_keeps_none ?_
    rw [State.endPause_pend, if_neg hf]
    exact State.handOver_none none nofun (mm_single b) h

/-- A commit at once, of a rule bank or another owner, ends DONE. -/
theorem State.get_commitOutcome_handAtOnce (s : State) (o : Owner) :
    (s.handAtOnce o).get (Reg.commitOutcome o) = outDone := by
  by_cases hg : o.grp = .mm
  · obtain ⟨g, b⟩ := o
    cases hg
    obtain ⟨u, -, hand⟩ := s.handAtOnce_mm b
    rw [hand, State.get_sets_of_not_mem _ _ _ (by simp)]
    exact State.get_commitOutcome_handOver ..
  · rw [State.handAtOnce_of_ne_mm hg]
    exact State.get_commitOutcome_handOver ..

/-- After a commit at once no register of its owner is pending. -/
theorem State.handAtOnce_none {s : State} {o : Owner} {q : Reg} (hu : o.grp ≠ .upd) (hi : o.Single)
    (h : s.owns o q = true) :
    Assoc.get? (s.handAtOnce o).pend q = none := by
  by_cases hg : o.grp = .mm
  · obtain ⟨g, b⟩ := o
    cases hg
    obtain ⟨u, rfl, hand⟩ := s.handAtOnce_mm b
    rw [hand, State.sets_pend]
    split
    · exact State.handOver_none none hu hi h
    · exact State.endPause_handOver_none h
  · rw [State.handAtOnce_of_ne_mm hg]
    exact State.handOver_none none hu hi h

/-- Settles O53: what a hand-over takes is dropped from the pending copy, and nothing after it becomes pending. -/
theorem handOverMakesTheCopiesEqual : Obligations.HandOverMakesTheCopiesEqual := by
  unfold Obligations.HandOverMakesTheCopiesEqual
  refine ⟨?commit, ?flip⟩
  case commit =>
    intro ctx index s o ho h hmm hfv hr hw
    refine ⟨((s.unarm o).handAtOnce o).done ctx, ?_, State.get_commitOutcome_handAtOnce .., fun hu q hq => ?_⟩
    · rw [exec_commit, execCommit_admits ho h hmm hfv, State.commit_atOnce hr hw]
    · exact State.pendGet_of_none (s := ((s.unarm o).handAtOnce o).done ctx)
        (State.handAtOnce_none hu (single_of_ownerAt ho) ((State.owns_congr o q rfl).trans hq))
  case flip =>
    intro b s hb hf
    refine ⟨s.endPause b, if_pos hb, fun q hq => State.pendGet_of_none ?_⟩
    rw [State.endPause_pend, if_neg (by simp [hf])]
    exact State.handOver_none none nofun (mm_single b) hq

/-! ## Writes of a pending copy -/

/-- What is taken late sets `Grp.TakenLate` of its owner alone (R54). -/
theorem State.get_takeLate_of_ne {s : State} {o : Owner} {q : Reg} (sameCycle : Bool) (h : q ≠ Reg.takenLate o) :
    (s.takeLate o sameCycle).get q = s.get q := by
  unfold State.takeLate
  split
  · exact s.get_set_of_ne _ _ _ h
  · rfl

/-- What has been taken late stays so. -/
theorem State.get_takeLate_one {s : State} {r : Reg} (o : Owner) (sameCycle : Bool) (h : s.get r = 1) :
    (s.takeLate o sameCycle).get r = 1 := by
  unfold State.takeLate
  split
  · rw [State.get_set, h, ite_self]
  · exact h

/-- A write in the cycle of its owner's hand-over is taken late. -/
theorem State.get_takenLate_takeLate {s : State} {o : Owner} (h : s.get (Reg.handedAt o) = s.now + 1) :
    (s.takeLate o true).get (Reg.takenLate o) = 1 := by
  rw [State.takeLate, if_pos (by simp [h])]
  exact s.get_set_self _ _

theorem State.takeLate_now (s : State) (o : Owner) (sameCycle : Bool) : (s.takeLate o sameCycle).now = s.now :=
  (s.takeLate_frame o sameCycle).same .now rfl

/-- The owners of a register, each of which may take a write late. -/
def State.takeLates (s : State) (l : List Owner) (sameCycle : Bool) : State :=
  l.foldl (fun s o => s.takeLate o sameCycle) s

theorem State.takeLates_within (s : State) (l : List Owner) (sameCycle : Bool) :
    Within 0x10 s (s.takeLates l sameCycle) :=
  (Within.refl _ _).next_foldl (fun _ _ => State.takeLate_frame ..)

theorem State.get_takeLates_of_ne {s : State} {l : List Owner} {sameCycle : Bool} {q : Reg}
    (h : ∀ w ∈ l, q ≠ Reg.takenLate w) :
    (s.takeLates l sameCycle).get q = s.get q := by
  induction l generalizing s with
  | nil => rfl
  | cons w l ih =>
    obtain ⟨hw, hl⟩ := List.forall_mem_cons.mp h
    exact (ih hl).trans (State.get_takeLate_of_ne sameCycle hw)

theorem State.takeLates_false (s : State) (l : List Owner) : s.takeLates l false = s := by
  induction l generalizing s with
  | nil => rfl
  | cons w l ih => exact (ih _).trans (if_neg (by simp))

theorem State.get_takeLates_one {s : State} {r : Reg} (l : List Owner) (h : s.get r = 1) :
    (s.takeLates l true).get r = 1 := by
  induction l generalizing s with
  | nil => exact h
  | cons w l ih => exact ih (State.get_takeLate_one w true h)

/-- Every owner that was handed over in the cycle takes the write late. -/
theorem State.get_takenLate_takeLates {s : State} {l : List Owner} {w : Owner} (hw : w ∈ l)
    (h : s.get (Reg.handedAt w) = s.now + 1) : (s.takeLates l true).get (Reg.takenLate w) = 1 := by
  induction l generalizing s with
  | nil => cases hw
  | cons x l ih =>
    rcases List.mem_cons.mp hw with rfl | hl
    · exact State.get_takeLates_one l (State.get_takenLate_takeLate h)
    · refine ih hl ?_
      rw [State.takeLate_now, State.get_takeLate_of_ne true (by simp)]
      exact h

/-- The row of a register enters the pending copy, and nothing else changes. -/
theorem State.get_snapshotRow (s : State) (r q : Reg) : (s.snapshotRow r).get q = s.get q := by
  have h : (s.snapshotRow r).regs = s.regs := (s.snapshotRow_frame r).same .regs rfl
  rw [State.get, h, State.get]

/-- A write to the pending copy is one of its row and its register, which the register's owners may take late. -/
theorem State.pendWrite_eq (s : State) (r : Reg) (v : Nat) (sameCycle : Bool) :
    s.pendWrite r v sameCycle = ((s.snapshotRow r).pendSet r v).takeLates (s.ownersOf r) sameCycle := rfl

/-- A write to the pending copy reads there as written (R54). -/
theorem State.pendGet_pendWrite (s : State) (r : Reg) (v : Nat) (sameCycle : Bool) :
    (s.pendWrite r v sameCycle).pendGet r = v := by
  have h (u : State) : (u.takeLates (s.ownersOf r) sameCycle).pend = u.pend :=
    (u.takeLates_within _ sameCycle).same .pend rfl
  rw [State.pendWrite_eq, State.pendGet, h, State.pendSet, Assoc.get?_put_self, Option.getD_some]

/-- A write to the pending copy changes no register but `Grp.TakenLate` of the register's owners, and that in the
cycle of a hand-over. -/
theorem State.get_pendWrite_of_ne {s : State} {r q : Reg} (v : Nat) {sameCycle : Bool}
    (h : sameCycle = false ∨ ∀ w ∈ s.ownersOf r, q ≠ Reg.takenLate w) :
    (s.pendWrite r v sameCycle).get q = s.get q := by
  have h0 : ((s.snapshotRow r).pendSet r v).get q = s.get q := s.get_snapshotRow r q
  rw [State.pendWrite_eq]
  rcases h with rfl | h
  · rw [State.takeLates_false, h0]
  · rw [State.get_takeLates_of_ne h, h0]

/-- A write in the cycle of a hand-over is taken late by the owner handed over. -/
theorem State.get_takenLate_pendWrite {s : State} {r : Reg} {w : Owner} (v : Nat) (hw : w ∈ s.ownersOf r)
    (h : s.get (Reg.handedAt w) = s.now + 1) : (s.pendWrite r v true).get (Reg.takenLate w) = 1 := by
  have hnow : (s.snapshotRow r).now = s.now := (s.snapshotRow_frame r).same .now rfl
  rw [State.pendWrite_eq]
  refine State.get_takenLate_takeLates hw ?_
  rw [State.get_pendSet, State.get_snapshotRow, State.pendSet_now, hnow]
  exact h

/-- A write of a number to a rwp object whose checks pass is a write to its pending copy. -/
theorem State.writeObject_pending {s : State} {c : Ctx} {idx : Nat} {o : Obj} {r : Reg} {d : WriteData}
    (sameCycle : Bool)
    (ha : s.answers c = true) (hb : s.linkBars c o.wick = false) (hm : (s.running || o.wick) = true)
    (hacc : o.acc = .rwp)
    (hty : o.ty.isBytes = false) (hrow : s.ownRow c r (o.ty.valueOf d) (wholeBytes o.ty d) = none)
    (hs : s.stateAllows c idx o r = true) (hl : s.lateAbort o r d = none) (hv : s.conflict r (o.ty.valueOf d) = false) :
    s.writeObject c idx o r d sameCycle = (s.pendWrite r (o.ty.valueOf d) sameCycle).done c := by
  simp only [State.writeObject, hrow]
  rw [s.access_done c o.wick _ _ ha hb hm (by simp [hs, hl, hv])]
  simp [hty, State.storeNumber, hacc]

/-- Settles O52: the write is one of the pending copy, and only the record of a late write stands in a register. -/
theorem pendingWriteLeavesTheActiveCopy : Obligations.PendingWriteLeavesTheActiveCopy := by
  unfold Obligations.PendingWriteLeavesTheActiveCopy
  intro ctx index sub d sameCycle s o r ha _ hself hp hkind hacc h20 h40 hb hty hrow hm hs hl hv
  refine ⟨(s.pendWrite r (o.ty.valueOf d) sameCycle).done ctx, ?_, s.pendGet_pendWrite r _ sameCycle, rfl,
    fun q => State.get_pendWrite_of_ne _, ?_⟩
  · rw [exec_generalWrite, execGeneralWrite_of_place d sameCycle ha hself,
      State.writeAt_object d sameCycle hp (by simp [hkind]) (by simp [hkind]) h20 h40,
      State.writeObject_pending sameCycle ha hb hm hacc hty hrow hs hl hv]
  · rintro rfl w hw h
    exact State.get_takenLate_pendWrite _ hw h

end Sys2Proof.Machine
end

section
/-! The servers of the dictionary: the SDO server and the Coath endpoint. -/
namespace Sys2Proof.Machine

/-! ## The SDO server -/

/-- A request that its channel takes, and whose command specifier is one of the row's, is heard. -/
theorem State.sdoRow_of_request {s : State} {ch : Nat} {m : BusMsg} {cmds : List Nat} (ht : s.canTakes ch m = true)
    (hr : s.sdoRequest ch m = true) (hc : cmds.contains (sdoCommand m) = true) :
    s.sdoRow ch m cmds = s.sdoHear ch m := by
  rw [State.sdoRow, ht, hr, hc]
  rfl

/-- The state in which a request is served: the message has been heard and counted. -/
theorem State.sdoHear_eq (s : State) (ch : Nat) (m : BusMsg) :
    s.sdoHear ch m = ((s.canHeard ch).count (Reg.canRxMessages ch)).sdoServe m.data := rfl

/-- A message is served by its command specifier (R67). -/
theorem State.sdoServe_downloadPart {s : State} {m : BusMsg} (h : sdoCommand m = 0) :
    s.sdoServe m.data = s.sdoDownloadPart m.data := by
  unfold sdoCommand at h
  simp only [State.sdoServe, h]

theorem State.sdoServe_download {s : State} {m : BusMsg} (h : sdoCommand m = 1) :
    s.sdoServe m.data = s.sdoDownload m.data := by
  unfold sdoCommand at h
  simp only [State.sdoServe, h]

theorem State.sdoServe_upload {s : State} {m : BusMsg} (h : sdoCommand m = 2) :
    s.sdoServe m.data = s.sdoUpload m.data := by
  unfold sdoCommand at h
  simp only [State.sdoServe, h]

theorem State.sdoServe_uploadPart {s : State} {m : BusMsg} (h : sdoCommand m = 3) :
    s.sdoServe m.data = s.sdoUploadPart m.data := by
  unfold sdoCommand at h
  simp only [State.sdoServe, h]

/-- A block request is one that the server does not know. -/
theorem State.sdoServe_block {s : State} {m : BusMsg} (h : sdoCommand m = 5 ∨ sdoCommand m = 6) :
    s.sdoServe m.data = s.sdoAbort (sdoIndex m.data) (sdoSub m.data) 0x05040001 := by
  unfold sdoCommand at h
  rcases h with h | h <;> simp only [State.sdoServe, h]

/-- A transfer without a segment for 1 s is aborted (R68). -/
theorem execSdoSegmentTimeout_late {s : State} {x : SdoTransfer} (hx : s.sdo = some x) (ha : s.answers .sdo = true)
    (ht : x.since + sec ≤ s.now) : execSdoSegmentTimeout s = .next (s.sdoAbort x.index x.sub 0x05040000) := by
  simp only [execSdoSegmentTimeout, hx]
  rw [if_pos ⟨ha, ht⟩]

/-- A transfer goes on while its last segment is less than 1 s old. -/
theorem execSdoSegmentTimeout_early {s : State} {x : SdoTransfer} (hx : s.sdo = some x) (ht : s.now < x.since + sec) :
    execSdoSegmentTimeout s = .next s := by
  simp only [execSdoSegmentTimeout, hx]
  rw [if_neg (fun h => absurd h.2 (Nat.not_le.mpr ht))]

/-- Settles O5: each row hears its command specifier, and the server serves it. -/
theorem sdoRequestsAreServed : Obligations.SdoRequestsAreServed := by
  unfold Obligations.SdoRequestsAreServed
  refine ⟨?download, ?upload, ?downloadPart, ?uploadPart, ?block, ?timeout⟩
  case download =>
    intro ch m s ht hr hc
    rw [exec_sdoInitiateDownload, execSdoInitiateDownload, State.sdoRow_of_request ht hr (by simp [hc]),
      State.sdoHear_eq,
      State.sdoServe_download hc]
  case upload =>
    intro ch m s ht hr hc
    rw [exec_sdoInitiateUpload, execSdoInitiateUpload, State.sdoRow_of_request ht hr (by simp [hc]), State.sdoHear_eq,
      State.sdoServe_upload hc]
  case downloadPart =>
    intro ch m s ht hr hc
    rw [exec_sdoDownloadSegment, execSdoDownloadSegment, State.sdoRow_of_request ht hr (by simp [hc]), State.sdoHear_eq,
      State.sdoServe_downloadPart hc]
  case uploadPart =>
    intro ch m s ht hr hc
    rw [exec_sdoUploadSegment, execSdoUploadSegment, State.sdoRow_of_request ht hr (by simp [hc]), State.sdoHear_eq,
      State.sdoServe_uploadPart hc]
  case block =>
    intro ch m s ht hr hc
    rw [exec_sdoBlockRequest, execSdoBlockRequest, State.sdoRow_of_request ht hr (by simpa using hc), State.sdoHear_eq,
      State.sdoServe_block hc]
  case timeout => exact fun s x hx ha ht => execSdoSegmentTimeout_late hx ha ht

/-- An initiate request abandons the running transfer before it looks at anything else (R68). -/
theorem State.sdoDownload_abandons (s : State) (d : List Byte) :
    s.sdoDownload d = ({ s with sdo := none } : State).sdoDownload d := rfl

theorem State.sdoUpload_abandons (s : State) (d : List Byte) :
    s.sdoUpload d = ({ s with sdo := none } : State).sdoUpload d := rfl

/-- Settles O48: the time-out compares with 1 s, and an initiate request begins with no transfer running. -/
theorem sdoTransferTimesOutOrGivesWay : Obligations.SdoTransferTimesOutOrGivesWay := by
  unfold Obligations.SdoTransferTimesOutOrGivesWay
  obtain ⟨download, upload, -⟩ := sdoRequestsAreServed
  refine ⟨fun s x hx ha => ⟨execSdoSegmentTimeout_late hx ha, execSdoSegmentTimeout_early hx⟩,
    fun ch m s ht hr => ⟨fun hc => ?_, fun hc => ?_⟩⟩
  · rw [download ch m s ht hr hc, State.sdoDownload_abandons]
  · rw [upload ch m s ht hr hc, State.sdoUpload_abandons]

/-! ## The Coath endpoint -/

/-- The response to a request goes to the classifier at P37 (R69). -/
def State.coathRespond (s : State) (b response : List Byte) : State :=
  (s.draw 64).2.hostFrame none (responseFrame b (parseFrame b) (s.draw 64).1 response)

/-- A request in the head frame of the endpoint's queue is answered by the row of its type (R71). -/
theorem State.coathRow_answers {s : State} {e : Entry} {b p : List Byte} {mine : Nat → Bool}
    (ha : s.answers .coath = true)
    (hh : s.hostHead coathQueue = some (e, b)) (hp : s.coathPayload b (parseFrame b) = some p)
    (hm : mine (beAt p 1 1) = true) :
    s.coathRow mine = ((s.takeHost e).coathAnswer p (parseFrame b)).2.coathRespond b
      ((s.takeHost e).coathAnswer p (parseFrame b)).1 := by
  rw [State.coathRow, if_neg (by simp [ha]), hh]
  simp only [hp]
  rw [if_pos hm, State.coathRespond]

/-- The row that answers requests of a type; one of an unknown type is answered with the reads (R72). -/
def CoathRow (c : Instr) (type : Nat) : Prop :=
  c = .coathRead ∧ (type < 2 ∨ 5 < type) ∨ c = .coathWrite ∧ type = 2 ∨ c = .coathCommit ∧ type = 3 ∨
    c = .coathBlockRead ∧ type = 4 ∨ c = .coathBlockWrite ∧ type = 5

/-- A request to the endpoint is answered by the row of its type. -/
theorem exec_coath_answers {s : State} {e : Entry} {b p : List Byte} {c : Instr} (ha : s.answers .coath = true)
    (hh : s.hostHead coathQueue = some (e, b)) (hp : s.coathPayload b (parseFrame b) = some p)
    (hc : CoathRow c (beAt p 1 1)) :
    exec c s = .next
      (((s.takeHost e).coathAnswer p (parseFrame b)).2.coathRespond b
        ((s.takeHost e).coathAnswer p (parseFrame b)).1) := by
  rcases hc with ⟨rfl, ht⟩ | ⟨rfl, ht⟩ | ⟨rfl, ht⟩ | ⟨rfl, ht⟩ | ⟨rfl, ht⟩
  · exact congrArg Host.Outcome.next (State.coathRow_answers ha hh hp (by simpa using ht))
  · exact congrArg Host.Outcome.next (State.coathRow_answers ha hh hp (by simp [ht]))
  · exact congrArg Host.Outcome.next (State.coathRow_answers ha hh hp (by simp [ht]))
  · exact congrArg Host.Outcome.next (State.coathRow_answers ha hh hp (by simp [ht]))
  · exact congrArg Host.Outcome.next (State.coathRow_answers ha hh hp (by simp [ht]))

/-- Settles O6: the row of each type answers its requests. -/
theorem coathRequestsAreServed : Obligations.CoathRequestsAreServed := by
  unfold Obligations.CoathRequestsAreServed
  have served {c : Instr} {s t u : State} {e : Entry} {b p r : List Byte} {f : Nat} (ha : s.answers .coath = true)
      (hh : s.hostHead coathQueue = some (e, b)) (hp : s.coathPayload b (parseFrame b) = some p)
        (hc : CoathRow c (beAt p 1 1))
      (hr : (s.takeHost e).coathAnswer p (parseFrame b) = (r, t)) (hf : t.draw 64 = (f, u)) :
      exec c s = .next (u.hostFrame none (responseFrame b (parseFrame b) f r)) := by
    rw [exec_coath_answers ha hh hp hc, hr, State.coathRespond, hf]
  refine ⟨?read, ?write, ?commit, ?blockRead, ?blockWrite⟩
  case read => exact fun _ _ _ _ _ _ _ _ ha hh hp ht => served ha hh hp (.inl ⟨rfl, .inl (by omega)⟩)
  case write => exact fun _ _ _ _ _ _ _ _ ha hh hp ht => served ha hh hp (.inr (.inl ⟨rfl, ht⟩))
  case commit => exact fun _ _ _ _ _ _ _ _ ha hh hp ht => served ha hh hp (.inr (.inr (.inl ⟨rfl, ht⟩)))
  case blockRead => exact fun _ _ _ _ _ _ _ _ ha hh hp ht => served ha hh hp (.inr (.inr (.inr (.inl ⟨rfl, ht⟩))))
  case blockWrite => exact fun _ _ _ _ _ _ _ _ ha hh hp ht => served ha hh hp (.inr (.inr (.inr (.inr ⟨rfl, ht⟩))))

/-- A kept response is one to the request's tag, source address and source port (R75). -/
def CoathKept.answers (p : List Byte) (h : Hdr) (k : CoathKept) : Bool :=
  k.tag = beAt p 4 4 && k.source = beBytes 16 h.srcIp && k.port = h.sport

/-- A request with a kept response is answered again, and not carried out (R75). -/
theorem State.coathAnswer_kept {s : State} {p : List Byte} {h : Hdr} {k : CoathKept}
    (hk : s.coathKept.find? (CoathKept.answers p h) = some k) : s.coathAnswer p h = (k.response, s) := by
  unfold CoathKept.answers at hk
  simp only [State.coathAnswer, hk]

/-- Any other request is carried out, and its response joins the kept ones, of which the last 32 stay (R75). -/
theorem State.coathAnswer_new {s : State} {p : List Byte} {h : Hdr}
    (hk : s.coathKept.find? (CoathKept.answers p h) = none) :
    (s.coathAnswer p h).2.coathKept = (s.coathKept ++
      [({ tag := beAt p 4 4, source := beBytes 16 h.srcIp, port := h.sport, response := (s.coathAnswer p h).1 } :
        CoathKept)]).drop
        (s.coathKept.length + 1 - 32) := by
  have hserve : (s.coathServe (coathReq p)).s.coathKept = s.coathKept :=
    (s.coathServe_frame (coathReq p)).same .coathKept rfl
  unfold CoathKept.answers at hk
  simp only [State.coathAnswer, hk, hserve, List.length_append, List.length_singleton]

/-- The frame of a request leaves its queue, and no response is forgotten with it. -/
theorem State.takeHost_coathKept (s : State) (e : Entry) :
    (s.takeHost e).coathKept = s.coathKept := (s.takeHost_frame e).same .coathKept rfl

/-- Settles O47: the answer is the kept response, or that of the request carried out. -/
theorem coathKeepsItsResponses : Obligations.CoathKeepsItsResponses := by
  unfold Obligations.CoathKeepsItsResponses
  intro s e b p c ha hh hp hc
  have kept := s.takeHost_coathKept e
  have served := exec_coath_answers ha hh hp hc
  refine ⟨fun k hk => ?_, fun hk => ⟨_, _, served, ?_⟩⟩
  · rw [served, State.coathAnswer_kept ((congrArg (List.find? _) kept).trans hk)]
    rfl
  · rw [State.coathAnswer_new ((congrArg (List.find? _) kept).trans hk), kept]

end Sys2Proof.Machine
end

section
/-! The time base: which registers its operations leave alone, one cycle of it, the queue of a step, alignments, Syncs
and writes of its objects, and the Kindles of a domain that is disabled. -/
namespace Sys2Proof.Machine

/-! ## Groups of registers left alone -/

/-- Every register of the chosen groups reads in the second state as in the first. -/
def State.KeepsGroups (p : Grp → Bool) (s t : State) : Prop := ∀ r : Reg, p r.grp = true → t.get r = s.get r

theorem State.KeepsGroups.refl {p : Grp → Bool} (s : State) : s.KeepsGroups p s := fun _ _ => rfl

theorem State.KeepsGroups.trans {p : Grp → Bool} {s t u : State} (h : s.KeepsGroups p t) (k : t.KeepsGroups p u) :
    s.KeepsGroups p u :=
  fun r hr => (k r hr).trans (h r hr)

/-- A change beside the register file leaves every group alone. -/
theorem State.keepsGroups_of_regs {p : Grp → Bool} {s t : State} (h : t.regs = s.regs) : s.KeepsGroups p t :=
  fun r _ => by simp only [State.get, h]

theorem State.KeepsGroups.set {p : Grp → Bool} {s t : State} (h : s.KeepsGroups p t) (r : Reg) (v : Nat)
    (hr : p r.grp = false) : s.KeepsGroups p (t.set r v) :=
  fun q hq => (t.get_set_of_ne r q v (fun e => by simp [e, hr] at hq)).trans (h q hq)

theorem State.KeepsGroups.sets {p : Grp → Bool} {s t : State} (h : s.KeepsGroups p t) (l : List (Reg × Nat))
    (hl : ∀ e ∈ l, p e.1.grp = false) : s.KeepsGroups p (t.sets l) :=
  fun q hq => (t.get_sets_of_not_mem l q (fun e he k => by simp [← k, hl e he] at hq)).trans (h q hq)

theorem State.KeepsGroups.foldl {α : Type} {p : Grp → Bool} {f : State → α → State}
    (k : ∀ u x, State.KeepsGroups p u (f u x)) {s t : State} (h : s.KeepsGroups p t) (l : List α) :
    s.KeepsGroups p (l.foldl f t) := by
  induction l generalizing t with
  | nil => exact h
  | cons x l ih => exact ih (h.trans (k t x))

/-! ## One cycle of the time base -/

/-- The groups that the write FIFOs of Pool mode do not use. -/
def Grp.beyondBuffer (g : Grp) : Bool := g ≠ .iBuf

theorem State.writeCells_beyondBuffer (s : State) (k : Nat) : s.KeepsGroups Grp.beyondBuffer (s.writeCells k) := by
  induction k generalizing s with
  | zero => exact .refl s
  | succ k ih =>
    unfold State.writeCells
    split
    · exact ((State.KeepsGroups.refl s).sets _ (by simp [Grp.beyondBuffer])).trans (ih _)
    · exact .refl s

theorem State.drainFifos_beyondBuffer (s : State) : s.KeepsGroups Grp.beyondBuffer s.drainFifos := by
  unfold State.drainFifos
  split
  · dsimp only
    split
    · exact (s.writeCells_beyondBuffer _).set _ _ rfl
    · exact s.writeCells_beyondBuffer _
  · exact .refl s

/-- The follower counter alone moves on the Wick die. -/
theorem State.get_tickFollower {s : State} {r : Reg} (h : r ≠ Reg.followerCounter) :
    s.tickFollower.get r = s.get r := by
  unfold State.tickFollower
  split
  · exact s.get_set_of_ne _ r _ h
  · rfl

/-- The clock of a domain after a cycle: it rises by 32 sixteenths at its rate while the domain is enabled (R84). -/
def State.clockTicked (s : State) (d : Nat) : Nat :=
  if s.get (Reg.domEnable d) = 1 then
    (s.get (Reg.domClock d) +
      ((s.get (Reg.domFrac d) : Int) + 32 * (2 ^ 40 + toSigned 32 (s.get (Reg.domRateWord d)))).toNat / 2 ^ 40) % 2 ^ 68
  else s.get (Reg.domClock d)

/-- The registers of a domain that its clock is advanced from. -/
def Reg.drives (d : Nat) (r : Reg) : Prop :=
  r = Reg.domEnable d ∨ r = Reg.domClock d ∨ r = Reg.domFrac d ∨ r = Reg.domRateWord d

theorem State.clockTicked_congr {s t : State} {d : Nat} (h : ∀ r, Reg.drives d r → t.get r = s.get r) :
    t.clockTicked d = s.clockTicked d := by
  simp [State.clockTicked, h _ (.inl rfl), h _ (.inr (.inl rfl)), h _ (.inr (.inr (.inl rfl))),
    h _ (.inr (.inr (.inr rfl)))]

theorem State.get_domClock_tickDomain (s : State) (d : Nat) :
    (s.tickDomain d).get (Reg.domClock d) = s.clockTicked d := by
  unfold State.tickDomain State.clockTicked
  split
  · exact (State.get_set_of_ne _ _ _ _ (by simp)).trans (s.get_set_self _ _)
  · rfl

/-- A domain's cycle changes no register but its clock and its fraction. -/
theorem State.get_tickDomain_of_ne {s : State} {d : Nat} {r : Reg} (hc : r ≠ Reg.domClock d) (hf : r ≠ Reg.domFrac d) :
    (s.tickDomain d).get r = s.get r := by
  unfold State.tickDomain
  split
  · exact (State.get_set_of_ne _ _ _ _ hf).trans (s.get_set_of_ne _ _ _ hc)
  · rfl

/-- The cycle of one domain leaves what drives another alone. -/
theorem State.get_tickDomain_drives {s : State} {d e : Nat} (h : d ≠ e) {r : Reg} (hr : Reg.drives d r) :
    (s.tickDomain e).get r = s.get r := by
  obtain rfl | rfl | rfl | rfl := hr
  all_goals exact State.get_tickDomain_of_ne (by simp [h]) (by simp [h])

/-- The cycles of domains other than a given one leave what drives it alone. -/
theorem State.get_tickDomains_drives {l : List Nat} {d : Nat} (h : d ∉ l) {r : Reg} (hr : Reg.drives d r) (s : State) :
    (l.foldl State.tickDomain s).get r = s.get r := by
  induction l generalizing s with
  | nil => rfl
  | cons e l ih =>
    obtain ⟨he, hl⟩ := List.ne_and_not_mem_of_not_mem_cons h
    exact (ih hl _).trans (State.get_tickDomain_drives he hr)

/-- Among several domains, each advanced once, every clock advances by its own rate. -/
theorem State.get_domClock_tickDomains {l : List Nat} {d : Nat} (hn : l.Nodup) (hd : d ∈ l) (s : State) :
    (l.foldl State.tickDomain s).get (Reg.domClock d) = s.clockTicked d := by
  induction l generalizing s with
  | nil => exact absurd hd (List.not_mem_nil)
  | cons e l ih =>
    obtain ⟨he, hl⟩ := List.nodup_cons.mp hn
    rcases List.mem_cons.mp hd with rfl | hd
    · exact (State.get_tickDomains_drives he (.inr (.inl rfl)) _).trans (s.get_domClock_tickDomain d)
    · have hne : d ≠ e := fun h => he (h ▸ hd)
      exact (ih hl hd _).trans (State.clockTicked_congr fun r hr => State.get_tickDomain_drives hne hr)

/-- The cycles of the domains use the registers of the domain clocks alone. -/
theorem State.get_tickDomains_of_grp {r : Reg} (h : r.grp ≠ .iDom) (l : List Nat) (s : State) :
    (l.foldl State.tickDomain s).get r = s.get r := by
  induction l generalizing s with
  | nil => rfl
  | cons e l ih =>
    exact (ih _).trans (State.get_tickDomain_of_ne (fun k => h (congrArg Reg.grp k)) (fun k => h (congrArg Reg.grp k)))

/-- A cycle begins with the uptime and the follower counter, on whichever die is powered. -/
def State.tickUptime (s : State) : State := ({ s with now := s.now + 2000 } : State).tickFollower

theorem State.tickUptime_now (s : State) : s.tickUptime.now = s.now + 2000 :=
  (State.tickFollower_frame _).same .now rfl

theorem State.tickUptime_lanternUp (s : State) : s.tickUptime.lanternUp = s.lanternUp := by
  have hmode : s.tickUptime.mode = s.mode := (State.tickFollower_frame _).same .mode rfl
  simp only [State.lanternUp, hmode]

theorem State.get_tickUptime {s : State} {r : Reg} (h : r ≠ Reg.followerCounter) : s.tickUptime.get r = s.get r :=
  State.get_tickFollower h

/-- The local counter and the throttled time of a cycle on a powered Lantern die. -/
def State.tickLocal (s : State) : State :=
  let s := s.set Reg.localCounter ((s.get Reg.localCounter + 32) % 2 ^ clockBits)
  if s.get Reg.bufThrottleStep < 8 then s.count Reg.thrThrottledTime 64 2 else s

theorem State.get_localCounter_tickLocal (s : State) :
    s.tickLocal.get Reg.localCounter = (s.get Reg.localCounter + 32) % 2 ^ 68 := by
  unfold State.tickLocal
  dsimp only
  split
  · exact (State.get_count_of_ne _ _ _ _ _ (by decide)).trans (s.get_set_self _ _)
  · exact s.get_set_self _ _

theorem State.get_tickLocal_of_ne {s : State} {r : Reg} (hc : r ≠ Reg.localCounter) (ht : r ≠ Reg.thrThrottledTime) :
    s.tickLocal.get r = s.get r := by
  unfold State.tickLocal
  dsimp only
  split
  · exact (State.get_count_of_ne _ _ _ _ _ ht).trans (s.get_set_of_ne _ _ _ hc)
  · exact s.get_set_of_ne _ _ _ hc

/-- A cycle is the uptime's and, on a powered Lantern die, that of its counters, its domain clocks and its write
FIFOs. -/
theorem State.tick_eq (s : State) :
    s.tick = if s.lanternUp then ([0, 1, 2, 3].foldl State.tickDomain s.tickUptime.tickLocal).drainFifos
      else s.tickUptime := by
  rw [← s.tickUptime_lanternUp]
  rfl

theorem State.tick_now (s : State) : s.tick.now = s.now + 2000 := by
  have hdomains (t : State) : ([0, 1, 2, 3].foldl State.tickDomain t).now = t.now :=
    ((Within.refl 0x10 t).next_foldl State.tickDomain_frame).same .now rfl
  have hlocal (t : State) : t.tickLocal.now = t.now := by
    unfold State.tickLocal
    dsimp only
    split <;> rfl
  rw [State.tick_eq]
  split
  · exact ((State.drainFifos_frame _).same .now rfl).trans ((hdomains _).trans ((hlocal _).trans s.tickUptime_now))
  · exact s.tickUptime_now

/-- The local counter rises by 32 sixteenths in a cycle on a powered Lantern die (R82). -/
theorem State.get_localCounter_tick (s : State) :
    s.tick.get Reg.localCounter =
      if s.lanternUp then (s.get Reg.localCounter + 32) % 2 ^ 68 else s.get Reg.localCounter := by
  have huptime : s.tickUptime.get Reg.localCounter = s.get Reg.localCounter := State.get_tickUptime (by decide)
  rw [State.tick_eq]
  split
  · rw [State.drainFifos_beyondBuffer _ _ rfl, State.get_tickDomains_of_grp (by decide),
      State.get_localCounter_tickLocal, huptime]
  · exact huptime

/-- The clocks of the enabled domains advance in a cycle on a powered Lantern die (R84). -/
theorem State.get_domClock_tick (s : State) {d : Nat} (hd : d < 4) :
    s.tick.get (Reg.domClock d) = if s.lanternUp then s.clockTicked d else s.get (Reg.domClock d) := by
  have hmem : d ∈ [0, 1, 2, 3] := by
    simp only [List.mem_cons, List.not_mem_nil, or_false]
    omega
  have hbefore {r : Reg} (hr : Reg.drives d r) : s.tickUptime.tickLocal.get r = s.get r := by
    obtain rfl | rfl | rfl | rfl := hr
    all_goals exact (State.get_tickLocal_of_ne (by simp) (by simp)).trans (State.get_tickUptime (by simp))
  rw [State.tick_eq]
  split
  · rw [State.drainFifos_beyondBuffer _ _ rfl,
      State.get_domClock_tickDomains (by decide) hmem, State.clockTicked_congr fun r => hbefore]
  · exact State.get_tickUptime (by simp)

/-- Settles O33: a step on an empty queue is one cycle of the time base. -/
theorem emptyQueueTicks : Obligations.EmptyQueueTicks := by
  unfold Obligations.EmptyQueueTicks
  intro s h
  refine ⟨s.tick, step_of_idle s h, s.tick_now, (s.tick_frame.same .pending rfl).trans h, s.tick_frame.same .mode rfl,
    s.get_localCounter_tick, fun d hd => ?_⟩
  rw [s.get_domClock_tick hd]
  cases s.lanternUp with
  | false => rfl
  | true => simp [State.clockTicked]

/-! ## The instant and the queue -/

/-- The instant and the queue are no parts that a command may touch. -/
theorem now_pending_not_mem_parts (c : Instr) : Part.now ∉ c.parts ∧ Part.pending ∉ c.parts := by
  unfold Instr.parts
  split <;> decide

/-- Settles O37: no command touches the queue or the instant, and a cycle of the time base leaves the queue empty. -/
theorem stepTakesOnlyTheFrontCommand : Obligations.StepTakesOnlyTheFrontCommand := by
  unfold Obligations.StepTakesOnlyTheFrontCommand
  intro s t h
  match hp : s.pending with
  | [] =>
    rw [step_of_idle s hp] at h
    cases h
    exact ⟨(s.tick_frame.same .pending rfl).trans hp, s.tick_now⟩
  | c :: rest =>
    rw [step_of_front s c rest hp] at h
    have hw := (exec_within c _).within t h
    obtain ⟨hnow, hpending⟩ := now_pending_not_mem_parts c
    exact ⟨hw.same_of_not_mem hpending, hw.same_of_not_mem hnow⟩

/-! ## Writes of a domain's objects -/

/-- An admitted write of an object of a domain whose checks pass is carried out and counted. -/
theorem State.rwWrite_domain {s : State} {c : Ctx} {d sub : Nat} {checks : List (Option Nat)} (act : State → State)
    (h : s.admits c (0x2210 + d) sub false = true) (hd : d < 4) (hc : firstAbort checks = none) :
    s.rwWrite c (0x2210 + d) sub (d < 4) false checks act = ((act s).changed).done c := by
  rw [decide_eq_true hd]
  exact s.rwWrite_admits c _ sub false checks act h hc

/-- An admitted command of a domain whose checks pass is carried out. -/
theorem State.cmdWrite_domain {s : State} {c : Ctx} {d sub : Nat} {checks : List (Option Nat)} (act : State → State)
    (h : s.admits c (0x2210 + d) sub false = true) (hd : d < 4) (hc : firstAbort checks = none) :
    s.cmdWrite c (0x2210 + d) sub (d < 4) false checks act = (act s).done c := by
  rw [decide_eq_true hd]
  exact s.cmdWrite_admits c _ sub false checks act h hc

/-- One check whose condition holds refuses nothing. -/
theorem firstAbort_need {b : Bool} (a : Nat) (h : b = true) : firstAbort [need b a] = none := by
  rw [need_of b a h]
  rfl

/-- One check of a value's width, which the value has, refuses nothing (R56). -/
theorem firstAbort_fits {n v : Nat} (h : v < 256 ^ n) : firstAbort [fits n v] = none :=
  firstAbort_need _ (decide_eq_true h)

/-- A successful alignment that is due (R83). -/
theorem execFollowerAlign_of_due {s : State} (error : Nat) (hup : s.lanternUp = true)
    (hdue : s.get Reg.followerLast + 1024000 ≤ s.now) :
    execFollowerAlign true error s = .next ((s.set Reg.followerLast s.now).sets
      [(Reg.followerCounter, s.get Reg.localCounter), (Reg.tbFollowerError, error % 2 ^ 16), (Reg.followerFails, 0),
        (Reg.followerInvalid, 0)]) := by
  have hlocal : (s.set Reg.followerLast s.now).get Reg.localCounter = s.get Reg.localCounter :=
    s.get_set_of_ne _ _ _ (by decide)
  have hruns : ¬ (s.now < s.get Reg.followerLast + 1024000 ∨ ¬ s.lanternUp = true) :=
    fun k => k.elim (Nat.not_lt.mpr hdue) (absurd hup)
  rw [execFollowerAlign, if_neg hruns, if_pos rfl, hlocal]

/-- Without an armed commit a step fires nothing, and no Kindle counts as stepped over (R84). -/
theorem execDomStep_unarmed {ctx : Ctx} {d value : Nat} {s : State} (h : s.admits ctx (0x2210 + d) 6 false = true)
    (hd : d < 4) (hv : value < 2 ^ 64) (ha : (s.moveClock d (toSigned 64 value)).armed = []) :
    execDomStep ctx d value s = .next
      (((((s.moveClock d (toSigned 64 value)).count (Reg.domStepCount d) 32).fireDue d).afterStep d).done ctx) := by
  rw [execDomStep, State.cmdWrite_domain _ h hd (firstAbort_fits hv)]
  simp [ha]

/-- A disabled domain is enabled (R90, R92). -/
theorem execDomEnable_of_disabled {ctx : Ctx} {d : Nat} {s : State} (h : s.admits ctx (0x2210 + d) 1 false = true)
    (hd : d < 4) (hn : s.numberTaken d (s.get (Reg.domNumber d)) = false) (he : s.get (Reg.domEnable d) = 0) :
    execDomEnable ctx d s = .next (((((s.set (Reg.domEnable d) 1).monitorRestart d).domSetState d
      (if s.get (Reg.domRole d) = 1 then 1 else 3)).changed).done ctx) := by
  rw [execDomEnable, State.rwWrite_domain _ h hd (firstAbort_need _ (by simp [hn])), if_neg (by simp [he])]

/-- The standby of a domain is written (R87, R89). -/
theorem execDomStandbyWrite_of_ok {ctx : Ctx} {d value : Nat} {s : State}
    (h : s.admits ctx (0x2210 + d) 9 false = true) (hd : d < 4) (hv : value < 256) (hok : s.standbyOk d value = true) :
    execDomStandbyWrite ctx d value s = .next (((if s.get (Reg.domState d) = 4 then
        (if value < 4 ∧ s.get (Reg.domState value) = 2 then (s.set (Reg.domStandbyDomain d) value).domFollow d value
          else (s.set (Reg.domStandbyDomain d) value).domSetState d 3)
      else s.set (Reg.domStandbyDomain d) value).changed).done ctx) := by
  have hstate (e : Nat) : (s.set (Reg.domStandbyDomain d) value).get (Reg.domState e) = s.get (Reg.domState e) :=
    s.get_set_of_ne _ _ _ (by simp)
  rw [execDomStandbyWrite, State.rwWrite_domain _ h hd (by simp [fits, hv, hok])]
  simp only [hstate]

/-- A role is written; that of an enabled domain changes its state (R92). -/
theorem execDomRole_of_le {ctx : Ctx} {d value : Nat} {s : State} (h : s.admits ctx (0x2210 + d) 3 false = true)
    (hd : d < 4) (hv : value ≤ 1) :
    execDomRole ctx d value s = .next (((if s.get (Reg.domRole d) = value then s
      else if s.get (Reg.domEnable d) = 1 then
        (if value = 1 then (s.set (Reg.domRole d) 1).domSetState d 1
          else ((s.set (Reg.domRole d) value).monitorRestart d).domSetState d 3)
      else s.set (Reg.domRole d) value).changed).done ctx) := by
  have henable : (s.set (Reg.domRole d) value).get (Reg.domEnable d) = s.get (Reg.domEnable d) :=
    s.get_set_of_ne _ _ _ (by simp)
  rw [execDomRole, State.rwWrite_domain _ h hd (firstAbort_need _ (decide_eq_true hv))]
  simp only [henable]
  by_cases h1 : value = 1
  · simp only [h1]
  · simp only [if_neg h1]

/-- The Sync timeout of a disabled domain is written; its monitor does not run (R85). -/
theorem execDomSyncTimeoutWrite_of_disabled {ctx : Ctx} {d value : Nat} {s : State}
    (h : s.admits ctx (0x2210 + d) 7 false = true) (hd : d < 4) (hv : value < 2 ^ 32)
    (he : s.get (Reg.domEnable d) = 0) :
    execDomSyncTimeoutWrite ctx d value s =
      .next ((((s.set (Reg.domSyncTimeout d) value).set (Reg.monitorExpired d) 0).changed).done ctx) := by
  have henable : ((s.set (Reg.domSyncTimeout d) value).set (Reg.monitorExpired d) 0).get (Reg.domEnable d) = 0 := by
    rw [State.get_set_of_ne _ _ _ _ (by simp), State.get_set_of_ne _ _ _ _ (by simp), he]
  rw [execDomSyncTimeoutWrite, State.rwWrite_domain _ h hd (firstAbort_fits hv),
    if_neg (by simp [State.monitorDue, henable])]

/-! ## The disabling of a domain -/

/-- Armed commits are disarmed with outcome ABORTED (R53, R99). -/
def State.abortArms (s : State) (l : List Arm) : State :=
  l.foldl (fun s a => (s.unarm a.owner).ended a.owner outAborted) s

/-- What disabling an enabled domain does besides its write: its Kindles are disarmed, its gate lists stop, and it
enters state 0 (R99, R192). -/
def State.disableDomain (s : State) (d : Nat) : State :=
  let t := s.abortArms (s.armed.filter (fun a => a.kindle && a.domain = d))
  (((t.listsOf d).foldl State.gclStop t).domSetState d 0).set (Reg.domEnable d) 0

theorem execDomDisable_of_enabled {ctx : Ctx} {d : Nat} {s : State} (h : s.admits ctx (0x2210 + d) 1 false = true)
    (hd : d < 4) (he : s.get (Reg.domEnable d) ≠ 0) :
    execDomDisable ctx d s = .next (((s.disableDomain d).changed).done ctx) := by
  rw [execDomDisable, State.rwWrite_domain _ h hd rfl, if_neg he]
  rfl

theorem State.armed_abortArms (s : State) (l : List Arm) :
    (s.abortArms l).armed = s.armed.filter (fun b => l.all (fun a => b.owner ≠ a.owner)) := by
  induction l generalizing s with
  | nil => exact (List.filter_eq_self.mpr (fun _ _ => rfl)).symm
  | cons a l ih =>
    have hstep : s.abortArms (a :: l) = ((s.unarm a.owner).ended a.owner outAborted).abortArms l := rfl
    rw [hstep, ih, State.ended, State.set_armed, State.unarm, List.filter_filter]
    simp only [List.all_cons, Bool.and_comm]

/-- An outcome ABORTED stays as further commits are disarmed. -/
theorem State.abortArms_keeps_aborted {s : State} {o : Owner} (l : List Arm)
    (h : s.get (Reg.commitOutcome o) = outAborted) : (s.abortArms l).get (Reg.commitOutcome o) = outAborted := by
  induction l generalizing s with
  | nil => exact h
  | cons a l ih =>
    refine ih ((State.get_set _ _ _ _).trans ?_)
    split
    · rfl
    · exact h

theorem State.get_commitOutcome_abortArms {l : List Arm} {a : Arm} (h : a ∈ l) (s : State) :
    (s.abortArms l).get (Reg.commitOutcome a.owner) = outAborted := by
  induction l generalizing s with
  | nil => exact absurd h (List.not_mem_nil)
  | cons b l ih =>
    rcases List.mem_cons.mp h with rfl | h
    · exact State.abortArms_keeps_aborted l (State.get_set_self _ _ _)
    · exact ih h _

/-- Settles O7: the checks of each command pass, and what it does is what its rule says. -/
theorem timeBaseCommandsComplete : Obligations.TimeBaseCommandsComplete := by
  unfold Obligations.TimeBaseCommandsComplete
  refine ⟨?snapshot, ?align, ?sync, ?expire, ?step, ?enable, ?disable, ?role, ?standby, ?timeout⟩
  case snapshot =>
    intro ctx value s h hv
    exact congrArg Host.Outcome.next (s.cmdWrite_admits ctx _ _ false _ _ h (firstAbort_need _ (decide_eq_true hv)))
  case align =>
    intro error s hup hdue
    refine ⟨_, execFollowerAlign_of_due error hup hdue, ?_, ?_, ?_⟩ <;> simp [State.get_set]
  case sync => exact fun port number s hup => if_pos hup
  case expire => exact fun d s hd hover => if_pos ⟨hd, hover⟩
  case step => exact fun _ _ _ _ => execDomStep_unarmed
  case enable => exact fun _ _ _ => execDomEnable_of_disabled
  case disable =>
    intro ctx d s h hd he harms
    rw [exec_domDisable, execDomDisable_of_enabled h hd he, State.disableDomain, harms]
    rfl
  case role => exact fun _ _ _ _ => execDomRole_of_le
  case standby => exact fun _ _ _ _ => execDomStandbyWrite_of_ok
  case timeout => exact fun _ _ _ _ => execDomSyncTimeoutWrite_of_disabled

/-! ## What disabling a domain leaves to the owners -/

/-- The groups of the registers of owners (R50). -/
def Grp.ofOwner : Grp → Bool
  | .upd | .dma | .cyc | .rg | .mm | .gcl | .conn | .saRow | .sid | .sg | .fm | .sr | .cxr | .fv | .fdb => true
  | _ => false

/-- The owner of an index has its registers in a group of owners. -/
theorem ofOwner_of_ownerAt {v : Variant} {idx : Nat} {o : Owner} (h : ownerAt v idx = some o) :
    o.grp.ofOwner = true := by
  unfold ownerAt at h
  repeat' split at h
  all_goals cases h
  all_goals rfl

theorem State.consume_keepsOwners (s : State) (r : Reg) : s.KeepsGroups Grp.ofOwner (s.consume r) := by
  unfold State.consume
  split
  · exact (State.KeepsGroups.refl s).set _ _ rfl
  · unfold State.irqPulse
    split
    · exact (State.KeepsGroups.refl s).set _ _ rfl
    · exact (State.KeepsGroups.refl s).set _ _ rfl
  · split
    · exact State.keepsGroups_of_regs rfl
    · split
      · exact State.keepsGroups_of_regs rfl
      · split
        · exact State.keepsGroups_of_regs rfl
        · exact (State.KeepsGroups.refl s).set _ _ rfl
  · exact .refl s

theorem State.sendSideband_keepsOwners (s : State) (toWick : Bool) (input line : Nat) :
    s.KeepsGroups Grp.ofOwner (s.sendSideband toWick input line) := by
  have hat (v : Nat) : s.KeepsGroups Grp.ofOwner (s.set (Reg.sidebandAt (flag toWick) input) v) :=
    (State.KeepsGroups.refl s).set _ _ rfl
  unfold State.sendSideband
  dsimp only
  split
  · exact .refl s
  · split
    · exact (hat _).set _ _ rfl
    · exact (hat (s.now + 1)).trans (State.keepsGroups_of_regs rfl)

theorem State.pulse_keepsOwners (s : State) (unit inst : Nat) : s.KeepsGroups Grp.ofOwner (s.pulse unit inst) := by
  unfold State.pulse
  split
  · next line _ =>
    have hd : s.KeepsGroups Grp.ofOwner (s.deliver line (producerOnWick unit inst)) :=
      (State.KeepsGroups.refl s).foldl State.consume_keepsOwners _
    unfold State.pulseLine
    dsimp only
    split
    · exact hd.trans (State.sendSideband_keepsOwners _ _ _ _)
    · exact hd
  · exact .refl s

theorem State.domEnter_keepsOwners (s : State) (d v : Nat) : s.KeepsGroups Grp.ofOwner (s.domEnter d v) := by
  unfold State.domEnter
  split
  · exact .refl s
  · exact ((State.KeepsGroups.refl s).set _ _ rfl).trans (State.pulse_keepsOwners _ _ _)

theorem State.domSetState_keepsOwners (s : State) (d v : Nat) : s.KeepsGroups Grp.ofOwner (s.domSetState d v) := by
  unfold State.domSetState
  dsimp only
  split
  · exact (s.domEnter_keepsOwners d v).foldl (fun u p => u.domEnter_keepsOwners p 3) _
  · exact s.domEnter_keepsOwners d v

theorem State.settle_keepsOwners (s : State) (n : Nat) : s.KeepsGroups Grp.ofOwner (s.settle n) := by
  have hclass (u : State) (c : Nat) : u.KeepsGroups Grp.ofOwner (u.settleClass n c s.now) := by
    unfold State.settleClass
    dsimp only
    split
    · exact .refl u
    · exact (State.KeepsGroups.refl u).sets _ (by simp [Grp.ofOwner])
  exact ((State.KeepsGroups.refl s).foldl hclass _).set _ _ rfl

theorem State.holdDue_keepsOwners (s : State) (n : Nat) : s.KeepsGroups Grp.ofOwner (s.holdDue n) :=
  State.KeepsGroups.foldl (fun u _ => (State.KeepsGroups.refl u).set _ _ rfl) (State.keepsGroups_of_regs rfl) _

theorem State.askStop_keepsOwners (s : State) (n : Nat) : s.KeepsGroups Grp.ofOwner (s.askStop n) :=
  State.keepsGroups_of_regs rfl

theorem State.rehold_keepsOwners (s : State) (n : Nat) : s.KeepsGroups Grp.ofOwner (s.rehold n) :=
  (((s.settle_keepsOwners n).trans (State.holdDue_keepsOwners _ n)).trans (State.askStop_keepsOwners _ n)).trans
    (State.holdDue_keepsOwners _ n)

theorem State.releaseHold_keepsOwners (s : State) (n : Nat) : s.KeepsGroups Grp.ofOwner (s.releaseHold n) :=
  ((s.settle_keepsOwners n).set _ _ rfl).trans (State.rehold_keepsOwners _ n)

theorem State.setGates_keepsOwners (s : State) (n gates : Nat) : s.KeepsGroups Grp.ofOwner (s.setGates n gates) := by
  have hopened := (s.settle_keepsOwners n).foldl (f := fun u c =>
    u.sets [(Reg.noFitCounted n c, 0), (Reg.gateOpenedAt n c, u.now)])
    (fun u c => (State.KeepsGroups.refl u).sets _ (by simp [Grp.ofOwner]))
  exact ((hopened _).set _ _ rfl).trans (State.rehold_keepsOwners _ n)

theorem State.gclStop_keepsOwners (s : State) (n : Nat) : s.KeepsGroups Grp.ofOwner (s.gclStop n) := by
  have hpend : s.KeepsGroups Grp.ofOwner (s.pendSet (Reg.gclEnable n) (s.pendGet (Reg.gclEnable n))) :=
    State.keepsGroups_of_regs rfl
  have hstop := (hpend.sets [(Reg.gclEnable n, 0), (Reg.gclPlanned n, 0)] (by simp [Grp.ofOwner])).set
    (Reg.scntDomainStops n)
  exact ((hstop _ rfl).trans (State.releaseHold_keepsOwners _ n)).trans (State.setGates_keepsOwners _ n 0xFF)

/-- Beyond the disarming, disabling a domain leaves the registers of owners alone. -/
theorem State.disableDomain_keepsOwners (s : State) (d : Nat) :
    (s.abortArms (s.armed.filter (fun a => a.kindle && a.domain = d))).KeepsGroups Grp.ofOwner (s.disableDomain d) := by
  have hlists := (State.KeepsGroups.refl (s.abortArms (s.armed.filter (fun a => a.kindle && a.domain = d)))).foldl
    State.gclStop_keepsOwners
  exact ((hlists _).trans (State.domSetState_keepsOwners _ d 0)).set _ _ rfl

/-- The owners of a domain's Kindles have outcome ABORTED when it has been disabled (R99). -/
theorem State.get_commitOutcome_disableDomain {s : State} {d : Nat} {a : Arm}
    (h : a ∈ s.armed.filter (fun a => a.kindle && a.domain = d)) (ho : a.owner.grp.ofOwner = true) :
    (s.disableDomain d).get (Reg.commitOutcome a.owner) = outAborted :=
  (s.disableDomain_keepsOwners d _ ho).trans (State.get_commitOutcome_abortArms h s)

/-- Disabling a domain leaves armed what the disarming does. -/
theorem State.disableDomain_armed (s : State) (d : Nat) :
    (s.disableDomain d).armed = (s.abortArms (s.armed.filter (fun a => a.kindle && a.domain = d))).armed := by
  have hlists (t : State) (l : List Nat) : (l.foldl State.gclStop t).armed = t.armed :=
    ((Within.refl 0x4030 t).next_foldl State.gclStop_frame).same .armed rfl
  exact ((State.domSetState_frame _ d 0).same .armed rfl).trans (hlists _ _)

/-- The owners of a domain's Kindles are not armed when it has been disabled (R99). -/
theorem State.disableDomain_disarms {s : State} {d : Nat} {a b : Arm}
    (h : a ∈ s.armed.filter (fun a => a.kindle && a.domain = d)) (hb : b ∈ (s.disableDomain d).armed) :
    b.owner ≠ a.owner := by
  rw [State.disableDomain_armed, State.armed_abortArms] at hb
  simpa using List.all_eq_true.mp (List.mem_filter.mp hb).2 a h

/-- A commit for a Kindle in a disabled domain ends with REJECTED_MODE (R99). -/
theorem State.commit_of_disabledDomain {s : State} {o : Owner} (hr : (s.unarm o).commitRefusal o = none)
    (hw : s.get (Reg.commitWhen o) = 2) (he : s.get (Reg.domEnable (s.get (Reg.kindleDomain o))) = 0) :
    s.commit o = (s.unarm o).ended o outMode := by
  have hw' : (s.unarm o).get (Reg.commitWhen o) = 2 := hw
  have he' : (s.unarm o).get (Reg.domEnable ((s.unarm o).get (Reg.kindleDomain o))) = 0 := he
  simp only [State.commit, hr, hw', he', if_true]

/-- Settles O51: what is armed in the domain is disarmed, its outcome stands, and a commit meets the domain's check
before it arms. -/
theorem disabledDomainDisarmsItsKindles : Obligations.DisabledDomainDisarmsItsKindles := by
  unfold Obligations.DisabledDomainDisarmsItsKindles
  refine ⟨?disable, ?commit⟩
  case disable =>
    intro ctx d s h hd he
    rw [exec_domDisable, execDomDisable_of_enabled h hd he]
    refine ⟨_, rfl, fun a ha hk hdom => ?_⟩
    have hmem : a ∈ s.armed.filter (fun a => a.kindle && a.domain = d) := by simp [ha, hk, hdom]
    refine ⟨fun b hb => ?_, fun index hindex => ?_⟩
    · rw [State.done_armed, State.changed_armed] at hb
      exact State.disableDomain_disarms hmem hb
    · have hown : a.owner.grp.ofOwner = true := ofOwner_of_ownerAt hindex
      have hdev : Reg.commitOutcome a.owner ≠ Reg.devChangeCounter := fun e => by
        have hgrp : a.owner.grp = .dev := congrArg Reg.grp e
        simp [hgrp, Grp.ofOwner] at hown
      rw [State.get_done, State.changed, State.get_countSat_of_ne _ _ _ _ hdev]
      exact State.get_commitOutcome_disableDomain hmem hown
  case commit =>
    intro ctx index s o ho h hfv hmm hr hw he
    rw [exec_commit, execCommit_admits ho h hmm (fun hg => absurd hg hfv), State.commit_of_disabledDomain hr hw he]

/-! ## Gate lists and stream recovery -/

/-- The head entry of a queue whose gate will open is staged (R101, R189). -/
theorem execGateNotice_of_ready {port : Nat} {s : State} {e : Entry}
    (h : (openings (s.get (Reg.gclOperGates port)) (s.rowsAhead port 640)).findSome? (s.readyAmong port) = some e) :
    execGateNotice port s =
      .next { s with entries := s.entries.map (fun a => if a.same e then { a with staged := true } else a) } := by
  simp only [execGateNotice, h]

/-- Settles O12: each row acts when what it waits for has come. -/
theorem gateListsAdvance : Obligations.GateListsAdvance := by
  unfold Obligations.GateListsAdvance
  refine ⟨?entry, ?notice, ?hold, ?release, ?recovery⟩
  case entry => exact fun port s hlive hnow => if_pos ⟨hlive, hnow⟩
  case notice => exact fun _ _ _ => execGateNotice_of_ready
  case hold => exact fun port s hrow => if_pos hrow
  case release => exact fun port s hrow => if_pos hrow
  case recovery => exact fun row s h0 hnow => if_pos ⟨h0, hnow⟩

end Sys2Proof.Machine
end

section
/-! The ports: the commands of one port, and the events of its link, of its merge, of pauses and of PLCA. -/
namespace Sys2Proof.Machine

/-! ## The commands of a port -/

/-- An admitted write of an object of a port that is present and has a link is carried out and counted (R110). -/
theorem State.rwWrite_port {s : State} {c : Ctx} {n sub : Nat} (act : State → State)
    (h : s.admits c (0x2400 + n) sub false = true) (hp : s.hasPort n = true) (hn : n ≠ 37) :
    s.rwWrite c (0x2400 + n) sub (s.hasPort n) false [] act (constOnHost n) = ((act s).changed).done c := by
  have hkind : constOnHost n = none := need_of _ _ (decide_eq_true hn)
  rw [hp, hkind, s.rwWrite_admits c _ sub false [] act h rfl]

/-- An admitted command of a port that is present and has a link is carried out (R110). -/
theorem State.cmdWrite_port {s : State} {c : Ctx} {n sub : Nat} (act : State → State)
    (h : s.admits c (0x2400 + n) sub false = true) (hp : s.hasPort n = true) (hn : n ≠ 37) :
    s.cmdWrite c (0x2400 + n) sub (s.hasPort n) false [need (n ≠ 37) 0x06090011] act = (act s).done c := by
  rw [hp, s.cmdWrite_admits c _ sub false _ act h (firstAbort_need _ (decide_eq_true hn))]

/-- A disabled port that is enabled starts its link (R110). -/
theorem execPortEnable_of_disabled {ctx : Ctx} {n : Nat} {s : State} (h : s.admits ctx (0x2400 + n) 1 false = true)
    (hp : s.hasPort n = true) (hn : n ≠ 37) (he : s.get (Reg.portEnable n) = 0) :
    execPortEnable ctx n s = .next ((((s.set (Reg.portEnable n) 1).linkStart n).changed).done ctx) := by
  rw [execPortEnable, State.rwWrite_port _ h hp hn, if_neg (by simp [he])]

/-- A port that is disabled has its link taken down (R110). -/
theorem execPortDisable_of_admits {ctx : Ctx} {n : Nat} {s : State} (h : s.admits ctx (0x2400 + n) 1 false = true)
    (hp : s.hasPort n = true) (hn : n ≠ 37) :
    execPortDisable ctx n s = .next ((((s.set (Reg.portEnable n) 0).linkGoesDown n).changed).done ctx) := by
  rw [execPortDisable, State.rwWrite_port _ h hp hn]

/-- A restart of an enabled port takes its link down and starts it again (R110). -/
theorem execPortRestart_of_enabled {ctx : Ctx} {n : Nat} {s : State} (h : s.admits ctx (0x2400 + n) 0x0B false = true)
    (hp : s.hasPort n = true) (hn : n ≠ 37) (he : s.get (Reg.portEnable n) = 1) :
    execPortRestart ctx n s = .next (((s.linkGoesDown n).linkStart n).done ctx) := by
  rw [execPortRestart, State.cmdWrite_port _ h hp hn, if_pos he]

/-- A full restart of an enabled port starts its link without the retained block (R110, R121). -/
theorem execPortRestartFull_of_enabled {ctx : Ctx} {n : Nat} {s : State}
    (h : s.admits ctx (0x2400 + n) 0x0B false = true) (hp : s.hasPort n = true) (hn : n ≠ 37)
    (he : s.get (Reg.portEnable n) = 1) :
    execPortRestartFull ctx n s = .next ((((s.set (Reg.retPresent n) 0).linkGoesDown n).linkStart n).done ctx) := by
  have he' : (s.set (Reg.retPresent n) 0).get (Reg.portEnable n) = 1 := (s.get_set_of_ne _ _ _ (by simp)).trans he
  rw [execPortRestartFull, State.cmdWrite_port _ h hp hn, if_pos he']

/-! ## The events of a link -/

/-- A ready link comes up, unless it locked too late on retained settings (R111, R121). -/
theorem execLinkUp_in_time {port speed : Nat} {s : State} (h : s.linkReady port speed = true)
    (ht : s.get (Reg.portPhase port) = 1 ∨ s.now ≤ s.get (Reg.portSince port) + 810 * us) :
    execLinkUp port speed s = .next (s.linkComesUp port speed (s.get (Reg.portPhase port) = 2)) := by
  have hlate : ¬ (s.get (Reg.portPhase port) = 2 ∧ s.get (Reg.portSince port) + 810 * us < s.now) := by
    rintro ⟨hwarm, hover⟩
    rcases ht with hfull | hnow
    · omega
    · exact Nat.not_lt.mpr hnow hover
  rw [execLinkUp, if_pos h, if_neg hlate]

/-- A ready link that locked too late on retained settings falls back to full training (R121). -/
theorem execLinkUp_late {port speed : Nat} {s : State} (h : s.linkReady port speed = true)
    (hwarm : s.get (Reg.portPhase port) = 2) (hover : s.get (Reg.portSince port) + 810 * us < s.now) :
    execLinkUp port speed s = .next (s.warmFallback port) := by
  rw [execLinkUp, if_pos h, if_pos ⟨hwarm, hover⟩]

/-- A verify interval that elapses before the last try sends again (R114). -/
theorem execMergeVerifyTimeout_of_tries {port : Nat} {s : State} (hl : s.portLive port = true)
    (hv : field (s.get (Reg.portStatus port)) 6 5 = 1) (hnow : s.get (Reg.verifyAt port) ≤ s.now)
    (ht : s.get (Reg.verifyTries port) < verifyLimit) :
    execMergeVerifyTimeout port s = .next (s.sets [(Reg.verifyTries port, s.get (Reg.verifyTries port) + 1),
      (Reg.verifyAt port, s.now + s.get (Reg.portVerifyTime port).latched * ms)]) := by
  rw [execMergeVerifyTimeout, if_pos ⟨hl, hv, hnow⟩, if_pos ht]

/-! ## Pauses -/

/-- The counts of a received flow control frame (R113, R123). -/
def State.pauseCounts (s : State) (port : Nat) : State :=
  ((s.count (Reg.pcntRxFrames port)).count (Reg.pcntRxOctets port) 64 64).count (Reg.pcntRxPause port)

/-- The counts of a port leave its pause mode alone. -/
theorem State.get_portPauseMode_pauseCounts (s : State) (port : Nat) :
    (s.pauseCounts port).get (Reg.portPauseMode port) = s.get (Reg.portPauseMode port) := by
  simp [State.pauseCounts, State.get_count_of_ne]

/-- A PAUSE frame is counted, and honoured in the mode that selects it (R113). -/
theorem execPauseFrameReceive_of_pause {port enables : Nat} {times : List Nat} {s : State} (hl : s.portLive port = true)
    (hup : s.linkUp port = true) (hm : s.get (Reg.portPauseMode port) = 1) :
    execPauseFrameReceive port false enables times s = .next ((s.pauseCounts port).pauseSet port 8 (times.headD 0)) := by
  have hm' : (s.pauseCounts port).get (Reg.portPauseMode port) = 1 := (s.get_portPauseMode_pauseCounts port).trans hm
  unfold State.pauseCounts at hm' ⊢
  rw [execPauseFrameReceive, if_pos ⟨hl, hup⟩, if_pos ⟨hm', Bool.false_ne_true⟩]

/-- Settles O8: no check refuses a command of a present port, and each event finds its port live and its interval over. -/
theorem portCommandsComplete : Obligations.PortCommandsComplete := by
  unfold Obligations.PortCommandsComplete
  refine ⟨?enable, ?disable, ?restart, ?restartFull, ?up, ?upLate, ?down, ?warmTimeout, ?verify, ?pause, ?pauseEnd, ?beacon,
    ?noBeacon⟩
  case enable => exact fun _ _ _ => execPortEnable_of_disabled
  case disable => exact fun _ _ _ => execPortDisable_of_admits
  case restart => exact fun _ _ _ => execPortRestart_of_enabled
  case restartFull => exact fun _ _ _ => execPortRestartFull_of_enabled
  case up => exact fun _ _ _ => execLinkUp_in_time
  case upLate => exact fun _ _ _ => execLinkUp_late
  case down => exact fun _ _ _ _ hl hport hup hheld => if_pos ⟨hl, hport, hup, hheld⟩
  case warmTimeout => exact fun _ _ hl hwarm hover => if_pos ⟨hl, hwarm, hover⟩
  case verify => exact fun _ _ => execMergeVerifyTimeout_of_tries
  case pause => exact fun _ _ _ _ => execPauseFrameReceive_of_pause
  case pauseEnd => exact fun _ _ => rfl
  case beacon => exact fun _ _ hk hl => if_pos ⟨hk, hl⟩
  case noBeacon => exact fun _ _ _ hk hl hfollower hmissed => if_pos ⟨hk, hl, hfollower, hmissed⟩

end Sys2Proof.Machine
end

section
/-! The egress ports and the cell buffer: frames on the wires, lookahead and staging; reclaims, flushes, the forwarding
database and the rank floor. -/
namespace Sys2Proof.Machine

/-! ## Frames on the wires -/

/-- A free wire starts the head that the scheduler picks, unless another frame runs on it or the Chimney link is lost (R193, R195, R384). -/
theorem execFrameTransmitStart_of_start {port ecc cell : Nat} {s t : State} {e : Entry} {f : Frame} {g : Guard}
    (hfree : s.wireFree port = true) (hpick : (s.rehold port).pick port [7, 6, 5, 4, 3, 2, 1, 0] = (.start e f g, t))
    (halone : t.wire.any (fun w => w.entry.port = port && !w.held) = false) (hlink : port < 32 ∨ t.get Reg.chmState ≠ 3) :
    execFrameTransmitStart port ecc cell s = .next (t.startPicked e f g ecc cell) := by
  have hlost : ¬ (32 ≤ port ∧ t.get Reg.chmState = 3) := fun ⟨hwick, hdown⟩ =>
    hlink.elim (Nat.not_lt.mpr hwick) (absurd hdown)
  rw [execFrameTransmitStart, if_pos hfree]
  simp only [hpick, if_neg hlost, halone, Bool.false_eq_true, if_false]

/-- The frame that runs on a wire ends once it awaits no verdict (R18, R218, R243). -/
theorem execFrameTransmitEnd_of_running {port : Nat} {s : State} {w : Wire} {f : Frame}
    (hwire : (s.holdDue port).wire.find? (fun w => w.entry.port = port && !w.held) = some w)
    (hframe : (s.holdDue port).frame? w.entry.frame = some f) (hverdict : f.verdictDue = false) :
    execFrameTransmitEnd port s = .next ((s.holdDue port).finish w f) := by
  simp only [execFrameTransmitEnd, hwire, hframe, hverdict, Bool.false_eq_true, if_false]

/-- A cold protected head takes the free keystream buffer of its port (R224). -/
theorem execLookaheadReserve_of_cold {port slot : Nat} {s : State} {e : Entry} {f : Frame} (hf : s.forwarding = true)
    (hp : port < 37) (hl : s.portLive port = true) (hhead : s.candidate port = some e) (hframe : s.frame? e.frame = some f)
    (hguard : s.guardNow port f = .secure slot) (hcold : s.prep.find? (fun p => p.port = port) = none)
    (hroom : (s.wire.filter (fun w => w.entry.port = port && w.encrypted)).length < 2) :
    execLookaheadReserve port s = .next (s.reserve e slot s.now) := by
  rw [execLookaheadReserve, if_pos ⟨hf, hp, hl⟩]
  simp only [hhead, hframe, hguard, hcold, if_neg (Nat.not_le.mpr hroom)]

/-- The granted frame of a partition leaves the staging and is admitted (R174). -/
theorem execStagingGrant_of_grant {part : Nat} {s : State} {g : Staged} (hf : s.forwarding = true)
    (hm : s.partitionMode = true) (h : s.grantOf part = some g) :
    execStagingGrant part s =
      .next ((({ s with staging := s.staging.filter (fun h => h.frame ≠ g.frame) } : State).set (Reg.grantNext part)
        ((g.ingress + 1) % 38)).admitAll g.frame g.targets |>.admitted g.frame) := by
  rw [execStagingGrant, if_pos ⟨hf, hm⟩]
  simp only [h]

/-- A frame that waited too long in the staging of its port is dropped (R174). -/
theorem execStagingTimeout_of_late {port : Nat} {s : State} {g : Staged}
    (h : s.staging.find? (fun g => g.ingress = port && s.stagedTooLong g) = some g) :
    execStagingTimeout port s = .next ((s.dropFrame g.frame Reg.lcTxGapRemoved).count (Reg.qcntStagingDrops port)) := by
  simp only [execStagingTimeout, h]

/-- Settles O10: each premise decides one branch of its row, and what is left is the effect of the rule. -/
theorem framesAreSentAndReserved : Obligations.FramesAreSentAndReserved := by
  unfold Obligations.FramesAreSentAndReserved
  refine ⟨?start, ?finish, ?reserve, ?grant, ?timeout⟩
  case start => exact fun _ _ _ _ _ _ _ _ => execFrameTransmitStart_of_start
  case finish =>
    rintro port s t w f rfl hwire hframe hverdict
    exact execFrameTransmitEnd_of_running hwire hframe hverdict
  case reserve => exact fun _ _ _ _ _ => execLookaheadReserve_of_cold
  case grant => exact fun _ _ _ => execStagingGrant_of_grant
  case timeout => exact fun _ _ _ => execStagingTimeout_of_late

/-! ## The cell buffer -/

/-- A reclaim starts when none runs (R163). -/
theorem execBufReclaim_of_idle {ctx : Ctx} {s : State} (h : s.admits ctx 0x2500 0x0D false = true)
    (hidle : s.get Reg.reclaimBusy = 0) :
    execBufReclaim ctx 1 s = .next ((s.sets [(Reg.reclaimBusy, 1), (Reg.bufReclaimOutcome, outBusy)]).done ctx) := by
  have hchecks : firstAbort (need (s.get Reg.reclaimBusy = 0) 0x08000022 :: onlyOne 1) = none := by
    rw [need_of _ _ (decide_eq_true hidle)]
    rfl
  rw [execBufReclaim, s.cmdWrite_admits ctx 0x2500 0x0D false _ _ h hchecks]

/-- The end of a reclaim: its outcome is DONE, and the lost cells are free again (R163). -/
def State.endReclaim (s : State) : State :=
  { s.sets [(Reg.reclaimBusy, 0), (Reg.bufReclaimOutcome, outDone),
      (Reg.bufFreeCells, s.get Reg.bufFreeCells + s.get Reg.bufLostCells), (Reg.bufLostCells, 0)] with lostCells := [] }

theorem execReclaimDone_of_busy {s : State} (h : s.get Reg.reclaimBusy = 1) : execReclaimDone s = .next s.endReclaim :=
  if_pos h

/-- A register after the end of a reclaim: the last of its four writes that names it decides. -/
theorem State.get_endReclaim (s : State) (q : Reg) :
    s.endReclaim.get q =
      if q = Reg.bufLostCells then 0
      else if q = Reg.bufFreeCells then s.get Reg.bufFreeCells + s.get Reg.bufLostCells
      else if q = Reg.bufReclaimOutcome then outDone
      else if q = Reg.reclaimBusy then 0
      else s.get q := by
  have hregs : s.endReclaim.get q = (s.sets [(Reg.reclaimBusy, 0), (Reg.bufReclaimOutcome, outDone),
      (Reg.bufFreeCells, s.get Reg.bufFreeCells + s.get Reg.bufLostCells), (Reg.bufLostCells, 0)]).get q := rfl
  simp only [hregs, State.sets_cons, State.sets_nil, State.get_set]

/-- A flush of a port that is present starts when none runs there (R182). -/
theorem execQFlush_of_idle {ctx : Ctx} {port value : Nat} {s : State} (h : s.admits ctx (0x2510 + port) 3 false = true)
    (hp : s.hasPort port = true) (hidle : s.flushing port = false) (htrim : s.get (Reg.trimFlush port) = 0)
    (hv : value < 256) :
    execQFlush ctx port value s = .next (((s.startFlush port (bitsOf 32 value)).set (Reg.qFlushOutcome port)
      (if value = 0 then outDone else outBusy)).done ctx) := by
  have hfits : fits 4 value = none := need_of _ _ (decide_eq_true (by omega))
  rw [execQFlush, hp, s.cmdWrite_admits ctx _ 3 false _ _ h (by simp [hidle, htrim, hfits, hv])]

/-- A flush of a port ends; without Trim no other follows (R182, R461). -/
theorem execFlushDone_of_flushing {port : Nat} {s : State} (h : s.flushing port = true)
    (htrim : (s.endFlush port).get (Reg.trimFlush port) = 0) :
    execFlushDone port s = .next ((s.endFlush port).set (Reg.qFlushOutcome port) outDone) := by
  have hafter : ((s.endFlush port).set (Reg.qFlushOutcome port) outDone).get (Reg.trimFlush port) = 0 :=
    (State.get_set_of_ne _ _ _ _ (by simp)).trans htrim
  rw [execFlushDone, if_pos (Or.inl h), if_neg (by simp [htrim]), if_neg (by simp [hafter])]

/-- The learned rows of one port, or of all, are forgotten (R183). -/
theorem execFdbForget_of_value {ctx : Ctx} {value : Nat} {s : State} (h : s.admits ctx 0x2500 0x34 false = true)
    (hv : value ≤ 37 ∨ value = 0xFF) :
    execFdbForget ctx value s = .next (((s.fdbRows.filter (fun r => s.fdbLearned r &&
      (value = 0xFF || s.get (Reg.fdbControl r) % 64 = value))).foldl State.fdbClear s).done ctx) := by
  rw [execFdbForget, s.cmdWrite_admits ctx 0x2500 0x34 false _ _ h (firstAbort_need _ (by simpa using hv))]

/-- Settles O11: no check refuses the commands, and each event finds its work running or its FIFOs at the level. -/
theorem bufferCommandsComplete : Obligations.BufferCommandsComplete := by
  unfold Obligations.BufferCommandsComplete
  refine ⟨?reclaim, ?reclaimDone, ?flush, ?flushDone, ?forget, ?raise, ?lower⟩
  case reclaim => exact fun _ _ => execBufReclaim_of_idle
  case reclaimDone =>
    intro s h
    refine ⟨s.endReclaim, execReclaimDone_of_busy h, ?free, ?lost, ?outcome, ?busy, rfl⟩
    all_goals simp [State.get_endReclaim]
  case flush => exact fun _ _ _ _ => execQFlush_of_idle
  case flushDone => exact fun _ _ h _ => execFlushDone_of_flushing h
  case forget => exact fun _ _ _ => execFdbForget_of_value
  case raise => exact fun _ hf hstep hmax hdeep hfirst => if_pos ⟨hf, hstep, hmax, hdeep, Or.inl hfirst⟩
  case lower => exact fun _ hf hstep hmin hshallow hquiet => if_pos ⟨hf, hstep, hmin, hshallow, hquiet⟩

end Sys2Proof.Machine
end

section
/-! The secure channels: the commands of a channel, the installs of the vault, and the timers and events of the slots. -/
namespace Sys2Proof.Machine

/-! ## The commands of a channel -/

/-- The end of a channel command with DONE: its outcome, its result and the completed write (R250). -/
def State.scEnd (s : State) (ctx : Ctx) (result : Nat) : State :=
  ((s.set (Reg.scOutcome.of ctx) outDone).set (Reg.scResult.of ctx) result).done ctx

/-- An admitted channel command that is carried out ends with DONE and its result (R250). -/
theorem State.scWrite_of_done {s t : State} {ctx : Ctx} {act : State → Nat × Nat × State} {result : Nat}
    (h : s.admits ctx 0x2800 0x0D false = true) (hb : s.get (Reg.scOutcome.of ctx) ≠ outBusy)
    (hact : act s = (outDone, result, t)) : s.scWrite ctx act = t.scEnd ctx result := by
  rw [s.scWrite_admits ctx act h hb, hact]
  rfl

/-- A register after the end of a channel command. -/
theorem State.get_scEnd (s : State) (ctx : Ctx) (result : Nat) (q : Reg) :
    (s.scEnd ctx result).get q =
      if q = Reg.scResult.of ctx then result else if q = Reg.scOutcome.of ctx then outDone else s.get q := by
  rw [State.scEnd, State.get_done, State.get_set, State.get_set]

/-- The end of a channel command leaves every register outside the group of its outcome and result alone. -/
theorem State.get_scEnd_of_grp {s : State} {ctx : Ctx} {result : Nat} {q : Reg} (h : q.grp ≠ .sc) :
    (s.scEnd ctx result).get q = s.get q := by
  have hresult : q ≠ Reg.scResult.of ctx := fun e => h (congrArg Reg.grp e)
  have houtcome : q ≠ Reg.scOutcome.of ctx := fun e => h (congrArg Reg.grp e)
  rw [State.get_scEnd, if_neg hresult, if_neg houtcome]

theorem State.get_scOutcome_scEnd (s : State) (ctx : Ctx) (result : Nat) :
    (s.scEnd ctx result).get (Reg.scOutcome.of ctx) = outDone := by
  simp [State.get_scEnd]

theorem State.get_scResult_scEnd (s : State) (ctx : Ctx) (result : Nat) :
    (s.scEnd ctx result).get (Reg.scResult.of ctx) = result := by
  rw [State.get_scEnd, if_pos rfl]

theorem State.scEnd_pend (s : State) (ctx : Ctx) (result : Nat) : (s.scEnd ctx result).pend = s.pend := rfl

/-- A channel opened with the direction, SCI, ports and flags of a path context (R248). -/
def State.openChannel (s : State) (ctx : Ctx) (c : Nat) : State :=
  s.sets [(Reg.chOpen c, 1), (Reg.chRx c, s.get (Reg.scFlags.of ctx) % 2), (Reg.chSci c, s.get (Reg.scSci.of ctx)),
    (Reg.chPorts c, s.get (Reg.scPorts.of ctx)), (Reg.chFlags c, s.get (Reg.scFlags.of ctx)),
    (Reg.saChannelsOpen, s.get Reg.saChannelsOpen + 1)]

/-- The opened channel holds what the context gave, and one more channel is open. -/
theorem State.get_openChannel (s : State) (ctx : Ctx) (c : Nat) :
    (s.openChannel ctx c).get (Reg.chOpen c) = 1 ∧
    (s.openChannel ctx c).get (Reg.chRx c) = s.get (Reg.scFlags.of ctx) % 2 ∧
    (s.openChannel ctx c).get (Reg.chSci c) = s.get (Reg.scSci.of ctx) ∧
    (s.openChannel ctx c).get (Reg.chPorts c) = s.get (Reg.scPorts.of ctx) ∧
    (s.openChannel ctx c).get Reg.saChannelsOpen = s.get Reg.saChannelsOpen + 1 := by
  simp [State.openChannel, State.get_set]

/-- An open whose parameters are sound and whose SCI is free opens the lowest closed channel (R248, R251). -/
theorem execScOpen_of_closed {ctx : Ctx} {s : State} {c : Nat} (h : s.admits ctx 0x2800 0x0D false = true)
    (hb : s.get (Reg.scOutcome.of ctx) ≠ outBusy) (hports : s.portsAbsent (s.get (Reg.scPorts.of ctx)) = false)
    (hc : s.closedChannel = some c) (hkept : ¬ (bitOf (s.get (Reg.scFlags.of ctx)) 2 = true ∧ 512 ≤ s.retained))
    (hok : s.openBad ctx = false)
    (hsci : s.sciInUse (bitOf (s.get (Reg.scFlags.of ctx)) 0) (s.get (Reg.scSci.of ctx)) (s.get (Reg.scPorts.of ctx)) = false) :
    execScOpen ctx s = .next ((s.openChannel ctx c).scEnd ctx c) := by
  refine congrArg Host.Outcome.next (State.scWrite_of_done h hb ?_)
  simp only [hports, hc, if_neg hkept, hok, hsci, Bool.false_eq_true, if_false]
  rfl

/-- A deactivation changes registers of slots alone. -/
theorem State.get_deactivate_of_grp {s : State} {row : Nat} {q : Reg} (hrow : q.grp ≠ .saRow) (hslot : q.grp ≠ .iSlot) :
    (s.deactivate row).get q = s.get q := by
  have hsaRow {r : Reg} (h : r.grp = .saRow) : r ≠ q := fun e => hrow (congrArg Reg.grp e ▸ h)
  have hiSlot {r : Reg} (h : r.grp = .iSlot) : r ≠ q := fun e => hslot (congrArg Reg.grp e ▸ h)
  refine State.get_sets_of_not_mem _ _ q ?_
  simp only [List.forall_mem_cons]
  exact ⟨hsaRow rfl, hsaRow rfl, hiSlot rfl, hiSlot rfl, hiSlot rfl, nofun⟩

/-- A channel whose slots are deactivated, and which is free again (R253). -/
def State.closeChannel (s : State) (c : Nat) : State :=
  let u := (s.deactivate (2 * c)).deactivate (2 * c + 1)
  u.sets [(Reg.chOpen c, 0), (Reg.chRx c, 0), (Reg.chSci c, 0), (Reg.chPorts c, 0), (Reg.chFlags c, 0),
    (Reg.chHolding c, 0), (Reg.chHoldOver c, 0), (Reg.saChannelsOpen, u.get Reg.saChannelsOpen - 1)]

/-- The closed channel holds no SCI and no ports. -/
theorem State.get_closeChannel (s : State) (c : Nat) :
    (s.closeChannel c).get (Reg.chOpen c) = 0 ∧ (s.closeChannel c).get (Reg.chSci c) = 0 ∧
    (s.closeChannel c).get (Reg.chPorts c) = 0 := by
  simp [State.closeChannel, State.get_set]

/-- An open receive channel is closed, and the result stands as it was (R250, R253). -/
theorem execScClose_of_receive {ctx : Ctx} {s : State} (h : s.admits ctx 0x2800 0x0D false = true)
    (hb : s.get (Reg.scOutcome.of ctx) ≠ outBusy) (hopen : s.channelOpen (s.get (Reg.scChannel.of ctx)) = true)
    (hrx : s.get (Reg.chRx (s.get (Reg.scChannel.of ctx))) = 1) :
    execScClose ctx s =
      .next ((s.closeChannel (s.get (Reg.scChannel.of ctx))).scEnd ctx (s.get (Reg.scResult.of ctx))) := by
  refine congrArg Host.Outcome.next (State.scWrite_of_done h hb ?_)
  rw [if_neg (not_not_intro hopen), if_neg (by simp [hrx])]
  have hresult (row : Nat) (u : State) : (u.deactivate row).get (Reg.scResult.of ctx) = u.get (Reg.scResult.of ctx) :=
    State.get_deactivate_of_grp (by simp) (by simp)
  exact congrArg (fun result => (outDone, result, s.closeChannel (s.get (Reg.scChannel.of ctx))))
    ((hresult _ _).trans (hresult _ s))

/-- What a command puts into the pending copy of the slots, it puts there alone: the draw and a late mark leave the copy. -/
theorem State.pendSlot_pend (s : State) (r : Reg) (v : Nat) : (s.pendSlot [(r, v)]).pend = (s.pendSet r v).pend :=
  (State.takeLate_frame ..).same .pend rfl

/-- The retirement of the non-current slot is written to the pending copy (R250, R255). -/
theorem execScRetire_of_other {ctx : Ctx} {s : State} {r : Nat} (h : s.admits ctx 0x2800 0x0D false = true)
    (hb : s.get (Reg.scOutcome.of ctx) ≠ outBusy) (hopen : s.channelOpen (s.get (Reg.scChannel.of ctx)) = true)
    (hother : s.otherSlot (s.get (Reg.scChannel.of ctx)) = some r) :
    execScRetire ctx s = .next ((s.pendSlot [(Reg.saState r, 0)]).scEnd ctx (s.get (Reg.scResult.of ctx))) := by
  refine congrArg Host.Outcome.next (State.scWrite_of_done h hb ?_)
  rw [if_neg (not_not_intro hopen), hother]

/-- The pending rows of an open channel are handed over at once (R258). -/
theorem execScActivate_of_rows {ctx : Ctx} {s : State} (h : s.admits ctx 0x2800 0x0D false = true)
    (hb : s.get (Reg.scOutcome.of ctx) ≠ outBusy) (hopen : s.channelOpen (s.get (Reg.scChannel.of ctx)) = true)
    (hrows : (s.pendRows.filter (fun r => r / 2 = s.get (Reg.scChannel.of ctx))).isEmpty = false) :
    execScActivate ctx s =
      .next (((s.handRows (s.pendRows.filter (fun r => r / 2 = s.get (Reg.scChannel.of ctx)))).handedOver
        ⟨.saRow, 0⟩).scEnd ctx (s.get (Reg.scResult.of ctx))) := by
  refine congrArg Host.Outcome.next (State.scWrite_of_done h hb ?_)
  rw [if_neg (not_not_intro hopen), if_neg (by simp [hrows])]

/-! ## Installs -/

/-- A vault in service queues an install, whose outcome reads BUSY (R259, R302). -/
theorem State.vaultSubmit_install (s : State) (i : Install) (h2 : s.get Reg.vltState ≠ 2) (h3 : s.get Reg.vltState ≠ 3) :
    s.vaultSubmit (.install i) =
      ({ s.set (Reg.scOutcome.of i.ctx) outBusy with installs := s.installs ++ [i] } : State) := by
  unfold State.vaultSubmit
  split
  · contradiction
  · contradiction
  · rfl

/-- What an install of a path context hands to the vault for a target slot (R259). -/
def State.installFor (s : State) (ctx : Ctx) (target : Nat) : Install :=
  { ctx := ctx, channel := s.get (Reg.scChannel.of ctx), target := target, kek := s.get (Reg.scKekSlot.of ctx),
    wrapped := padTo 40 (s.blob (Reg.scWrapped.of ctx)), params := s.get (Reg.scInstallParams.of ctx),
    startPn := s.get (Reg.scStartPn.of ctx), ssci := s.get (Reg.scSsci.of ctx),
    salt := padTo 12 (s.blob (Reg.scSalt.of ctx)), threshold := s.get (Reg.scPnThreshold.of ctx),
    window := s.get (Reg.scReplayWindow.of ctx) }

/-- A sound install into an open channel that has a target slot waits for the vault (R251, R259). -/
theorem execScInstall_of_target {ctx : Ctx} {s : State} {r : Nat} (h : s.admits ctx 0x2800 0x0D false = true)
    (hb : s.get (Reg.scOutcome.of ctx) ≠ outBusy) (hopen : s.channelOpen (s.get (Reg.scChannel.of ctx)) = true)
    (hok : s.installBad ctx (s.get (Reg.scChannel.of ctx)) = false)
    (htarget : (s.installTarget (s.get (Reg.scChannel.of ctx))).map (·.1) = some r)
    (h2 : s.get Reg.vltState ≠ 2) (h3 : s.get Reg.vltState ≠ 3) :
    execScInstall ctx s = .next (({ s.set (Reg.scOutcome.of ctx) outBusy with
      installs := s.installs ++ [s.installFor ctx r] } : State).done ctx) := by
  obtain ⟨⟨row, worn⟩, hrow, rfl⟩ := Option.map_eq_some_iff.mp htarget
  rw [execScInstall, s.cmdWrite_admits ctx 0x2800 0x0D false _ _ h (by simp [hb])]
  simp only [if_neg (not_not_intro hopen), hok, Bool.false_eq_true, if_false, hrow]
  exact congrArg (fun t : State => Host.Outcome.next (t.done ctx)) (s.vaultSubmit_install (s.installFor ctx row) h2 h3)

/-- The install that the vault runs ends with its outcome, and with its target slot when that is DONE (R259). -/
theorem execInstallDone_of_running {s t : State} {i : Install} {o r : Nat} (hi : s.vaultRunning = some (.install i))
    (hrun : s.runInstall i = (o, r, t)) :
    execInstallDone s = .next ((if o = outDone then (t.set (Reg.scOutcome.of i.ctx) o).set (Reg.scResult.of i.ctx) r
      else t.set (Reg.scOutcome.of i.ctx) o).vaultIdle) := by
  simp only [execInstallDone, hi, hrun]

/-! ## Events -/

/-- A read takes the oldest association event out of its queue (R266). -/
theorem execSaEventFifoRead_of_cons {ctx : Ctx} {s : State} {e : Nat} {rest : List Nat} (hr : s.running = true)
    (hb : s.linkBars ctx false = false) (he : s.saEvents = e :: rest) :
    execSaEventFifoRead ctx s = .next (({ s with saEvents := rest } : State).reply ctx e) := by
  rw [execSaEventFifoRead, s.access_done ctx false [] _ (s.answers_of_running ctx hr) hb (by simp [hr]) rfl, he]

/-- Settles O13: the checks of each command pass and it ends as its rule says, and each timer is over. -/
theorem associationCommandsComplete : Obligations.AssociationCommandsComplete := by
  unfold Obligations.AssociationCommandsComplete
  refine ⟨?opens, ?closes, ?install, ?retire, ?activate, ?installDone, ?overlap, ?hold, ?event⟩
  case opens =>
    intro ctx s c h hb hports hc hkept hok hsci
    obtain ⟨hopen, hrx, hchSci, hchPorts, hcount⟩ := s.get_openChannel ctx c
    exact ⟨_, execScOpen_of_closed h hb hports hc hkept hok hsci, State.get_scOutcome_scEnd .., State.get_scResult_scEnd ..,
      (State.get_scEnd_of_grp (by simp)).trans hopen, (State.get_scEnd_of_grp (by simp)).trans hrx,
      (State.get_scEnd_of_grp (by simp)).trans hchSci, (State.get_scEnd_of_grp (by simp)).trans hchPorts,
      (State.get_scEnd_of_grp (by simp)).trans hcount⟩
  case closes =>
    intro ctx s h hb hopen hrx
    obtain ⟨hclosed, hsci, hports⟩ := s.get_closeChannel (s.get (Reg.scChannel.of ctx))
    exact ⟨_, execScClose_of_receive h hb hopen hrx, State.get_scOutcome_scEnd ..,
      (State.get_scEnd_of_grp (by simp)).trans hclosed, (State.get_scEnd_of_grp (by simp)).trans hsci,
      (State.get_scEnd_of_grp (by simp)).trans hports⟩
  case install =>
    rintro ctx s r i h hb hopen hok htarget h2 h3 rfl
    exact execScInstall_of_target h hb hopen hok htarget h2 h3
  case retire =>
    intro ctx s r h hb hopen hother
    refine ⟨_, execScRetire_of_other h hb hopen hother, State.get_scOutcome_scEnd .., State.get_scResult_scEnd .., ?_⟩
    rw [State.scEnd_pend, State.pendSlot_pend]
  case activate => exact fun _ _ => execScActivate_of_rows
  case installDone => exact fun _ _ _ _ _ => execInstallDone_of_running
  case overlap => exact fun _ _ hworn hset hover => if_pos ⟨hworn, hset, hover⟩
  case hold => exact fun _ _ hholds hover => if_pos ⟨hholds, hover⟩
  case event => exact fun _ _ _ _ => execSaEventFifoRead_of_cons

end Sys2Proof.Machine
end

section
/-! The slow path: the dispatcher, the instructions of an engine, the collector and its tags, the starts and stops of an
engine, the rings of the host, and the words of the packet extension. -/
namespace Sys2Proof.Machine

/-! ## The dispatcher -/

/-- The head of the slow-path queue takes the free tag and goes to the engine chosen for it (R271, R273). -/
theorem execSlowPathDispatch_of_engine {s : State} {g : SlowFrame} {rest : List SlowFrame} {f : Frame} {e tag gen : Nat}
    {r : List Byte} (hrun : s.running = true) (hslow : s.slow = g :: rest) (hframe : s.frame? g.frame = some f)
    (hready : f.eligible = true) (hfree : s.spTags.length < 4096) (htag : tag = s.freeTag)
    (hgen : gen = (s.get (Reg.spGeneration tag) + 1) % 4) (hr : r = inputRecord tag gen g.reason f f.bytes)
    (hengine : s.chooseEngine f g.reason r.length = .engine e) :
    execSlowPathDispatch s = .next ((({ ((({ s with slow := rest } : State).unref g.frame).set Reg.spStallCounted 0) with
        spTags := s.spTags ++ [{ tag := tag, gen := gen, engine := e, ingress := f.ingress, since := s.now }] } : State).setBox
          { s.box e with inbox := (s.box e).inbox ++ [r] }).sets
        [(Reg.spGeneration tag, gen), (Reg.spNextTag, (tag + 1) % 4096), (Reg.spLastEngine, e + 1),
          (Reg.spDispatched, (s.get Reg.spDispatched + 1) % 2 ^ 64)]) := by
  simp only [execSlowPathDispatch, if_neg (not_not_intro hrun), hslow, hframe, if_neg (not_not_intro hready),
    if_neg (Nat.not_le.mpr hfree), ← htag, ← hgen, ← hr, hengine]

/-! ## The instructions of an engine -/

/-- An instruction that asks only for a running engine has its effect on one. -/
theorem next_of_engineRuns {s t u : State} {e : Nat} (h : s.engineRuns e = true) :
    (.next (if s.engineRuns e then t else u) : Host.Outcome State Fault Refusal) = .next t :=
  congrArg Host.Outcome.next (if_pos h)

/-- Inside a packet, the next word is read (R276). -/
theorem execSpIn_of_rest {e rd : Nat} {s : State} (h : s.engineRuns e = true) (hb : (s.box e).begun = true)
    (hr : (s.box e).rest ≠ []) :
    execSpIn e rd s =
      .next ((s.setBox { s.box e with rest := (s.box e).rest.drop 4 }).engineSet e rd (beAt (s.box e).rest 0 4)) := by
  rw [execSpIn, if_neg (not_not_intro h), if_pos ⟨hb, hr⟩]
  rfl

/-- A packet of which a byte is left is discarded and counted (R276, R288). -/
theorem execSpDrop_of_rest {e : Nat} {s : State} (h : s.engineRuns e = true) (hb : (s.box e).begun = true)
    (hr : (s.box e).rest ≠ []) :
    execSpDrop e s = .next ((s.setBox { s.box e with begun := false, rest := [] }).count (Reg.seDrops e)) := by
  rw [execSpDrop, if_pos ⟨h, hb⟩]
  exact congrArg Host.Outcome.next (if_neg hr)

/-- A word goes to an outbox that has room for it (R275, R276). -/
theorem execSpOut_of_room {e rs1 : Nat} {s : State} (h : s.engineRuns e = true)
    (hroom : (s.box e).outBytes + 4 ≤ boxBytes) :
    execSpOut e rs1 s = .next (s.setBox { s.box e with words := (s.box e).words ++ [rs1 % 2 ^ 32] }) :=
  congrArg Host.Outcome.next (if_pos (by simp [h, hroom]))

/-! ## The collector and the tags -/

/-- A sound packet for which the cells suffice leaves the outbox and is collected (R277, R280). -/
theorem execOutboxCollect_of_sound {e : Nat} {s : State} {p : List Nat} {rest : List (List Nat)}
    (hsent : (s.box e).sent = p :: rest) (hrun : s.running = true)
    (hcells : s.get Reg.bufHeadroomCells + max 1 (outWord p).cells ≤ s.get Reg.bufFreeCells)
    (hsound : (outWord p).sound = true) (hlen : p.length = 4 + ((outWord p).len + 3) / 4) :
    execOutboxCollect e s = .next (((s.setBox { s.box e with sent := rest }).count (Reg.sePacketsOut e)).collect
      (outWord p) ((wordBytes (p.drop 4)).take (outWord p).len)) := by
  rw [execOutboxCollect, hsent]
  simp only [if_pos (And.intro hrun hcells), if_pos (And.intro hsound hlen)]

/-- The oldest tag of a port is released once it is resolved (R281). -/
theorem execTagRelease_of_resolved {port : Nat} {s : State} {t : SpTag} {rest : List SpTag} (hrun : s.running = true)
    (holdest : takeFirst (fun t => t.ingress == port) s.spTags = some (t, rest)) (ht : t.resolved = true) :
    execTagRelease port s = .next (t.outputs.foldl State.release { s with spTags := rest }) := by
  rw [execTagRelease, holdest]
  exact if_pos ⟨ht, hrun⟩

/-- A tag that waited too long is resolved and counted (R282). -/
theorem execReorderTimeout_of_late {tag : Nat} {s : State} {t : SpTag}
    (hwaits : s.spTags.find? (fun t => t.tag == tag && !t.resolved) = some t)
    (hlate : t.since + s.get Reg.spReorderTimeout * us ≤ s.now) :
    execReorderTimeout tag s = .next ((s.resolveTag tag t.gen).count Reg.spReorderTimeouts) := by
  rw [execReorderTimeout, hwaits]
  exact if_pos hlate

/-! ## Starts and stops of an engine -/

/-- An admitted write of an object of an engine that the variant has, and whose checks pass, is carried out and counted
(R288). -/
theorem State.rwWrite_engine {s : State} {c : Ctx} {e sub : Nat} {checks : List (Option Nat)} (act : State → State)
    (h : s.admits c (0x24D0 + e) sub false = true) (he : e < s.fuses.variant.engines) (hc : firstAbort checks = none) :
    s.rwWrite c (0x24D0 + e) sub (e < s.fuses.variant.engines) false checks act = ((act s).changed).done c := by
  rw [decide_eq_true he, s.rwWrite_admits c _ sub false checks act h hc]

/-- An engine that is not held in reset starts (R286, R288). -/
theorem execSeRun_of_ready {ctx : Ctx} {e : Nat} {s : State} (h : s.admits ctx (0x24D0 + e) 1 false = true)
    (he : e < s.fuses.variant.engines) (hready : s.get (Reg.seState e) ≠ 3) :
    execSeRun ctx e s = .next (((s.sets [(Reg.seRun e, 1), (Reg.seState e, 1)]).changed).done ctx) := by
  rw [execSeRun, State.rwWrite_engine _ h he (firstAbort_need _ (decide_eq_true hready))]

/-- A running engine stops, and its state is that of a halt without a fault (R284, R288). -/
theorem execSeStop_of_running {ctx : Ctx} {e : Nat} {s : State} (h : s.admits ctx (0x24D0 + e) 1 false = true)
    (he : e < s.fuses.variant.engines) (hrun : s.get (Reg.seState e) = 1) :
    execSeStop ctx e s = .next ((((s.set (Reg.seRun e) 0).engineHalt e 0).changed).done ctx) := by
  have hrun' : (s.set (Reg.seRun e) 0).get (Reg.seState e) = 1 := (s.get_set_of_ne _ _ _ (by simp)).trans hrun
  rw [execSeStop, State.rwWrite_engine _ h he rfl, if_pos hrun']

/-- Settles O14: each premise decides one branch of its row, and what is left is the effect of the rule. -/
theorem enginesAndTagsComplete : Obligations.EnginesAndTagsComplete := by
  unfold Obligations.EnginesAndTagsComplete
  refine ⟨?dispatch, ?input, ?left, ?drop, ?output, ?send, ?resolve, ?crc, ?csum, ?time, ?collect, ?release, ?timeout,
    ?fault, ?run, ?stop⟩
  case dispatch => exact fun _ _ _ _ _ _ _ _ => execSlowPathDispatch_of_engine
  case input => exact fun _ _ _ => execSpIn_of_rest
  case left => exact fun _ _ _ => next_of_engineRuns
  case drop => exact fun _ _ => execSpDrop_of_rest
  case output => exact fun _ _ _ => execSpOut_of_room
  case send => exact fun _ _ => next_of_engineRuns
  case resolve => exact fun _ _ _ => next_of_engineRuns
  case crc => exact fun _ _ _ _ _ => next_of_engineRuns
  case csum => exact fun _ _ _ _ _ => next_of_engineRuns
  case time => exact fun _ _ _ => next_of_engineRuns
  case collect => exact fun _ _ _ _ => execOutboxCollect_of_sound
  case release => exact fun _ _ _ _ => execTagRelease_of_resolved
  case timeout => exact fun _ _ _ => execReorderTimeout_of_late
  case fault => exact fun _ _ _ _ h => if_pos h
  case run => exact fun _ _ _ => execSeRun_of_ready
  case stop => exact fun _ _ _ => execSeStop_of_running

/-! ## The rings of the host -/

/-- The head of a queue whose ring has room without wrapping goes into the ring (R290). -/
theorem execRingReceiveWrite_of_room {q off : Nat} {s t : State} {e : Entry} {b : List Byte} {f : Frame}
    (hrun : s.running = true) (hq : s.ringQueue q = true) (hon : s.get (Reg.rxRingEnable q) = 1)
    (hhead : s.hostHead q = some (e, b)) (hframe : s.frame? e.frame = some f)
    (hroom : ringPlace (s.get (Reg.rxRingProduce q)) (s.get (Reg.rxRingConsume q))
      (2 ^ s.get (Reg.rxRingSizeLog2 q).latched) (inputRecord 0 0 0 f b).length = some (off, false))
    (hwrite : s.memWrite 4 (s.get (Reg.rxRingBase q).latched + off) (inputRecord 0 0 0 f b) = (true, t)) :
    execRingReceiveWrite q s = .next (((t.takeHost e).set (Reg.rxRingProduce q)
      ((off + (inputRecord 0 0 0 f b).length) % 2 ^ s.get (Reg.rxRingSizeLog2 q).latched)).pulse 0x15 q) := by
  rw [execRingReceiveWrite, if_pos ⟨hrun, hq, hon⟩]
  simp only [hhead, hframe, hroom, Bool.false_eq_true, if_false, hwrite, not_true_eq_false]

/-- A `Ring.Produce` within an enabled transmit ring has its records processed (R290). -/
theorem execTxRingProduce_of_enabled {ctx : Ctx} {value : Nat} {s : State} (h : s.admits ctx 0x24C1 4 false = true)
    (hsize : value < 2 ^ s.get Reg.txRingSizeLog2.latched) (hv : value < 2 ^ 32) (hon : s.get Reg.txRingEnable = 1) :
    execTxRingProduce ctx value s = .next (((State.txRecords (2 ^ s.get Reg.txRingSizeLog2.latched / 16 + 1)
      (s.set Reg.txRingProduce value)).changed).done ctx) := by
  have hfits : fits 4 value = none := need_of _ _ (decide_eq_true hv)
  have hon' : (s.set Reg.txRingProduce value).get Reg.txRingEnable = 1 := (s.get_set_of_ne _ _ _ (by simp)).trans hon
  have hsame : (s.set Reg.txRingProduce value).get Reg.txRingSizeLog2.latched = s.get Reg.txRingSizeLog2.latched :=
    s.get_set_of_ne _ _ _ (by simp)
  rw [execTxRingProduce, s.rwWrite_admits ctx 0x24C1 4 false _ _ h (by simp [hfits, hsize]), if_pos hon', hsame]

/-- Settles O15: a record with room is written and its frame leaves, and a valid producer reaches the records. -/
theorem hostRingsMoveRecords : Obligations.HostRingsMoveRecords := by
  unfold Obligations.HostRingsMoveRecords
  refine ⟨?receive, ?transmit⟩
  case receive => exact fun _ _ _ _ _ _ _ => execRingReceiveWrite_of_room
  case transmit => exact fun _ _ _ => execTxRingProduce_of_enabled

/-! ## The words of the packet extension -/

/-- The fields of a word as the table of R276 cuts it. -/
structure WordFields (w op f3 rd rs1 rs2 f7 : Nat) : Prop where
  opcode : w % 2 ^ 7 = op
  funct3 : w / 2 ^ 12 % 2 ^ 3 = f3
  rd : w / 2 ^ 7 % 2 ^ 5 = rd
  rs1 : w / 2 ^ 15 % 2 ^ 5 = rs1
  rs2 : w / 2 ^ 20 % 2 ^ 5 = rs2
  funct7 : w / 2 ^ 25 % 2 ^ 7 = f7

/-- A word laid out from fields that fit their places has those fields, and funct7 0. -/
theorem wordFields_of_layout {op f3 rd rs1 rs2 : Nat} (hrd : rd < 32) (hrs1 : rs1 < 32) (hrs2 : rs2 < 32)
    (hop : op < 2 ^ 7 := by decide) (hf3 : f3 < 2 ^ 3 := by decide) :
    WordFields (op + rd * 2 ^ 7 + f3 * 2 ^ 12 + rs1 * 2 ^ 15 + rs2 * 2 ^ 20) op f3 rd rs1 rs2 0 := by
  constructor <;> omega

/-- The opcode, the funct3 and the unused fields of each of the nine instructions (R276). -/
theorem packetWord_of_fields (e pc a b : Nat) :
    (∀ {w rd}, WordFields w 0x0B 0 rd 0 0 0 → packetWord e pc a b w = some (.spIn e rd)) ∧
    (∀ {w rd}, WordFields w 0x0B 1 rd 0 0 0 → packetWord e pc a b w = some (.spLeft e rd)) ∧
    (∀ {w}, WordFields w 0x0B 2 0 0 0 0 → packetWord e pc a b w = some (.spDrop e)) ∧
    (∀ {w rs1}, WordFields w 0x0B 3 0 rs1 0 0 → packetWord e pc a b w = some (.spOut e a)) ∧
    (∀ {w}, WordFields w 0x0B 4 0 0 0 0 → packetWord e pc a b w = some (.spSend e)) ∧
    (∀ {w rs1}, WordFields w 0x0B 5 0 rs1 0 0 → packetWord e pc a b w = some (.spResolve e a)) ∧
    (∀ {w rd rs1 rs2}, WordFields w 0x0B 6 rd rs1 rs2 0 → packetWord e pc a b w = some (.spCrc e rd a b)) ∧
    (∀ {w rd rs1 rs2}, WordFields w 0x0B 7 rd rs1 rs2 0 → packetWord e pc a b w = some (.spCsum e rd a b)) ∧
    (∀ {w rd}, WordFields w 0x2B 0 rd 0 0 0 → packetWord e pc a b w = some (.spTime e rd)) := by
  refine ⟨?spIn, ?spLeft, ?spDrop, ?spOut, ?spSend, ?spResolve, ?spCrc, ?spCsum, ?spTime⟩
  all_goals
    intros
    rename_i h
    simp only [packetWord, h.opcode, h.funct3, h.rd, h.rs1, h.rs2, h.funct7]
    rfl

/-- Of opcode custom-1 funct3 0 alone is used. -/
theorem packetWord_custom1_of_funct3 {e pc a b w : Nat} (hop : w % 2 ^ 7 = 0x2B) (hf3 : w / 2 ^ 12 % 2 ^ 3 ≠ 0) :
    packetWord e pc a b w = some (.engineFault e 2 pc) := by
  obtain ⟨k, hk⟩ := Nat.exists_eq_succ_of_ne_zero hf3
  simp only [packetWord, hop, hk]

/-- The check of the unused fields fails when the first of them is not 0. -/
theorem all_zero_cons_of_ne {n : Nat} {l : List Nat} (h : n ≠ 0) : (n :: l).all (· == 0) = false := by
  rw [List.all_cons, beq_eq_false_iff_ne.mpr h, Bool.false_and]

/-- Every instruction of opcode custom-1 has funct7 0. -/
theorem packetWord_custom1_of_funct7 {e pc a b w : Nat} (hop : w % 2 ^ 7 = 0x2B) (hf7 : w / 2 ^ 25 % 2 ^ 7 ≠ 0) :
    packetWord e pc a b w = some (.engineFault e 2 pc) := by
  by_cases hf3 : w / 2 ^ 12 % 2 ^ 3 = 0
  · simp only [packetWord, hop, hf3, all_zero_cons_of_ne hf7, Bool.false_eq_true, if_false]
  · exact packetWord_custom1_of_funct3 hop hf3

/-- Every instruction of opcode custom-0, whichever of the eight values its funct3 has, has funct7 0. -/
theorem packetWord_custom0_of_funct7 {e pc a b w : Nat} (hop : w % 2 ^ 7 = 0x0B) (hf7 : w / 2 ^ 25 % 2 ^ 7 ≠ 0) :
    packetWord e pc a b w = some (.engineFault e 2 pc) := by
  have hf3 : w / 2 ^ 12 % 2 ^ 3 = 0 ∨ w / 2 ^ 12 % 2 ^ 3 = 1 ∨ w / 2 ^ 12 % 2 ^ 3 = 2 ∨ w / 2 ^ 12 % 2 ^ 3 = 3 ∨
      w / 2 ^ 12 % 2 ^ 3 = 4 ∨ w / 2 ^ 12 % 2 ^ 3 = 5 ∨ w / 2 ^ 12 % 2 ^ 3 = 6 ∨ w / 2 ^ 12 % 2 ^ 3 = 7 := by omega
  rcases hf3 with hf3 | hf3 | hf3 | hf3 | hf3 | hf3 | hf3 | hf3 <;>
    simp only [packetWord, hop, hf3, all_zero_cons_of_ne hf7, Bool.false_eq_true, if_false]

/-- Settles O59: a word that is laid out has the fields of its instruction; funct7, and funct3 of custom-1, must be 0. -/
theorem extensionWordsAreRead : Obligations.ExtensionWordsAreRead := by
  unfold Obligations.ExtensionWordsAreRead
  refine ⟨?spelt, ?funct7, ?funct3⟩
  case spelt =>
    intro e pc a b rd rs1 rs2 hrd hrs1 hrs2
    have zero : 0 < 32 := by decide
    obtain ⟨spIn, spLeft, spDrop, spOut, spSend, spResolve, spCrc, spCsum, spTime⟩ := packetWord_of_fields e pc a b
    exact ⟨spIn (wordFields_of_layout hrd zero zero), spLeft (wordFields_of_layout hrd zero zero),
      spDrop (wordFields_of_layout zero zero zero), spOut (wordFields_of_layout zero hrs1 zero),
      spSend (wordFields_of_layout zero zero zero), spResolve (wordFields_of_layout zero hrs1 zero),
      spCrc (wordFields_of_layout hrd hrs1 hrs2), spCsum (wordFields_of_layout hrd hrs1 hrs2),
      spTime (wordFields_of_layout hrd zero zero)⟩
  case funct7 =>
    rintro e pc a b w (hop | hop) hf7
    · exact packetWord_custom0_of_funct7 hop hf7
    · exact packetWord_custom1_of_funct7 hop hf7
  case funct3 => exact fun _ _ _ _ _ => packetWord_custom1_of_funct3

end Sys2Proof.Machine
end

section
/-! The key vault: what a command leaves of the key slots; how commands wait, start and end; its random numbers and its life
cycle. -/
namespace Sys2Proof.Machine

/-! ## The slots after a command -/

@[simp] theorem State.reseed_vault (s : State) : s.reseed.vault = s.vault := rfl
@[simp] theorem State.drbgRequest_vault (s : State) : s.drbgRequest.vault = s.vault :=
  s.drbgRequest_frame.same .vault rfl
@[simp] theorem State.random_vault (s : State) (n : Nat) : (s.random n).2.vault = s.vault :=
  (s.random_frame n).same .vault rfl
@[simp] theorem State.newKey_vault (s : State) (alg : Nat) : (s.newKey alg).2.vault = s.vault :=
  (s.newKey_frame alg).same .vault rfl
@[simp] theorem State.derivedLen_vault (s : State) (alg : Nat) : (s.derivedLen alg).2.vault = s.vault :=
  (s.derivedLen_frame alg).same .vault rfl
@[simp] theorem State.vaultOutput_vault (s : State) (c : Ctx) (b : List Byte) : (s.vaultOutput c b).vault = s.vault := rfl
@[simp] theorem State.crUnloadSlot_vault (s : State) (n : Nat) : (s.crUnloadSlot n).vault = s.vault := rfl
@[simp] theorem State.vaultIdle_vault (s : State) : s.vaultIdle.vault = s.vault :=
  s.vaultIdle_frame.same .vault rfl
@[simp] theorem State.vaultFinish_vault (s : State) (r : VaultReq) (code : Nat) : (s.vaultFinish r code).vault = s.vault :=
  (s.vaultFinish_frame r code).same .vault rfl

@[simp] theorem State.crLoad_vault (s : State) (context slot mode field start last : Nat) :
    (s.crLoad context slot mode field start last).2.vault = s.vault :=
  (s.crLoad_frame context slot mode field start last).same .vault rfl
@[simp] theorem State.gwKeyLoad_vault (s : State) (k slot : Nat) : (s.gwKeyLoad k slot).2.vault = s.vault :=
  (s.gwKeyLoad_frame k slot).same .vault rfl

/-- What a vault command makes of the slots: nothing, a key in an empty slot, a narrower policy of a key, or an empty slot (R294,
R297, R305). -/
inductive State.SlotChange (s : State) : List VaultSlot → Prop
  | same : s.SlotChange s.vault
  | made (k : VaultSlot) (hfree : s.keyAt k.slot = none) : s.SlotChange (putKey k s.vault)
  | narrowed (old : VaultSlot) (mask : Nat) (hold : old ∈ s.vault) :
      s.SlotChange (putKey { old with policy := old.policy &&& mask } s.vault)
  | emptied (n : Nat) : s.SlotChange (s.vault.filter (fun k => k.slot ≠ n))

/-- Slots that nothing changed. -/
theorem State.SlotChange.of_eq {s : State} {l : List VaultSlot} (h : l = s.vault) : s.SlotChange l := h ▸ .same

/-- A key is placed in an empty slot, whatever changed beside the slots before. -/
theorem State.SlotChange.of_placeKey {s t : State} {k : VaultSlot} (hfree : s.keyAt k.slot = none)
    (h : t.vault = s.vault := by simp) : s.SlotChange (t.placeKey k).vault := by
  rw [State.placeKey, h]
  exact .made k hfree

/-- A slot that is written holds the new key, and the other keys were there before. -/
theorem mem_putKey {a k : VaultSlot} {l : List VaultSlot} (h : k ∈ putKey a l) : k = a ∨ k ∈ l := by
  induction l with
  | nil => exact .inl (List.mem_singleton.mp h)
  | cons b t ih =>
    unfold putKey at h
    split at h
    · exact List.mem_cons.mp h
    · split at h
      · exact (List.mem_cons.mp h).imp_right (List.mem_cons_of_mem b)
      · rcases List.mem_cons.mp h with rfl | h
        · exact .inr List.mem_cons_self
        · exact (ih h).imp_right (List.mem_cons_of_mem b)

/-- After a change of the slots a key is new in an empty slot, or a key of before under no wider a policy. -/
theorem State.SlotChange.narrows {s : State} {l : List VaultSlot} {k : VaultSlot} (h : s.SlotChange l) (hk : k ∈ l) :
    s.keyAt k.slot = none ∨
      ∃ old ∈ s.vault, k = { old with policy := k.policy } ∧ k.policy &&& old.policy = k.policy := by
  have kept (hk : k ∈ s.vault) :
      ∃ old ∈ s.vault, k = { old with policy := k.policy } ∧ k.policy &&& old.policy = k.policy :=
    ⟨k, hk, rfl, Nat.and_self _⟩
  cases h with
  | same => exact .inr (kept hk)
  | made a hfree =>
    rcases mem_putKey hk with rfl | hk
    · exact .inl hfree
    · exact .inr (kept hk)
  | narrowed old mask hold =>
    rcases mem_putKey hk with rfl | hk
    · exact .inr ⟨old, hold, rfl, by rw [Nat.and_assoc, Nat.and_comm mask, ← Nat.and_assoc, Nat.and_self]⟩
    · exact .inr (kept hk)
  | emptied n => exact .inr (kept (List.mem_filter.mp hk).1)

/-- A command that makes its key in its own slot. -/
theorem VaultCmd.creates_slot {c : VaultCmd} (h : c.code ∈ [1, 2, 3]) : c.creates = some c.slot := by
  simp only [List.mem_cons, List.not_mem_nil, or_false] at h
  rcases h with h | h | h <;> simp only [VaultCmd.creates, h]

/-- A command that makes its key in its auxiliary slot. -/
theorem VaultCmd.creates_aux {c : VaultCmd} (h : c.code ∈ [9, 10, 11]) : c.creates = some c.aux := by
  simp only [List.mem_cons, List.not_mem_nil, or_false] at h
  rcases h with h | h | h <;> simp only [VaultCmd.creates, h]

/-- The operation of a command that makes a key in an empty slot alone, and narrows the policy of a key that is there. -/
theorem State.vaultOperate_slotChange {s : State} {c : VaultCmd} (hfree : ∀ n, c.creates = some n → s.keyAt n = none)
    (hheld : c.code = 5 → ∃ old, s.keyAt c.slot = some old) : s.SlotChange (s.vaultOperate c).2.vault := by
  have own (h : c.code ∈ [1, 2, 3]) : s.keyAt c.slot = none := hfree _ (VaultCmd.creates_slot h)
  have aux (h : c.code ∈ [9, 10, 11]) : s.keyAt c.aux = none := hfree _ (VaultCmd.creates_aux h)
  unfold State.vaultOperate
  dsimp only
  split
  case h_1 hcode => exact .of_placeKey (own (by simp [hcode]))
  case h_2 hcode =>
    split
    · exact .of_placeKey (own (by simp [hcode]))
    · exact .same
  case h_3 hcode =>
    split
    · exact .same
    · split
      · split
        · exact .of_placeKey (own (by simp [hcode]))
        · exact .same
      · exact .same
  case h_4 => exact .same
  case h_5 hcode =>
    obtain ⟨old, hold⟩ := hheld hcode
    rw [hold]
    have narrowed := State.SlotChange.narrowed old c.policy (List.mem_of_find?_eq_some hold)
    split
    · exact narrowed
    · exact narrowed
  case h_6 => exact .emptied c.slot
  case h_7 =>
    split
    · exact .same
    · exact .of_eq (by simp)
  case h_8 =>
    split
    · exact .same
    · split
      · exact .same
      · split
        · exact .same
        · exact .same
  case h_9 hcode =>
    split
    · exact .of_placeKey (aux (by simp [hcode]))
    · exact .of_eq (by simp)
  case h_10 hcode => exact .of_placeKey (aux (by simp [hcode]))
  case h_11 hcode => exact .of_placeKey (aux (by simp [hcode]))
  case h_12 => exact .of_eq (by simp)
  case h_13 => exact .of_eq (by simp)
  case h_14 => exact .same

/-- A check that does not refuse holds. -/
theorem eq_true_of_need {b : Bool} {a : Nat} (h : need b a = none) : b = true := by
  cases b with
  | true => rfl
  | false => exact absurd h (by simp)

/-- A command that passed its checks makes its key in an empty slot. -/
theorem State.keyAt_of_creates {s : State} {c : VaultCmd} {n : Nat} (h : firstAbort (s.vaultChecks c) = none)
    (hn : c.creates = some n) : s.keyAt n = none := by
  have hempty := eq_true_of_need ((firstAbort_eq_none _).mp h
    (need (!c.creates.any (fun n => (s.keyAt n).isSome)) 0x40) (by simp [State.vaultChecks]))
  simpa [hn] using hempty

/-- A policy that passed its checks to be narrowed is that of a key (R294, R301). -/
theorem State.keyAt_of_narrow {s : State} {c : VaultCmd} (h : firstAbort (s.vaultChecks c) = none) (hc : c.code = 5) :
    ∃ old, s.keyAt c.slot = some old := by
  have hheld := eq_true_of_need ((firstAbort_eq_none _).mp h
    (need (usesNoSlot c.code || c.creates = some c.slot || (s.keyAt c.slot).isSome) 0x41) (by simp [State.vaultChecks]))
  simpa [hc, usesNoSlot, VaultCmd.creates, Option.isSome_iff_exists] using hheld

/-- A command that is refused leaves the slots, and one that is carried out passed its checks (R301). -/
theorem State.vaultRun_slotChange (s : State) (c : VaultCmd) : s.SlotChange (s.vaultRun c).2.vault := by
  unfold State.vaultRun
  split
  case h_1 => exact .same
  case h_2 h => exact State.vaultOperate_slotChange (fun _ => State.keyAt_of_creates h) (State.keyAt_of_narrow h)

/-- What the vault finishes changes the slots as a command may; context loads and gateway keys leave them alone. -/
theorem execVaultCommandDone_slotChange {s t : State} (h : execVaultCommandDone s = .next t) : s.SlotChange t.vault := by
  unfold execVaultCommandDone at h
  split at h
  all_goals
    injection h with h
    subst h
  case h_1 c _ => simpa using s.vaultRun_slotChange c
  case h_2 => exact .of_eq (by simp)
  case h_3 => exact .of_eq (by simp)
  case h_4 => exact .same

/-- Settles O54: a command makes its key in an empty slot, narrows the policy of a key or empties a slot. -/
theorem vaultCommandsOnlyNarrow : Obligations.VaultCommandsOnlyNarrow := by
  unfold Obligations.VaultCommandsOnlyNarrow
  exact fun _ _ _ h => (execVaultCommandDone_slotChange h).narrows

/-! ## Commands that wait, start and end -/

/-- A command written to a vault in service waits in its queue with the inputs of its context (R297, R302). -/
theorem next_vaultWrite {ctx : Ctx} {s : State} (code : Nat) (h : s.admits ctx 0x2900 0x0B false = true)
    (hb : s.get (Reg.vltOutcome.of ctx) ≠ outBusy) (h2 : s.get Reg.vltState ≠ 2) (h3 : s.get Reg.vltState ≠ 3) :
    (.next (s.vaultWrite ctx code) : Host.Outcome State Fault Refusal) =
      .next (({ s.set (Reg.vltOutcome.of ctx) outBusy with
        vaultWaiting := s.vaultWaiting ++ [.command (s.vaultCmd ctx code)] } : State).done ctx) := by
  rw [s.vaultWrite_admits ctx code h hb, s.vaultSubmit_waits (.command (s.vaultCmd ctx code)) h2 h3 nofun]
  rfl

/-- An idle vault without installs takes the oldest request (R302). -/
theorem execVaultCommandStart_of_idle {s : State} {r : VaultReq} {rs : List VaultReq} (hr : s.running = true)
    (hidle : s.get Reg.vltState = 0) (hfree : s.vaultRunning = none) (hinstalls : s.installs = [])
    (hwaiting : s.vaultWaiting = r :: rs) :
    execVaultCommandStart s =
      .next ((({ s with vaultWaiting := rs } : State).set Reg.vltInstallsInRow 0).vaultTake r) := by
  rw [execVaultCommandStart, if_pos ⟨hr, hidle, hfree⟩, State.vaultNext, hinstalls, hwaiting]

/-- The running command ends with its outcome (R303). -/
theorem execVaultCommandDone_of_command {s t : State} {c : VaultCmd} {o : Nat} (hc : s.vaultRunning = some (.command c))
    (hrun : s.vaultRun c = (o, t)) : execVaultCommandDone s = .next ((t.vaultFinish (.command c) o).vaultIdle) := by
  simp only [execVaultCommandDone, hc, hrun]

/-- A fault of the vault's lockstep takes it out of service, and all that runs or waits ends with FAULTED (R23, R304). -/
theorem execLockstepFault_of_vault {s : State} (hr : s.running = true) (h2 : s.get Reg.vltState ≠ 2) :
    execLockstepFault 2 s = .next (s.vaultFails.reportObj 2 3 0x2901 0x05) := by
  rw [execLockstepFault, if_neg (not_not_intro hr), if_neg (by decide), if_pos rfl, if_neg h2]

/-! ## Random numbers -/

/-- The vault is powered in Glow, Flame and Trim (R304). -/
theorem State.vaultUp_iff (s : State) : s.vaultUp = true ↔ s.mode = .glow ∨ s.mode = .flame ∨ s.mode = .trim := by
  simp [State.vaultUp, or_assoc]

/-- After the sixteenth window in a row the stopped DRBG is reseeded and serves again (R308). -/
theorem execEntropyRecover_of_last {s : State} (hup : s.vaultUp = true) (hstopped : s.get Reg.drbgStopped = 1)
    (hn : s.get Reg.drbgWindows = 15) :
    execEntropyRecover s = .next ((s.sets [(Reg.drbgStopped, 0), (Reg.drbgWindows, 0)]).reseed) := by
  rw [execEntropyRecover, if_pos ⟨hup, hstopped⟩]
  simp [hn]

/-! ## Life cycle -/

/-- A transition that starts: its intent is recorded and the keys that its target destroys are gone (R314). -/
def State.transitionStarts (s : State) (target : Nat) : State :=
  ((s.sets [(Reg.vltState, 3), (Reg.vltTransitionOutcome, outBusy), (Reg.vltConfirm, 0),
    (Reg.journalIntent, target + 1)]).writeJournal 1 (s.get Reg.vltLifeCycle) target).destroyFor target

/-- In Trim an allowed and confirmed transition starts; here nothing waits for the vault (R313, R314). -/
theorem execLifeCycleTransition_of_confirmed {ctx : Ctx} {value : Nat} {s : State}
    (h : s.admits ctx 0x2901 3 false = true) (hv : value ≤ 4) (htrim : s.mode = .trim) (h3 : s.get Reg.vltState ≠ 3)
    (h2 : s.get Reg.vltState ≠ 2) (hallowed : transitionAllowed (s.get Reg.vltLifeCycle) value = true)
    (hconfirm : s.get Reg.vltConfirm = s.fuses.serial % 2 ^ 32) (hwaiting : s.vaultWaiting = [])
    (hinstalls : s.installs = []) :
    execLifeCycleTransition ctx value s = .next ((s.transitionStarts value).done ctx) := by
  have hmode : ¬ (s.mode ≠ .trim ∨ s.get Reg.vltState = 3) := not_or.mpr ⟨not_not_intro htrim, h3⟩
  have hempty : ({ s with vaultWaiting := [], installs := [] } : State) = s := by
    rw [← hwaiting, ← hinstalls]
  rw [execLifeCycleTransition, s.cmdWrite_admits ctx 0x2901 3 false _ _ h (firstAbort_need _ (decide_eq_true hv)),
    if_neg hmode, if_neg h2, if_neg (by simp [hallowed, hconfirm])]
  simp only [hwaiting, hinstalls, List.foldl_nil, hempty]
  rfl

/-- Settles O16: no check refuses a command of a vault that serves, and each event finds the vault in the state that it needs. -/
theorem vaultCommandsWaitAndEnd : Obligations.VaultCommandsWaitAndEnd := by
  unfold Obligations.VaultCommandsWaitAndEnd
  refine ⟨?generate, ?importClear, ?importWrapped, ?exportWrapped, ?narrowPolicy, ?destroy, ?sign, ?verify, ?ecdh, ?hkdf,
    ?kdfCtr, ?random, ?attest, ?start, ?done, ?entropyFailure, ?entropyRecover, ?transition, ?transitionDone, ?lockstep⟩
  case generate => exact fun _ _ => next_vaultWrite 1
  case importClear => exact fun _ _ => next_vaultWrite 2
  case importWrapped => exact fun _ _ => next_vaultWrite 3
  case exportWrapped => exact fun _ _ => next_vaultWrite 4
  case narrowPolicy => exact fun _ _ => next_vaultWrite 5
  case destroy => exact fun _ _ => next_vaultWrite 6
  case sign => exact fun _ _ => next_vaultWrite 7
  case verify => exact fun _ _ => next_vaultWrite 8
  case ecdh => exact fun _ _ => next_vaultWrite 9
  case hkdf => exact fun _ _ => next_vaultWrite 10
  case kdfCtr => exact fun _ _ => next_vaultWrite 11
  case random => exact fun _ _ => next_vaultWrite 12
  case attest => exact fun _ _ => next_vaultWrite 13
  case start => exact fun _ _ _ => execVaultCommandStart_of_idle
  case done => exact fun _ _ _ _ => execVaultCommandDone_of_command
  case entropyFailure => exact fun s hup => if_pos (s.vaultUp_iff.mpr hup)
  case entropyRecover => exact fun _ => execEntropyRecover_of_last
  case transition =>
    exact fun _ _ s h hv htrim h3 h2 hallowed hconfirm hwaiting hinstalls =>
      ⟨s.transitionStarts _, execLifeCycleTransition_of_confirmed h hv htrim h3 h2 hallowed hconfirm hwaiting hinstalls, rfl⟩
  case transitionDone => exact fun _ hstate hintent hfree => if_pos ⟨hstate, hintent, hfree⟩
  case lockstep => exact fun _ => execLockstepFault_of_vault

end Sys2Proof.Machine
end

section
/-! The Cresset engines and the DMA channels: contexts, queues and jobs; starts, resumes, stops and descriptors of a channel. -/
namespace Sys2Proof.Machine

/-! ## Contexts of Cresset -/

/-- A command of a context whose outcome is not BUSY is not refused (R322). -/
theorem State.crIdle_of_not_busy {s : State} {ctx : Ctx} (hb : s.get (Reg.crOutcome.of ctx) ≠ outBusy) :
    firstAbort [s.crIdle ctx] = none :=
  firstAbort_need _ (decide_eq_true hb)

/-- A load whose context's outcome is not BUSY waits for a vault in service (R302, R322, R323). -/
theorem execCrLoad_of_admits {ctx : Ctx} {s : State} (h : s.admits ctx 0x2A01 7 false = true)
    (hb : s.get (Reg.crOutcome.of ctx) ≠ outBusy) (h2 : s.get Reg.vltState ≠ 2) (h3 : s.get Reg.vltState ≠ 3) :
    execCrLoad ctx s =
      .next (({ s.set (Reg.crOutcome.of ctx) outBusy with
        vaultWaiting := s.vaultWaiting ++ [.crLoad ctx (s.get (Reg.crContext.of ctx)) (s.get (Reg.crKeySlot.of ctx))
          (s.get (Reg.crMode.of ctx)) (s.get (Reg.crField.of ctx)) (s.get (Reg.crCounterStart.of ctx))
          (s.get (Reg.crCounterEnd.of ctx))] } : State).done ctx) := by
  rw [execCrLoad, s.cmdWrite_admits ctx 0x2A01 7 false _ _ h (State.crIdle_of_not_busy hb),
    s.vaultSubmit_waits (.crLoad ctx _ _ _ _ _ _) h2 h3 nofun]
  rfl

/-- An unload removes its context and ends with DONE; here no job runs that it would end (R324). -/
theorem execCrUnload_of_loaded {ctx : Ctx} {s : State} (h : s.admits ctx 0x2A01 7 false = true)
    (hb : s.get (Reg.crOutcome.of ctx) ≠ outBusy) (hloaded : (s.crContext? (s.get (Reg.crContext.of ctx))).isSome = true)
    (hjobs : s.crJobs = []) :
    execCrUnload ctx s =
      .next ((({ s with crContexts := s.crContexts.filter (fun k => k.idx ≠ s.get (Reg.crContext.of ctx)) } : State).set
        (Reg.crOutcome.of ctx) outDone).done ctx) := by
  have hnot : ¬ (s.crContext? (s.get (Reg.crContext.of ctx))).isNone = true := by
    rw [Option.isNone_eq_false_iff.mpr hloaded]
    exact Bool.false_ne_true
  rw [execCrUnload, s.cmdWrite_admits ctx 0x2A01 7 false _ _ h (State.crIdle_of_not_busy hb), if_neg hnot, hjobs,
    List.map_nil, ← hjobs]

/-! ## Queues of Cresset -/

/-- A produce offset of whole descriptors inside the ring is stored (R326). -/
theorem execCrqProduce_of_admits {ctx : Ctx} {q value : Nat} {s : State} (h : s.admits ctx (0x2A20 + q) 4 false = true)
    (hq : q < 8) (hwhole : value % 64 = 0) (hring : value < s.crqSize q) (hfits : value < 2 ^ 32) :
    execCrqProduce ctx q value s = .next (((s.set (Reg.crqProduce q) value).changed).done ctx) := by
  have hwidth : fits 4 value = none := need_of _ _ (decide_eq_true hfits)
  rw [execCrqProduce, decide_eq_true hq, s.rwWrite_admits ctx _ 4 false _ _ h (by simp [hwidth, need, hwhole, hring])]

/-- Whether a head job waits for its start pulse does not depend on the pulses under way. -/
theorem State.crWaiting_pulses (s : State) (q : Nat) (l : List Pulse) :
    ({ s with pulses := l } : State).crWaiting q = s.crWaiting q := rfl

/-- A start pulse that no head job waits for is kept (R328). -/
theorem execCressetStartPulse_of_kept {q : Nat} {s : State} {rest : List Pulse}
    (hpulse : takeFirst (fun p => p == Pulse.cressetStart q) s.pulses = some (Pulse.cressetStart q, rest))
    (hwait : s.crWaiting q = false) (hroom : s.get (Reg.crqPendingStarts q) < 255) :
    execCressetStartPulse q s =
      .next (({ s with pulses := rest } : State).set (Reg.crqPendingStarts q) (s.get (Reg.crqPendingStarts q) + 1)) := by
  simp only [execCressetStartPulse, hpulse, s.crWaiting_pulses, hwait, Bool.false_eq_true, if_false]
  exact if_pos hroom

/-- A start pulse releases the head job that waits for it (R328). -/
theorem execCressetStartPulse_of_waiting {q : Nat} {s : State} {rest : List Pulse}
    (hpulse : takeFirst (fun p => p == Pulse.cressetStart q) s.pulses = some (Pulse.cressetStart q, rest))
    (hwait : s.crWaiting q = true) :
    execCressetStartPulse q s = .next (({ s with pulses := rest } : State).set (Reg.crqReleased q) 1) := by
  simp only [execCressetStartPulse, hpulse, s.crWaiting_pulses, hwait, if_true]

/-! ## Jobs of Cresset -/

/-- The scheduler has taken the head job of a queue, and turns to the next queue (R327). -/
def State.crTaken (s : State) (q : Nat) : State :=
  s.sets [(Reg.crRobin, (q + 1) % 8), (Reg.crqTaken q, (s.get (Reg.crqTaken q) + 64) % s.crqSize q)]

/-- A head job that passes its checks starts on one free core; here it needs neither a start pulse nor a second core (R320,
R321, R327, R335). -/
theorem execCressetJobStart_of_sound {s : State} {q a : Nat} {b : List Byte} (hrun : s.running = true)
    (hready : ((List.range 8).map (fun k => (s.get Reg.crRobin + k) % 8)).find? s.crReady = some q)
    (hhead : s.crHead q = some a) (hread : s.memRead 3 a 64 = (some b, s)) (hwait : (crFields (wordsOf b)).wait = false)
    (hsound : (s.crTaken q).crCheck (wordsOf b) = 0) (hdual : (s.crTaken q).crDual (crFields (wordsOf b)) = false)
    (hcores : (s.crTaken q).crShort false = false) :
    execCressetJobStart s =
      .next ((s.crTaken q).crStart q (s.get (Reg.crqTaken q)) (wordsOf b) (maskOf ((s.crTaken q).crFree.take 1))) := by
  unfold State.crTaken at hsound hdual hcores ⊢
  have hunspent : ¬ (0 : Nat) = 0x41 := by decide
  rw [execCressetJobStart, if_neg (not_not_intro hrun), hready]
  simp only [hhead, hread, hwait, Bool.false_eq_true, if_false, hsound, if_neg hunspent, ne_eq, not_true_eq_false, hdual, hcores]

/-- A block that its first check passes is written (R321). -/
theorem execCressetBlockDone_of_checked {k : Nat} (ok2 : Bool) {s : State} {j : CrJob} (hjob : s.crJobs[k]? = some j)
    (hrun : s.running = true) (hdone : j.done = false) (hleft : j.written < j.output.length) :
    execCressetBlockDone k true ok2 s = .next (s.crWrite k j) := by
  have hopen : ¬ (¬ s.running = true ∨ j.done = true) := not_or.mpr ⟨not_not_intro hrun, Bool.eq_false_iff.mp hdone⟩
  simp only [execCressetBlockDone, hjob, if_neg hopen, if_true, State.crRelease, if_neg (Nat.not_le.mpr hleft)]

/-- The oldest job of a queue ends with DONE: its tag and its result are written, it leaves the queue and is counted; here it
checks no tag and asks for no pulse (R330, R333). -/
theorem execCressetJobDone_of_written {q : Nat} {s t u : State} {j : CrJob}
    (hjob : s.crJobs.find? (fun j => j.queue = q) = some j) (hrun : s.running = true) (hwritten : j.output.length ≤ j.written)
    (hgood : j.outcome = 0) (hverify : crVerifies (crFields j.words).op = false) (hwords : j.words ≠ [])
    (hquiet : (crFields j.words).notify = false) (htag : s.memWrite 3 (crFields j.words).tagAddr j.tag = (true, t))
    (hresult : t.memWrite 3 (crFields j.words).result (crResult t j outDone) = (true, u)) :
    execCressetJobDone q s =
      .next ((({ u with crJobs := u.crJobs.eraseP (fun i => i.queue = q) } : State).set (Reg.crqConsume q)
        ((j.offset + 64) % u.crqSize q)).count Reg.crJobsDone) := by
  have hends : ¬ (¬ s.running = true ∨ ¬ (j.done = true ∨ j.output.length ≤ j.written)) :=
    not_or.mpr ⟨not_not_intro hrun, not_not_intro (.inr hwritten)⟩
  simp only [execCressetJobDone, hjob, if_neg hends, if_neg (not_not_intro hgood), hverify, htag, if_neg hwords, hquiet,
    Bool.false_eq_true, if_false, if_true, ne_eq, not_true_eq_false, false_and, hresult]
  rfl

/-- Settles O17: no check refuses the writes, and each pulse and event finds the job that it is for. -/
theorem cressetJobsComplete : Obligations.CressetJobsComplete := by
  unfold Obligations.CressetJobsComplete
  refine ⟨?load, ?unload, ?produce, ?pulseKept, ?pulseReleases, ?jobStart, ?blockDone, ?jobDone⟩
  case load => exact fun _ _ => execCrLoad_of_admits
  case unload => exact fun _ _ => execCrUnload_of_loaded
  case produce => exact fun _ _ _ _ => execCrqProduce_of_admits
  case pulseKept => exact fun _ _ _ => execCressetStartPulse_of_kept
  case pulseReleases => exact fun _ _ _ => execCressetStartPulse_of_waiting
  case jobStart =>
    intro s q a b t hrun hready hhead hread ht
    subst ht
    exact execCressetJobStart_of_sound hrun hready hhead hread
  case blockDone => exact fun _ ok2 _ _ => execCressetBlockDone_of_checked ok2
  case jobDone => exact fun _ _ _ _ _ hjob hrun _ => execCressetJobDone_of_written hjob hrun

/-! ## DMA channels -/

/-- An admitted write of `Dma.Run` whose checks pass is carried out (R343). -/
theorem State.cmdWrite_dma {s : State} {ctx : Ctx} {c : Nat} {checks : List (Option Nat)} (act : State → State)
    (h : s.admits ctx (0x2B10 + c) 3 false = true) (hc : c < 32) (hpass : firstAbort checks = none) :
    s.cmdWrite ctx (0x2B10 + c) 3 (c < 32) false checks act = (act s).done ctx := by
  rw [decide_eq_true hc]
  exact s.cmdWrite_admits ctx _ 3 false checks act h hpass

/-- An idle or halted channel may start or resume (R346). -/
theorem State.dmaReady_of_halted {s : State} {c : Nat} (h : s.get (Reg.dmaState c) = 0 ∨ s.get (Reg.dmaState c) = 3) :
    firstAbort [s.dmaReady c] = none :=
  firstAbort_need _ (by simpa using h)

/-- A start of an idle or halted channel (R343). -/
theorem execDmaStart_of_halted {ctx : Ctx} {c : Nat} {s : State} (h : s.admits ctx (0x2B10 + c) 3 false = true) (hc : c < 32)
    (hhalted : s.get (Reg.dmaState c) = 0 ∨ s.get (Reg.dmaState c) = 3) :
    execDmaStart ctx c s = .next (((s.dmaStart c).dmaStopPulse c).done ctx) :=
  congrArg Host.Outcome.next (State.cmdWrite_dma _ h hc (State.dmaReady_of_halted hhalted))

/-- A resume of an idle or halted channel fetches the descriptor at its position (R343). -/
theorem execDmaResume_of_halted {ctx : Ctx} {c : Nat} {s : State} (h : s.admits ctx (0x2B10 + c) 3 false = true) (hc : c < 32)
    (hhalted : s.get (Reg.dmaState c) = 0 ∨ s.get (Reg.dmaState c) = 3) :
    execDmaResume ctx c s = .next (((s.dmaFetch c (s.get (Reg.dmaPosition c))).dmaStopPulse c).done ctx) :=
  congrArg Host.Outcome.next (State.cmdWrite_dma _ h hc (State.dmaReady_of_halted hhalted))

/-- A running channel that is stopped runs up to its next boundary (R343). -/
theorem execDmaStop_of_running {ctx : Ctx} {c : Nat} {s : State} (h : s.admits ctx (0x2B10 + c) 3 false = true) (hc : c < 32)
    (hrunning : s.get (Reg.dmaState c) = 1) :
    execDmaStop ctx c s = .next ((s.set (Reg.dmaState c) 2).done ctx) := by
  rw [execDmaStop, State.cmdWrite_dma _ h hc rfl, hrunning]
  rfl

/-- A start pulse of an idle channel starts it (R343). -/
theorem execDmaStartPulse_of_idle {c : Nat} {s : State} {rest : List Pulse}
    (hpulse : takeFirst (fun p => p == Pulse.dmaStart c) s.pulses = some (Pulse.dmaStart c, rest)) (hrun : s.running = true)
    (hidle : s.get (Reg.dmaState c) = 0) :
    execDmaStartPulse c s = .next ((({ s with pulses := rest } : State).dmaStart c).dmaStopPulse c) := by
  have hrun' : ({ s with pulses := rest } : State).running = true := hrun
  have hidle' : ({ s with pulses := rest } : State).get (Reg.dmaState c) = 0 := hidle
  simp only [execDmaStartPulse, hpulse, if_neg (not_not_intro hrun'), hidle']

/-- A running or stopping channel whose descriptor does not wait for the Chimney link carries it out and comes to its boundary
(R342, R345). -/
theorem execDmaDescriptorDone_of_running {c : Nat} {s : State} (hrun : s.running = true) (hc : c < 32)
    (hstate : s.get (Reg.dmaState c) = 1 ∨ s.get (Reg.dmaState c) = 2)
    (hfree : s.dmaWaits c (s.get (Reg.dmaWord c 0)) (s.get (Reg.dmaWord c 1)) (s.get (Reg.dmaWord c 2))
      (s.get (Reg.dmaWord c 3)) = false) :
    execDmaDescriptorDone c s =
      .next ((s.dmaDescriptor c (s.get (Reg.dmaWord c 0)) (s.get (Reg.dmaWord c 1)) (s.get (Reg.dmaWord c 2))
        (s.get (Reg.dmaWord c 3))).dmaBoundary c (s.get (Reg.dmaWord c 0)) (s.get (Reg.dmaWord c 3))) :=
  if_pos ⟨hrun, hc, hstate, Bool.eq_false_iff.mp hfree⟩

/-- Settles O18: a halted channel passes the check of a start, and each pulse and descriptor finds its channel in the state that
it needs. -/
theorem dmaChannelsComplete : Obligations.DmaChannelsComplete := by
  unfold Obligations.DmaChannelsComplete
  refine ⟨?start, ?resume, ?stop, ?pulse, ?descriptor⟩
  case start => exact fun _ _ _ => execDmaStart_of_halted
  case resume => exact fun _ _ _ => execDmaResume_of_halted
  case stop => exact fun _ _ _ => execDmaStop_of_running
  case pulse => exact fun _ _ _ => execDmaStartPulse_of_idle
  case descriptor => exact fun _ _ => execDmaDescriptorDone_of_running

end Sys2Proof.Machine
end

section
/-! Snuffed: the modes that a sleep, a wake, a start and a transition lead to, and the two ways into Snuffed (R351, R471, R511,
R516). -/
namespace Sys2Proof.Machine

/-! ## What leaves the mode as it is -/

theorem State.pulse_mode (s : State) (unit inst : Nat) : (s.pulse unit inst).mode = s.mode := (s.pulse_frame unit inst).same .mode rfl
theorem State.report_mode (s : State) (r : Report) : (s.report r).mode = s.mode := (s.report_frame r).same .mode rfl
theorem State.portsSnuff_mode (s : State) : s.portsSnuff.mode = s.mode := s.portsSnuff_frame.same .mode rfl
theorem State.outputsLose_mode (s : State) : s.outputsLose.mode = s.mode := s.outputsLose_frame.same .mode rfl
theorem State.twinChange_mode (old s : State) : (State.twinChange old s).mode = s.mode := (State.twinChange_frame old s).same .mode rfl
theorem State.reportObj_mode (s : State) (cls unit index code inst : Nat) (detail : List Byte) :
    (s.reportObj cls unit index code inst detail).mode = s.mode :=
  (s.reportObj_frame cls unit index code inst detail).same .mode rfl

/-! ## The mode after each change of mode -/

/-- The device is in the mode that it enters (R458). -/
theorem State.enterMode_mode (s : State) (m : Mode) : (s.enterMode m).mode = m := by
  unfold State.enterMode
  split
  case isTrue h => exact h
  case isFalse => exact (State.pulse_mode _ _ _).trans (State.sets_mode _ _)

/-- A halt leaves the device in Snuffed (R511). -/
theorem State.snuff_mode (s : State) (cls unit code address inst : Nat) (detail : List Byte) :
    (s.snuff cls unit code address inst detail).mode = .snuffed := by
  simp only [State.snuff, State.report_mode, State.twinChange_mode, State.outputsLose_mode, State.portsSnuff_mode]
  split <;> simp only [State.set_mode, State.sets_mode, State.enterMode_mode]

/-- A tag failure leaves the device in Snuffed (R351). -/
theorem State.tagFailure_mode (s : State) (line kind k init : Nat) : (s.tagFailure line kind k init).mode = .snuffed :=
  State.snuff_mode _ _ _ _ _ _ _

/-- A sleep leaves the device in its target (R463). -/
theorem State.enterSleep_mode (s : State) (target : Mode) (items recover : Nat) : (s.enterSleep target items recover).mode = target :=
  State.enterMode_mode _ _

/-- A transition leaves the device in its target (R461, R462). -/
theorem State.switchMode_mode (s : State) (target : Mode) : (s.switchMode target).mode = target := State.enterMode_mode _ _

/-- An entry as for a crank is one to Ember (R453, R454, R516). -/
theorem State.crankInto_mode (s : State) (items recover : Nat) : (s.crankInto items recover).mode = .ember := State.enterSleep_mode _ _ _ _

/-- A start leaves the device in its target (R518). -/
theorem State.startRun_mode (s : State) (cause : Nat) (target : Mode) (env : StartEnv) : (s.startRun cause target env).mode = target := by
  unfold State.startRun
  dsimp only
  split
  · rw [State.pulse_mode, State.enterMode_mode]
  · rw [State.enterMode_mode]

/-- No code of a mode is that of Snuffed: a request for one is a request for Flame (R459). -/
theorem Mode.ofCode_ne_snuffed (c : Nat) : Mode.ofCode c ≠ .snuffed := by
  unfold Mode.ofCode
  split <;> decide

/-- Glow and Flame are not Snuffed. -/
theorem glow_or_flame_ne_snuffed (p : Prop) [Decidable p] : (if p then Mode.glow else Mode.flame) ≠ .snuffed := by
  split <;> decide

/-- No source wakes into Snuffed (R471). -/
theorem State.wakeMode_ne_snuffed (s : State) (source : Nat) : s.wakeMode source ≠ .snuffed := by
  unfold State.wakeMode
  split
  · exact Mode.ofCode_ne_snuffed _
  · exact glow_or_flame_ne_snuffed _

/-- No start is into Snuffed (R518). -/
theorem State.startMode_ne_snuffed (s : State) (bad : List Nat) : s.startMode bad ≠ .snuffed := glow_or_flame_ne_snuffed _

/-! ## Commands that do not lead to Snuffed -/

theorem State.wake_ne_snuffed (s : State) (source info : Nat) (env : StartEnv) : (s.wake source info env).mode ≠ .snuffed := by
  rw [State.wake, State.startRun_mode]
  exact s.wakeMode_ne_snuffed source

theorem State.wakeLatchedNow_ne_snuffed {s : State} (env : StartEnv) (h : s.mode ≠ .snuffed) :
    (s.wakeLatchedNow env).mode ≠ .snuffed := by
  unfold State.wakeLatchedNow
  dsimp only
  split
  · exact h
  · exact s.wake_ne_snuffed _ _ _

theorem State.wakeFire_ne_snuffed {s : State} (sources : List WakeSource) (env : StartEnv) (h : s.mode ≠ .snuffed) :
    (s.wakeFire sources env).mode ≠ .snuffed := by
  unfold State.wakeFire
  dsimp only
  split
  · exact h
  · split
    · exact s.wake_ne_snuffed _ _ _
    · split <;> exact h

/-- The outcome is no state in Snuffed. -/
def OffSnuffed (o : Host.Outcome State Fault Refusal) : Prop := ∀ t, o = .next t → t.mode ≠ .snuffed

theorem offSnuffed_next {t : State} (h : t.mode ≠ .snuffed) : OffSnuffed (.next t) := fun u hu => by
  cases hu
  exact h

theorem offSnuffed_ite {p : Prop} [Decidable p] {a b : Host.Outcome State Fault Refusal} (ha : OffSnuffed a) (hb : OffSnuffed b) :
    OffSnuffed (if p then a else b) := by
  split
  · exact ha
  · exact hb

/-- A command that goes to another mode when its condition holds. -/
theorem offSnuffed_of_mode {p : Prop} [Decidable p] {s t : State} {m : Mode} (hs : s.mode ≠ .snuffed) (hm : m ≠ .snuffed)
    (ht : t.mode = m) : OffSnuffed (if p then .next t else .next s) :=
  offSnuffed_ite (offSnuffed_next (mt ht.symm.trans hm)) (offSnuffed_next hs)

/-- A command that wakes the device when its condition holds. -/
theorem offSnuffed_of_wake {p : Prop} [Decidable p] {s : State} (source info : Nat) (env : StartEnv) (hs : s.mode ≠ .snuffed) :
    OffSnuffed (if p then .next (s.wake source info env) else .next s) :=
  offSnuffed_ite (offSnuffed_next (s.wake_ne_snuffed source info env)) (offSnuffed_next hs)

theorem execModeTransitionDone_offSnuffed {s : State} (env : StartEnv) (hs : s.mode ≠ .snuffed) :
    OffSnuffed (execModeTransitionDone env s) := by
  refine offSnuffed_ite (offSnuffed_ite (offSnuffed_next ?latched) (offSnuffed_next hs)) (offSnuffed_ite (offSnuffed_next hs)
    (offSnuffed_ite (offSnuffed_next ?sleep) (offSnuffed_next ?switch)))
  case latched => exact State.wakeLatchedNow_ne_snuffed env hs
  case sleep => exact State.wakeLatchedNow_ne_snuffed env (mt (State.enterSleep_mode _ _ _ _).symm.trans (Mode.ofCode_ne_snuffed _))
  case switch => exact mt (State.switchMode_mode _ _).symm.trans (Mode.ofCode_ne_snuffed _)

theorem execVpreRetry_offSnuffed {s : State} (again : Bool) (env : StartEnv) (hs : s.mode ≠ .snuffed) :
    OffSnuffed (execVpreRetry again env s) := by
  refine offSnuffed_ite (offSnuffed_ite (offSnuffed_next ?fault) (offSnuffed_next ?wake)) (offSnuffed_next hs)
  case fault => exact mt ((State.reportObj_mode _ _ _ _ _ _ _).trans (State.sets_mode _ _)).symm.trans hs
  case wake => exact s.wake_ne_snuffed _ _ _

/-- A fault of VPRE leads to Ember, and one of a rail that is none changes nothing (R510, R516). -/
theorem execSupplyFault_offSnuffed {s : State} {rail : Nat} (hs : s.mode ≠ .snuffed) (hrail : ¬ (1 ≤ rail ∧ rail ≤ 4)) :
    OffSnuffed (execSupplyFault rail s) := by
  unfold execSupplyFault
  split
  case isTrue => exact offSnuffed_next hs
  case isFalse h =>
    have hzero : rail = 0 := by omega
    rw [if_pos hzero]
    exact offSnuffed_next (mt ((State.sets_mode _ _).trans (State.crankInto_mode _ _ _)).symm.trans (by decide))

/-! ## Every command -/

/-- The command wakes, starts or puts to sleep the device, ends a transition of its mode, or reports a supply fault. -/
def Instr.switchesMode : Instr → Bool
  | .proximityPoll .. | .overvoltageEntry | .overvoltageRecovery .. | .crankEntry .. | .crankRecovery .. | .supplyFault .. |
    .vpreRetry .. | .modeTransitionDone .. | .emberLimitExpire | .wakeAlarmExpire .. | .wakeEvent .. | .start .. => true
  | _ => false

/-- A command that may touch the mode reaches memory or switches modes. -/
theorem mode_mem_parts {c : Instr} (h : Part.mode ∈ c.parts) : c.reachesMemory = true ∨ Instr.switchesMode c = true := by
  have hall : (!c.parts.contains .mode || (c.reachesMemory || Instr.switchesMode c)) = true := by cases c <;> rfl
  rw [List.contains_iff_mem.mpr h] at hall
  exact (Bool.or_eq_true _ _).mp hall

/-- A command that switches modes leads to Snuffed only from there, but for a fault of a Lantern rail. -/
theorem exec_offSnuffed {c : Instr} {s : State} (hc : Instr.switchesMode c = true) (hs : s.mode ≠ .snuffed)
    (hrail : ∀ rail, c = .supplyFault rail → ¬ (1 ≤ rail ∧ rail ≤ 4)) : OffSnuffed (exec c s) := by
  have hember : Mode.ember ≠ .snuffed := by decide
  cases c
  case proximityPoll ohms env => exact offSnuffed_next (State.wakeFire_ne_snuffed _ env hs)
  case wakeEvent sources env => exact offSnuffed_next (State.wakeFire_ne_snuffed sources env hs)
  case overvoltageEntry => exact offSnuffed_of_mode hs hember (State.crankInto_mode _ _ _)
  case crankEntry items => exact offSnuffed_of_mode hs hember (State.crankInto_mode _ _ _)
  case overvoltageRecovery env => exact offSnuffed_of_wake 8 0 env hs
  case crankRecovery env => exact offSnuffed_of_wake 7 0 env hs
  case wakeAlarmExpire env => exact offSnuffed_of_wake 6 0 env hs
  case emberLimitExpire => exact offSnuffed_of_mode hs (by decide) (State.enterMode_mode _ _)
  case start env => exact offSnuffed_of_mode hs (s.startMode_ne_snuffed env.badImages) (State.startRun_mode _ _ _ _)
  case vpreRetry again env => exact execVpreRetry_offSnuffed again env hs
  case modeTransitionDone env => exact execModeTransitionDone_offSnuffed env hs
  case supplyFault rail => exact execSupplyFault_offSnuffed hs (hrail rail rfl)
  all_goals exact absurd hc Bool.false_ne_true

/-! ## The two ways into Snuffed -/

/-- A fault of a Lantern rail at a sufficient VBAT halts a running device (R510, R516). -/
theorem execSupplyFault_snuffs {s : State} {rail : Nat} (hrun : s.running = true) (hvbat : 4500 ≤ s.get Reg.supVbat) (hlow : 1 ≤ rail)
    (hhigh : rail ≤ 4) : ∃ t, execSupplyFault rail s = .next t ∧ t.mode = .snuffed := by
  have hheard : ¬ (¬ s.running = true ∨ s.get Reg.supVbat < 4500 ∨ 4 < rail) := by simp only [hrun, not_true_eq_false, false_or]; omega
  have hlantern : ¬ rail = 0 := by omega
  rw [execSupplyFault, if_neg hheard, if_neg hlantern]
  exact ⟨_, rfl, (State.set_mode _ _ _).trans (State.snuff_mode _ _ _ _ _ _ _)⟩

theorem State.busError_mode (s : State) (a cause : Nat) : (s.busError a cause).mode = s.mode := rfl

/-- An admitted read that meets a line whose tag fails is a tag failure (R351). -/
theorem State.memRead_of_failing {s : State} {init a n line : Nat} {tamper : Bool} (hcheck : s.memCheck init a n false false = none)
    (hfail : s.failingLine (linesOf a n) tamper = some line) :
    s.memRead init a n tamper = (none, s.tagFailure line 1 (s.lineKid line) init) := by
  simp only [State.memRead, hcheck, hfail]

/-- An uncached read that no bus error ends answers its bytes (R351). -/
theorem execMemoryRead_of_bytes {init addr len : Nat} {tamper : Bool} {s t : State} {b : List Byte} (hrun : s.running = true)
    (hplic : ¬ (init < 2 ∧ inPlic addr = true)) (hread : s.memRead init addr len tamper = (some b, t)) :
    execMemoryRead init addr len false tamper s = .next (t.busOk b) := by
  rw [execMemoryRead, if_neg (not_not_intro hrun), if_neg hplic]
  simp only [Bool.false_and, Bool.false_eq_true, if_false, hread]

/-- An uncached read that is refused or fails a check ends with a bus error (R351, R359). -/
theorem execMemoryRead_of_error {init addr len : Nat} {tamper : Bool} {s t : State} (hrun : s.running = true)
    (hplic : ¬ (init < 2 ∧ inPlic addr = true)) (hread : s.memRead init addr len tamper = (none, t)) :
    execMemoryRead init addr len false tamper s = .next (t.busError addr (accessCause init false)) := by
  rw [execMemoryRead, if_neg (not_not_intro hrun), if_neg hplic]
  simp only [Bool.false_and, Bool.false_eq_true, if_false, hread]

/-- Settles O57: a failing tag and a Lantern rail halt the device, and every other command that changes the mode goes to a mode
of its own, none of which is Snuffed. -/
theorem snuffedIsEnteredOnFailuresAlone : Obligations.SnuffedIsEnteredOnFailuresAlone := by
  unfold Obligations.SnuffedIsEnteredOnFailuresAlone
  refine ⟨?rail, ?tag, ?others⟩
  case rail => exact fun _ _ => execSupplyFault_snuffs
  case tag =>
    intro init addr len line tamper s hrun hplic hcheck hfail
    refine ⟨_, execMemoryRead_of_error hrun hplic (State.memRead_of_failing hcheck hfail), ?_⟩
    rw [State.busError_mode, State.tagFailure_mode]
  case others =>
    intro c s t h hs ht
    by_cases hrail : ∃ rail, c = .supplyFault rail ∧ 1 ≤ rail ∧ rail ≤ 4
    · exact .inr hrail
    · have hmode : Part.mode ∈ c.parts := Decidable.byContradiction fun hnot =>
        hs ((((exec_within c s).within t h).same_of_not_mem hnot).symm.trans ht)
      refine (mode_mem_parts hmode).imp_right fun hswitch => absurd ht (exec_offSnuffed hswitch hs ?_ t h)
      exact fun rail hc hr => hrail ⟨rail, hc, hr⟩

end Sys2Proof.Machine
end

section
/-! The bytes that a memory write leaves: what an initiator reads at an address, and what an initialised granule, a tag, a stored run
of bytes and a failure change of it (R350 to R354). -/
namespace Sys2Proof.Machine

/-! ## One byte as an initiator reads it -/

/-- The byte that an initiator reads at an address: an uninitialised granule reads as zeros (R354). -/
def State.readByte (s : State) (a : Nat) : Byte :=
  if dramBase ≤ a ∧ (s.granule? (granuleOf a)).isNone then 0 else Mem.get s.mem a

theorem State.rangeBytes_eq_map (s : State) (a n : Nat) : s.rangeBytes a n = (List.range n).map (fun i => s.readByte (a + i)) := rfl

theorem State.rangeBytes_one (s : State) (a : Nat) : s.rangeBytes a 1 = [s.readByte a] := rfl

/-- The same granules are initialised, and an address of none of them keeps its byte. -/
theorem State.readByte_of_ready {s t : State} {a : Nat} (hm : Mem.get t.mem a = Mem.get s.mem a)
    (hg : (t.granule? (granuleOf a)).isSome = (s.granule? (granuleOf a)).isSome) : t.readByte a = s.readByte a := by
  simp only [State.readByte, hm, ← Option.not_isSome, hg]

/-- What is read rests on the bytes and on the granules. -/
theorem State.readByte_congr {s t : State} (hm : t.mem = s.mem) (hg : t.granules = s.granules) (a : Nat) :
    t.readByte a = s.readByte a :=
  State.readByte_of_ready (by rw [hm]) (by rw [State.granule?, State.granule?, hg])

/-! ## Granules -/

/-- The addresses of a granule of the DRAM (R354). -/
theorem granuleOf_eq_iff {a g : Nat} (h : dramBase ≤ a) :
    granuleOf a = g ↔ dramBase + g * 65536 ≤ a ∧ a < dramBase + g * 65536 + 65536 := by
  unfold granuleOf
  omega

/-- A DRAM line lies in the granule of each of its bytes. -/
theorem granuleOf_line {q : Nat} (h : dramBase ≤ q) : granuleOf (q / 64 * 64) = granuleOf q := by
  unfold granuleOf dramBase at *
  omega

theorem mem_insertGranule {n e : Granule} {l : List Granule} : e ∈ insertGranule n l ↔ e = n ∨ e ∈ l := by
  induction l with
  | nil => simp [insertGranule]
  | cons a t ih =>
    unfold insertGranule
    split
    · simp
    · simp [ih, or_left_comm]

theorem State.granule?_isSome_iff {s : State} {g : Nat} : (s.granule? g).isSome = true ↔ ∃ e ∈ s.granules, e.idx = g := by
  simp [State.granule?, List.find?_isSome]

/-- After a granule is initialised, it and every granule that was initialised before are. -/
theorem State.initGranule_ready {s : State} {g h : Nat} :
    ((s.initGranule g).granule? h).isSome = true ↔ h = g ∨ (s.granule? h).isSome = true := by
  unfold State.initGranule
  split
  case isTrue hg => exact ⟨.inr, fun k => k.elim (fun e => e ▸ hg) id⟩
  case isFalse =>
    simp only [State.granule?_isSome_iff, mem_insertGranule, or_and_right, exists_or, exists_eq_left]
    exact or_congr_left eq_comm

/-- A tag changes no granule's bit. -/
theorem State.tagLine_ready {s : State} {l h : Nat} : ((s.tagLine l).granule? h).isSome = true ↔ (s.granule? h).isSome = true := by
  rw [State.granule?, State.tagLine, List.find?_map, Option.isSome_map, State.granule?]
  refine iff_of_eq (congrArg (fun p => (s.granules.find? p).isSome = true) (funext fun g => ?_))
  rw [Function.comp_apply]
  split <;> rfl

/-! ## Bytes of memory -/

/-- A byte after entries are taken away by their addresses. -/
theorem Mem.get_filter (l : List Host.Cell) (p : Nat → Bool) (a : Nat) :
    Mem.get (l.filter (fun c => p c.1)) a = if p a then Mem.get l a else memDflt a := by
  induction l with
  | nil => simp [Mem.get]
  | cons c t ih =>
    obtain ⟨k, b⟩ := c
    by_cases hk : k = a
    · subst hk
      by_cases hp : p k = true <;> simp [hp, Mem.get, ih]
    · by_cases hp : p k = true <;> simp [hp, hk, Mem.get, ih]

/-- A byte after a range is erased. -/
theorem State.get_eraseBytes (s : State) (b n a : Nat) :
    Mem.get (s.eraseBytes b n).mem a = if b ≤ a ∧ a < b + n then memDflt a else Mem.get s.mem a := by
  refine (Mem.get_filter s.mem (fun k => !(b ≤ k && k < b + n)) a).trans ?_
  by_cases hin : b ≤ a ∧ a < b + n
  · simp [hin]
  · rw [if_neg hin, if_pos (by simpa [Decidable.imp_iff_not_or] using hin)]

/-- An erased DRAM byte is 0. -/
theorem memDflt_of_dram {a : Nat} (h : dramBase ≤ a) : memDflt a = 0 :=
  if_neg (fun k => by simp only [dramBase] at h; omega)

/-! ## What leaves every byte as it reads -/

/-- A granule is initialised with the zeros that it read as before (R354). -/
theorem State.readByte_initGranule (s : State) (g a : Nat) : (s.initGranule g).readByte a = s.readByte a := by
  by_cases hg : (s.granule? g).isSome = true
  · rw [State.initGranule, if_pos hg]
  have hmem : (s.initGranule g).mem = (s.eraseBytes (dramBase + g * 65536) 65536).mem := by rw [State.initGranule, if_neg hg]
  have hget := s.get_eraseBytes (dramBase + g * 65536) 65536 a
  rw [← hmem] at hget
  by_cases hin : dramBase ≤ a ∧ granuleOf a = g
  · obtain ⟨hdram, rfl⟩ := hin
    have hready : ((s.initGranule (granuleOf a)).granule? (granuleOf a)).isSome = true := State.initGranule_ready.mpr (.inl rfl)
    rw [if_pos ((granuleOf_eq_iff hdram).mp rfl), memDflt_of_dram hdram] at hget
    simp [State.readByte, hdram, ← Option.not_isSome, hready, hg, hget]
  · by_cases hdram : dramBase ≤ a
    · have hne : granuleOf a ≠ g := fun k => hin ⟨hdram, k⟩
      rw [if_neg (fun k => hne ((granuleOf_eq_iff hdram).mpr k))] at hget
      exact State.readByte_of_ready hget (Bool.eq_iff_iff.mpr (State.initGranule_ready.trans (or_iff_right hne)))
    · rw [if_neg (fun k => hdram (Nat.le_trans (Nat.le_add_right _ _) k.1))] at hget
      simp [State.readByte, hdram, hget]

theorem State.readByte_tagLine (s : State) (l a : Nat) : (s.tagLine l).readByte a = s.readByte a :=
  State.readByte_of_ready rfl (Bool.eq_iff_iff.mpr State.tagLine_ready)

/-- A refused access changes no byte (R359). -/
theorem State.readByte_refuseAccess (s : State) (r : Refused) (a : Nat) : (s.refuseAccess r).readByte a = s.readByte a :=
  State.readByte_congr ((s.refuseAccess_frame r).same .mem rfl) ((s.refuseAccess_frame r).same .granules rfl) a

/-- A tag failure changes no byte (R351). -/
theorem State.readByte_tagFailure (s : State) (line kind k init a : Nat) : (s.tagFailure line kind k init).readByte a = s.readByte a :=
  State.readByte_congr ((s.tagFailure_frame line kind k init).same .mem rfl) ((s.tagFailure_frame line kind k init).same .granules rfl) a

/-! ## The lines of a write -/

/-- A DRAM line that a write touches gets its granule and its tag (R352, R354). -/
def State.readyLine (s : State) (l : Nat) : State := (s.initGranule (granuleOf l)).tagLine l

theorem State.readByte_foldl_readyLine (ls : List Nat) (s : State) (a : Nat) : (ls.foldl State.readyLine s).readByte a = s.readByte a := by
  induction ls generalizing s with
  | nil => rfl
  | cons l ls ih => exact (ih _).trans ((State.readByte_tagLine _ l a).trans (s.readByte_initGranule _ a))

/-- A granule that is initialised stays so, and that of each line is. -/
theorem State.foldl_readyLine_ready {ls : List Nat} {s : State} {g : Nat} :
    ((ls.foldl State.readyLine s).granule? g).isSome = true ↔ (∃ l ∈ ls, granuleOf l = g) ∨ (s.granule? g).isSome = true := by
  induction ls generalizing s with
  | nil => simp
  | cons l ls ih =>
    have hline : ((s.readyLine l).granule? g).isSome = true ↔ g = granuleOf l ∨ (s.granule? g).isSome = true :=
      State.tagLine_ready.trans State.initGranule_ready
    rw [List.foldl_cons, ih, hline]
    simp only [List.mem_cons, or_and_right, exists_or, exists_eq_left, eq_comm (a := g)]
    exact or_left_comm.trans or_assoc.symm

/-- The line of each byte of a range is one of its lines. -/
theorem line_mem_linesOf {a n q : Nat} (hlo : a ≤ q) (hhi : q < a + n) : q / 64 * 64 ∈ linesOf a n := by
  refine List.mem_map.mpr ⟨q / 64 - a / 64, List.mem_range.mpr ?_, ?_⟩ <;> omega

/-! ## Bytes stored -/

/-- A byte outside the stored run reads as before. -/
theorem State.readByte_setBytes_outside (s : State) {a q : Nat} {b : List Byte} (h : q < a ∨ a + b.length ≤ q) :
    (s.setBytes a b).readByte q = s.readByte q :=
  State.readByte_of_ready (Mem.get_putAll_outside s.mem a q b h) rfl

/-- A run of bytes stored where every DRAM granule is initialised reads as stored. -/
theorem State.rangeBytes_setBytes {s : State} {a : Nat} {b : List Byte}
    (h : ∀ q, a ≤ q → q < a + b.length → dramBase ≤ q → (s.granule? (granuleOf q)).isSome = true) :
    (s.setBytes a b).rangeBytes a b.length = b := by
  refine (List.map_congr_left fun k hk => if_neg fun hzero => ?_).trans (s.bytesAt_setBytes a b)
  have hready := h (a + k) (Nat.le_add_right _ _) (Nat.add_lt_add_left (List.mem_range.mp hk) a) hzero.1
  exact Option.not_isSome_iff_eq_none.mpr (Option.isNone_iff_eq_none.mp hzero.2) hready

/-! ## Writes -/

/-- A partial write is counted (R352). -/
def State.countPart (s : State) (a n : Nat) : State := if (partLines a n).isEmpty then s else s.count Reg.xmPartialWrites

theorem State.readByte_countPart (s : State) (a n q : Nat) : (s.countPart a n).readByte q = s.readByte q := by
  unfold State.countPart
  split <;> rfl

theorem State.countPart_inDram (s : State) (a n b m : Nat) : (s.countPart a n).inDram b m = s.inDram b m := by
  have hsize : (s.countPart a n).dramSize = s.dramSize := by
    unfold State.countPart State.dramSize
    split
    · rfl
    · rw [s.get_count_of_ne Reg.xmPartialWrites Reg.xmDramSize.latched 64 1 (by decide)]
  rw [State.inDram, State.inDram, hsize]

/-- What a write of an initiator can do: a bus error after which every byte reads as before, or its bytes stored in the DRAM
or in the flash (R352 to R354, R359). -/
theorem State.memWrite_cases (s : State) (init a : Nat) (b : List Byte) (tamper closing : Bool) :
    (∃ t, s.memWrite init a b tamper closing = (false, t) ∧ ∀ q, t.readByte q = s.readByte q) ∨
    (s.inDram a b.length = true ∧ s.memWrite init a b tamper closing =
      (true, ((linesOf a b.length).foldl State.readyLine (s.countPart a b.length)).setBytes a b)) ∨
    (s.inDram a b.length = false ∧ ∃ l, s.memWrite init a b tamper closing =
      (true, { (s.countPart a b.length).setBytes a b with flashLines := l })) := by
  unfold State.memWrite
  dsimp only
  split
  next r _ => exact .inl ⟨_, rfl, s.readByte_refuseAccess r⟩
  next =>
    split
    next l _ => exact .inl ⟨_, rfl, s.readByte_tagFailure l 2 (s.lineKid l) init⟩
    next =>
      have hdram := s.countPart_inDram a b.length a b.length
      unfold State.countPart at hdram
      rw [hdram]
      split
      next h => exact .inr (.inl ⟨h, rfl⟩)
      next h => exact .inr (.inr ⟨Bool.eq_false_iff.mpr h, _, rfl⟩)

/-- A write that is done to the DRAM, or below it, stores its bytes and no other. -/
theorem State.memWrite_stores {s t : State} {init a : Nat} {b : List Byte} {tamper closing : Bool}
    (hplace : s.inDram a b.length = true ∨ a + b.length ≤ dramBase) (h : s.memWrite init a b tamper closing = (true, t)) :
    t.rangeBytes a b.length = b ∧ ∀ q, q < a ∨ a + b.length ≤ q → t.readByte q = s.readByte q := by
  rcases s.memWrite_cases init a b tamper closing with ⟨u, hu, _⟩ | ⟨_, hu⟩ | ⟨hout, l, hu⟩
  · rw [hu] at h
    cases h
  · rw [hu] at h
    cases h
    refine ⟨State.rangeBytes_setBytes fun q hlo hhi hdram => ?_, fun q hq => ?_⟩
    · exact State.foldl_readyLine_ready.mpr (.inl ⟨_, line_mem_linesOf hlo hhi, granuleOf_line hdram⟩)
    · exact ((State.readByte_setBytes_outside _ hq).trans (State.readByte_foldl_readyLine _ _ q)).trans (s.readByte_countPart _ _ q)
  · rw [hu] at h
    cases h
    have hbelow : a + b.length ≤ dramBase := hplace.resolve_left (Bool.eq_false_iff.mp hout)
    have hstored : ((s.countPart a b.length).setBytes a b).rangeBytes a b.length = b :=
      State.rangeBytes_setBytes fun q _ hhi hdram => by omega
    exact ⟨hstored, fun q hq => (State.readByte_setBytes_outside (s.countPart a b.length) hq).trans (s.readByte_countPart _ _ q)⟩

/-- A write that a bus error ends leaves every byte as it was. -/
theorem State.memWrite_refused {s t : State} {init a : Nat} {b : List Byte} {tamper closing : Bool}
    (h : s.memWrite init a b tamper closing = (false, t)) (q : Nat) : t.readByte q = s.readByte q := by
  rcases s.memWrite_cases init a b tamper closing with ⟨u, hu, hsame⟩ | ⟨_, hu⟩ | ⟨_, l, hu⟩
  · rw [hu] at h
    cases h
    exact hsame q
  all_goals
    rw [hu] at h
    cases h

/-- An uncached write is answered by what the guard made of it (R352, R359). -/
theorem execMemoryWrite_uncached {init addr : Nat} {data : List Byte} {tamper done : Bool} {s t : State} (hrun : s.running = true)
    (hplic : ¬ (init < 2 ∧ inPlic addr = true)) (hwrite : s.memWrite init addr data tamper = (done, t)) :
    execMemoryWrite init addr data false tamper s =
      .next (if done = true then t.busOk else t.busError addr (accessCause init true)) := by
  rw [execMemoryWrite, if_neg (not_not_intro hrun), if_neg hplic]
  simp only [Bool.false_and, Bool.false_eq_true, if_false, hwrite]

/-- Settles O56: a write is stored, or it ends with a bus error and leaves every byte as it reads. -/
theorem memoryWriteStoresItsBytesAlone : Obligations.MemoryWriteStoresItsBytesAlone := by
  unfold Obligations.MemoryWriteStoresItsBytesAlone
  intro init addr data tamper s t hrun hplic hplace hexec
  simp only [State.rangeBytes_one, List.cons.injEq, and_true]
  match hwrite : s.memWrite init addr data tamper with
  | (true, u) =>
    obtain rfl : u.busOk = t := by simpa [execMemoryWrite_uncached hrun hplic hwrite] using hexec
    have hstores := State.memWrite_stores hplace hwrite
    exact ⟨fun _ => hstores, nofun⟩
  | (false, u) =>
    obtain rfl : u.busError addr (accessCause init true) = t := by simpa [execMemoryWrite_uncached hrun hplic hwrite] using hexec
    have hrefused := State.memWrite_refused hwrite
    exact ⟨nofun, fun _ => hrefused⟩

end Sys2Proof.Machine
end

section
/-! The commands of the guarded memory: accesses, KeyIDs, the erase of a flash sector and the sweep (R351 to R357, R385). -/
namespace Sys2Proof.Machine

/-! ## KeyIDs -/

/-- An admitted command of a customer KeyID whose outcome is not BUSY is carried out (R356). -/
theorem State.cmdWrite_kid {s : State} {ctx : Ctx} {k : Nat} (act : State → State) (h : s.admits ctx (0x2F20 + k) 4 false = true)
    (hk : k < 15) (hb : s.get (Reg.kidOutcome k) ≠ outBusy) :
    s.cmdWrite ctx (0x2F20 + k) 4 (k < 16) false (s.kidChecks k) act = (act s).done ctx := by
  have hcustomer : k ≠ 15 := Nat.ne_of_lt hk
  have hchecks : firstAbort (s.kidChecks k) = none := by simp [State.kidChecks, hcustomer, hb]
  rw [decide_eq_true (Nat.lt_succ_of_lt hk)]
  exact s.cmdWrite_admits ctx _ 4 false _ act h hchecks

/-- A free KeyID latches its source and waits for a vault in service (R302, R355, R357). -/
theorem execKeyidProgram_of_free {ctx : Ctx} {k : Nat} {s : State} (h : s.admits ctx (0x2F20 + k) 4 false = true) (hk : k < 15)
    (hb : s.get (Reg.kidOutcome k) ≠ outBusy) (hfree : s.get (Reg.kidState k) = 0) (h2 : s.get Reg.vltState ≠ 2)
    (h3 : s.get Reg.vltState ≠ 3) :
    execKeyidProgram ctx k s =
      .next (({ (s.sets [((Reg.kidSource k).latched, s.get (Reg.kidSource k)),
          ((Reg.kidVaultSlot k).latched, s.get (Reg.kidVaultSlot k))]).set (Reg.kidOutcome k) outBusy with
        vaultWaiting := s.vaultWaiting ++ [.keyId k] } : State).done ctx) := by
  have hvault : (s.sets [((Reg.kidSource k).latched, s.get (Reg.kidSource k)),
      ((Reg.kidVaultSlot k).latched, s.get (Reg.kidVaultSlot k))]).get Reg.vltState = s.get Reg.vltState :=
    s.get_sets_of_not_mem _ _ (by simp)
  rw [execKeyidProgram, State.cmdWrite_kid _ h hk hb, if_neg (not_not_intro hfree),
    State.vaultSubmit_waits _ (.keyId k) (mt hvault.symm.trans h2) (mt hvault.symm.trans h3) nofun]
  rfl

/-- The vault delivers the key of a KeyID, which is programmed and counted (R357). -/
theorem execKeyidProgramDone_of_made {s t : State} {k : Nat} {key : List Byte} (hruns : s.vaultRunning = some (.keyId k))
    (hmade : s.kidMake k = (outDone, key, t)) :
    execKeyidProgramDone s =
      .next ((((t.vaultFinish (.keyId k) outDone).vaultIdle).kidLoad k key).count (Reg.kidPrograms k) 32) := by
  simp only [execKeyidProgramDone, hruns, hmade, if_true]

/-- A programmed KeyID closes (R357). -/
theorem execKeyidClose_of_programmed {ctx : Ctx} {k : Nat} {s : State} (h : s.admits ctx (0x2F20 + k) 4 false = true) (hk : k < 15)
    (hb : s.get (Reg.kidOutcome k) ≠ outBusy) (hprogrammed : s.get (Reg.kidState k) = 1) :
    execKeyidClose ctx k s = .next ((s.sets [(Reg.kidState k, 2), (Reg.kidOutcome k, outBusy)]).done ctx) := by
  rw [execKeyidClose, State.cmdWrite_kid _ h hk hb, if_pos hprogrammed]

/-- A closing KeyID that no cache line carries is closed without a write-back (R357). -/
theorem execKeyidCloseDone_of_drained {k : Nat} {s : State} (hk : k < 15) (hrun : s.running = true)
    (hclosing : s.get (Reg.kidState k) = 2) (hdrained : s.cache.filter (fun c => c.kid = k) = []) :
    execKeyidCloseDone k s =
      .next (({ s with cache := s.cache.filter (fun c => c.kid ≠ k) } : State).sets
        [(Reg.kidState k, 3), (Reg.kidOutcome k, outDone)]) := by
  rw [execKeyidCloseDone, if_pos ⟨hk, hrun, hclosing⟩, hdrained]
  rfl

/-- A closed KeyID that no enabled region names loses its key and is free (R357, R358). -/
theorem execKeyidRetire_of_closed {ctx : Ctx} {k : Nat} {s : State} (h : s.admits ctx (0x2F20 + k) 4 false = true) (hk : k < 15)
    (hb : s.get (Reg.kidOutcome k) ≠ outBusy) (hclosed : s.get (Reg.kidState k) = 3) (hnamed : s.kidNamed k = false) :
    execKeyidRetire ctx k s =
      .next ((({ s with kidKeys := s.kidKeys.filter (fun e => e.1 ≠ k) } : State).sets
        [(Reg.kidState k, 0), (Reg.kidOutcome k, outDone)]).done ctx) := by
  rw [execKeyidRetire, State.cmdWrite_kid _ h hk hb, if_neg (not_not_intro hclosed), if_neg (Bool.eq_false_iff.mp hnamed)]

/-! ## Flash erase and the sweep -/

/-- The erase of an aligned sector inside an enabled region starts (R353). -/
theorem execFlashErase_of_sector {ctx : Ctx} {addr : Nat} {s : State} (h : s.admits ctx 0x2F00 0x0D false = true)
    (hb : s.get Reg.xmFlashEraseOutcome ≠ outBusy) (haligned : addr % 65536 = 0) (hflash : s.inFlash addr 65536 = true)
    (hregion : (List.range 16).any (fun r => s.inRegion r addr 65536) = true) (hwidth : addr < 2 ^ 64) :
    execFlashErase ctx addr s = .next ((s.sets [(Reg.flashErasing, addr + 1), (Reg.xmFlashEraseOutcome, outBusy)]).done ctx) := by
  have hfits : firstAbort [fits 8 addr] = none := firstAbort_fits hwidth
  rw [execFlashErase, s.cmdWrite_admits ctx 0x2F00 0x0D false _ _ h (by simp [hb, hfits]), if_pos ⟨haligned, hflash, hregion⟩]

/-- The sweep initialises the lowest granule that it finds uninitialised under a programmed KeyID (R354). -/
theorem execInitSweepGranule_of_lowest {s : State} {g : Nat} (hrun : s.running = true) (hsweep : s.get Reg.xmInitSweep = 1)
    (hlowest : (s.uninitGranules.filter (fun g =>
        (s.kidOf (dramBase + g * 65536) 65536).any (fun k => s.get (Reg.kidState k) = 1))).foldl
      (fun b g => some (match b with | none => g | some m => min m g)) none = some g) :
    execInitSweepGranule s = .next (s.initGranule g) := by
  rw [execInitSweepGranule, if_pos ⟨hrun, hsweep⟩]
  dsimp only
  split
  next m hm => rw [Option.some.inj (hm.symm.trans hlowest)]
  next hm => exact nomatch hm.symm.trans hlowest

/-! ## Accesses and cache blocks -/

/-- An access that is not a core's to the interrupt controller goes to the guard. -/
theorem not_plic {init addr : Nat} (h : 2 ≤ init ∨ inPlic addr = false) : ¬ (init < 2 ∧ inPlic addr = true) :=
  fun k => h.elim (fun h => Nat.not_le.mpr k.1 h) (fun h => Bool.eq_false_iff.mp h k.2)

/-- Settles O19: the guard lets each access pass, no check refuses a command, and each event finds what it ends. -/
theorem guardedMemoryCompletes : Obligations.GuardedMemoryCompletes := by
  unfold Obligations.GuardedMemoryCompletes
  refine ⟨?read, ?write, ?program, ?programDone, ?close, ?closeDone, ?retire, ?erase, ?eraseDone, ?sweep, ?clean, ?flush, ?inval⟩
  case read => exact fun _ _ _ _ _ hrun hplic => execMemoryRead_of_bytes hrun (not_plic hplic)
  case write => exact fun _ _ _ _ _ hrun hplic hwrite => execMemoryWrite_uncached hrun (not_plic hplic) hwrite
  case program => exact fun _ _ _ => execKeyidProgram_of_free
  case programDone => exact fun _ _ _ _ => execKeyidProgramDone_of_made
  case close => exact fun _ _ _ => execKeyidClose_of_programmed
  case closeDone => exact fun _ _ => execKeyidCloseDone_of_drained
  case retire => exact fun _ _ _ => execKeyidRetire_of_closed
  case erase => exact fun _ _ _ => execFlashErase_of_sector
  case eraseDone => exact fun _ hrun herasing => if_pos ⟨hrun, herasing⟩
  case sweep => exact fun _ _ => execInitSweepGranule_of_lowest
  case clean => exact fun _ _ _ hrun hcore => if_pos ⟨hrun, hcore⟩
  case flush => exact fun _ _ _ hrun hcore => if_pos ⟨hrun, hcore⟩
  case inval => exact fun _ _ _ hrun hcore => (if_neg (not_not_intro ⟨hrun, hcore⟩)).trans (if_pos rfl)

end Sys2Proof.Machine
end

section
/-! The canonical form of the register file and the memory, the state after reset, and the words of the command table. -/
namespace Sys2Proof.Machine

/-! ## The canonical form -/

/-- A change that keeps to its parts keeps both canonical forms. -/
theorem Within.canonical {m : Nat} {s t : State} (h : Within m s t) (hs : s.canonical = true) : t.canonical = true := by
  obtain ⟨hregs, hmem⟩ := Bool.and_eq_true_iff.mp hs
  exact Bool.and_eq_true_iff.mpr ⟨h.regs hregs, h.mem hmem⟩

/-- A command of any kind leads from a canonical state to a canonical state. -/
theorem exec_canonical {c : Instr} {s t : State} (hs : s.canonical = true) (h : exec c s = .next t) : t.canonical = true :=
  ((exec_within c s).within t h).canonical hs

/-- Settles O39: a cycle of the time base and the command at the front of the queue both keep to their parts. -/
theorem stepKeepsCanonicalForm : Obligations.StepKeepsCanonicalForm := by
  unfold Obligations.StepKeepsCanonicalForm
  intro s t hs h
  match hp : s.pending with
  | [] =>
    rw [step_of_idle s hp] at h
    cases h
    exact s.tick_frame.canonical hs
  | c :: rest =>
    rw [step_of_front s c rest hp] at h
    exact exec_canonical (s := { s with pending := rest }) hs h

/-! ## The state after reset -/

/-- Settles O34: nothing is listed in the reset state, so that every register and every byte reads as its default. -/
theorem resetState : Obligations.ResetState := by
  unfold Obligations.ResetState
  refine ⟨rfl, rfl, rfl, rfl, ?registers, ?bytes, rfl, rfl⟩
  case registers => exact fun r => rfl
  case bytes => exact fun a => Mem.get_of_all_lt [] a rfl

/-! ## Words -/

/-- Settles O35: the table gives no row any bits, so that a fetched word puts no command into the queue. -/
theorem noWordSpellsACommand : Obligations.NoWordSpellsACommand := by
  unfold Obligations.NoWordSpellsACommand
  exact fun n w s => ⟨rfl, rfl⟩

end Sys2Proof.Machine
end

section
/-! The Chimney link: reads and posted writes of the window, fences, reservations, head-on transfers, and errors of the link (R373 to R386). -/
namespace Sys2Proof.Machine

/-! ## Initiators and sizes -/

/-- The cores, the DMA channels and the debug port use the window; of these the debug port alone has number 40h (R371, R372). -/
theorem onLantern_not_debug {init : Nat} (h : isCore init = true ∨ (0x20 ≤ init ∧ init < 0x40)) :
    onLantern init = true ∧ init ≠ 0x40 := by
  simp only [onLantern, isCore, Bool.or_eq_true, Bool.and_eq_true, decide_eq_true_eq] at h ⊢
  omega

/-- A naturally aligned access of a core has a byte (R371). -/
theorem ne_zero_of_coreAligned {a n : Nat} (h : coreAligned a n = true) : n ≠ 0 := by
  rintro rfl
  simp [coreAligned] at h

/-- A reservation stands in the window (R378). -/
theorem inWindow_of_exclusiveOk {a n : Nat} (h : exclusiveOk a n = true) : inWindow a = true := by
  simp only [exclusiveOk, inRetention, inWindow, Bool.and_eq_true, Bool.or_eq_true, decide_eq_true_eq] at h ⊢
  omega

/-- A link that runs is not down, on a running device (R384). -/
theorem State.linkRuns_iff (s : State) : s.linkRuns = true ↔ s.running = true ∧ s.get Reg.chmState = 1 := by
  simp [State.linkRuns]

/-! ## Reads and posted writes -/

/-- A first aligned read of the window takes a fetch entry and answers retry (R374). -/
theorem execChimneyRead_of_first {init addr size : Nat} {s : State} (hrun : s.running = true)
    (hinit : isCore init = true ∨ (0x20 ≤ init ∧ init < 0x40)) (hwindow : inWindow addr = true)
    (haligned : coreAligned addr size = true) (hup : s.get Reg.chmState ≠ 3)
    (hfirst : s.fetches.find? (fun f => f.initiator = init && f.addr = addr && f.size = size) = none)
    (hbar : s.lanternBarred = false) (hroom : s.fetches.length < 16) :
    execChimneyRead init addr size s =
      .next (({ s with fetches := s.fetches ++ [{ initiator := init, addr := addr, size := size }] } : State).retry) := by
  obtain ⟨hlantern, hdebug⟩ := onLantern_not_debug hinit
  have hdone : ¬ (init = 0x40 ∨ 16 ≤ s.fetches.length) := not_or.mpr ⟨hdebug, Nat.not_le.mpr hroom⟩
  rw [execChimneyRead, if_neg (by simp [hrun, hlantern, hwindow, ne_zero_of_coreAligned haligned]), if_neg (by simp [haligned]),
    if_neg hup]
  simp only [hfirst, hbar, Bool.false_eq_true, if_false, if_neg hdone]

/-- The data of a fetch entry arrives once the read may complete (R374, R377). -/
theorem execChimneyFetchDone_of_free {k : Nat} {s : State} {f : Fetch} (hf : s.fetches[k]? = some f) (hfree : s.fetchFree f = true)
    (hready : f.ready = false) :
    execChimneyFetchDone false k s =
      .next { s with fetches := s.fetches.set k { f with ready := true, doneAt := s.now, fault := !fetchSound f,
                                                         data := s.bytesAt f.addr f.size } } := by
  simp [execChimneyFetchDone, hf, hfree, hready]

/-- Data that waited 4 µs without a reissue is discarded and counted (R374). -/
theorem execFetchStale_of_late {k : Nat} {s : State} {f : Fetch} (hf : s.fetches[k]? = some f) (hready : f.ready = true)
    (hlate : f.doneAt + 4 * us ≤ s.now) :
    execFetchStale k s = .next (({ s with fetches := s.fetches.eraseIdx k } : State).count Reg.chmStaleFetches 32) := by
  simp only [execFetchStale, hf, hready, hlate, and_self, if_true]

/-- An aligned write of a core to the window is posted and answered at once (R373). -/
theorem execChimneyPostedWrite_of_core {init addr : Nat} {data : List Byte} {s : State} (hrun : s.running = true)
    (hcore : isCore init = true) (hwindow : inWindow addr = true) (haligned : coreAligned addr data.length = true)
    (hbar : s.lanternBarred = false) :
    execChimneyPostedWrite init addr data s = .next (((s.touchGranule addr data.length).postWrite init addr data).busOk) := by
  obtain ⟨hlantern, hdebug⟩ := onLantern_not_debug (.inl hcore)
  have hsize : ¬ (¬ s.running = true ∨ data.length = 0) := by simp [hrun, ne_zero_of_coreAligned haligned]
  simp only [execChimneyPostedWrite, if_neg hsize, hlantern, hwindow, haligned, hbar, if_neg hdebug, not_true_eq_false, and_false,
    Bool.false_eq_true, if_true, if_false]

/-- A posted piece that no earlier one of its granule precedes is applied, and its acknowledgement returns (R381, R383). -/
theorem execWriteAck_of_first {k : Nat} {s : State} {p : Posted} (hp : s.posted[k]? = some p) (hlink : s.linkRuns = true)
    (hheld : s.pieceHeld p = false) (hfirst : (s.posted.take k).any (sameGranule p) = false) :
    execWriteAck k s = .next (({ s with posted := s.posted.eraseIdx k } : State).applyPiece p) := by
  simp only [execWriteAck, hp, hlink, hheld, hfirst, Bool.false_eq_true, not_false_eq_true, and_self, if_true]

/-! ## Fences -/

/-- A fence of a core starts waiting (R382). -/
theorem execFence_of_core {init : Nat} {writes reads : Bool} {s : State} (hrun : s.running = true)
    (hcore : init = 0 ∨ init = 1 ∨ init = 0x80) :
    execFence init writes reads s =
      .next { s with fences := s.fences.filter (fun f => f.initiator ≠ init) ++ [⟨init, writes, reads⟩] } :=
  if_pos ⟨hrun, by simpa [isCore, or_assoc] using hcore⟩

/-- A fence whose accesses completed without a pending fault completes (R382). -/
theorem execFenceComplete_of_met {init : Nat} {s : State} {f : Fence} (hf : s.fences.find? (fun f => f.initiator = init) = some f)
    (hmet : s.fenceMet f = true) (hgood : bitOf (s.get Reg.chmPendingFaults) (faultBit init) = false) :
    execFenceComplete init s =
      .next (((({ s with fences := s.fences.filter (fun g => g.initiator ≠ init) } : State).fenceEnd init).2.2).busOk) := by
  have hend : (({ s with fences := s.fences.filter (fun g => g.initiator ≠ init) } : State).fenceEnd init).1 = false := hgood
  simp only [execFenceComplete, hf, hmet, hend, Bool.false_eq_true, not_false_eq_true, if_true]

/-! ## Reservations -/

/-- LR takes the free semaphore and reads under the hold (R378). -/
theorem execLr_of_free {hart addr size : Nat} {s : State} (hrun : s.running = true) (hhart : hart < 2)
    (hok : exclusiveOk addr size = true) (hup : s.get Reg.chmState ≠ 3) (hheld : s.heldRead = none) (hbar : s.lanternBarred = false)
    (hfree : s.semaphore = none) :
    execLr hart addr size s =
      .next (({ s with semaphore := some { hart := hart, granule := addr / 64 * 64, taken := s.now } } : State).holdRead
        { initiator := hart, addr := addr, size := size, lr := true }) := by
  rw [execLr, if_neg (by simp [hrun, hhart, inWindow_of_exclusiveOk hok]), if_neg (by simp [hok, hup])]
  simp only [hheld, hbar, hfree, Option.isSome_none, Bool.false_eq_true, if_false]

/-- SC under an untouched reservation of its hart posts its write and releases the semaphore (R378). -/
theorem execSc_of_reserved {hart addr : Nat} {data : List Byte} {s : State} {m : Semaphore} (hrun : s.running = true) (hhart : hart < 2)
    (hok : exclusiveOk addr data.length = true) (hm : s.semaphore = some m) (hown : m.hart = hart) (hgranule : m.granule = addr / 64 * 64)
    (huntouched : m.touched = false) :
    execSc hart addr data s =
      .next { (({ s with semaphore := none } : State).postWrite hart addr data) with bus := { value := 0 } } := by
  rw [execSc, if_neg (by simp [hrun, hhart, inWindow_of_exclusiveOk hok]), if_neg (by simp [hok])]
  simp [hm, hown, hgranule, huntouched]

/-- The semaphore is released 2 µs after it was taken (R378). -/
theorem execSemaphoreTimeout_of_late {s : State} {m : Semaphore} (hm : s.semaphore = some m) (hlate : m.taken + 2 * us ≤ s.now) :
    execSemaphoreTimeout s = .next (({ s with semaphore := none } : State).count Reg.chmSemaphoreTimeouts 32) := by
  simp only [execSemaphoreTimeout, hm, if_pos hlate]

/-! ## Head-on transfers -/

/-- The Wick half withdraws a request that has stood 8 link cycles against one of the Lantern half (R380). -/
theorem execWickBackoff_of_late {s : State} {w : WickRead} (hw : s.wickRead = some w) (hlink : s.linkRuns = true)
    (hheld : s.heldRead.any (fun f => f.since + 8000 ≤ s.now) = true) (hstands : w.withdrawn = 0) (hlate : w.since + 8000 ≤ s.now) :
    execWickBackoff s = .next (({ s with wickRead := some { w with withdrawn := s.now, backoffs := w.backoffs + 1 } } : State).count
      Reg.chmWickBackoffs 32) := by
  simp only [execWickBackoff, hw, backoffWait]
  exact if_pos ⟨hlink, hheld, hstands, hlate⟩

/-- A withdrawn request is reissued after 256 link cycles, and completes while the Lantern port is free (R380). -/
theorem execBackoffReissue_of_free {s : State} {w : WickRead} (hw : s.wickRead = some w) (hlink : s.linkRuns = true)
    (hwithdrawn : 0 < w.withdrawn) (hlate : w.withdrawn + 256000 ≤ s.now) (hfree : s.heldRead = none) :
    execBackoffReissue s = .next (s.pilotData w.addr w.size) := by
  simp only [execBackoffReissue, hw, hlink, hwithdrawn, hlate, hfree, and_self, Option.isNone_none, if_true]

/-- A Pilot read completes while the Lantern port is free (R376). -/
theorem execPilotRead_of_free {addr size : Nat} {s : State} (hlink : s.linkRuns = true) (hnone : s.wickRead = none) (hsize : size ≠ 0)
    (hfree : s.heldRead = none) : execPilotRead addr size s = .next (s.pilotData addr size) := by
  obtain ⟨hrun, hup⟩ := s.linkRuns_iff.mp hlink
  rw [execPilotRead, if_neg (by simp [hrun, hnone, hsize]), if_neg (by simp [hup]), if_pos ⟨hlink, by simp [hfree]⟩]

/-- Settles O20: the link is up and its half free for each access, and each event finds what it ends. -/
theorem chimneyAccessesComplete : Obligations.ChimneyAccessesComplete := by
  unfold Obligations.ChimneyAccessesComplete
  refine ⟨?read, ?fetch, ?stale, ?write, ?ack, ?fence, ?fenceDone, ?lr, ?sc, ?release, ?backoff, ?reissue, ?pilot⟩
  case read => exact fun _ _ _ _ => execChimneyRead_of_first
  case fetch => exact fun _ _ _ => execChimneyFetchDone_of_free
  case stale => exact fun _ _ _ => execFetchStale_of_late
  case write => exact fun _ _ _ _ => execChimneyPostedWrite_of_core
  case ack => exact fun _ _ _ => execWriteAck_of_first
  case fence => exact fun _ _ _ _ => execFence_of_core
  case fenceDone => exact fun _ _ _ => execFenceComplete_of_met
  case lr => exact fun _ _ _ _ => execLr_of_free
  case sc => exact fun _ _ _ _ _ => execSc_of_reserved
  case release => exact fun _ _ => execSemaphoreTimeout_of_late
  case backoff => exact fun _ _ => execWickBackoff_of_late
  case reissue => exact fun _ _ => execBackoffReissue_of_free
  case pilot => exact fun _ _ _ => execPilotRead_of_free

/-! ## Errors of the link -/

/-- Settles O21: a bad flit and a lost lock are due on a link that runs, the result of a retraining on one that retrains, and
`Chm.Retrain` is written while the link is down. -/
theorem chimneyLinkRecovers : Obligations.ChimneyLinkRecovers := by
  unfold Obligations.ChimneyLinkRecovers
  refine ⟨?flit, ?lock, ?result, ?retrain⟩
  case flit => exact fun _ _ hlink hbad => if_pos ⟨hlink, hbad⟩
  case lock => exact fun _ _ hlink hlost => if_pos ⟨hlink, hlost⟩
  case result => exact fun _ hrun hretrains => if_pos ⟨hrun, hretrains⟩
  case retrain =>
    intro ctx s h hdown
    have hchecks : firstAbort (need (s.get Reg.chmState = 3) 0x08000022 :: onlyOne 1) = none := by simp [hdown, onlyOne]
    exact congrArg Host.Outcome.next (s.cmdWrite_admits ctx 0x2300 2 false _ _ h hchecks)

end Sys2Proof.Machine
end

section
/-! The gateway of the CAN and LIN buses: freshness values, the channels, the cyclic entries, ACF frames and gateway keys (R393 to R418). -/
namespace Sys2Proof.Machine

/-! ## Freshness values -/

/-- A row that generates, at its highest value, generates nothing (R411). -/
theorem State.fvGenerate_of_exhausted {s : State} {row : Nat} {key : List Byte} (user : List Byte)
    (hkey : s.gwKeyBytes (s.fvRow row).key = some key) (hv : (s.fvRow row).valid = true) (hg : (s.fvRow row).generates = true)
    (hlast : s.get (Reg.fvValue row) = 2 ^ 64 - 1) : s.fvGenerate row user = (none, s.count (Reg.fvExhausted row)) := by
  simp [State.fvGenerate, hkey, hv, hg, hlast]

/-- The state with a new reservation of freshness values for a row whose last one is used up (R412). -/
def State.fvReserved (s : State) (row : Nat) : State :=
  if s.get (Reg.fvValue row) < s.get (Reg.fvReserve 0 row) then s
  else s.set (Reg.fvReserve 0 row) (min (s.get (Reg.fvValue row) + s.get Reg.gwFvReserveStep) (2 ^ 64 - 1))

/-- A row that generates, below its highest value and on a running device, puts its value into the message and raises it (R411). -/
theorem State.fvGenerate_of_room {s : State} {row : Nat} {key : List Byte} (user : List Byte)
    (hkey : s.gwKeyBytes (s.fvRow row).key = some key) (hv : (s.fvRow row).valid = true) (hg : (s.fvRow row).generates = true)
    (hroom : s.get (Reg.fvValue row) < 2 ^ 64 - 1) (hrun : s.running = true) :
    s.fvGenerate row user =
      (some (user ++ beBytes (s.fvRow row).fBytes (s.get (Reg.fvValue row)) ++
          (s.fvRow row).tag key user (s.get (Reg.fvValue row))),
        ((s.fvReserved row).set (Reg.fvValue row) (s.get (Reg.fvValue row) + 1)).count (Reg.fvAccepted row)) := by
  have hlast : s.get (Reg.fvValue row) ≠ 18446744073709551615 := Nat.ne_of_lt hroom
  simp [State.fvGenerate, State.fvReserved, hkey, hv, hg, hlast, hrun]

/-- Settles O55: at its highest value a row generates nothing, and below it the row's value rises by 1. -/
theorem freshnessValuesNeverWrap : Obligations.FreshnessValuesNeverWrap := by
  unfold Obligations.FreshnessValuesNeverWrap
  intro s row user key hkey hv hg
  refine ⟨fun hlast => ?last, fun hroom hrun => ?room⟩
  case last =>
    rw [State.fvGenerate_of_exhausted user hkey hv hg hlast]
    exact ⟨rfl, rfl⟩
  case room =>
    rw [State.fvGenerate_of_room user hkey hv hg hroom hrun]
    exact ⟨rfl, (State.get_count_of_ne _ _ _ _ _ (by simp)).trans (State.get_set_self _ _ _)⟩

/-! ## CAN channels -/

/-- New error counts leave the enable of the channel alone (R393). -/
theorem State.get_canEnable_canCounts (s : State) (ch tec rec : Nat) :
    (s.canCounts ch tec rec).get (Reg.canEnable ch) = s.get (Reg.canEnable ch) :=
  (State.get_set_of_ne _ _ _ _ (by simp)).trans (s.get_set_of_ne _ _ _ (by simp))

/-- An enabled channel stays on its bus with its new error counts (R393). -/
theorem State.canQuit_canCounts_of_enabled {s : State} {ch : Nat} (tec rec : Nat) (h : s.get (Reg.canEnable ch) = 1) :
    (s.canCounts ch tec rec).canQuit ch = s.canCounts ch tec rec :=
  if_neg (by simp [s.get_canEnable_canCounts, h])

/-- A message that the totaliser and the SDO server leave is received by the gateway (R398). -/
theorem execCanMessageReceive_of_gateway {ch : Nat} {m : BusHeard} {s t : State} {stamp : List Nat} (htakes : s.canTakes ch m.msg = true)
    (hstamp : s.busStamp m.age = (stamp, t)) (hsample : t.isSample ch m.msg = false) (hsdo : t.sdoRequest ch m.msg = false) :
    execCanMessageReceive ch m s = .next (t.canReceive ch m.msg stamp) := by
  simp only [execCanMessageReceive, if_pos htakes, hstamp, hsample, hsdo, Bool.false_eq_true, if_false]

/-- A channel that wins the bus has the message that it offered in transmission (R402). -/
theorem execCanArbitration_of_won {ch : Nat} {s t : State} {e : CanEntry} (hon : s.canOn ch = true) (hen : s.get (Reg.canEnable ch) ≠ 0)
    (hlisten : bitOf (s.get (Reg.canFormats ch).latched) 3 = false) (hrestricted : bitOf (s.get (Reg.canFormats ch).latched) 4 = false)
    (hidle : s.canQueue.any (fun e => e.ch = ch && e.inTx) = false)
    (hoffer : State.canOffer (s.canQueue.length + 1) ch (s.canIntegrated ch) = (some e, t)) :
    execCanArbitration ch true s =
      .next { t with canQueue := t.canQueue.map (fun x => if x = e then { x with inTx := true, takenAt := s.now } else x) } := by
  have hoffers : ¬ (¬ s.canOn ch = true ∨ s.get (Reg.canEnable ch) = 0 ∨ bitOf (s.get (Reg.canFormats ch).latched) 3 = true ∨
      bitOf (s.get (Reg.canFormats ch).latched) 4 = true ∨ s.canQueue.any (fun e => e.ch = ch && e.inTx) = true) := by
    simp [hon, hen, hlisten, hrestricted, hidle]
  simp only [execCanArbitration, if_neg hoffers, hoffer, if_true]

/-- A sent message of an enabled channel leaves the queue, and the transmit error count falls (R393, R402). -/
theorem execCanTxDone_of_enabled {ch : Nat} {s : State} {e : CanEntry} (he : s.canQueue.find? (fun e => e.ch == ch && e.inTx) = some e)
    (hon : s.canOn ch = true) (hcyc : e.cyc = none) (hen : s.get (Reg.canEnable ch) = 1) :
    execCanTxDone ch s = .next ((({ s with canQueue := s.canQueue.erase e } : State).count (Reg.canTxMessages ch)).canCounts ch
      (s.canTec ch - 1) (s.canRec ch)) := by
  have hen' : (({ s with canQueue := s.canQueue.erase e } : State).count (Reg.canTxMessages ch)).get (Reg.canEnable ch) = 1 :=
    (State.get_count_of_ne _ _ _ _ _ (by simp)).trans hen
  simp only [execCanTxDone, he, hon, hcyc, if_true, State.canQuit_canCounts_of_enabled _ _ hen']

/-- An error of an enabled channel offers its message again and raises the count of its role (R393). -/
theorem execCanError_of_enabled {ch : Nat} (transmitter severe : Bool) {s : State} (hon : s.canOn ch = true)
    (hen : s.get (Reg.canEnable ch) = 1) :
    execCanError ch transmitter severe s =
      .next ((({ s with canQueue := s.canQueue.map (fun e => if e.ch = ch then { e with inTx := false } else e) } : State).count
        (Reg.canErrors ch)).canCounts ch (if transmitter then min (s.canTec ch + 8) 0xFFFF else s.canTec ch)
        (if transmitter then s.canRec ch else min (s.canRec ch + (if severe then 8 else 1)) 0xFFFF)) := by
  have hen' : (({ s with canQueue := s.canQueue.map (fun e => if e.ch = ch then { e with inTx := false } else e) } : State).count
      (Reg.canErrors ch)).get (Reg.canEnable ch) = 1 :=
    (State.get_count_of_ne _ _ _ _ _ (by simp)).trans hen
  simp only [execCanError, if_pos hon, State.canQuit_canCounts_of_enabled _ _ hen']

/-- A channel in bus-off starts its recovery (R393). -/
theorem execCanRecover_of_busOff {ctx : Ctx} {ch : Nat} {s : State} (h : s.admits ctx (0x2C10 + ch) 0x0C false = true) (hch : ch < 16)
    (hoff : s.canState ch = 2) : execCanRecover ctx ch 1 s = .next ((s.set (Reg.canRecovering ch) 1).done ctx) := by
  have hchecks : firstAbort (need (s.canState ch = 2) 0x08000022 :: onlyOne 1) = none := by simp [hoff, onlyOne]
  rw [execCanRecover, decide_eq_true hch, s.cmdWrite_admits ctx _ _ false _ _ h hchecks]

/-- Boundary settings are latched beside every register of the dictionary. -/
theorem State.get_latchAll (l : List Reg) {q : Reg} (hq : q.bank ≠ 2) (s : State) :
    (l.foldl (fun s r => s.set r.latched (s.get r)) s).get q = s.get q := by
  induction l generalizing s with
  | nil => rfl
  | cons r l ih => exact (ih _).trans (s.get_set_of_ne _ q _ (fun e => hq (congrArg Reg.bank e)))

/-- A channel that is off and enabled latches its parameters and integrates (R393). -/
theorem execCanEnable_of_off {ctx : Ctx} {ch : Nat} {s : State} (h : s.admits ctx (0x2C10 + ch) 1 false = true) (hch : ch < 16)
    (hoff : s.get (Reg.canEnable ch) = 0) :
    execCanEnable ctx ch 1 s =
      .next ((((([Reg.canFormats ch, Reg.canNominalRate ch, Reg.canDataRate ch, Reg.canXlDataRate ch, Reg.canSamplePoints ch,
          Reg.canTransceiver ch].foldl (fun s r => s.set r.latched (s.get r)) (s.set (Reg.canEnable ch) 1)).sets
        [(Reg.canStatus ch, 4 + flag (bitOf (s.get (Reg.canFormats ch)) 4) * 8), (Reg.canErrorCounters ch, 0),
          (Reg.canRecovering ch, 0)])).changed).done ctx) := by
  have hformats := (State.get_latchAll [Reg.canFormats ch, Reg.canNominalRate ch, Reg.canDataRate ch, Reg.canXlDataRate ch,
    Reg.canSamplePoints ch, Reg.canTransceiver ch] (q := Reg.canFormats ch) (by simp) (s.set (Reg.canEnable ch) 1)).trans
      (s.get_set_of_ne _ _ 1 (by simp))
  rw [execCanEnable, decide_eq_true hch, s.rwWrite_admits ctx _ _ false _ _ h rfl]
  dsimp only
  rw [hoff, if_neg (by decide), if_neg (by decide), hformats]

/-- Settles O22: each channel is in the state that its row asks for, and an enabled channel stays on its bus. -/
theorem canControllersComplete : Obligations.CanControllersComplete := by
  unfold Obligations.CanControllersComplete
  refine ⟨?receive, ?win, ?sent, ?busOff, ?recovered, ?recover, ?enable, ?error⟩
  case receive => exact fun _ _ _ _ _ => execCanMessageReceive_of_gateway
  case win => exact fun _ _ _ _ => execCanArbitration_of_won
  case sent => exact fun _ _ _ => execCanTxDone_of_enabled
  case busOff => exact fun _ _ hon htec => if_pos ⟨hon, htec⟩
  case recovered => exact fun _ _ hch hbus hoff hrecovers => if_pos ⟨hch, hbus, hoff, hrecovers⟩
  case recover => exact fun _ _ _ => execCanRecover_of_busOff
  case enable => exact fun _ _ _ => execCanEnable_of_off
  case error => exact fun _ transmitter severe _ hon hen => ⟨_, _, execCanError_of_enabled transmitter severe hon hen, rfl, rfl⟩

/-! ## LIN channels -/

/-- A good response on a LIN channel is counted, ends its header and is routed (R394, R408). -/
theorem execLinResponseReceive_of_good {l id : Nat} {data : List Byte} {e : LinEnd} {s t : State} {stamp : List Nat}
    (hon : s.linOn l = true) (hsum : e.check = s.linChecksum l (id % 64) (data.take 8))
    (hstamp : ((s.count (Reg.linRxMessages l)).linNext l).busStamp e.age = (stamp, t)) (hroute : t.routing = true) :
    execLinResponseReceive l id data e s = .next (t.route (16 + l) 0 0 { fmt := 3, id := id % 64, data := data.take 8 } stamp) := by
  rw [execLinResponseReceive, if_neg (not_not_intro hon), if_neg (not_not_intro hsum)]
  simp only [hstamp, hroute, if_true]

/-- A header to a responder entry is answered with the data that the entry releases (R394, R408). -/
theorem execLinHeaderReceive_of_responder {l id e : Nat} {s t : State} {d b : List Byte} (hon : s.linOn l = true)
    (hslave : s.linMaster l = false) (hroute : s.routing = true)
    (hentry : (List.range 128).find? (fun e => s.get (Reg.cycTarget e) = 16 + l && bitOf (s.get (Reg.cycParams e)) 30 &&
      field (s.get (Reg.cycKey e)) 37 32 = id) = some e) (hturn : s.cycTurn e = .send d) (hseal : s.cycSeal e d = (some b, t)) :
    execLinHeaderReceive l id s =
      .next (((t.setBlob (Reg.linResp l) b).count (Reg.linTxMessages l)).count (Reg.cycSent e)) := by
  rw [execLinHeaderReceive, if_neg (by simp [hon, hslave, hroute])]
  simp only [hentry, hturn, hseal]

/-- LIN wake holds the line of a channel for 1 ms (R395). -/
theorem execLinSendWake_of_admits {ctx : Ctx} {l : Nat} {s : State} (h : s.admits ctx (0x2C20 + l) 6 false = true) (hl : l < 8) :
    execLinSendWake ctx l 1 s = .next ((s.set (Reg.linWakeUntil l) (s.now + ms)).done ctx) := by
  rw [execLinSendWake, decide_eq_true hl, s.cmdWrite_admits ctx _ _ false _ _ h rfl]

/-! ## Cyclic entries -/

/-- A due entry whose group lets it send releases an instance (R406, R407). -/
theorem execCyclicRelease_of_send {e : Nat} {s t u : State} {d b : List Byte} (hdue : s.cycDue e = true)
    (hfirst : (List.range 128).any (fun a => s.cycAhead a e) = false)
    (ht : t = s.set (Reg.cycSeen e) (s.timeNs (s.get (Reg.cycDomain e)) + 1)) (hturn : t.cycTurn e = .send d)
    (hseal : t.cycSeal e d = (some b, u)) : execCyclicRelease e s = .next (u.cycQueue e b) := by
  rw [execCyclicRelease, if_pos ⟨hdue, Bool.eq_false_iff.mp hfirst⟩, ← ht]
  simp only [hturn, hseal]

/-- The held data of an entry is replaced by an accepted writer's 2,048 bytes (R407). -/
theorem execCycDataWrite_of_accepted {ctx : Ctx} {e : Nat} {data : List Byte} {s : State}
    (h : s.admits ctx (0x2C80 + e) 7 false = true) (he : e < 128) (hlen : data.length = 2048)
    (haccepts : (s.claimAccepts ctx (s.get (Reg.cycGroup e)) ||
      (s.get (Reg.cgState (s.get (Reg.cycGroup e))) = 4 && (clusterOf ctx).isSome)) = true) :
    execCycDataWrite ctx e data s = .next (((s.cycUpdate e (s.cycWritten e data)).changed).done ctx) := by
  rw [execCycDataWrite, decide_eq_true he]
  refine congrArg Host.Outcome.next (s.rwWrite_admits ctx _ _ false _ _ h ?_)
  rw [haccepts, hlen]
  rfl

/-! ## ACF frames and gateway keys -/

/-- A frame at the head of the inbound queue is unpacked while the link is up (R417). -/
theorem execAcfUnpack_of_head {s : State} {e : Entry} {b : List Byte} (hfwd : s.forwarding = true) (hqueue : s.get Reg.gwInboundQueue ≠ 0xFF)
    (hretrains : s.get Reg.chmState ≠ 2) (hdown : s.get Reg.chmState ≠ 3)
    (hhead : s.hostHead (s.get Reg.gwInboundQueue) = some (e, b)) : execAcfUnpack s = .next ((s.takeHost e).acfTake b) := by
  rw [execAcfUnpack, if_pos ⟨hfwd, hretrains, hqueue⟩]
  simp only [hhead, if_neg hdown]

/-- A frame under construction is sent when its first message has waited long enough (R416). -/
theorem execAcfMaxWaitExpire_of_late {stream : Nat} {s : State} {p : AcfPack}
    (hp : s.acfPacks.find? (fun p => p.stream == stream) = some p) (hlate : p.since + s.get (Reg.acfMaxWait stream) * 1000 ≤ s.now)
    (hrun : s.running = true) : execAcfMaxWaitExpire stream s = .next (s.acfSend stream) := by
  simp only [execAcfMaxWaitExpire, hp]
  exact if_pos ⟨hlate, hrun⟩

/-- A load of a gateway key waits for a vault in service (R418). -/
theorem execGwKeyLoad_of_service {ctx : Ctx} {k value : Nat} {s : State} (h : s.admits ctx 0x2C00 (0x10 + k) false = true) (hk : k < 16)
    (hvalue : value < 2 ^ 16) (hrun : s.running = true) (h2 : s.get Reg.vltState ≠ 2) (h3 : s.get Reg.vltState ≠ 3) :
    execGwKeyLoad ctx k value s =
      .next (((({ (s.set (Reg.gwKeySlot k) value).set (Reg.gwKeyOutcome k) outBusy with
        vaultWaiting := s.vaultWaiting ++ [.gwKey k value] } : State).changed)).done ctx) := by
  have hvault : (s.set (Reg.gwKeySlot k) value).get Reg.vltState = s.get Reg.vltState := s.get_set_of_ne _ _ _ (by simp)
  have hrun' : (s.set (Reg.gwKeySlot k) value).running = true := hrun
  rw [execGwKeyLoad, decide_eq_true hk, s.rwWrite_admits ctx _ _ false _ _ h (firstAbort_fits hvalue)]
  dsimp only
  rw [if_pos hrun', State.vaultSubmit_waits _ (.gwKey k value) (hvault ▸ h2) (hvault ▸ h3) nofun]
  rfl

/-- Settles O23: each channel, entry, frame and key is in the state that its row asks for. -/
theorem linAndCyclicCommandsComplete : Obligations.LinAndCyclicCommandsComplete := by
  unfold Obligations.LinAndCyclicCommandsComplete
  refine ⟨?response, ?header, ?silence, ?wake, ?release, ?data, ?unpack, ?pack, ?key⟩
  case response => exact fun _ _ _ _ _ _ _ => execLinResponseReceive_of_good
  case header => exact fun _ _ _ _ _ _ _ => execLinHeaderReceive_of_responder
  case silence => exact fun _ _ hon hsent => if_pos ⟨hon, hsent⟩
  case wake => exact fun _ _ _ => execLinSendWake_of_admits
  case release => exact fun _ _ _ _ _ _ => execCyclicRelease_of_send
  case data => exact fun _ _ _ _ => execCycDataWrite_of_accepted
  case unpack => exact fun _ _ _ => execAcfUnpack_of_head
  case pack => exact fun _ _ _ => execAcfMaxWaitExpire_of_late
  case key => exact fun _ _ _ _ => execGwKeyLoad_of_service

end Sys2Proof.Machine
end

section
/-! The charging inlet: the control pilot, the temperatures, the contactor drivers and the totaliser (R422 to R435). -/
namespace Sys2Proof.Machine

/-! ## Control pilot and proximity -/

/-- A state of the control pilot that lasted 3 ms and lies outside the one held is accepted with its pulse (R422). -/
theorem execCpStateChange_of_qualified {level : Int} {count n : Nat} {s : State} (hon : s.inletOn = true)
    (hn : n = pilotClass level (bitOf (s.get Reg.cpStatus) 0)) (hcount : 3000 ≤ count) (hnew : n ≠ s.get Reg.cpState)
    (hleft : pilotHeld (s.get Reg.cpState) level (bitOf (s.get Reg.cpStatus) 0) = false) :
    execCpStateChange level count s = .next (((s.set Reg.cpState n).pulse 0x11 0).cdSettle) := by
  subst hn
  have hqualified : if bitOf (s.get Reg.cpStatus) 0 = true then 3 ≤ count else 3000 ≤ count := by
    split
    · exact Nat.le_trans (by decide) hcount
    · exact hcount
  exact if_pos ⟨hon, hqualified, hnew, Bool.eq_false_iff.mp hleft⟩

/-- An oscillation of a permitted frequency is stored with its duty (R423). -/
theorem execCpPeriodMeasure_inBand {f d : Nat} {neg : Int} {s : State} (hon : s.inletOn = true) (hlow : 950 ≤ f) (hhigh : f ≤ 1050)
    (hneg : -10500 < neg) :
    execCpPeriodMeasure true f d neg s = .next (s.sets
      [(Reg.cpStatus, setBit (setBit (setBit (s.get Reg.cpStatus) 0 true) 1 false) 2 true), (Reg.cpFrequency, f),
        (Reg.cpDuty, min d 2000)]) := by
  have hwidth : f % 65536 = f := Nat.mod_eq_of_lt (by omega)
  simp [execCpPeriodMeasure, hon, hlow, hhigh, hneg, hwidth]

/-- The switch S2 takes an accepted write (R426, R484). -/
theorem execCpS2Write_of_accepted {ctx : Ctx} {value : Nat} {s : State} (h : s.admits ctx 0x2D00 5 false = true) (hvalue : value ≤ 1)
    (hinlet : s.fuses.variant.hasInlet = true) (haccepts : s.claimAccepts ctx (s.get (Reg.outGroup 20)) = true) :
    execCpS2Write ctx value s =
      .next (((State.twinChange s ((s.set Reg.cpS2 value).outputWrite 20 value)).changed).done ctx) := by
  rw [execCpS2Write, hinlet]
  exact congrArg Host.Outcome.next (s.rwWrite_admits ctx _ _ false _ _ h (by simp [hvalue, haccepts]))

/-! ## Inlet temperatures -/

/-- An inlet temperature that trips is reported, and opens the drivers that it is to open (R427). -/
def State.inletTrips (s : State) (t : Nat) : State :=
  let w := (s.reportObj 11 13 (0x2D04 + t) 0x03 t).pulse 0x12 t
  if w.get (Reg.tinTripOpen t) = 1 then [0, 1, 2, 3].foldl (fun w k => if w.get (Reg.cdRole k) = 1 then w.cdOpen k else w) w else w

/-- A temperature stored, with whether it reaches its trip limit (R427). -/
def State.inletStores (s : State) (t : Nat) (v : Int) : State :=
  (s.set (Reg.tinTemp t) (ofSigned 16 v)).set (Reg.tinTripped t) (flag (toSigned 16 (s.get (Reg.tinTripLimit t)) ≤ v))

/-- A temperature taken: it is stored, and trips when it reaches its limit for the first time since it lay below (R427). -/
def State.inletTakes (s : State) (t : Nat) (v : Int) : State :=
  if toSigned 16 (s.get (Reg.tinTripLimit t)) ≤ v ∧ s.get (Reg.tinTripped t) = 0 then (s.inletStores t v).inletTrips t
  else s.inletStores t v

/-- An open input stores no temperature and trips nothing (R427). -/
theorem execInletTempSample_open {t : Nat} {s : State} (ht : t < 4) (hon : s.inletOn = true) :
    execInletTempSample t none s = .next ((s.set (Reg.tinTemp t) (ofSigned 16 (-32768))).set (Reg.tinTripped t) 0) := by
  rw [execInletTempSample, if_pos ⟨ht, hon⟩]
  rfl

/-- A resistance is converted by the beta equation, or to a free value without resistance or constants, and is taken (R427). -/
theorem execInletTempSample_some {t o : Nat} {s : State} (ht : t < 4) (hon : s.inletOn = true) :
    execInletTempSample t (some o) s =
      .next (if o = 0 ∨ s.get (Reg.tinNominal t) = 0 ∨ s.get (Reg.tinBeta t) = 0 then
          (s.draw 16).2.inletTakes t (toSigned 16 (s.draw 16).1)
        else s.inletTakes t (betaTemp o (s.get (Reg.tinNominal t)) (s.get (Reg.tinBeta t)))) := by
  have hlimit (u : State) (v : Nat) : (u.set (Reg.tinTemp t) v).get (Reg.tinTripLimit t) = u.get (Reg.tinTripLimit t) :=
    u.get_set_of_ne _ _ v (by simp)
  have hwas (u : State) (v : Nat) : (u.set (Reg.tinTemp t) v).get (Reg.tinTripped t) = u.get (Reg.tinTripped t) :=
    u.get_set_of_ne _ _ v (by simp)
  rw [execInletTempSample, if_pos ⟨ht, hon⟩]
  dsimp only
  split
  all_goals
    simp only [hlimit, hwas, Option.isSome_some, Bool.true_and, decide_eq_true_eq, State.inletTakes]
    split <;> rfl

/-! ## Contactor drivers -/

/-- A contactor driver takes an accepted write (R428, R429, R484). -/
theorem execCdCommand_of_accepted {ctx : Ctx} {k value : Nat} {s : State} (h : s.admits ctx (0x2D10 + k) 1 false = true) (hk : k < 4)
    (hvalue : value ≤ 1) (hinlet : s.fuses.variant.hasInlet = true)
    (haccepts : s.claimAccepts ctx (s.get (Reg.outGroup (16 + k))) = true) :
    execCdCommand ctx k value s =
      .next (((State.twinChange s ((s.set (Reg.cdCommand k) value).outputWrite (16 + k) value)).changed).done ctx) := by
  rw [execCdCommand, hinlet, decide_eq_true hk]
  exact congrArg Host.Outcome.next (s.rwWrite_admits ctx _ _ false _ _ h (by simp [hvalue, haccepts]))

/-- A cleared fault leaves its driver open (R431). -/
theorem execCdClearFault_of_fault {ctx : Ctx} {k : Nat} {s : State} (h : s.admits ctx (0x2D10 + k) 8 false = true) (hk : k < 4)
    (hinlet : s.fuses.variant.hasInlet = true) (hfault : s.get (Reg.cdState k) = 3) :
    execCdClearFault ctx k 1 s =
      .next (((s.set (Reg.cdFaults k) (setBit (s.get (Reg.cdFaults k)) 1 false)).set (Reg.cdState k) 0).done ctx) := by
  have hstill (v : Nat) : (s.set (Reg.cdFaults k) v).get (Reg.cdState k) = 3 := (s.get_set_of_ne _ _ v (by simp)).trans hfault
  rw [execCdClearFault, hinlet, decide_eq_true hk, Bool.true_and, s.cmdWrite_admits ctx _ _ false _ _ h rfl]
  dsimp only
  rw [if_pos (hstill _)]

/-! ## The totaliser -/

/-- A sample message that a channel takes reaches the totaliser with its stamp (R434, R435). -/
theorem execTotaliserSample_of_sample {ch : Nat} {m : BusHeard} {s t : State} {stamp : List Nat} (htakes : s.canTakes ch m.msg = true)
    (hsample : s.isSample ch m.msg = true) (hstamp : s.busStamp m.age = (stamp, t)) :
    execTotaliserSample ch m s = .next (t.sampleMessage m.msg stamp) := by
  rw [execTotaliserSample, htakes, hsample, hstamp]
  rfl

/-- Settles O24: each value measured is in the range that its row asks for, each write is accepted, and each driver is in the state
that its event ends. -/
theorem inletCommandsComplete : Obligations.InletCommandsComplete := by
  unfold Obligations.InletCommandsComplete
  refine ⟨?pilot, ?proximity, ?poll, ?period, ?openInput, ?temp, ?freeTemp, ?s2, ?command, ?ramp, ?overcurrent, ?openLoad, ?clear, ?sample⟩
  case pilot => exact fun _ _ _ _ => execCpStateChange_of_qualified
  case proximity =>
    intro ohms s hrun hinlet
    rw [exec_ppMeasure, execPpMeasure, hinlet, hrun]
    rfl
  case poll => exact fun _ _ _ => rfl
  case period =>
    intro f d neg s hon hlow hhigh hneg
    exact ⟨_, execCpPeriodMeasure_inBand hon hlow hhigh hneg, by simp [State.get_set], by simp, by simp [State.get_set]⟩
  case openInput => exact fun _ _ => execInletTempSample_open
  case temp =>
    rintro t o s v u ht hon ho hnominal hbeta rfl rfl
    exact (execInletTempSample_some ht hon).trans (congrArg Host.Outcome.next (if_neg (by simp [ho, hnominal, hbeta])))
  case freeTemp =>
    rintro t o s v u ht hon hfree rfl rfl
    exact (execInletTempSample_some ht hon).trans (congrArg Host.Outcome.next (if_pos hfree))
  case s2 => exact fun _ _ _ => execCpS2Write_of_accepted
  case command => exact fun _ _ _ _ => execCdCommand_of_accepted
  case ramp => exact fun _ _ hk hopening hpassed => if_pos ⟨hk, hopening, hpassed⟩
  case overcurrent => exact fun _ _ _ hk hon hcurrent => if_pos ⟨hk, hon, hcurrent⟩
  case openLoad => exact fun _ _ _ _ hk hon hcurrent hlasted => if_pos ⟨hk, .inl hon, hcurrent, hlasted⟩
  case clear => exact fun _ _ _ => execCdClearFault_of_fault
  case sample => exact fun _ _ _ _ _ => execTotaliserSample_of_sample

end Sys2Proof.Machine
end

section
/-! The Meter Seal: its sessions, countersignatures, closure, acknowledgements and exports (R438 to R448). -/
namespace Sys2Proof.Machine

/-! ## Sessions -/

/-- The session that the inputs of a path context open (R438). -/
def State.newSession (s : State) (ctx : Ctx) : Session :=
  { number := (s.get Reg.msSessionNumber + 1) % 2 ^ 32, slot := s.get (Reg.msContractSlot.of ctx), path := s.get (Reg.msPath.of ctx),
    fingerprint := padTo 32 (s.blob (Reg.msCertFingerprint.of ctx)), alg := ((s.contractKey ctx).map (·.alg)).getD 0,
    openReading := s.get (Reg.msPostReadingWh.of ctx), openImport := s.get Reg.totImportMwh,
    lastReading := s.get (Reg.msPostReadingWh.of ctx), meter := s.blob (Reg.msPostMeterId.of ctx) }

/-- An open command whose checks pass opens the session of its inputs with a record (R438, R445). -/
theorem execSessionOpen_of_checks {ctx : Ctx} {s : State} (h : s.admits ctx 0x2D30 1 false = true)
    (hinlet : s.fuses.variant.hasInlet = true) (hb : s.get (Reg.msOutcome.of ctx) ≠ outBusy)
    (hchecks : firstAbort (s.sessionChecks ctx 1) = none) (h2 : s.get Reg.vltState ≠ 2) (hdrbg : s.get Reg.drbgStopped ≠ 1) :
    ∃ r b, execSessionOpen ctx s =
      .next (((({ s with sessions := s.sessions ++ [s.newSession ctx] } : State).sealAppend r b).sets
        [(Reg.msSessionNumber, (s.newSession ctx).number), (Reg.msSessionState, 1), (Reg.msOutcome.of ctx, outDone)]).done ctx) :=
  ⟨_, _, congrArg Host.Outcome.next (s.sessionCommand_admits ctx 1 _ h hinlet hb hchecks h2 hdrbg)⟩

/-- A countersign command whose checks pass asks the vault for a countersignature of the context's inputs (R439). -/
theorem execCountersign_of_checks {ctx : Ctx} {s : State} {x : Session} (h : s.admits ctx 0x2D30 1 false = true)
    (hinlet : s.fuses.variant.hasInlet = true) (hb : s.get (Reg.msOutcome.of ctx) ≠ outBusy)
    (hchecks : firstAbort (s.sessionChecks ctx 2) = none) (h2 : s.get Reg.vltState ≠ 2) (hdrbg : s.get Reg.drbgStopped ≠ 1)
    (hx : s.session = some x) :
    ∃ l j, execCountersign ctx s = .next ((({ s with sessions := l } : State).vaultSubmit (.countersign j)).done ctx) ∧
      j.ctx = ctx ∧ j.session = x.number ∧ j.slot = 1016 + s.get (Reg.msContractSlot.of ctx) ∧
      j.reading = s.get (Reg.msPostReadingWh.of ctx) := by
  refine ⟨?sessions, ?job, ?exec, ?inputs⟩
  case exec =>
    rw [execCountersign, s.sessionCommand_admits ctx 2 _ h hinlet hb hchecks h2 hdrbg]
    simp only [hx]
    rfl
  case inputs => exact ⟨rfl, rfl, rfl, rfl⟩

/-- A countersignature under an Ed448 key is made after its record and released with its pulse (R439). -/
theorem execCountersignDone_of_written {s t u v : State} {j : SealJob} {k : VaultSlot} {sig : List Byte}
    (hruns : s.vaultRunning = some (.countersign j)) (hstop : s.countersignStop = none)
    (ht : t = s.sealWrite { seq := 0, kind := 3, session := j.session, flags := j.flags, reading := j.reading, postTime := j.postTime,
                            bytes := [] } j.time j.qualifier j.payload)
    (hu : u = { t with sessions := t.sessions.map (fun y => if y.number = j.session then { y with readings := y.readings + 1 } else y) })
    (hkey : u.keyAt j.slot = some k) (halg : k.alg = 0x13) (hsig : sig = padTo 114 (Config.sign 0x13 k.key j.input []))
    (hv : v = (u.setBlob (Reg.msCountersignature.of j.ctx) (padTo 132 sig)).set (Reg.msCountersigLength.of j.ctx) sig.length) :
    execCountersignDone 0 s = .next (((v.vaultFinish (.countersign j) outDone).vaultIdle).pulse 0x13 0) := by
  rw [execCountersignDone]
  simp only [hruns, hstop, Nat.zero_min, State.sealAttempts, ← ht, ← hu, hkey, halg, ← hsig, ← hv, if_true]
  rfl

/-- A countersign ends with the code of what stops it before its record (R439, R441, R443). -/
theorem execCountersignDone_of_stopped {fails code : Nat} {s : State} {j : SealJob} (hruns : s.vaultRunning = some (.countersign j))
    (hstop : s.countersignStop = some code) :
    execCountersignDone fails s = .next ((s.vaultFinish (.countersign j) code).vaultIdle) := by
  simp only [execCountersignDone, hruns, hstop]

/-! ## Closure -/

/-- In Trim, under its confirmation, the closure of an open seal waits for a vault in service (R441). -/
theorem execSealClose_of_confirmed {ctx : Ctx} {s : State} (h : s.admits ctx 0x2D40 3 false = true)
    (hinlet : s.fuses.variant.hasInlet = true) (htrim : s.mode = .trim) (hopen : s.get Reg.msSealState = 0)
    (hconfirm : s.get Reg.msConfirm = s.fuses.serial % 2 ^ 32) (hgone : s.sealGone = false) (h2 : s.get Reg.vltState ≠ 2)
    (h3 : s.get Reg.vltState ≠ 3) :
    execSealClose ctx 1 s =
      .next (({ (s.set Reg.msSealState 1).set (Reg.msOutcome.of ctx) outBusy with
        vaultWaiting := s.vaultWaiting ++ [.sealClose ctx] } : State).done ctx) := by
  have hanswers : s.answers ctx = true := ((s.admits_iff ctx _ _ _).mp h).1
  have hvault : (s.set Reg.msSealState 1).get Reg.vltState = s.get Reg.vltState := s.get_set_of_ne _ _ _ (by decide)
  have hchecks : firstAbort (need (s.mode = .trim) 0x08000022 :: onlyOne 1) = none := by simp [htrim, onlyOne]
  rw [execSealClose, State.sealLock, if_neg (by simp [hanswers, hinlet]), if_neg (by simp [hopen]), if_neg (by simp [hopen]), hinlet,
    s.cmdWrite_admits ctx _ _ false _ _ h hchecks]
  dsimp only
  rw [if_neg (not_not_intro hconfirm), if_neg (Bool.eq_false_iff.mp hgone),
    State.vaultSubmit_waits _ (.sealClose ctx) (hvault ▸ h2) (hvault ▸ h3) nofun]
  rfl

/-- The vault makes the seal key, and the seal is closed with its genesis record (R441). -/
theorem execSealCloseDone_of_made {s t u v : State} {ctx : Ctx} {key : List Byte} (hruns : s.vaultRunning = some (.sealClose ctx))
    (hdrbg : s.get Reg.drbgStopped ≠ 1) (hmade : s.newKey 0x11 = (key, t))
    (hu : u = (t.placeKey { slot := 14, cls := 6, alg := 0x11, policy := 0x4080, generated := true, key := key,
                            pub := publicOf 0x11 key }).sets [(Reg.msSealState, 2), (Reg.msEventCounter, 1)])
    (hv : v = u.sealAppend { seq := 0, kind := 1, bytes := [] }
      (u.sealPublic ++ beBytes 2 u.fuses.variant.partCode ++ beBytes 4 (u.fuses.serial % 2 ^ 32))) :
    execSealCloseDone s = .next ((v.vaultFinish (.sealClose ctx) outDone).vaultIdle) := by
  simp only [execSealCloseDone, hruns, if_neg hdrbg, hmade, ← hu, ← hv]

/-! ## Acknowledgements and exports -/

/-- An acknowledgement raises `Ms.Acked`, up to the next sequence (R446). -/
theorem execMsAcknowledge_of_known {ctx : Ctx} {value : Nat} {s : State} (h : s.admits ctx 0x2D50 5 false = true)
    (hinlet : s.fuses.variant.hasInlet = true) (hknown : value ≤ s.get Reg.msNextSequence) (hwidth : value < 2 ^ 32) :
    execMsAcknowledge ctx value s = .next ((s.set Reg.msAcked (max value (s.get Reg.msAcked))).done ctx) := by
  have hfits : fits 4 value = none := need_of _ _ (decide_eq_true hwidth)
  rw [execMsAcknowledge, hinlet, s.cmdWrite_admits ctx _ _ false _ _ h (by simp [hfits, hknown])]

/-- The export of a session in the ring starts (R448). -/
theorem execMsExport_of_known {ctx : Ctx} {value : Nat} {s : State} (h : s.admits ctx 0x2D50 8 false = true)
    (hinlet : s.fuses.variant.hasInlet = true) (hb : s.get Reg.msExportOutcome ≠ outBusy) (hwidth : value < 2 ^ 32)
    (hgone : s.sealGone = false) (hknown : s.sealRecords.any (fun r => r.kind = 2 && r.session = value) = true) :
    execMsExport ctx value s = .next ((s.sets [(Reg.msExportOutcome, outBusy), (Reg.msExportSession, value)]).done ctx) := by
  have hfits : fits 4 value = none := need_of _ _ (decide_eq_true hwidth)
  rw [execMsExport, hinlet, s.cmdWrite_admits ctx _ _ false _ _ h (by simp [hfits, hb]), if_neg (Bool.eq_false_iff.mp hgone),
    if_neg (not_not_intro hknown)]

/-- An export under the seal key ends DONE with a string of at most 16,384 bytes (R448). -/
theorem execExportDone_of_key {s t : State} {k : VaultSlot} {n : List Byte} (hb : s.get Reg.msExportOutcome = outBusy)
    (hrun : s.running = true) (hkey : s.sealKey = some k) (hn : s.random 48 = (n, t)) :
    ∃ b, execExportDone s =
      .next ((t.setBlob Reg.msExport b).sets [(Reg.msExportOutcome, outDone), (Reg.msExportLength, b.length)]) ∧
      b.length ≤ 16384 := by
  refine ⟨?string, ?exec, ?length⟩
  case exec =>
    rw [execExportDone, if_pos ⟨hb, hrun⟩]
    simp only [hkey, hn]
    rfl
  case length => exact List.length_take_le _ _

/-- Settles O25: each command passes its checks, and what the vault carries out ends as its row says. -/
theorem sealCommandsComplete : Obligations.SealCommandsComplete := by
  unfold Obligations.SealCommandsComplete
  refine ⟨?openSession, ?countersign, ?signed, ?stopped, ?close, ?sealClose, ?sealed, ?acknowledge, ?startExport, ?exported⟩
  case openSession =>
    intro ctx s h hinlet hb hchecks h2 hdrbg
    obtain ⟨r, b, hexec⟩ := execSessionOpen_of_checks h hinlet hb hchecks h2 hdrbg
    refine ⟨_, s.newSession ctx, hexec, ?_, rfl, rfl, rfl, ?_, ?_, ?_⟩
    · rw [State.sets_sessions, State.sealAppend_sessions]
    all_goals simp [State.get_set]
  case countersign =>
    intro ctx s x h hinlet hb hchecks h2 hdrbg hx h3
    obtain ⟨l, j, hexec, rfl, hsession, hslot, hreading⟩ := execCountersign_of_checks h hinlet hb hchecks h2 hdrbg hx
    have hwaits := State.vaultSubmit_waits ({ s with sessions := l } : State) (.countersign j) h2 h3 nofun
    rw [hwaits] at hexec
    exact ⟨_, j, hexec, rfl, rfl, hsession, hslot, hreading, ({ s with sessions := l } : State).get_set_self (Reg.msOutcome.of j.ctx) outBusy⟩
  case signed => exact fun _ _ _ _ _ _ _ => execCountersignDone_of_written
  case stopped => exact fun _ _ _ _ => execCountersignDone_of_stopped
  case close =>
    exact fun ctx s h hinlet hb hchecks h2 hdrbg =>
      congrArg Host.Outcome.next (s.sessionCommand_admits ctx 3 _ h hinlet hb hchecks h2 hdrbg)
  case sealClose => exact fun _ _ => execSealClose_of_confirmed
  case sealed => exact fun _ _ _ _ _ _ => execSealCloseDone_of_made
  case acknowledge => exact fun _ _ _ => execMsAcknowledge_of_known
  case startExport => exact fun _ _ _ => execMsExport_of_known
  case exported =>
    intro s k t n hb hrun hkey hn
    obtain ⟨b, hexec, hlength⟩ := execExportDone_of_key hb hrun hkey hn
    exact ⟨b, _, hexec, rfl, hlength⟩

end Sys2Proof.Machine
end

section
/-! Supply, modes and wake: samples of VBAT, the throttle, sleeps and wakes, requests and transitions, and saves of the configuration
(R452 to R476, R516). -/
namespace Sys2Proof.Machine

/-! ## Samples of VBAT -/

/-- Writes of a family of registers leave every other register alone. -/
theorem State.get_foldl_set_of_ne {α : Type} {f : α → Reg} {g : State → α → Nat} {q : Reg} (h : ∀ a, q ≠ f a) (l : List α) (s : State) :
    (l.foldl (fun s a => s.set (f a) (g s a)) s).get q = s.get q := by
  induction l generalizing s with
  | nil => rfl
  | cons a l ih => exact (ih _).trans (s.get_set_of_ne _ q _ (h a))

/-- The instants since which a mean of VBAT lies beyond the thresholds of the throttle (R474). -/
def State.thresholdsTimed (s : State) (m : Nat) : State :=
  [5, 6, 7, 8].foldl (fun s k => s.set (Reg.thrUpSince k) (since s (m > upAbove k) (s.get (Reg.thrUpSince k))))
    ([4, 5, 6, 7].foldl (fun s k => s.set (Reg.thrDownSince k) (since s (m < downBelow k) (s.get (Reg.thrDownSince k)))) s)

/-- The thresholds of the throttle are timed in registers of their own. -/
theorem State.get_thresholdsTimed (s : State) (m : Nat) {q : Reg} (hup : ∀ k, q ≠ Reg.thrUpSince k) (hdown : ∀ k, q ≠ Reg.thrDownSince k) :
    (s.thresholdsTimed m).get q = s.get q :=
  (State.get_foldl_set_of_ne hup _ _).trans (State.get_foldl_set_of_ne hdown _ _)

/-- A mean that is no overvoltage updates the extremes and the held conditions (R452 to R454). -/
theorem execVbatSample_below {mv m : Nat} {s : State} (hstart : s.starting = false) (hmode : s.mode ≠ .dormant) (hm : m = s.vbatMean mv)
    (hlow : m ≤ 42500) :
    execVbatSample mv s = .next ((s.sets [(Reg.vbatSample 2, s.get (Reg.vbatSample 1)), (Reg.vbatSample 1, s.get (Reg.vbatSample 0)),
      (Reg.vbatSample 0, mv), (Reg.vbatSamples, min 4 (s.get Reg.vbatSamples + 1)), (Reg.supVbat, m),
      (Reg.supVbatMin, min m (s.get Reg.supVbatMin)), (Reg.supVbatMax, max m (s.get Reg.supVbatMax)),
      (Reg.ovSince, since s (m > 42500) (s.get Reg.ovSince)), (Reg.ovClearSince, since s (m < 40000) (s.get Reg.ovClearSince)),
      (Reg.crankSince, since s (m < 4200) (s.get Reg.crankSince)),
      (Reg.crankClearSince, since s (m > 5000) (s.get Reg.crankClearSince))]).thresholdsTimed m) := by
  have hrise : (decide (m > 42500) && decide (s.get Reg.ovSince = 0)) = false := by simp [hlow]
  rw [execVbatSample, if_neg (by simp [hstart, hmode]), ← hm]
  dsimp only
  rw [hrise]
  rfl

/-! ## Throttle, droops, sleeps and recoveries -/

/-- A site below the set point less the margin is found by its droop detector (R476). -/
theorem State.droopSites_ne_zero {levels : List Nat} {s : State} {k : Nat} (hk : k < 16)
    (hlow : levels.getD k s.fuses.coreSetpoint + s.get Reg.thrDroopMargin.latched < s.fuses.coreSetpoint) :
    s.droopSites levels ≠ 0 := fun h => by
  have hbit := (droopSites_bit levels s k hk).mpr hlow
  rw [h, bitOf, Nat.zero_div] at hbit
  exact absurd hbit (by decide)

/-- A fault of VPRE at a sufficient VBAT is reported and enters Ember (R516). -/
theorem execSupplyFault_of_vpre {s : State} (hrun : s.running = true) (hvbat : 4500 ≤ s.get Reg.supVbat) :
    execSupplyFault 0 s =
      .next (((s.reportObj 5 11 0x2120 0x05 0).crankInto 5 3).sets
        [(Reg.vpreFaultAt, ((s.reportObj 5 11 0x2120 0x05 0).crankInto 5 3).now), (Reg.vpreFails, 0)]) := by
  rw [execSupplyFault, if_neg (by simp [hrun, hvbat]), if_pos rfl]

/-- A successful retry after a fault of VPRE wakes the device (R516). -/
theorem execVpreRetry_of_good {env : StartEnv} {s : State} (hstart : s.starting = false) (hmode : s.mode = .ember)
    (hentry : s.get Reg.crankEntry = 3) (hfails : s.get Reg.vpreFails < 3) (hlate : s.get Reg.vpreFaultAt + 10 * ms ≤ s.now) :
    execVpreRetry false env s = .next (s.wake 7 0 env) := by
  rw [execVpreRetry, if_pos ⟨by simp [hstart], hmode, hentry, hfails, hlate⟩, if_neg (by decide)]

/-- Settles O26: each sample, threshold and recovery is due, in the mode that its row asks for. -/
theorem supplyEventsComplete : Obligations.SupplyEventsComplete := by
  unfold Obligations.SupplyEventsComplete
  refine ⟨?sample, ?overvoltage, ?overvoltageOver, ?crank, ?crankOver, ?down, ?up, ?droop, ?fault, ?retry⟩
  case sample =>
    intro mv s m hstart hmode hm hlow
    refine ⟨_, execVbatSample_below hstart hmode hm hlow, ?_, ?_, ?_, ?_, ?_⟩
    all_goals
      rw [State.get_thresholdsTimed _ _ (by simp) (by simp)]
      simp [State.get_set]
  case overvoltage => exact fun _ hrun hheld => if_pos ⟨hrun, hheld⟩
  case overvoltageOver => exact fun _ _ hstart hmode hentry hheld => if_pos ⟨by simp [hstart], hmode, hentry, hheld⟩
  case crank => exact fun _ _ hrun hheld => if_pos ⟨hrun, hheld⟩
  case crankOver => exact fun _ _ hstart hmode hentry hheld => if_pos ⟨by simp [hstart], hmode, hentry, hheld⟩
  case down => exact fun _ hrun hstep hheld hlate => if_pos ⟨hrun, hstep, hheld, hlate⟩
  case up => exact fun _ hrun hstep hheld => if_pos ⟨hrun, hstep, hheld⟩
  case droop =>
    exact fun levels s k hrun hk hlow =>
      ⟨s.droopSites levels, fun j => droopSites_bit levels s j, if_pos ⟨hrun, State.droopSites_ne_zero hk hlow⟩⟩
  case fault => exact fun _ => execSupplyFault_of_vpre
  case retry => exact fun _ _ => execVpreRetry_of_good

/-! ## Transitions and wakes -/

/-- A transition between Flame, Glow and Trim completes with DONE in its mode (R458, R461, R462). -/
theorem execModeTransitionDone_of_switch {env : StartEnv} {s : State} {m : Mode} (hrun : s.running = true)
    (htarget : 2 < s.get Reg.pwrTarget) (hm : m = Mode.ofCode (s.get Reg.pwrTarget - 1)) :
    execModeTransitionDone env s = .next (((s.set Reg.pwrOutcome outDone).set Reg.pwrTarget 0).switchMode m) := by
  rw [execModeTransitionDone]
  dsimp only
  rw [if_neg (by omega), if_neg (not_not_intro hrun), if_neg (by omega), ← hm]

/-- In Ember the enabled source of the lowest code wakes the device (R471). -/
theorem execWakeEvent_of_ember {sources : List WakeSource} {env : StartEnv} {s : State} {src info : Nat} (hstart : s.starting = false)
    (hmode : s.mode = .ember) (hsource : lowestSource ((sources.filter (s.wakeEnabled true)).map wakeCode) = some (src, info)) :
    execWakeEvent sources env s = .next (s.wake src info env) := by
  simp [execWakeEvent, State.wakeFire, hstart, hmode, hsource]

/-! ## Saves and the remainder of an image -/

/-- A save of a running device builds the image of the older slot (R466). -/
theorem execCfgSave_of_idle {ctx : Ctx} {s : State} (h : s.admits ctx 0x2140 1 false = true) (hb : s.get Reg.cfgOutcome ≠ outBusy)
    (hrun : s.running = true) :
    execCfgSave ctx 1 s =
      .next ((({ s with images := s.images.filter (fun i => i.slot ≠ s.olderSlot),
                        saving := some (s.imageNow s.olderSlot ((s.images.map (·.seq)).foldl max 0 + 1) s.configFormat) } : State).sets
        [(Reg.cfgOutcome, outBusy), (Reg.cfgSaving, 1)]).done ctx) := by
  have hchecks : firstAbort (need (s.get Reg.cfgOutcome ≠ outBusy && s.running) 0x08000022 :: onlyOne 1) = none := by
    simp [hb, hrun, onlyOne]
  rw [execCfgSave, s.cmdWrite_admits ctx _ _ false _ _ h hchecks]

/-- A save whose image fits its slot and its critical section ends DONE (R466). -/
theorem execCfgSaveDone_of_fit {s : State} {img : CfgImage} (hsaving : s.saving = some img) (hrun : s.running = true)
    (hsize : img.bytes ≤ 3355440) (hcritical : img.critBytes ≤ 98240) :
    execCfgSaveDone s = .next (({ s with images := s.images ++ [img] } : State).endSave outDone) := by
  simp only [execCfgSaveDone, hsaving]
  rw [if_neg (not_not_intro hrun), if_neg (Nat.not_lt.mpr hsize), if_neg (Nat.not_lt.mpr hcritical)]

/-- The remainder of an image that reads well is applied (R469, R472). -/
theorem execCfgRemainderApplied_of_good {s : State} {img : CfgImage} (hstreaming : s.streaming = some img) (hrun : s.running = true) :
    execCfgRemainderApplied [] s =
      .next ((((({ (s.streamed [] img).1 with streaming := none } : State).applySection false (s.streamed [] img).2).settle').set
        Reg.cfgLoadState 0)) := by
  simp only [execCfgRemainderApplied, hstreaming, hrun, if_true]

/-- Settles O27: each request meets its conditions, and each transition, limit and source is due. -/
theorem modeRequestsAndWakesComplete : Obligations.ModeRequestsAndWakesComplete := by
  unfold Obligations.ModeRequestsAndWakesComplete
  refine ⟨?dormant, ?ember, ?glow, ?flame, ?trim, ?transition, ?limit, ?alarm, ?wake, ?save, ?saved, ?remainder⟩
  case dormant => exact fun ctx pins s h hb hm hr => congrArg Host.Outcome.next (s.pwrRequest_admits ctx 0 pins h hb hm hr)
  case ember =>
    intro ctx pins s h hb hm hr
    rw [exec_pwrRequestEmber, execPwrRequestEmber, s.pwrRequest_admits ctx 1 pins h hb hm hr]
    dsimp only
    rw [if_pos rfl]
  case glow => exact fun ctx s h hb hm hr => congrArg Host.Outcome.next (s.pwrRequest_admits ctx 2 0 h hb hm hr)
  case flame => exact fun ctx s h hb hm hr => congrArg Host.Outcome.next (s.pwrRequest_admits ctx 3 0 h hb hm hr)
  case trim => exact fun ctx s h hb hm hr => congrArg Host.Outcome.next (s.pwrRequest_admits ctx 4 0 h hb hm hr)
  case transition => exact fun _ _ _ => execModeTransitionDone_of_switch
  case limit => exact fun _ hstart hmode hlimit hheld => if_pos ⟨by simp [hstart], hmode, hlimit, hheld⟩
  case alarm => exact fun _ _ hstart hmode halarm hheld => if_pos ⟨by simp [hstart], hmode, halarm, hheld⟩
  case wake => exact fun _ _ _ _ _ hstart hmode _ hsource _ => execWakeEvent_of_ember hstart hmode hsource
  case save => exact fun _ _ => execCfgSave_of_idle
  case saved => exact fun _ _ => execCfgSaveDone_of_fit
  case remainder => exact fun _ _ => execCfgRemainderApplied_of_good

end Sys2Proof.Machine
end

section
/-! Heartbeats, claims, outputs and the twin (R484 to R498). -/
namespace Sys2Proof.Machine

/-! ## Heartbeats, claims and outputs -/

/-- A heartbeat of a living cluster through the mailbox is timed (R493). -/
theorem execHbBeat_of_mailbox {ctx : Ctx} {value c : Nat} {s : State} (h : s.admits ctx 0x2E00 1 true = true) (hc : clusterOf ctx = some c)
    (hvalue : value < 2 ^ 32) (hrestart : s.get (Reg.clusterRestart c) = 0) (hember : s.get Reg.pwrTarget ≠ 2)
    (hup : s.get Reg.chmState = 1) (halive : s.get (Reg.hbState c) = 1) :
    execHbBeat ctx value true false s = .next ((s.set (Reg.hbMailAt c) (s.now + 1)).done ctx) := by
  have hfits : fits 4 value = none := need_of _ _ (decide_eq_true hvalue)
  rw [execHbBeat, s.cmdWrite_admits ctx _ _ true _ _ h (by simp [hc, hfits])]
  simp only [hc, Option.getD_some]
  rw [if_neg (by simp [hrestart, hember]), if_neg (by simp [halive])]
  simp [hup]

/-- A claim of a cluster is set, and the owners of the groups are decided (R485, R487). -/
theorem execCgClaim_of_cluster {ctx : Ctx} {g value c : Nat} {s : State} (h : s.admits ctx (0x2E10 + g) 3 true = true) (hg : g < 16)
    (hc : clusterOf ctx = some c) (hvalue : value < 256) :
    execCgClaim ctx g value s =
      .next (((State.twinChange s ((if s.alive c then (s.set ((Reg.cgClaim g).of ctx) value).set
          (if c = 0 then Reg.cgClaimA g else Reg.cgClaimB g) value
        else s.set ((Reg.cgClaim g).of ctx) value).decideOwners)).changed).done ctx) := by
  have hfits : fits 1 value = none := need_of _ _ (decide_eq_true hvalue)
  rw [execCgClaim, decide_eq_true hg, s.rwWrite_admits ctx _ _ true _ _ h (by simp [hc, hfits])]
  simp only [hc, Option.getD_some]

/-- An output takes the level of an admitted writer (R484, R488). -/
theorem execOutCommand_of_accepted {ctx : Ctx} {o value : Nat} {s : State} (h : s.admits ctx (0x2E40 + o) 1 true = true) (ho : o < 16)
    (hvalue : value ≤ 1) (haccepts : s.claimAccepts ctx (s.get (Reg.outGroup o)) = true) :
    execOutCommand ctx o value s =
      .next (((State.twinChange s ((s.set (Reg.outCommand o) value).outputWrite o value)).changed).done ctx) := by
  rw [execOutCommand, decide_eq_true ho]
  exact congrArg Host.Outcome.next (s.rwWrite_admits ctx _ _ true _ _ h (by simp [hvalue, haccepts]))

/-! ## The twin -/

/-- A frame is sent on the claim link every 250 µs (R496). -/
theorem execTwinFramePeriodic_of_due {s : State} (hlink : s.claimLink = true)
    (hdue : s.get Reg.twSentAt = 0 ∨ s.get Reg.twSentAt - 1 + 250 * us ≤ s.now) (hmode : s.mode ≠ .snuffed) :
    execTwinFramePeriodic s = .next ((s.set Reg.twSentAt (s.now + 1)).sendTwin 1) := by
  rw [execTwinFramePeriodic, if_pos ⟨hlink, hdue⟩, if_neg hmode]

/-- A valid frame of the claim link is applied (R497). -/
theorem execTwinFrameReceive_of_valid {bytes p : List Byte} {s : State} (hheard : s.claimHeard = true)
    (hvalid : s.twinValid false bytes = some p) :
    execTwinFrameReceive false bytes s = .next (State.twinChange s (((s.twinApply false p).decideOwners).twinMarks p)) := by
  rw [execTwinFrameReceive]
  dsimp only
  rw [if_neg (not_not_intro hheard), if_neg (by decide)]
  simp only [hvalid]

/-- Settles O29: each writer is admitted, each monitor is over, and the frame is valid. -/
theorem claimsAndTwinComplete : Obligations.ClaimsAndTwinComplete := by
  unfold Obligations.ClaimsAndTwinComplete
  refine ⟨?beat, ?lost, ?claim, ?output, ?hold, ?send, ?receive, ?silent, ?path, ?twinPath⟩
  case beat => exact fun _ _ _ _ => execHbBeat_of_mailbox
  case lost => exact fun _ _ hc hrun halive hover => if_pos ⟨hc, hrun, halive, hover⟩
  case claim => exact fun _ _ _ _ _ => execCgClaim_of_cluster
  case output => exact fun _ _ _ _ => execOutCommand_of_accepted
  case hold => exact fun _ _ hg hmode hstate hover => if_pos ⟨hg, hmode, hstate, hover⟩
  case send => exact fun _ => execTwinFramePeriodic_of_due
  case receive => exact fun _ _ _ => execTwinFrameReceive_of_valid
  case silent => exact fun _ hlink hstate hover => if_pos ⟨hlink, hstate, hover⟩
  case path =>
    exact fun _ _ hc hrun halive hbit hown hother =>
      if_pos ⟨hc, hrun, halive, Bool.eq_false_iff.mp hbit, hown, Bool.eq_false_iff.mp hother⟩
  case twinPath =>
    exact fun _ hlink hstate hbit hown hother =>
      if_pos ⟨hlink, hstate, Bool.eq_false_iff.mp hbit, hown, Bool.eq_false_iff.mp hother⟩

end Sys2Proof.Machine
end

section
/-! Starts, resets and restarts (R512 to R523), and the error logs (R506 to R521). -/
namespace Sys2Proof.Machine

/-! ## Resets and restarts -/

/-- A command reset under its confirmation asserts cause 3 (R514, R523). -/
theorem execRstDevice_of_confirmed {ctx : Ctx} {s : State} (h : s.admits ctx 0x3180 2 true = true) (hb : s.get Reg.rstOutcome ≠ outBusy)
    (hconfirm : s.get Reg.rstConfirm = s.fuses.serial % 2 ^ 32) :
    execRstDevice ctx s = .next ((((s.set Reg.rstConfirm 0).set Reg.rstOutcome outDone).assertReset 3).done ctx) := by
  rw [execRstDevice, s.rstCommand_admits ctx _ h hb, decide_eq_true hconfirm, if_pos rfl]

/-- A snuff reset under its confirmation in Snuffed asserts cause 4 (R512, R523). -/
theorem execRstSnuff_of_confirmed {ctx : Ctx} {s : State} (h : s.admits ctx 0x3180 2 true = true) (hb : s.get Reg.rstOutcome ≠ outBusy)
    (hconfirm : s.get Reg.rstConfirm = s.fuses.serial % 2 ^ 32) (hmode : s.mode = .snuffed) :
    execRstSnuff ctx s = .next ((((s.set Reg.rstConfirm 0).set Reg.rstOutcome outDone).assertReset 4).done ctx) := by
  have hmode' : ¬ (s.set Reg.rstConfirm 0).mode ≠ .snuffed := not_not_intro hmode
  rw [execRstSnuff, s.rstCommand_admits ctx _ h hb, decide_eq_true hconfirm, if_neg (by decide), if_neg hmode']

/-- Outside Snuffed a cluster that is not alive restarts (R517, R523). -/
theorem State.rstRestart_of_dead {ctx : Ctx} {c : Nat} {s : State} (h : s.admits ctx 0x3180 2 true = true)
    (hb : s.get Reg.rstOutcome ≠ outBusy) (hmode : s.mode ≠ .snuffed) (hdead : s.alive c = false) :
    s.rstRestart ctx c =
      ((((s.set Reg.rstConfirm 0).sets [(Reg.rstOutcome, outBusy), (Reg.rstRestarting, c + 1)]).restartCluster c)).done ctx := by
  have hmode' : ¬ (s.set Reg.rstConfirm 0).mode = .snuffed := hmode
  have hdead' : (s.set Reg.rstConfirm 0).alive c = false := by
    rw [← hdead, State.alive, State.alive, s.get_set_of_ne _ _ 0 (by split <;> decide)]
  rw [State.rstRestart, s.rstCommand_admits ctx _ h hb, if_neg hmode', if_neg (by simp [hdead'])]

/-- A cluster whose restart ends well is present again, and a commanded restart ends DONE (R517). -/
theorem execClusterRestartDone_of_good {c : Nat} {s : State} (hrun : s.running = true) (hc : c < 2)
    (hrestarts : s.get (Reg.clusterRestart c) ≠ 0) (hcommanded : s.get Reg.rstRestarting = c + 1) :
    execClusterRestartDone c true s =
      .next ((s.sets [(Reg.clusterRestart c, 0), (Reg.clusterTest c, 0)]).sets [(Reg.rstRestarting, 0), (Reg.rstOutcome, outDone)]) := by
  have hcommanded' : (s.sets [(Reg.clusterRestart c, 0), (Reg.clusterTest c, 0)]).get Reg.rstRestarting = c + 1 :=
    (s.get_sets_of_not_mem _ _ (by simp)).trans hcommanded
  have hgood : ¬ (s.get (Reg.clusterTest c) = 1 ∧ true = false) := fun h => absurd h.2 (by decide)
  rw [execClusterRestartDone, if_pos ⟨hrun, hc, hrestarts⟩]
  simp only [if_pos hcommanded', if_neg hgood]

/-- Settles O28: each reset, restart and start is due, and each command is admitted under its confirmation. -/
theorem startsAndResetsComplete : Obligations.StartsAndResetsComplete := by
  unfold Obligations.StartsAndResetsComplete
  refine ⟨?start, ?snuffRestart, ?snuffClear, ?powerOn, ?external, ?debug, ?device, ?snuff, ?restartA, ?restartB, ?restarted, ?watchdog⟩
  case start => exact fun _ _ hstart hgroups => if_pos ⟨hstart, hgroups⟩
  case snuffRestart =>
    exact fun _ hstart hmode hlimit hcount hheld => if_pos ⟨by simp [hstart], hmode, hlimit, hcount, hheld⟩
  case snuffClear => exact fun _ hrun hheld => if_pos ⟨hrun, hheld⟩
  case powerOn => exact fun _ => rfl
  case external => exact fun _ _ hlasted => if_pos hlasted
  case debug => exact fun _ => rfl
  case device => exact fun _ _ => execRstDevice_of_confirmed
  case snuff => exact fun _ _ => execRstSnuff_of_confirmed
  case restartA => exact fun _ _ h hb hmode hdead => congrArg Host.Outcome.next (State.rstRestart_of_dead h hb hmode hdead)
  case restartB => exact fun _ _ h hb hmode hdead => congrArg Host.Outcome.next (State.rstRestart_of_dead h hb hmode hdead)
  case restarted => exact fun _ _ => execClusterRestartDone_of_good
  case watchdog => exact fun _ hrun => if_pos (.inl hrun)

/-! ## Error records -/

/-- A log with room has no record that the next one would lose (R507). -/
theorem execErrorRecordWrite_of_room {s t : State} {r : Report} {rest : List Report} (hrun : s.running = true)
    (hfirst : s.get Reg.errWroteAt = 0) (hreports : s.reports = r :: rest) (hroom : s.errLog.length < logRoom)
    (ht : t = ({ s with reports := rest } : State).set Reg.errWroteAt (s.now + 1)) :
    execErrorRecordWrite s =
      .next (((({ t with
        errLog := s.errLog ++ [⟨s.get Reg.errNextSequence, { r with flags := r.flags ||| (flag (s.mode = .snuffed) * 2) }⟩] } : State).set
          Reg.errNextSequence (s.get Reg.errNextSequence + 1)).count (Reg.eclRecorded r.cls) 32).pulse 0x14 0) := by
  have hpilot : s.pilotRuns = true := by simp [State.pilotRuns, hrun]
  have hlog : t.errLog = s.errLog := by rw [ht]; rfl
  have hmode : t.mode = s.mode := by rw [ht]; rfl
  have hnext : t.get Reg.errNextSequence = s.get Reg.errNextSequence := by rw [ht]; exact State.get_set_of_ne _ _ _ _ (by decide)
  have hnotFull : s.errLog.length ≠ logRoom := Nat.ne_of_lt hroom
  rw [execErrorRecordWrite, if_neg (by simp [hpilot, hfirst])]
  simp only [hreports, ← ht, hlog, hmode, hnext, if_neg hnotFull]
  rw [if_neg]
  split
  · simp [hnotFull]
  · decide

/-- The oldest record not yet copied goes to a flash log with room (R507, R508). -/
theorem execErrorLogCopy_of_room {s : State} {r : Record} (hrun : s.running = true)
    (hfind : s.errLog.find? (fun r => s.get Reg.errCopied ≤ r.seq) = some r) (hroom : s.errFlash.length < flashLogRoom) :
    execErrorLogCopy s = .next (({ s with errFlash := s.errFlash ++ [r] } : State).set Reg.errCopied (r.seq + 1)) := by
  rw [execErrorLogCopy, if_neg (not_not_intro hrun)]
  simp only [hfind, if_neg (Nat.ne_of_lt hroom)]

/-- An acknowledgement up to `Err.NextSequence` raises the acknowledged value and never lowers it (R509, R521). -/
theorem execErrAcknowledge_of_recorded {ctx : Ctx} {v : Nat} {s : State} (h : s.admits ctx 0x3100 2 true = true)
    (hrecorded : v ≤ s.get Reg.errNextSequence) (hv : v < 2 ^ 32) :
    execErrAcknowledge ctx v s = .next ((s.set Reg.errAcked (max v (s.get Reg.errAcked))).done ctx) := by
  have hfits : fits 4 v = none := need_of _ _ (decide_eq_true hv)
  have hchecks : firstAbort [fits 4 v, need (v ≤ s.get Reg.errNextSequence) 0x06090031] = none := by
    simp [hfits, need, hrecorded]
  rw [execErrAcknowledge, s.cmdWrite_admits ctx _ _ _ _ _ h hchecks]

/-- Sixteen bytes that software writes are reported in class 14 (R504, R521). -/
theorem execErrReport_of_length {ctx : Ctx} {bytes : List Byte} {s : State} (h : s.admits ctx 0x3100 6 true = true)
    (hlen : bytes.length = 16) : execErrReport ctx bytes s = .next ((s.reportObj 14 15 0x3100 0x06 0 bytes).done ctx) := by
  have hchecks : firstAbort [need (bytes.length ≤ 16) 0x06070012, need (16 ≤ bytes.length) 0x06070013] = none := by
    simp [need, hlen]
  rw [execErrReport, s.cmdWrite_admits ctx _ _ _ _ _ h hchecks]

/-- Settles O30: the retention log and the flash log have room, and the software's writes pass their checks. -/
theorem errorRecordsComplete : Obligations.ErrorRecordsComplete := by
  unfold Obligations.ErrorRecordsComplete
  refine ⟨?record, ?copy, ?acknowledge, ?report⟩
  case record => exact fun _ _ _ _ => execErrorRecordWrite_of_room
  case copy => exact fun _ _ => execErrorLogCopy_of_room
  case acknowledge => exact fun _ _ _ => execErrAcknowledge_of_recorded
  case report => exact fun _ _ _ => execErrReport_of_length

/-! ## `Com.ErrorRegister` -/

/-- The row of `Com.ErrorRegister` in the object tables (R41). -/
def errorRegisterObj : Obj := ⟨0x1001, 1, .com, 0x00, 0x00, .u 1, .ro, true, false, []⟩

/-- Every variant has `Com.ErrorRegister` at 1001h.00. -/
theorem objAt_errorRegister (v : Variant) : objAt v 0x1001 0 = some errorRegisterObj := by
  cases v <;> rfl

/-- The communication objects have no owner. -/
theorem ownerAt_communication (v : Variant) : ownerAt v 0x1001 = none := by
  cases v <;> rfl

/-- `Com.ErrorRegister` may be read in every mode: it is held on the Wick die (R41, R76). -/
theorem State.readAbort_errorRegister (s : State) :
    s.readAbort (.object errorRegisterObj (errorRegisterObj.reg 0x1001 0 0)) = none := by
  simp [State.readAbort, Place.acc, Place.wick, errorRegisterObj, Obj.reg]

/-- A read of 1001h.00 that the link lets through answers whether a record is not acknowledged (R509). -/
theorem State.dictRead_errorRegister {s : State} {ctx : Ctx} (hb : s.linkBars ctx true = false) :
    s.dictRead ctx 0x1001 0 = (answerNumber (.u 1) (flag (0 < s.unacknowledged)), s) := by
  rw [State.dictRead_of_place rfl, State.place_of_object _ (ownerAt_communication _) (objAt_errorRegister _)]
  exact (State.readPlace_of_object s.readAbort_errorRegister hb).trans rfl

/-- Some record is not acknowledged just when one has a sequence at or above the acknowledged value (R509). -/
theorem State.unacknowledged_pos_iff (s : State) : 0 < s.unacknowledged ↔ ∃ r ∈ s.errLog, s.get Reg.errAcked ≤ r.seq := by
  simp [State.unacknowledged, List.length_filter_pos_iff]

/-- Bit 0 of a flag in one byte is the flag. -/
theorem bitOf_answerNumber_flag (p : Prop) [Decidable p] : bitOf (answerNumber (.u 1) (flag p)).slot 0 = true ↔ p := by
  by_cases hp : p
  · simp only [hp, iff_true]
    decide
  · simp only [hp, iff_false]
    decide

/-- An admitted access that its kind or its checks refuse is refused: the checks on modes and locks come between them and pass. -/
theorem State.access_refuse {s : State} {c : Ctx} {idx sub a : Nat} {wick : Bool} {kind : Option Nat} {checks : List (Option Nat)}
    (act : State → State) (h : s.admits c idx sub wick = true) (hc : firstAbort (kind :: checks) = some a) :
    s.access c true wick (need (!s.locked idx sub) 0x08000022 :: checks) act kind = s.refuse c a := by
  obtain ⟨ha, hb, hm, hl⟩ := (s.admits_iff c idx sub wick).mp h
  rw [State.access, if_pos ha, hb, Bool.and_false, if_neg Bool.false_ne_true, need_of true _ rfl, need_of _ _ hm, hl, need_of (!false) _ rfl]
  cases kind with
  | none => simp_all
  | some k => simp_all

/-- An acknowledgement above `Err.NextSequence` is refused (R509). -/
theorem execErrAcknowledge_of_unrecorded {ctx : Ctx} {v : Nat} {s : State} (h : s.admits ctx 0x3100 2 true = true)
    (hv : v < 2 ^ 32) (hnext : s.get Reg.errNextSequence < v) :
    execErrAcknowledge ctx v s = .next (s.refuse ctx 0x06090031) :=
  have hfits : fits 4 v = none := need_of _ _ (decide_eq_true hv)
  have hchecks : firstAbort [none, fits 4 v, need (v ≤ s.get Reg.errNextSequence) 0x06090031] = some 0x06090031 := by
    simp [hfits, need, Nat.not_le_of_lt hnext]
  congrArg Host.Outcome.next (State.access_refuse _ h hchecks)

/-- Settles O49: the register reads the retention log, and an acknowledgement is held to `Err.NextSequence`. -/
theorem errorRegisterFollowsTheLog : Obligations.ErrorRegisterFollowsTheLog := by
  unfold Obligations.ErrorRegisterFollowsTheLog
  refine ⟨?reads, ?raises, ?refuses⟩
  case reads =>
    intro ctx s hb
    rw [s.dictRead_errorRegister hb, bitOf_answerNumber_flag, s.unacknowledged_pos_iff]
  case raises => exact fun _ _ _ h hv hrecorded => execErrAcknowledge_of_recorded h hrecorded hv
  case refuses => exact fun _ _ _ => execErrAcknowledge_of_unrecorded

end Sys2Proof.Machine
end

section
/-! The update group (R525 to R542): `Upd.OwnerKey`, the sessions of the Taper port, and the trial of an image. -/
namespace Sys2Proof.Machine

/-! ## `Upd.OwnerKey` -/

/-- Settles O50: a key that is set refuses by its kind, ahead of the mode; the mode comes ahead of the length (R44, R530). -/
theorem ownerKeyIsWrittenOnce : Obligations.OwnerKeyIsWrittenOnce := by
  unfold Obligations.OwnerKeyIsWrittenOnce
  intro ctx b s h
  refine ⟨?written, ?outside, ?short, ?long⟩
  case written =>
    intro hkey
    exact congrArg Host.Outcome.next (State.access_refuse _ h (by rw [need, decide_eq_false hkey]; rfl))
  case outside =>
    intro hkey hmode
    exact congrArg Host.Outcome.next (State.access_refuse _ h (by simp [need, hkey, hmode]))
  case short =>
    intro hkey hmode hlen
    exact congrArg Host.Outcome.next
      (State.access_refuse _ h (by simp [need, hkey, hmode, Nat.le_of_lt hlen, Nat.not_le_of_lt hlen]))
  case long =>
    intro hkey hmode hlen
    exact congrArg Host.Outcome.next (State.access_refuse _ h (by simp [need, hkey, hmode, Nat.not_le_of_lt hlen]))

/-! ## Sessions of the Taper port -/

/-- A write to a register other than the active slot's leaves the target. -/
theorem State.target_set (s : State) {r : Reg} (v : Nat) (h : Reg.updActiveSlot ≠ r) : (s.set r v).target = s.target := by
  rw [State.target, s.get_set_of_ne _ _ _ h, State.target]

/-- An OPEN that is not refused opens a session on the target slot (R532). -/
theorem execTaperOpen_of_free {frame : List Byte} {s t : State} {h : TaperHead} (hhead : s.taperHead frame = some h)
    (htype : h.type = 1) (hfree : s.openRefusal h.a = none)
    (ht : t = (s.setIvtas s.target []).sets [(Reg.slotState s.target, 2), (Reg.updTaperState, 1), (Reg.updTaperBytes, 0),
      (Reg.updSession, h.session), (Reg.updPeer, h.peer), (Reg.updLength, h.a), (Reg.updLastFrame, s.now + 1), (Reg.updUnacked, 0),
      (Reg.updOutcome, outBusy)]) :
    execTaperOpen frame s = .next (t.taperAnswer h.peer 1 h.session outBusy) := by
  simp only [execTaperOpen, hhead, if_neg (not_not_intro htype), hfree, ht]

/-- The expected DATA of the open session is stored, and waits for its acknowledgement while fewer than sixteen wait (R533). -/
theorem execTaperData_of_expected {frame : List Byte} {s : State} {h : TaperHead} (hhead : s.taperHead frame = some h)
    (htype : h.type = 2) (hsession : s.ofSession h = true) (hstate : s.get Reg.updTaperState = 1)
    (hoff : h.a = s.get Reg.updTaperBytes) (hunit : h.b % 64 = 0) (hmax : h.b ≤ 1408) (hheld : h.b ≤ h.data.length)
    (hlength : h.a + h.b ≤ s.get Reg.updLength) (hunacked : s.get Reg.updUnacked < 15) :
    execTaperData frame s =
      .next (((s.set Reg.updLastFrame (s.now + 1)).setIvtas s.target (s.ivtas s.target ++ h.data.take h.b)).sets
        [(Reg.updTaperBytes, h.a + h.b), (Reg.updLastData, s.now + 1), (Reg.updUnacked, s.get Reg.updUnacked + 1)]) := by
  have hget : ∀ r : Reg, r ≠ Reg.updLastFrame → (s.set Reg.updLastFrame (s.now + 1)).get r = s.get r :=
    fun r hr => s.get_set_of_ne _ _ _ hr
  have htarget : (s.set Reg.updLastFrame (s.now + 1)).target = s.target := s.target_set _ (by decide)
  have hivtas : (s.set Reg.updLastFrame (s.now + 1)).ivtas s.target = s.ivtas s.target := rfl
  have hnow : (s.set Reg.updLastFrame (s.now + 1)).now = s.now := rfl
  have hfew : s.get Reg.updUnacked + 1 ≠ 16 := by omega
  have hmod : (s.get Reg.updUnacked + 1) % 16 = s.get Reg.updUnacked + 1 := Nat.mod_eq_of_lt (by omega)
  have htaken : ¬ (h.type ≠ 2 ∨ ¬ s.ofSession h ∨ s.get Reg.updTaperState ≠ 1) := by simp [htype, hsession, hstate]
  simp only [execTaperData, hhead, if_neg htaken, hget Reg.updTaperBytes (by decide), hget Reg.updLength (by decide),
    hget Reg.updUnacked (by decide), htarget, hivtas, hnow, ← hoff]
  rw [if_pos ⟨trivial, hunit, hmax, hheld, hlength⟩, if_neg hfew, hmod]

/-- The CLOSE of a complete session starts the checks (R534). -/
theorem execTaperClose_of_complete {frame : List Byte} {s : State} {h : TaperHead} (hhead : s.taperHead frame = some h)
    (htype : h.type = 3) (hsession : s.ofSession h = true) (hstate : s.get Reg.updTaperState = 1)
    (hcomplete : s.get Reg.updTaperBytes = s.get Reg.updLength) :
    execTaperClose frame s = .next (s.sets [(Reg.updLastFrame, s.now + 1), (Reg.updTaperState, 2), (Reg.updUnacked, 0)]) := by
  simp only [execTaperClose, hhead, if_neg (not_not_intro htype), if_pos (And.intro hsession (And.intro hstate hcomplete))]

/-- The verdict ends the checks: the slot is staged, or invalid with its report (R534). -/
theorem execTaperCloseVerdict_of_checking {s t u : State} (hrun : s.running = true) (hstate : s.get Reg.updTaperState = 2)
    (ht : t = s.sets [(Reg.updTaperState, 0), (Reg.updVerdictAt, s.now + 1)])
    (hu : u = (t.ivtasVerdict (t.ivtas t.target)).elim
      (t.sets [(Reg.slotState t.target, 3), (Reg.updStagedVersion, ivtasVersion (t.ivtas t.target)), (Reg.updOutcome, outDone)])
      (fun code => (t.sets [(Reg.slotState t.target, 7), (Reg.updOutcome, code)]).reportObj 13 10 0x3000 0x05 code)) :
    execTaperCloseVerdict s = .next (u.taperAnswer (u.get Reg.updPeer) 3 (u.get Reg.updSession) (u.get Reg.updOutcome)) := by
  rw [execTaperCloseVerdict, if_pos ⟨hrun, hstate⟩]
  simp only [← ht]
  cases hverdict : t.ivtasVerdict (t.ivtas t.target) with
  | none => rw [hu, hverdict, Option.elim_none]
  | some code => rw [hu, hverdict, Option.elim_some]

/-- ABORT ends the session and is answered (R533). -/
theorem execTaperAbort_of_session {frame : List Byte} {s : State} {h : TaperHead} (hhead : s.taperHead frame = some h)
    (htype : h.type = 4) (hsession : s.ofSession h = true) :
    execTaperAbort frame s = .next ((s.endSession).taperAnswer h.peer 4 h.session ((s.endSession).get Reg.updOutcome)) := by
  simp only [execTaperAbort, hhead, if_neg (not_not_intro htype), if_pos hsession]

/-- STATUS is answered with the outcome as it stands, and its frame is timed (R531). -/
theorem execTaperStatus_of_session {frame : List Byte} {s : State} {h : TaperHead} (hhead : s.taperHead frame = some h)
    (htype : h.type = 5) (hsession : s.ofSession h = true) :
    execTaperStatus frame s =
      .next ((s.set Reg.updLastFrame (s.now + 1)).taperAnswer h.peer 5 h.session (s.get Reg.updOutcome)) := by
  have houtcome : (s.set Reg.updLastFrame (s.now + 1)).get Reg.updOutcome = s.get Reg.updOutcome :=
    s.get_set_of_ne _ _ _ (by decide)
  simp only [execTaperStatus, hhead, if_neg (not_not_intro htype), if_pos hsession, houtcome]

/-! ## Erase, confirmation and trial -/

/-- A confirmation of the trial image that does not raise the floor ends DONE with a selector record (R526, R537). -/
theorem execUpdConfirm_of_level {ctx : Ctx} {s : State} (h : s.admits ctx 0x3000 0x0A true = true) (htrial : s.trial = true)
    (hlevel : ivtasRaises s.activeIvtas = false) :
    execUpdConfirm ctx 1 s =
      .next (((s.sets [(Reg.slotState (s.get Reg.updActiveSlot), 4), (Reg.updTrialAt, 0), (Reg.updOutcome, outDone)]).writeSelector).done
        ctx) := by
  rw [execUpdConfirm, s.cmdWrite_admits ctx _ _ _ _ _ h (by rw [htrial]; rfl)]
  simp only [hlevel, Bool.false_eq_true, false_and, if_false]

/-- A confirmation of an image that raises the floor takes a fuse step (R537). -/
theorem execUpdConfirm_of_raise {ctx : Ctx} {s t : State} (h : s.admits ctx 0x3000 0x0A true = true) (htrial : s.trial = true)
    (hraises : ivtasRaises s.activeIvtas = true)
    (ht : t = (s.sets [(Reg.slotState (s.get Reg.updActiveSlot), 4), (Reg.updTrialAt, 0), (Reg.updOutcome, outDone)]).writeSelector)
    (hfloor : t.get Reg.updFloor < ivtasVersion s.activeIvtas) (hsteps : t.get Reg.updFloorStepsLeft ≠ 0) :
    execUpdConfirm ctx 1 s =
      .next ((t.sets [(Reg.updFloor, ivtasVersion s.activeIvtas), (Reg.updFloorStepsLeft, t.get Reg.updFloorStepsLeft - 1)]).done
        ctx) := by
  rw [execUpdConfirm, s.cmdWrite_admits ctx _ _ _ _ _ h (by rw [htrial]; rfl)]
  simp only [← ht, if_pos (And.intro hraises hfloor), if_neg hsteps]

/-- An expired trial falls back, and the device or its clusters without a group restart into the old image (R538). -/
theorem execTrialTimeout_of_expired {s t u : State} {b : Bool} (hrun : s.running = true) (htrial : s.trial = true)
    (hheld : s.held Reg.updTrialAt (s.get Reg.updTrialTime * ms + 2000) = true) (hback : s.fallBack = (t, b))
    (hu : u = t.set Reg.updTrialAt 0) :
    execTrialTimeout s = .next (if b = false then u else if u.alive 0 = false ∧ u.alive 1 = false then u.assertReset 3
      else [0, 1].foldl (fun u c => if u.ownsGroup c then u else u.restartCluster c) u) := by
  rw [execTrialTimeout, if_pos ⟨hrun, htrial, hheld⟩]
  simp only [hback, ← hu, Bool.not_eq_true]
  cases b with
  | false => rfl
  | true =>
    simp only [Bool.true_eq_false, if_false]
    split <;> rfl

/-- With no session and no erase under way, the slot that is not active starts its erase (R535, R539). -/
theorem execUpdPrepare_of_idle {ctx : Ctx} {s : State} (h : s.admits ctx 0x3000 4 true = true) (harmed : s.updArmed = false)
    (hstate : s.get Reg.updTaperState = 0) (herasing : s.get Reg.updErasing ≠ 1) :
    execUpdPrepare ctx 1 s =
      .next ((s.sets [(Reg.updErasing, 1), (Reg.updOutcome, outBusy), (Reg.slotState s.target, 0), (Reg.updStagedVersion, 0)]).done
        ctx) := by
  rw [execUpdPrepare, s.cmdWrite_admits ctx _ _ _ _ _ h (by rw [harmed]; rfl),
    if_neg (not_or_intro (not_not_intro hstate) herasing)]

/-- Settles O31: each frame is of its type and of the open session, each event is due, and each command is admitted. -/
theorem updatesComplete : Obligations.UpdatesComplete := by
  unfold Obligations.UpdatesComplete
  refine ⟨?opened, ?data, ?closed, ?verdict, ?aborted, ?status, ?silent, ?acknowledged, ?confirmed, ?raised, ?expired, ?prepared, ?erased⟩
  case opened => exact fun _ _ _ _ => execTaperOpen_of_free
  case data => exact fun _ _ _ => execTaperData_of_expected
  case closed => exact fun _ _ _ => execTaperClose_of_complete
  case verdict => exact fun _ _ _ => execTaperCloseVerdict_of_checking
  case aborted => exact fun _ _ _ => execTaperAbort_of_session
  case status => exact fun _ _ _ => execTaperStatus_of_session
  case silent => exact fun _ hrun hstate hheld => if_pos ⟨hrun, hstate, hheld⟩
  case acknowledged => exact fun _ hrun hstate hunacked hheld => if_pos ⟨hrun, hstate, hunacked, hheld⟩
  case confirmed => exact fun _ _ => execUpdConfirm_of_level
  case raised => exact fun _ _ _ => execUpdConfirm_of_raise
  case expired => exact fun _ _ _ _ => execTrialTimeout_of_expired
  case prepared => exact fun _ _ => execUpdPrepare_of_idle
  case erased => exact fun _ hrun herasing => if_pos ⟨hrun, herasing⟩

end Sys2Proof.Machine
end
